-- ==== Sys2Proof/Word.lean ====
section
/-! DEFINITION. Word.lean: bytes and words, byte orders (R4), signed readings of fields and plain integer arithmetic. -/

namespace Sys2Proof

/-- A byte of a datagram, a frame, a record or a buffer. -/
abbrev Byte := BitVec 8

/-- A 32-bit register word as the host port carries it. -/
abbrev Word := BitVec 32

/-- The byte holding a number's low eight bits. -/
def byteOf (n : Nat) : Byte := BitVec.ofNat 8 n

/-- A number as `n` bytes, most significant first (network order, R4). -/
def toBE : Nat → Nat → List Byte
  | 0, _ => []
  | n + 1, v => byteOf (v / 256 ^ n) :: toBE n v

/-- A number as `n` bytes, least significant first (storage order, R4). -/
def toLE : Nat → Nat → List Byte
  | 0, _ => []
  | n + 1, v => byteOf v :: toLE n (v / 256)

/-- The number that bytes spell, most significant first. -/
def ofBE (bs : List Byte) : Nat := bs.foldl (fun a b => a * 256 + b.toNat) 0

/-- The number that bytes spell, least significant first. -/
def ofLE (bs : List Byte) : Nat := bs.foldr (fun b a => b.toNat + 256 * a) 0

/-- `n` bytes from position `i`, padded with zeros past the end. -/
def slice (bs : List Byte) (i n : Nat) : List Byte :=
  let part := (bs.drop i).take n
  part ++ List.replicate (n - part.length) 0

/-- The big-endian number in `n` bytes at position `i`. -/
def beAt (bs : List Byte) (i n : Nat) : Nat := ofBE (slice bs i n)

/-- The little-endian number in `n` bytes at position `i`. -/
def leAt (bs : List Byte) (i n : Nat) : Nat := ofLE (slice bs i n)

/-- The two's-complement reading of a field of `w` bits. -/
def sgn (w v : Nat) : Int := if v % 2 ^ w < 2 ^ (w - 1) then (v % 2 ^ w : Nat) else ((v % 2 ^ w : Nat) : Int) - 2 ^ w

/-- The field of `w` bits that holds an integer in two's complement. -/
def unsgn (w : Nat) (i : Int) : Nat := (i % (2 ^ w : Int)).toNat

/-- Bit `i` of a number. -/
def bitAt (v i : Nat) : Bool := v / 2 ^ i % 2 == 1

/-- Bits `lo + w - 1` down to `lo`. -/
def fieldAt (v lo w : Nat) : Nat := v / 2 ^ lo % 2 ^ w

/-- A flag as a one-bit field. -/
def bit (b : Bool) : Nat := if b then 1 else 0

/-- A number with bit `i` set or cleared. -/
def setBit (v i : Nat) (b : Bool) : Nat := v - bit (bitAt v i) * 2 ^ i + bit b * 2 ^ i

/-- How many of the low `n` bits are set. -/
def popCount : Nat → Nat → Nat
  | 0, _ => 0
  | n + 1, v => v % 2 + popCount n (v / 2)

/-- The positions of the set bits among the low `n`. -/
def bitList (n v : Nat) : List Nat := (List.range n).filter (bitAt v ·)

/-- Division rounded up. -/
def ceilDiv (a b : Nat) : Nat := (a + b - 1) / b

/-- Division of an integer rounded to nearest, a tie away from zero. -/
def roundDiv (a : Int) (b : Nat) : Int :=
  if 0 ≤ a then (2 * a + b) / (2 * b) else -((2 * (-a) + b) / (2 * b))

/-- Keep an integer between two limits. -/
def clampInt (lo hi v : Int) : Int := max lo (min hi v)

/-- Add to a counter of `w` bits that stops at its largest value. -/
def satAdd (w v n : Nat) : Nat := min (v + n) (2 ^ w - 1)

/-- The integer square root: the largest `r` with `r * r ≤ n`, found bit by bit from the top. -/
def isqrtGo (n : Nat) : Nat → Nat → Nat
  | 0, r => r
  | k + 1, r => let r' := r + 2 ^ k; isqrtGo n k (if r' * r' ≤ n then r' else r)

/-- The integer square root of a number of at most 256 bits. -/
def isqrt (n : Nat) : Nat := isqrtGo n 128 0

end Sys2Proof
end

