-- ==== Sys2Proof/Syntax.lean ====
section
/-! DEFINITION. Syntax.lean: the commands of the block, one constructor per row of the table of operations and events, and the
data they carry. -/

namespace Sys2Proof.Machine

/-- A time value (R6): seconds, nanoseconds and sub-nanoseconds of 2⁻¹⁶ ns. -/
structure Tai where
  sec : Nat
  ns : Nat
  sub : Nat
  deriving DecidableEq, Repr

/-- The twelve operating modes (R36). -/
inductive Mode where
  | reset | bootstrap | commission | solo | active | marionette | resync | estranged | lantern | vigil | maintenance
  | safeHold
  deriving DecidableEq, Repr

/-- The roles of R343, OBSERVER < OPERATOR < ENGINEER < SAFETY. -/
inductive Role where
  | observer | operator | engineer | safety
  deriving DecidableEq, Repr

/-- The statuses of R440. -/
inductive Status where
  | ok | range | mode | busy | accessDenied | noObject | noSubindex | typeMismatch | locked | frozen | sequence | auth
  | capacity | stoppedOnly | tooLate | budget | markOverrun
  deriving DecidableEq, Repr

/-- The network ports that carry datagrams: NET0 to NET3 and MGT (R342). -/
inductive Port where
  | net0 | net1 | net2 | net3 | mgt
  deriving DecidableEq, Repr

/-- What BOOTSTRAP reads of a firmware slot (R46): its 256-byte header and the SHA-256 of the body as read. -/
structure Image where
  header : List Byte
  bodyHash : List Byte
  deriving DecidableEq, Repr

/-- What the power-up sequence finds outside the device (R45): the XO_IN edges counted, the firmware slots, the DRAM size
that training reports (0 when every rank fails), the rise of the attached-module buses and the time since RST_N. -/
structure BootInput where
  xoEdges : Nat
  slotA : Image
  slotB : Image
  trainedMiB : Nat
  claimLow : Bool
  elapsedMs : Nat
  deriving DecidableEq, Repr

/-- Where a mode request comes from (R55): GCTL_MODE_REQ, an ODP session's ModeRequest, or a launched Almanac row. -/
inductive ModeSource where
  | host
  | session (slot : Fin 32) (value : Byte)
  | almanac (row : Fin 4096) (value : Byte)
  deriving DecidableEq, Repr

/-- A sentence on GNSS_RXD as the device reads it (R81): ZDA with its UTC second (and whether it is second 60), RMC with its
UTC second and whether its status is A, or one the device ignores: another sentence, or one whose checksum fails. -/
inductive Nmea where
  | zda (utc : Nat) (leapSecond : Bool)
  | rmc (utc : Nat) (active : Bool)
  | ignored
  deriving DecidableEq, Repr

/-- Which side of a port a frame edge belongs to: both sides follow FS; an AES3 port's receiver and transmitter have frames of
their own (R234). -/
inductive PortPart where
  | both | receiver | transmitter
  deriving DecidableEq, Repr

/-- A unit that a fault can take out of service (R33): a matrix or stream slice (8 is the spare), a SerDes lane, a correlator bank, an
audio port, a time-service engine, the Irmon lane. -/
inductive Unit33 where
  | matrixSlice (n : Fin 9) | streamSlice (n : Fin 9) | lane (n : Fin 4) | bank (n : Fin 8) | port (n : Fin 16)
  | timeUnit (n : Fin 20) | irmon
  deriving DecidableEq, Repr

/-- How a test instance ends (R283 to R285): its program ran to its last step, with the observation stream, whether every verdict was
within limit, whether the restore read back and, if not, whether the block came back from its configuration; or its block faulted. -/
inductive TestEnd where
  | completed (stream : List Byte) (verdictsOk : Bool) (measured : BitVec 16) (restoreOk : Bool) (reinitOk : Bool)
  | faulted
  deriving DecidableEq, Repr

/-- Who asks for an operation that the dictionary or a register offers: the host port, or the session in a slot. -/
inductive Who where
  | host | session (slot : Fin 32)
  deriving DecidableEq, Repr

/-- A command that the active forwards over Irmon (R308): its master, role and operation, its address and value, whether it was
proxied, its journal sequence number and the boundary it applies at. -/
structure Command where
  master : Nat
  role : Role
  op : Nat
  index : Nat
  sub : Nat
  row : Nat
  value : List Byte
  flags : Nat
  seq : Nat
  boundary : Nat
  deriving DecidableEq, Repr

/-- A TIME frame (R304): the sender's transmit timestamp, its receive timestamp of the last TIME frame it had, its selected time
rank, ErrorBoundNow and timeSource; `received` is this unit's own receive timestamp. -/
structure TimeFrame where
  sent : Tai
  echoed : Tai
  rank : BitVec 8
  bound : BitVec 32
  timeSource : BitVec 8
  received : Tai
  deriving DecidableEq, Repr

/-- The addresses of a media packet (R191, R204): its source and destination, IPv6 or IPv4, and its destination UDP port. -/
structure MediaFlow where
  v6 : Bool
  source : Nat
  dest : Nat
  udp : Nat
  deriving DecidableEq, Repr

/-- What RESYNC step 1 compares (R317): the partner's firmware version, MatrixRate, partition sizes and FittedMemory. -/
structure PairFacts where
  version : BitVec 32
  rate96 : Bool
  library : BitVec 32
  recorder : BitVec 32
  fitted : BitVec 32
  deriving DecidableEq, Repr

/-- One piece of what the active sends in RESYNC (R317): the end of step 2, the configuration store, a library row with its audio and
the end of step 3, and in step 4 the running state of a unit: a crosspoint's gain and target (43 fraction bits) and its steps, a
zone's delay, level's claim end or delay-line value, a receive context's ring slot or a transmit context's next index, an Almanac
row, a correlator's path and sample, a port's numbering or ring position, a recorder position with W and OLDEST, a client's entry
(R140), a PTP port's next sequenceIds; and step 5's boundary. -/
inductive StateItem where
  | journalDone
  | storeRecord (key : Nat) (value : Nat)
  | libraryRow (row : Fin 15360) (entry audio : List Byte)
  | libraryDone
  | crosspoint (row : Fin 32768) (from43 to43 : Int) (steps done : Nat) (release : Bool)
  | zoneDelay (zone : Fin 1536) (delay : BitVec 17)
  | zoneClaim (zone : Fin 1536) (level : Fin 8) (ended : Nat)
  | delayLine (zone : Fin 1536) (position : Nat) (value : BitVec 32)
  | contextSlot (ctx : Fin 256) (copyB : Bool) (slot position : Nat) (values : List (BitVec 32))
  | contextNext (ctx : Fin 256) (index : Nat)
  | almanac (row : Fin 4096) (bytes : List Byte) (state : Fin 7) (occurrence number guard : Nat) (instant : Tai)
  | correlator (n : Fin 128) (path : Fin 1536) (lagBase want : Nat)
  | correlatorSample (n : Fin 128) (position : Nat) (value : BitVec 32)
  | portNumber (port : Fin 16) (frame : Nat) (rxShift txShift : Int)
  | portRing (port : Fin 16) (transmit : Bool) (position epoch : Nat) (words : List (BitVec 32))
  | recorder (position : Nat) (values : List (BitVec 24)) (w oldest : Nat)
  | client (set way : Nat) (entry : List Byte)
  | ptpSeries (port : Fin 4) (announce sync : Nat)
  | boundary (b : Nat)
  deriving DecidableEq, Repr

/-- Where an uncorrectable memory error lies (R30), with the unit it concerns; items and staged entries are numbered from the oldest. -/
inductive Region where
  | library (row : Fin 15360)
  | recorder (position : Nat)
  | streamBuffer (ctx : Fin 256) (copyB : Bool) (slot : Nat)
  | delayLine (zone : Fin 1536) (position : Nat)
  | clientEntry (set way : Nat)
  | queue (q : Fin 32) (item : Nat)
  | descriptor (port : Port) (item : Nat)
  | portBuffer (port : Fin 16) (transmit : Bool) (position : Nat)
  | staging (buffer : Fin 2048)
  | journalStaging (entry : Nat)
  | correlator (n : Fin 128) (position : Nat)
  | reserve
  | critical
  deriving DecidableEq, Repr

end Sys2Proof.Machine

namespace Sys2Proof

open Machine

/-- The commands of the block: one constructor per row of the table of operations and events. -/
inductive Instr where
  /-- POWER_ON (R43): Supplies rise and become valid while RST_N is held low, which places the device in RESET. -/
  | powerOn
  /-- POWER_FAIL (R430): A rail falls below 95 % of nominal: new MRAM writes are inhibited and staged journal entries are lost. -/
  | powerFail
  /-- RST_N_LOW (R41): RST_N goes low and the device enters RESET from any mode, with every pin in its RESET state. -/
  | rstNLow
  /-- RST_N_HIGH (R41): RST_N rises with supplies valid; the straps are sampled, root lock starts and the mode becomes BOOTSTRAP. -/
  | rstNHigh (bootSel : Fin 4) (pairSide : Bool) (hostRole : Bool) (testEn : Bool)
  /-- BOOT_STEP_END (R45): A step of the power-up sequence completes and the next step begins. -/
  | bootStepEnd (input : BootInput)
  /-- ROOT_LOCK_TIMEOUT (R45): The root has not locked by 2 ms, and the boot ROM continues on the backup oscillator. -/
  | rootLockTimeout
  /-- PAIR_START_RESAMPLE (R52): Side B samples ROLE_CLAIM_N again after its 2 s wait, then claims ACTIVE or enters RESYNC. -/
  | pairStartResample (claimLow : Bool)
  /-- CONTROL_CORE_WATCHDOG (R41): The control-core watchdog expires after 100 ms without service and causes an internal reset. -/
  | controlCoreWatchdog
  /-- SAFE_HOLD_AUTO_RESTART (R59): The SAFE_HOLD cause has been clear for 10 s, and an auto-restart is allowed and performed. -/
  | safeHoldAutoRestart
  /-- MODE_TRANSITION (R42): A decided mode transition takes effect at its frame boundary or control cycle, and is journalled and posted. -/
  | modeTransition (claimLow : Bool)
  /-- MODE_REQUEST (R55): A mode request from ModeRequest or GCTL_MODE_REQ REQ_GO is judged in order and accepted or refused. -/
  | modeRequest (source : ModeSource)
  /-- ISLAND_DETECT (R56): No qualifying traffic has been received for LanternDetect, and the device becomes islanded. -/
  | islandDetect
  /-- LANTERN_RETURN (R56): The island has stayed cleared for LanternReturn, and the device returns to its mode of entry. -/
  | lanternReturn
  /-- LANTERN_TRIGGER (R58): A contact input closes or opens stably past its debounce time, and its trigger action takes effect. -/
  | lanternTrigger (gpio : Fin 16) (level : Bool)
  /-- CRITICAL_LIMIT (R332): TJ has stayed at TJ_CRIT for 10 ticks, or a rail has been out by 10 % for 1 ms, which is SAFE_HOLD cause 0x09. -/
  | criticalLimit (rail : Bool)
  /-- ROOT_LOCK_LOST (R64): The root loses lock, the domains switch to the backup, the DRAM enters self-refresh and SAFE_HOLD follows. -/
  | rootLockLost (xoLost : Bool)
  /-- ROOT_RELOCK (R65): The root relocks, which clears cause 0x06 or releases a device held in reset by BACKUP_FAULT. -/
  | rootRelock
  /-- BACKUP_TRIM (R63): Once per second the backup oscillator is compared with the root and trimmed. -/
  | backupTrim (offset : Int) (trimmed : Bool)
  /-- SYNTH_LOCK_LOST (R70): An output synthesizer loses lock, and its outputs are gated at their next falling edge. -/
  | synthLockLost (synth : Fin 4)
  /-- SYNTH_RELOCK (R70): An output synthesizer regains lock after a loss. -/
  | synthRelock (synth : Fin 4)
  /-- SYNTH_ALIGNED (R67): A locked synthesizer reaches its alignment instant, sets ALIGNED and may restart its gated outputs. -/
  | synthAligned (synth : Fin 4)
  /-- MCLK_LOCK_LOST (R77): A media-clock synthesizer loses lock, and MCLK_UNLOCK is set. -/
  | mclkLockLost (group : Fin 8)
  /-- CLKOUT_START (R69): An enabled output starts at its first grid edge at least 1 µs after the apply point and after ALIGNED. -/
  | clkoutStart (output : Fin 8)
  /-- DIVIDER_SWITCH (R71): Pending DIV and PHASE_OFFSET values switch at their alignment instant. -/
  | dividerSwitch
  /-- DLL_LOCK (R73): A DLL completes its binary-search acquisition and locks. -/
  | dllLock (dll : Fin 2) (loopDelay : BitVec 16)
  /-- DLL_TRACK (R73): A locked DLL moves its delay by at most one step per 1 ms. -/
  | dllTrack (dll : Fin 2) (loopDelay : BitVec 16)
  /-- DLL_FB_LOST (R73): CLKFB shows no edge for 16 periods, and the DLL holds its delay. -/
  | dllFbLost (dll : Fin 2)
  /-- LOOP_TICK (R96): On each 15.625 µs loop tick the selectors choose and the clean-up loop updates the steering word. -/
  | loopTick (edges : BitVec 16) (ferr : Int) (perr : Int)
  /-- MONITOR_UPDATE (R89): Once per second the frequency monitors update and the consistency of each best-rank group is checked. -/
  | monitorUpdate (ppt : List Int)
  /-- ACTIVITY_LOSS (R88): A slot's activity monitor declares loss of activity, and the slot becomes LOST. -/
  | activityLoss (slot : Fin 16)
  /-- QUAL_WIN_ELAPSED (R90): A qualifying slot completes QUAL_WIN and becomes QUALIFIED. -/
  | qualWinElapsed (slot : Fin 16)
  /-- WTR_ELAPSED (R90): WTR elapses for a slot in WAIT_RESTORE, which is restored or restarts WTR. -/
  | wtrElapsed (slot : Fin 16)
  /-- REF_PULSE_EDGE (R80): A pulse on a PPS or GNSS input is timestamped and labelled. -/
  | refPulseEdge (slot : Fin 5) (stamp : Tai)
  /-- NMEA_SENTENCE (R81): A ZDA or RMC sentence received on GNSS_RXD labels a pulse or changes the slot rank. -/
  | nmeaSentence (sentence : Nmea)
  /-- ATOM_LOCK_LOSS (R82): ATOM_LOCK has been low for 10 ms, and the ATOM slot rank becomes 255. -/
  | atomLockLoss
  /-- ESMC_TIMEOUT (R83): No ESMC information PDU has arrived for 5 s, and the slot quality level becomes QL-FAILED. -/
  | esmcTimeout (port : Fin 4)
  /-- MODEL_SAMPLE (R105): Each whole TAI second, a holdover model sample is recorded and the model is fitted again. -/
  | modelSample
  /-- MODEL_PERSIST (R105): Every 3600 s, y0 and D are persisted in the configuration store. -/
  | modelPersist
  /-- HOLDOVER_TIMER_UPDATE (R107): Once per second HoldoverRemaining is computed, and HO_EXPIRED is set when it reaches 0. -/
  | holdoverTimerUpdate
  /-- PULSE_EMIT (R102): A pulse output emits a pulse at its grid instant plus PULSE_OFFSET. -/
  | pulseEmit (output : Fin 4)
  /-- PULSE_REALIGN (R103): REALIGN or PulseRealign moves pulse trains back onto their grid at the next suitable instant. -/
  | pulseRealign (mask : BitVec 4)
  /-- NCO_WRITE (R99): A write to REF_NCO_HI, or an ODP write of NcoFrequencyWord, commits the steering word. -/
  | ncoWrite (word : BitVec 48) (byHost : Bool)
  /-- STEP_ACCEPT (R100): REF_STEP_ACCEPT or StepAccept accepts one step for a slot excluded by STEP_LIMIT. -/
  | stepAccept (mask : BitVec 16)
  /-- REFERENCE_HISTORY_CLEAR (R110): The EXEC clears the sticky history of the slots in its mask. -/
  | referenceHistoryClear (mask : BitVec 16)
  /-- ERROR_BOUND_EVAL (R117): Every 1 ms the accumulator sums the bound terms into ErrorBoundNow and evaluates the holdover growth. -/
  | errorBoundEval
  /-- LEAP_ARM (R115): A controller arms a leap event through LeapEvent or TIM_LEAP_CFG ARM, and the event is checked. -/
  | leapArm (deletion : Bool) (leapAt : Tai)
  /-- LEAP_CANCEL (R115): CANCEL disarms the armed leap event, or answers TOO_LATE within 1 s of LEAP_AT. -/
  | leapCancel
  /-- LEAP_TAKES_EFFECT (R116): At LEAP_AT, UTC is derived with the new offset, and LEAP_DONE is set. -/
  | leapTakesEffect
  /-- PTP_ANNOUNCE_RX (R122): A received Announce feeds the BMCA, the slot rank, the bound TLV and the UTC offset or leap arming. -/
  | ptpAnnounceRx (port : Fin 4) (message : List Byte)
  /-- PTP_SYNC_RX (R123): A received Sync yields an offsetFromMaster sample. -/
  | ptpSyncRx (port : Fin 4) (message : List Byte) (detected : Tai)
  /-- PTP_FOLLOW_UP_RX (R119): A received Follow_Up completes a two-step Sync. -/
  | ptpFollowUpRx (port : Fin 4) (message : List Byte)
  /-- PTP_DELAY_REQ_RX (R119): A multicast or unicast Delay_Req is answered in kind with a Delay_Resp. -/
  | ptpDelayReqRx (port : Fin 4) (message : List Byte) (detected : Tai) (unicast : Option (List Byte))
  /-- PTP_DELAY_RESP_RX (R123): A received Delay_Resp yields a path-delay sample. -/
  | ptpDelayRespRx (port : Fin 4) (message : List Byte)
  /-- PTP_MESSAGE_DISCARD (R119): A Pdelay or management message is discarded and counted. -/
  | ptpMessageDiscard (port : Fin 4) (management : Bool)
  /-- ANNOUNCE_RECEIPT_TIMEOUT (R122): The announce receipt timeout expires, the slot becomes LOST and the port returns to LISTENING. -/
  | announceReceiptTimeout (port : Fin 4)
  /-- QUALIFICATION_TIMEOUT (R122): A port in PRE_MASTER reaches its qualification timeout and becomes MASTER. -/
  | qualificationTimeout (port : Fin 4)
  /-- PTP_ANNOUNCE_TX (R124): At each announce interval a master port sends an Announce with its data set. -/
  | ptpAnnounceTx (port : Fin 4)
  /-- PTP_SYNC_TX (R119): At each sync interval a master port sends a Sync, and a Follow_Up when it runs two-step. -/
  | ptpSyncTx (port : Fin 4) (launch : Tai)
  /-- PTP_DELAY_REQ_TX (R129): At each delay-request interval a slave port sends a Delay_Req. -/
  | ptpDelayReqTx (port : Fin 4) (launch : Tai)
  /-- NTP_REQUEST (R130): An NTP request passes rate control and the NTS checks, and is answered, answered with a kiss-of-death, or discarded. -/
  | ntpRequest (port : Fin 4) (source : List Byte) (packet : List Byte) (detected : Tai) (launch : Tai)
  /-- NTS_KEY_ACTIVATE (R137): A waiting ISSUE row reaches ACTIVATE_AT and becomes the issuing row. -/
  | ntsKeyActivate (row : Fin 4)
  /-- NTS_KEY_EXPIRE (R137): A key row reaches EXPIRE_AT, is zeroised and becomes EMPTY. -/
  | ntsKeyExpire (row : Fin 4)
  /-- GPIO_CAPTURE (R143): A selected GPIO edge is timestamped and posted on Q3. -/
  | gpioCapture (gpio : Fin 16) (falling : Bool)
  /-- ALMANAC_WRITE (R148): An entry written through AlmanacEntries or ALM_ENT_CMD WRITE is checked, then accepted or refused. -/
  | almanacWrite (who : Who) (row : Fin 4096) (entry : List Byte)
  /-- ALMANAC_ENTRY_READ (R161): ALM_ENT_CMD READ copies a row into the DATA window. -/
  | almanacEntryRead (row : Fin 4096)
  /-- ALMANAC_CANCEL (R154): AlmanacCancel or an ALM_ENT_CMD cancel cancels an occurrence or an entry, or answers TOO_LATE. -/
  | almanacCancel (who : Who) (row : Fin 4096) (whole : Bool)
  /-- ALMANAC_CONFIRM (R162): AlmanacConfirm or ALM_ENT_CMD CONFIRM confirms a STAGED occurrence before its cutoff. -/
  | almanacConfirm (who : Who) (row : Fin 4096)
  /-- ALMANAC_STAGE (R152): An occurrence reaches its staging lead, latches GuardTime, stages and sends STAGE. -/
  | almanacStage (row : Fin 4096)
  /-- ALMANAC_STAGING_COMPLETE (R152): Local staging of an occurrence completes, and CONFIRM is sent unless HOLD_CONFIRM is set. -/
  | almanacStagingComplete (row : Fin 4096)
  /-- ALMANAC_CUTOFF (R152): An occurrence reaches its cutoff and becomes COMMITTED, or resolves as NOT_READY or UNCONFIRMED. -/
  | almanacCutoff (row : Fin 4096)
  /-- ALMANAC_LAUNCH (R157): A committed occurrence reaches its instant, and is launched, skipped, deferred or refused by budget. -/
  | almanacLaunch (row : Fin 4096)
  /-- ALMANAC_SKIP_HELD (R38): The instant of a held ARMED entry passes, and the entry posts SKIPPED_HELD and moves on. -/
  | almanacSkipHeld (row : Fin 4096)
  /-- ALMANAC_DEFER_RETEST (R156): On each 1 ms tick a DEFERRED occurrence is tested again for budget admission. -/
  | almanacDeferRetest (row : Fin 4096)
  /-- ALMANAC_DEFER_EXPIRY (R152): MAX_DEFER elapses for a DEFERRED occurrence, which resolves as BUDGET. -/
  | almanacDeferExpiry (row : Fin 4096)
  /-- CASCADE_HELLO (R322): A received HELLO from a child is answered and its peer record is updated. -/
  | cascadeHello (source : List Byte) (datagram : List Byte)
  /-- CASCADE_HELLO_TX (R322): Every 1 s a device sends HELLO to its parent. -/
  | cascadeHelloTx
  /-- CASCADE_PARENT_TIMEOUT (R322): 3 s pass without an answer from the parent, and the device switches to the alternate parent. -/
  | cascadeParentTimeout
  /-- CASCADE_PRIMARY_RETURN (R322): The primary parent has answered for 60 s, and the device returns to it. -/
  | cascadePrimaryReturn
  /-- CASCADE_STAGE (R153): A received STAGE places a copy in an EMPTY row, stages it, answers and forwards it. -/
  | cascadeStage (source : List Byte) (datagram : List Byte)
  /-- CASCADE_CONFIRM (R153): A received CONFIRM confirms a staged copy, or is too late, and is forwarded. -/
  | cascadeConfirm (source : List Byte) (datagram : List Byte)
  /-- CASCADE_RETRACT (R153): A received RETRACT withdraws a copy and is acknowledged, or answered TOO_LATE. -/
  | cascadeRetract (source : List Byte) (datagram : List Byte)
  /-- CASCADE_ANSWER (R153): A received ANSWER is counted at the origin as STAGED, REFUSED or a retract acknowledgement. -/
  | cascadeAnswer (source : List Byte) (datagram : List Byte)
  /-- CASCADE_PROXY_REQ (R325): A received PROXY_REQ is applied with the originating role and answered with PROXY_RESP. -/
  | cascadeProxyReq (source : List Byte) (datagram : List Byte)
  /-- CASCADE_PROXY_RESP (R325): A received PROXY_RESP is returned to the originating session at rank 0. -/
  | cascadeProxyResp (source : List Byte) (datagram : List Byte)
  /-- PROXY_TIMEOUT (R325): No PROXY_RESP has arrived within 100 ms, and rank 0 answers BUSY. -/
  | proxyTimeout (job : BitVec 8)
  /-- LINK_DOWN (R164): A port PCS reports loss of lock or hi_ber, and the link is declared down. -/
  | linkDown (port : Fin 4)
  /-- LINK_UP (R164): The PCS has reported link OK for 10 ms, and the link is declared up. -/
  | linkUp (port : Fin 4)
  /-- FRAME_RX (R169): A received Ethernet frame is decided in order: dropped, truncated, filtered, queued, classified or delivered to the host path. -/
  | frameRx (port : Port) (frame : List Byte) (fcsOk : Bool) (detected : Tai)
  /-- PAUSE_EXPIRY (R180): The pause time runs out, and the transmitter resumes. -/
  | pauseExpiry (port : Port)
  /-- TX_FRAME_SELECT (R179): At each inter-frame gap the transmitter picks launch-timed media first, then frames by strict priority. -/
  | txFrameSelect (port : Port)
  /-- TX_LATE_DROP (R181): A launch-timed media packet not started by launch + LATE_TOL is discarded. -/
  | txLateDrop (port : Fin 4)
  /-- NET_TX_ALLOC (R178): A read of NET_TX_ALLOC allocates a free transmit buffer to the host. -/
  | netTxAlloc
  /-- NET_TX_POST (R178): A write of NET_TX_POST queues a host frame for transmission, or is refused with RANGE. -/
  | netTxPost (port : Port) (cls : Fin 8) (buffer : BitVec 11) (length : BitVec 11)
  /-- NET_RX_RETURN (R177): A write of NET_RX_RETURN hands a receive buffer chain back to its queue. -/
  | netRxReturn (first : BitVec 11)
  /-- ESMC_TX (R183): An ESMC information PDU is sent once per second, or an event PDU within 200 ms of a change of quality level. -/
  | esmcTx (port : Fin 4) (event : Bool)
  /-- ARP_REFRESH (R196): A unicast stream destination is resolved, or refreshed every 60 s. -/
  | arpRefresh (context : Fin 256) (copyB : Bool)
  /-- BYPASS_SETTLE_EXPIRY (R184): SETTLE_MS after a relay pin change, the ports behind the relay resume. -/
  | bypassSettleExpiry (relayB : Bool)
  /-- PHY_POLL (R165): Every 10 ms the MGT PHY link status is read over MDIO. -/
  | phyPoll (status : BitVec 16)
  /-- MDIO_COMMAND (R165): MGT_MDIO_CMD GO or MgtMdio starts a clause 22 or clause 45 MDIO frame. -/
  | mdioCommand (clause45 : Bool) (op : Fin 4) (phy : BitVec 5) (reg : BitVec 5) (data : BitVec 16)
  /-- MDIO_COMPLETE (R165): An MDIO frame completes, GO falls and the data is returned. -/
  | mdioComplete (data : BitVec 16)
  /-- AUDIO_FRAME_BOUNDARY (R19): At each audio frame boundary the sample exchange gathers, mixes and distributes, and receive contexts present their positions. -/
  | audioFrameBoundary
  /-- MEDIA_PACKET_RX (R198): A media packet reaching a receive context is tested and written into its copy's ring. -/
  | mediaPacketRx (port : Fin 4) (vid : Nat) (flow : MediaFlow) (rtp : List Byte) (detected : Tai)
  /-- MEDIA_PACKET_LAUNCH (R199): A complete transmit packet is launched on both copies at grid(k + n) + 4 µs. -/
  | mediaPacketLaunch (context : Fin 256)
  /-- STREAM_TIMEOUT (R203): A RUNNING receive context has had no valid packet for TIMEOUT_MS, and becomes LOST. -/
  | streamTimeout (context : Fin 256)
  /-- COPY_TIMEOUT (R205): One copy of a paired context has had no valid packet for TIMEOUT_MS, and the context becomes DEGRADED. -/
  | copyTimeout (context : Fin 256) (copyB : Bool)
  /-- STREAM_HISTORY_CLEAR (R211): The EXEC clears the sticky history and MARGIN_MIN of a context. -/
  | streamHistoryClear (context : Fin 256)
  /-- PORT_FRAME (R215): A port frame of the external clock completes; it is validated, counted toward SETTLED or anchored, and its data is written. -/
  | portFrame (port : Fin 16) (part : PortPart) (edge : Tai) (period : Nat) (bclks : Nat) (good : Bool) (slots : List (BitVec 32))
  /-- PORT_CLOCK_LOSS (R215): No FS active edge has arrived for two frame periods, or two frames in a row are invalid, so clock loss is declared. -/
  | portClockLoss (port : Fin 16)
  /-- AUDIO_BLOCK_BOUNDARY (R221): At each audio block boundary fills are compared for slips, steering loops write TRIM and stopped ports re-anchor. -/
  | audioBlockBoundary
  /-- TRIM_CLAMP_HOLD (R224): TRIM_CLAMPED has held for 1 s, which sets CLAMP_1S and NOT_FOLLOWING. -/
  | trimClampHold (group : Fin 8)
  /-- NOT_FOLLOWING_CLEAR (R224): 60 s pass with neither a slip nor a clamp, and NOT_FOLLOWING clears. -/
  | notFollowingClear (port : Fin 16)
  /-- PORT_STOP_RELEASE (R225): SETTLE port frames after a stop have played, and DOUT is released and the port becomes STOPPED. -/
  | portStopRelease (port : Fin 16)
  /-- AUDIO_PORT_HISTORY_CLEAR (R239): The EXEC clears the sticky history of a port. -/
  | audioPortHistoryClear (port : Fin 16)
  /-- ZONE_HANG_EXPIRY (R249): HANG_MS after its last claim ends, a level stops being active and H changes. -/
  | zoneHangExpiry (zone : Fin 1536) (level : Fin 8)
  /-- LIBRARY_PLAY (R260): LibraryPlay or LIB_CMD play chooses a voice and starts a message, or is refused. -/
  | libraryPlay (message : BitVec 32) (voice : BitVec 8) (level : BitVec 8) (zoneSet : BitVec 16) (safety : Bool)
  /-- VOICE_STOP (R261): VoiceStop or LIB_CMD stop fades the named voices over 32 samples. -/
  | voiceStop (voices : BitVec 64) (safety : Bool)
  /-- RECORDER_REWIND (R266): RecorderRewind or LIB_CMD rewind plays recorder channel content from a mark through a voice. -/
  | recorderRewind (mark : Fin 256) (channel : BitVec 8) (voice : BitVec 8) (level : BitVec 8) (zoneSet : BitVec 16) (length : BitVec 32) (safety : Bool)
  /-- RECORDER_MARK_SET (R265): RecorderMarkSet or LIB_CMD set mark sets a mark at a held position. -/
  | recorderMarkSet (row : Fin 256) (position : BitVec 64) (label : BitVec 32) (session : BitVec 32)
  /-- LIBRARY_INDEX_WRITE (R258): A LibraryIndex row write allocates granules for a message, or deletes it. -/
  | libraryIndexWrite (row : Fin 15360) (entry : List Byte)
  /-- LIBRARY_LOAD_COMPLETE (R259): A message finishes loading from NAND, is checked against AUDIO_CRC and becomes resident, or becomes BAD. -/
  | libraryLoadComplete (row : Fin 15360) (readOk : Bool)
  /-- LIBRARY_PERSIST_COMPLETE (R258): The NAND write of an uploaded message completes, and PERSISTED is set. -/
  | libraryPersistComplete (row : Fin 15360)
  /-- UNCORRECTABLE_ERROR (R30): An uncorrectable memory error is contained according to its region, and is posted. -/
  | uncorrectableError (region : Region)
  /-- SCRUB (R30): Scrub reads a granule, corrects single-bit errors and writes the corrected word back. -/
  | scrub (dram : Bool) (last : Bool)
  /-- PILOT_INTEGRATION_END (R277): A correlator admits M positions, judges the outcome, updates the path alarm and takes its next path. -/
  | pilotIntegrationEnd (correlator : Fin 128)
  /-- PILOT_NO_QUIET_TIMEOUT (R275): 10 × INT_S seconds pass before M positions are admitted, and the integration ends NO_QUIET. -/
  | pilotNoQuietTimeout (correlator : Fin 128)
  /-- PILOT_LEARN (R277): PilotLearn or SUP_PATH_LEARN sets a learn pending for a path. -/
  | pilotLearn (zone : Fin 1536)
  /-- SELF_TEST_START (R289): A test instance asks for class B admission and starts, or is skipped. -/
  | selfTestStart
  /-- SELF_TEST_END (R284): A test instance completes or is cut short; the block is restored and a result is posted. -/
  | selfTestEnd (outcome : TestEnd)
  /-- VIGIL_ADMISSION_TIMEOUT (R289): The admission of a test instance has been deferred for more than 60 s, and the instance is SKIPPED_BUDGET. -/
  | vigilAdmissionTimeout
  /-- VIGIL_WINDOW_END (R289): WINDOW_MIN elapses, and the remaining instances end INCOMPLETE or SKIPPED_BUDGET. -/
  | vigilWindowEnd
  /-- VIGIL_ABORT (R294): VigilAbort or SUP_VIG_CMD ABORT ends the Vigil run. -/
  | vigilAbort
  /-- SELF_TEST_RUN (R297): SelfTestRun runs one named test instance in MAINTENANCE. -/
  | selfTestRun (test : BitVec 8) (inst : BitVec 8)
  /-- TOKEN_SEND (R305): The active builds and sends the TOKEN frames for boundary b by b − 10 µs. -/
  | tokenSend
  /-- TOKEN_RX (R307): The standby receives a TOKEN frame for a coming boundary. -/
  | tokenRx (payload : List Byte) (fcsOk : Bool)
  /-- TOKEN_DEADLINE (R307): At b − 1 µs the standby applies the recorded decisions, or sets TOKEN_MISS. -/
  | tokenDeadline
  /-- DIGEST_COMPUTE (R309): For each TAI millisecond a unit computes and sends its digest record. -/
  | digestCompute
  /-- DIGEST_RX (R310): A received digest is compared; the mismatch run is updated, and a run of 3 leads to a decision. -/
  | digestRx (record : List Byte)
  /-- DIGEST_MISSING (R310): A partner digest record has not arrived in time, and counts as a mismatch. -/
  | digestMissing (ms : BitVec 64)
  /-- TIME_FRAME_TX (R304): At every whole TAI millisecond a unit sends a TIME frame over Irmon. -/
  | timeFrameTx
  /-- TIME_FRAME_RX (R304): A received TIME frame yields the two-way offset and delay for slot 14. -/
  | timeFrameRx (frame : TimeFrame)
  /-- COMMAND_FRAME_RX (R308): The standby applies a forwarded command at its boundary and journals it under the same sequence number. -/
  | commandFrameRx (command : Command)
  /-- STATE_FRAME_RX (R317): The standby applies a bulk-copy STATE frame during RESYNC. -/
  | stateFrameRx (item : StateItem)
  /-- HEARTBEAT_TX (R314): At each whole TAI millisecond a unit sends an authenticated heartbeat on every NET port with LINK. -/
  | heartbeatTx
  /-- HEARTBEAT_RX (R314): A partner heartbeat is authenticated and recorded, and dual-active is checked. -/
  | heartbeatRx (port : Fin 4) (source : List Byte) (datagram : List Byte)
  /-- CLAIM_SIGN (R314): ROLE_CLAIM_N has read high for 50 µs, so the CLAIM sign is present. -/
  | claimSign
  /-- IRMON_SIGN (R314): No good Irmon frame has arrived for 1 ms, or the lane goes down, so the IRMON sign is present. -/
  | irmonSign
  /-- HEARTBEAT_SIGN (R314): No valid heartbeat has arrived for 3 ms, so the HEARTBEAT sign is present. -/
  | heartbeatSign
  /-- TAKE_OVER (R316): At the first boundary after two signs, the standby takes the active role. -/
  | takeOver
  /-- PLANNED_HANDOVER (R41): At a token boundary carrying HANDOVER, ABDICATE, DRILL or DRILL_RETURN, the roles change. -/
  | plannedHandover (claimLow : Bool)
  /-- SELF_ACCUSATION (R311): A lockstep mismatch or datapath parity error makes the unit accuse itself, abdicate or enter SAFE_HOLD. -/
  | selfAccusation
  /-- IRMON_LINK_UP (R41): The Irmon link is restored, and an ESTRANGED unit enters RESYNC. -/
  | irmonLinkUp
  /-- RESYNC_CHECK (R317): RESYNC step 1 compares firmware, rate and memory every 10 s while blocked. -/
  | resyncCheck (partner : PairFacts)
  /-- RESYNC_TIMEOUT (R318): RESYNC has not ended within RESYNC_LIMIT, and it restarts from step 2. -/
  | resyncTimeout
  /-- MARIONETTE_DRILL (R321): PairDrill or PAIR_CMD DRILL exchanges the roles and back on consecutive boundaries. -/
  | marionetteDrill
  /-- BUDGET_TICK (R334): On each 1 ms tick the scheduler forms CAP and admits requests against the headroom. -/
  | budgetTick (power : BitVec 16) (tj : BitVec 16) (railsOk : Bool)
  /-- BUDGET_SHED (R335): P > CAP has held for 10 ticks, and the scheduler sheds the fewest units in order. -/
  | budgetShed
  /-- BUDGET_RESTORE (R336): Headroom has held for RESTORE_HOLD, and one shed unit is restored every 100 ms. -/
  | budgetRestore
  /-- THERM_CAP_UPDATE (R331): Once per second THERM_CAP steps down or up with TJ. -/
  | thermCapUpdate
  /-- PWR_SRC_CHANGE (R338): PWR_SRC holds a new level for 10 ms, and the battery rules apply or lapse. -/
  | pwrSrcChange (battery : Bool)
  /-- RESERVE_STALE (R330): ENERGY_RESERVE has not been written within RESERVE_MAX_AGE, so RESERVE_STALE is set. -/
  | reserveStale
  /-- ENERGY_RESERVE_WRITE (R330): A write of PWR_RESERVE or EnergyReserve sets the reserve and restarts its age. -/
  | energyReserveWrite (mwh : BitVec 24)
  /-- LIFE_UPDATE (R339): Every hour LIFE_AVG_TJ and HOURS_HOT are updated, and LIFE_WARN may be set. -/
  | lifeUpdate
  /-- MODULE_INSERT (R412): MPRESm stays low for 100 ms, and the module row enters SETTLING. -/
  | moduleInsert (row : Fin 8)
  /-- MODULE_SETTLE_EXPIRY (R412): 50 ms in SETTLING elapse, and a clash is found or the record read starts. -/
  | moduleSettleExpiry (row : Fin 8)
  /-- MODULE_RECORD_READ (R415): An OMIR read completes, is checked and forms the proposals, or the row becomes BAD. -/
  | moduleRecordRead (row : Fin 8) (record : List Byte) (nacks : Fin 4)
  /-- MODULE_REMOVE (R412): MPRESm stays high for 100 ms, and the module row becomes ABSENT. -/
  | moduleRemove (row : Fin 8)
  /-- MODULE_REREAD (R412): MID_MODm_READ, or an applied BUS or ADDRESS, restarts the module read. -/
  | moduleReread (row : Fin 8)
  /-- SFP_READ (R417): Page A0h of a cage is read at presence or at an EN change, and SPEEDS is set. -/
  | sfpRead (cage : Fin 4) (page : List Byte)
  /-- SFP_POLL (R417): Once per second the A2h diagnostics of a cage are read. -/
  | sfpPoll (cage : Fin 4) (page : List Byte)
  /-- APPLY_PROPOSALS (R379): ApplyProposals copies the VALID proposals into AudioPorts and PilotPaths. -/
  | applyProposals (who : Who) (mask : BitVec 16)
  /-- OPEN_REQ (R344): An OPEN_REQ is checked and answered with OPEN_CHAL. -/
  | openReq (port : Port) (source : List Byte) (service : Bool) (datagram : List Byte)
  /-- OPEN_PROOF (R344): An OPEN_PROOF is verified, and the session opens with OPEN_ACK. -/
  | openProof (port : Port) (source : List Byte) (datagram : List Byte)
  /-- OPEN_PROOF_TIMEOUT (R344): No OPEN_PROOF has arrived within 2 s, and the attempt is abandoned. -/
  | openProofTimeout (id : BitVec 32)
  /-- KEEPALIVE (R345): A KEEPALIVE resets the session idle count. -/
  | keepalive (port : Port) (source : List Byte) (datagram : List Byte)
  /-- CLOSE (R345): A CLOSE closes a session that is not frozen. -/
  | close (port : Port) (source : List Byte) (datagram : List Byte)
  /-- SESSION_IDLE_EXPIRY (R345): SESSION_IDLE passes without a valid datagram, and the session closes. -/
  | sessionIdleExpiry (slot : Fin 32)
  /-- ODP_MALFORMED (R342): A datagram with a bad version, size, kind or direction is discarded and counted. -/
  | odpMalformed (port : Port) (datagram : List Byte)
  /-- ODP_READ (R348): A READ request returns rows of an object. -/
  | odpRead (port : Port) (source : List Byte) (datagram : List Byte)
  /-- ODP_WRITE (R349): A WRITE request is checked in order, applied or buffered, and journalled. -/
  | odpWrite (port : Port) (source : List Byte) (datagram : List Byte)
  /-- DOMAIN_BEGIN (R351): DOMAIN_BEGIN opens a segmented transfer for a DOMAIN object. -/
  | domainBegin (port : Port) (source : List Byte) (datagram : List Byte)
  /-- DOMAIN_SEGMENT (R351): DOMAIN_SEGMENT adds in-order data to the open transfer. -/
  | domainSegment (port : Port) (source : List Byte) (datagram : List Byte)
  /-- DOMAIN_END (R351): DOMAIN_END runs the object's closing check and journals the whole transfer. -/
  | domainEnd (port : Port) (source : List Byte) (datagram : List Byte)
  /-- DOMAIN_TIMEOUT (R351): More than 10 s pass between segments, and the transfer is abandoned. -/
  | domainTimeout (slot : Fin 32)
  /-- SUBSCRIBE (R352): SUBSCRIBE creates a subscription and returns its id. -/
  | subscribe (port : Port) (source : List Byte) (datagram : List Byte)
  /-- UNSUBSCRIBE (R352): UNSUBSCRIBE ends a subscription. -/
  | unsubscribe (port : Port) (source : List Byte) (datagram : List Byte)
  /-- NOTICE (R352): A NOTICE is sent when a watched value has changed or the interval has elapsed. -/
  | notice (id : BitVec 32)
  /-- STROBE_GROUPS (R350): StrobeGroups strobes its groups and answers when every block has applied. -/
  | strobeGroups (who : Who) (mask : BitVec 16)
  /-- THAW (R359): Thaw clears the freeze of a master. -/
  | thaw (who : Who) (master : BitVec 32)
  /-- FREEZE (R357): Freeze by a SAFETY session freezes a master with cause 0x05. -/
  | freeze (who : Who) (master : BitVec 32)
  /-- COMMIT (R365): Commit is accepted, or refused with BUSY, and waits for the journal to drain. -/
  | commit (who : Who)
  /-- COMMIT_WRITE (R365): Once its entries are durable, a Commit writes the changed records and the new header and answers. -/
  | commitWrite (bad : List (BitVec 16))
  /-- JOURNAL_DRAIN (R361): Each 1 ms tick writes 4 staged entries to MRAM, and stages a GAP entry when room returns. -/
  | journalDrain
  /-- JOURNAL_PROGRESS (R407): Once per second in which entries were made, a PROGRESS item is posted on Q7. -/
  | journalProgress
  /-- DMB_REQUEST (R353): A Q0 item submits a mailbox request, which completes with a Q1 item and a response body. -/
  | dmbRequest
  /-- READ_WORD (R381): A host frame with opcode 0xA5 reads one word. -/
  | readWord (address : BitVec 24)
  /-- READ_BURST (R381): A host frame with opcode 0xA7 reads words at advancing addresses. -/
  | readBurst (address : BitVec 24) (words : BitVec 16)
  /-- WRITE_WORD (R381): A host frame with opcode 0x5A writes one word. -/
  | writeWord (address : BitVec 24) (data : Word)
  /-- WRITE_BURST (R381): A host frame with opcode 0x57 writes words at advancing addresses. -/
  | writeBurst (address : BitVec 24) (data : List Word)
  /-- READ_PORT_STATUS (R386): A host frame with opcode 0x3C returns the port status word and QUE_NONEMPTY. -/
  | readPortStatus
  /-- BAD_OPCODE (R381): A host frame with an unknown opcode is ignored and counted. -/
  | badOpcode
  /-- ABANDONED (R385): HOST_CS_N rises while HOST_RDY is low, and the access awaited is abandoned. -/
  | abandoned
  /-- REGISTER_WRITE (R8): A write to a register that has no row of its own takes effect by its access code, rights and locks. -/
  | registerWrite (address : BitVec 24) (data : Word)
  /-- ROC_READ (R391): A read of an ROC field returns its value and clears or reloads it. -/
  | rocRead (address : BitVec 24)
  /-- LATCHING_READ (R392): A read of a latching register copies its related registers. -/
  | latchingRead (address : BitVec 24)
  /-- BIT_ALIAS_READ (R390): A read in the bit-alias region returns one bit. -/
  | bitAliasRead (address : BitVec 23)
  /-- BIT_ALIAS_WRITE (R390): A write in the bit-alias region writes one bit. -/
  | bitAliasWrite (address : BitVec 23) (value : Bool)
  /-- UPD_STROBE (R396): A write to UPD_STROBE captures the buffered values of the strobed groups. -/
  | updStrobe (groups : BitVec 16)
  /-- UPDATE_APPLY (R397): A block reaches its apply point and applies its captured values, holding stopped-only values where needed. -/
  | updateApply (blk : Fin 16) (unit : Option Nat)
  /-- TAKE (R400): SNAP_CMD TAKE copies every counter into the holding registers on one cycle. -/
  | take (clear : Bool)
  /-- VIEW_ON (R400): SNAP_CMD VIEW_ON makes counter reads return the held values. -/
  | viewOn
  /-- VIEW_OFF (R400): SNAP_CMD VIEW_OFF returns counter reads to the live values. -/
  | viewOff
  /-- LOCK_SET (R394): A write of LKF_LOCK sets lock bits that guard fields until reset. -/
  | lockSet (bits : BitVec 11)
  /-- QUEUE_POP (R402): A read of QUE_qPORT takes the next item word through the read latch. -/
  | queuePop (queue : Fin 32)
  /-- QUEUE_PUSH (R403): A write to QUE_0PORT adds a word of an item to Q0. -/
  | queuePush (data : Word)
  /-- QUEUE_ROOM (R403): A push held by back-pressure completes when Q0 has room. -/
  | queueRoom
  /-- QUEUE_ITEM_OFFER (R404): On every control cycle a block offers its held item to a full back-pressured queue again. -/
  | queueItemOffer (queue : Fin 32)
  /-- QUEUE_FLUSH (R404): A write of QUE_qFLUSH discards every item and the latch. -/
  | queueFlush (queue : Fin 32)
  /-- BYPASS (R425): The JTAG BYPASS instruction. -/
  | bypass (tdi : List Bool)
  /-- IDCODE (R425): The JTAG IDCODE instruction reads 0x1484_0E6B. -/
  | idcode
  /-- SAMPLE_PRELOAD (R425): The JTAG SAMPLE/PRELOAD instruction samples the boundary scan. -/
  | samplePreload (balls : List Bool) (tdi : List Bool)
  /-- EXTEST (R425): The JTAG EXTEST instruction drives the balls in RESET, and acts as SAMPLE/PRELOAD otherwise. -/
  | extest (balls : List Bool) (tdi : List Bool)
  /-- ATOM_LOCK_RETURN (R82): ATOM_LOCK returns high and the ATOM slot starts the qualification window that brings its rank back to RANK_OVR. -/
  | atomLockReturn
  /-- MCLK_SYNTH_LOCK (R76): A media-clock synthesizer achieves lock, which sets LOCKED and, in locked operation, ALIGNED. -/
  | mclkSynthLock (group : Fin 8)
  /-- DLL_FB_RESTORED (R73): After 16 good CLKFB periods, a DLL in FB_LOST clears it and resumes tracking. -/
  | dllFbRestored (dll : Fin 2)
  /-- ROLE_CLAIM_RELEASE (R41): At b + 10 µs after a handover, abdication or drill boundary, the unit leaving the active role releases ROLE_CLAIM_N, and an abdicating unit then enters SAFE_HOLD. -/
  | roleClaimRelease
  /-- PASSED_ACTIVE_REQUEST (R41): The active receives, over the Irmon link, the partner's request for ACTIVE and sets HANDOVER in the token for the next boundary. -/
  | passedActiveRequest
  /-- UNIT_LOST_TO_FAULT (R33): A slice, SerDes lane, correlator bank, audio port or time-service engine fails in service, so the spare takes over or capacity is re-placed. -/
  | unitLostToFault (unit : Unit33)
  deriving DecidableEq, Repr

end Sys2Proof
end

