-- ==== Sys2Proof/Decode.lean ====
section
/-! DEFINITION. Decode.lean: the command that a word spells. The table of operations and events gives none of its rows any bits: the
device's commands are events and operations, and R381 to R386, R342 and R425 give the bits of what carries some of them (host
frames, datagrams, TAP instructions), which the meanings read. -/

namespace Sys2Proof

/-- The command that a word of `nbits` bits spells by the table: no row of the table has bits, so no word spells one. DESIGN CHOICE (log 2). -/
def decodeTableWord (_nbits _w : Nat) : Option Instr := none

end Sys2Proof
end

