-- ==== Sys2Proof/Machine/Crypto.lean ====
section
/-! DEFINITION. Machine/Crypto.lean: the published algorithms the spec names and does not repeat: CRC-32C, CRC-16, SHA-256,
HMAC-SHA-256, AES-128 with CMAC and SIV (RFC 5297), and ECDSA on P-256. -/

namespace Sys2Proof.Machine

/-! ### Cyclic redundancy checks -/

/-- One byte into a reflected CRC. -/
def crcByte (poly crc b : Nat) : Nat :=
  (List.range 8).foldl (fun c _ => if c % 2 = 1 then (c / 2).xor poly else c / 2) (crc.xor b)

/-- CRC-32C. -/
def crc32c (bs : List Byte) : Nat := (bs.foldl (fun c b => crcByte 0x82F63B78 c b.toNat) 0xFFFFFFFF).xor 0xFFFFFFFF

/-- One byte into CRC-16/CCITT, most significant bit first. -/
def crc16Byte (crc b : Nat) : Nat :=
  (List.range 8).foldl (fun c _ => if 0x8000 ≤ c then (c * 2 % 65536).xor 0x1021 else c * 2) (crc.xor (b * 256))

/-- CRC-16/CCITT with start value 0xFFFF. -/
def crc16 (bs : List Byte) : Nat := bs.foldl (fun c b => crc16Byte c b.toNat) 0xFFFF

/-! ### SHA-256 -/

/-- The first eight primes' round constants of SHA-256 and the 56 that follow. -/
def shaK : List Nat :=
  [0x428a2f98, 0x71374491, 0xb5c0fbcf, 0xe9b5dba5, 0x3956c25b, 0x59f111f1, 0x923f82a4, 0xab1c5ed5] ++
  [0xd807aa98, 0x12835b01, 0x243185be, 0x550c7dc3, 0x72be5d74, 0x80deb1fe, 0x9bdc06a7, 0xc19bf174] ++
  [0xe49b69c1, 0xefbe4786, 0x0fc19dc6, 0x240ca1cc, 0x2de92c6f, 0x4a7484aa, 0x5cb0a9dc, 0x76f988da] ++
  [0x983e5152, 0xa831c66d, 0xb00327c8, 0xbf597fc7, 0xc6e00bf3, 0xd5a79147, 0x06ca6351, 0x14292967] ++
  [0x27b70a85, 0x2e1b2138, 0x4d2c6dfc, 0x53380d13, 0x650a7354, 0x766a0abb, 0x81c2c92e, 0x92722c85] ++
  [0xa2bfe8a1, 0xa81a664b, 0xc24b8b70, 0xc76c51a3, 0xd192e819, 0xd6990624, 0xf40e3585, 0x106aa070] ++
  [0x19a4c116, 0x1e376c08, 0x2748774c, 0x34b0bcb5, 0x391c0cb3, 0x4ed8aa4a, 0x5b9cca4f, 0x682e6ff3] ++
  [0x748f82ee, 0x78a5636f, 0x84c87814, 0x8cc70208, 0x90befffa, 0xa4506ceb, 0xbef9a3f7, 0xc67178f2]

/-- The eight working words of SHA-256. -/
structure Sha where
  a : Word
  b : Word
  c : Word
  d : Word
  e : Word
  f : Word
  g : Word
  h : Word
  deriving DecidableEq, Repr

/-- The start value of SHA-256. -/
def Sha.init : Sha := ⟨0x6a09e667, 0xbb67ae85, 0x3c6ef372, 0xa54ff53a, 0x510e527f, 0x9b05688c, 0x1f83d9ab, 0x5be0cd19⟩

/-- One round. -/
def Sha.round (x : Sha) (k w : Word) : Sha :=
  let s1 := x.e.rotateRight 6 ^^^ x.e.rotateRight 11 ^^^ x.e.rotateRight 25
  let ch := (x.e &&& x.f) ^^^ (~~~x.e &&& x.g)
  let t1 := x.h + s1 + ch + k + w
  let s0 := x.a.rotateRight 2 ^^^ x.a.rotateRight 13 ^^^ x.a.rotateRight 22
  let maj := (x.a &&& x.b) ^^^ (x.a &&& x.c) ^^^ (x.b &&& x.c)
  ⟨t1 + (s0 + maj), x.a, x.b, x.c, x.d + t1, x.e, x.f, x.g⟩

/-- The next word of the message schedule from the last sixteen, oldest first. -/
def shaNext (ws : List Word) : Word :=
  let w15 := ws.getD 1 0
  let w2 := ws.getD 14 0
  let s0 := w15.rotateRight 7 ^^^ w15.rotateRight 18 ^^^ (w15 >>> 3)
  let s1 := w2.rotateRight 17 ^^^ w2.rotateRight 19 ^^^ (w2 >>> 10)
  ws.getD 0 0 + s0 + ws.getD 9 0 + s1

/-- The 64 rounds of a block: the words still ahead are made as the rounds go. -/
def shaRounds (ks : List Nat) (ws : List Word) (x : Sha) : Sha :=
  (ks.foldl (fun (acc : List Word × Sha) k =>
    (acc.1.drop 1 ++ [shaNext acc.1], acc.2.round (BitVec.ofNat 32 k) (acc.1.getD 0 0))) (ws, x)).2

/-- One block of 64 bytes. -/
def Sha.block (x : Sha) (bs : List Byte) : Sha :=
  let ws := (List.range 16).map (fun i => BitVec.ofNat 32 (beAt bs (4 * i) 4))
  let y := shaRounds shaK ws x
  ⟨x.a + y.a, x.b + y.b, x.c + y.c, x.d + y.d, x.e + y.e, x.f + y.f, x.g + y.g, x.h + y.h⟩

/-- A message padded to whole blocks. -/
def shaPad (bs : List Byte) : List Byte :=
  let n := bs.length
  bs ++ [0x80] ++ List.replicate ((119 - n % 64) % 64) 0 ++ toBE 8 (8 * n)

/-- SHA-256. DEDUCED (log 10). -/
def sha256 (bs : List Byte) : List Byte :=
  let p := shaPad bs
  let y := (List.range (p.length / 64)).foldl (fun x i => x.block (slice p (64 * i) 64)) Sha.init
  [y.a, y.b, y.c, y.d, y.e, y.f, y.g, y.h].flatMap (fun w => toBE 4 w.toNat)

/-- HMAC-SHA-256. DEDUCED (log 10). -/
def hmac (key msg : List Byte) : List Byte :=
  let k := slice (if 64 < key.length then sha256 key else key) 0 64
  sha256 (k.map (· ^^^ 0x5C) ++ sha256 (k.map (· ^^^ 0x36) ++ msg))

/-- HMAC-SHA-256 cut to 16 bytes. -/
def hmac16 (key msg : List Byte) : List Byte := (hmac key msg).take 16

/-! ### AES-128 -/

/-- Multiply by x in the field of AES. -/
def gfDouble (a : Nat) : Nat := if 128 ≤ a then (a * 2 % 256).xor 0x1B else a * 2

/-- Multiply in the field of AES. -/
def gfMul : Nat → Nat → Nat → Nat
  | 0, _, _ => 0
  | n + 1, a, b => (if b % 2 = 1 then a else 0).xor (gfMul n (gfDouble a) (b / 2))

/-- The inverse in the field of AES: the 254th power. -/
def gfInv (a : Nat) : Nat :=
  let m := gfMul 8
  let a2 := m a a
  let a3 := m a2 a
  let a12 := m (m a3 a3) (m a3 a3)
  let a15 := m a12 a3
  let a240 := (List.range 4).foldl (fun x _ => m x x) a15
  m (m a240 a12) a2

/-- The S-box of AES. -/
def aesSub (a : Nat) : Nat :=
  let b := gfInv a
  let r := fun n => (b * 2 ^ n + b / 2 ^ (8 - n)) % 256
  ((((b.xor (r 1)).xor (r 2)).xor (r 3)).xor (r 4)).xor 0x63

/-- Bytes combined by exclusive or. -/
def xorBytes (a b : List Byte) : List Byte := List.zipWith (· ^^^ ·) a b

/-- Substitute every byte. -/
def aesSubs (bs : List Byte) : List Byte := bs.map (fun b => byteOf (aesSub b.toNat))

/-- The next round key of AES-128. -/
def aesNextKey (k : List Byte) (rcon : Nat) : List Byte :=
  let last := slice k 12 4
  let t := aesSubs (last.drop 1 ++ last.take 1)
  let t := xorBytes t [byteOf rcon, 0, 0, 0]
  let w0 := xorBytes (slice k 0 4) t
  let w1 := xorBytes (slice k 4 4) w0
  let w2 := xorBytes (slice k 8 4) w1
  w0 ++ w1 ++ w2 ++ xorBytes last w2

/-- Shift the rows of a block held column by column. -/
def aesShift (s : List Byte) : List Byte := (List.range 16).map (fun i => s.getD ((i + 4 * (i % 4)) % 16) 0)

/-- Mix one column. -/
def aesMixCol (c : List Byte) : List Byte :=
  let a := fun i => (c.getD (i % 4) 0).toNat
  (List.range 4).map (fun i =>
    byteOf (((gfDouble (a i)).xor ((gfDouble (a (i + 1))).xor (a (i + 1)))).xor ((a (i + 2)).xor (a (i + 3)))))

/-- Mix every column. -/
def aesMix (s : List Byte) : List Byte := (List.range 4).flatMap (fun i => aesMixCol (slice s (4 * i) 4))

/-- AES-128 encryption of one block. -/
def aes128 (key blk : List Byte) : List Byte :=
  let rcons := [0x01, 0x02, 0x04, 0x08, 0x10, 0x20, 0x40, 0x80, 0x1B]
  let r := rcons.foldl (fun (acc : List Byte × List Byte) rc =>
    let k := aesNextKey acc.1 rc
    (k, xorBytes (aesMix (aesShift (aesSubs acc.2))) k)) (key, xorBytes blk key)
  xorBytes (aesShift (aesSubs r.2)) (aesNextKey r.1 0x36)

/-- Double a 16-byte block in the field of CMAC. -/
def dbl (bs : List Byte) : List Byte :=
  let n := ofBE bs
  let m := n * 2 % 2 ^ 128
  toBE 16 (if 2 ^ 127 ≤ n then m.xor 0x87 else m)

/-- Pad a short block with 0x80. -/
def pad80 (bs : List Byte) : List Byte := slice (bs ++ [0x80]) 0 16

/-- AES-CMAC. -/
def cmac (key msg : List Byte) : List Byte :=
  let k1 := dbl (aes128 key (List.replicate 16 0))
  let n := if msg.isEmpty then 1 else ceilDiv msg.length 16
  let last := msg.drop (16 * (n - 1))
  let final := if last.length = 16 then xorBytes last k1 else xorBytes (pad80 last) (dbl k1)
  let acc := (List.range (n - 1)).foldl (fun x i => aes128 key (xorBytes x (slice msg (16 * i) 16))) (List.replicate 16 0)
  aes128 key (xorBytes acc final)

/-- S2V of RFC 5297 over components, the last one the plaintext. -/
def s2v (key : List Byte) (comps : List (List Byte)) (plain : List Byte) : List Byte :=
  let d := comps.foldl (fun d c => xorBytes (dbl d) (cmac key c)) (cmac key (List.replicate 16 0))
  let t := if 16 ≤ plain.length then plain.take (plain.length - 16) ++ xorBytes (plain.drop (plain.length - 16)) d
    else xorBytes (dbl d) (pad80 plain)
  cmac key t

/-- AES counter mode from a synthetic IV. -/
def sivCtr (key iv msg : List Byte) : List Byte :=
  let base := ofBE iv
  let clear := base - bit (bitAt base 63) * 2 ^ 63 - bit (bitAt base 31) * 2 ^ 31
  let pad := (List.range (ceilDiv msg.length 16)).flatMap (fun i => aes128 key (toBE 16 ((clear + i) % 2 ^ 128)))
  xorBytes msg pad

/-- AES-SIV-CMAC-256 encryption: the synthetic IV, then the ciphertext. -/
def sivSeal (key : List Byte) (comps : List (List Byte)) (plain : List Byte) : List Byte × List Byte :=
  let v := s2v (key.take 16) comps plain
  (v, sivCtr (key.drop 16) v plain)

/-- AES-SIV-CMAC-256 decryption: the plaintext where the synthetic IV is right. -/
def sivOpen (key : List Byte) (comps : List (List Byte)) (v c : List Byte) : Option (List Byte) :=
  let plain := sivCtr (key.drop 16) v c
  if s2v (key.take 16) comps plain = v then some plain else none

/-! ### ECDSA on P-256 -/

/-- The prime of P-256. -/
def p256P : Nat := 0xFFFFFFFF00000001000000000000000000000000FFFFFFFFFFFFFFFFFFFFFFFF
/-- The order of P-256's base point. -/
def p256N : Nat := 0xFFFFFFFF00000000FFFFFFFFFFFFFFFFBCE6FAADA7179E84F3B9CAC2FC632551
/-- The coefficient b of P-256. -/
def p256B : Nat := 0x5AC635D8AA3A93E7B3EBBD55769886BC651D06B0CC53B0F63BCE3C3E27D2604B
/-- The base point of P-256. -/
def p256G : Nat × Nat :=
  (0x6B17D1F2E12C4247F8BCE6E563A440F277037D812DEB33A0F4A13945D898C296,
   0x4FE342E2FE1A7F9B8EE7EB4A7C0F9E162BCE33576B315ECECBB6406837BF51F5)

/-- A power modulo `m` by the low `n` bits of the exponent. -/
def powMod (m : Nat) : Nat → Nat → Nat → Nat
  | 0, _, _ => 1 % m
  | n + 1, b, e => (if e % 2 = 1 then b else 1) * powMod m n (b * b % m) (e / 2) % m

/-- The inverse modulo a 256-bit prime. -/
def invMod (m a : Nat) : Nat := powMod m 256 (a % m) (m - 2)

/-- Subtraction modulo the prime. -/
def subP (a b : Nat) : Nat := (a + (p256P - b % p256P)) % p256P

/-- Addition of points; none is the point at infinity. -/
def ecAdd (a b : Option (Nat × Nat)) : Option (Nat × Nat) :=
  match a, b with
  | none, q => q
  | p, none => p
  | some (x1, y1), some (x2, y2) =>
    if x1 = x2 ∧ (y1 + y2) % p256P = 0 then none
    else
      let l := if x1 = x2 then subP (3 * x1 * x1) 3 * invMod p256P (2 * y1) % p256P
        else subP y2 y1 * invMod p256P (subP x2 x1) % p256P
      let x := subP (subP (l * l) x1) x2
      some (x, subP (l * subP x1 x) y1)

/-- A multiple of a point by the low `n` bits of a number. -/
def ecMul : Nat → Nat → Option (Nat × Nat) → Option (Nat × Nat)
  | 0, _, _ => none
  | n + 1, k, p =>
    let rest := ecMul n (k / 2) (ecAdd p p)
    if k % 2 = 1 then ecAdd p rest else rest

/-- A signature holds for a hash under a public key. -/
def ecdsaVerify (key : Nat × Nat) (hash sig : List Byte) : Bool :=
  let r := beAt sig 0 32
  let s := beAt sig 32 32
  let onCurve := (key.2 * key.2) % p256P = (key.1 * key.1 * key.1 + (p256P - 3) * key.1 + p256B) % p256P
  if decide (0 < r ∧ r < p256N ∧ 0 < s ∧ s < p256N) && onCurve then
    let w := invMod p256N s
    let u1 := ofBE hash * w % p256N
    let u2 := r * w % p256N
    match ecAdd (ecMul 256 u1 (some p256G)) (ecMul 256 u2 (some key)) with
    | some (x, _) => x % p256N = r
    | none => false
  else false

end Sys2Proof.Machine
end

