-- ==== Sys2Proof/Config.lean ====
section
/-! DEFINITION. Config.lean: what the spec leaves open, as constants without a body, and what one implementation fixes. -/

namespace Sys2Proof.Config

/-- A free value: where the spec lets a value result and does not say which. `site` names the place, `n` counts the free
values drawn, so no two draws are related. -/
opaque free : Nat → Nat → Nat

/-- A free value that depends on operands alone: an unstated result of a function of them. -/
opaque freeOf : Nat → List Int → Int

/-- Whether an unstated rounding of `num / den` goes up. `site` names the rounding. -/
opaque roundsUp : Nat → Int → Nat → Bool

/-- The fused serial number, EUI-64, base MAC address and boot ROM version (R372: fuses). DESIGN CHOICE (log 9). -/
opaque serial : List Byte
/-- The EUI-64 (R372). DESIGN CHOICE (log 9). -/
opaque eui64 : List Byte
/-- The partner's EUI-64 (R128): the spec does not say how a unit learns it. -/
opaque partnerEui64 : Nat
/-- The base MAC address (R372). -/
opaque baseMac : List Byte
/-- The boot ROM's version (R372). -/
opaque bootRomVersion : Nat
/-- The four firmware verification keys held in the MRAM key region (R24, R46), as P-256 points. -/
opaque firmwareKey : Nat → Nat × Nat

/-- The observation stream of a self-test row whose every verdict is within limit and every pattern as written, and its full
cycle count (R283), for the row and the plan's parameter: the programs are the device's own and the spec does not list them. DESIGN CHOICE (log 116). -/
opaque selfTestStream : Nat → Nat → List Byte
/-- CYCLES_FULL of a self-test row (R283). DESIGN CHOICE (log 116). -/
opaque selfTestCycles : Nat → Nat → Nat

/-- What one loop tick adds to the word of a path of the clean-up loop, in 2⁻¹⁶ ppt: for the frequency path or the time path, its bandwidth
code, its error at this tick and at the last. The spec gives the bandwidth and the peaking (R96), not the filter. DESIGN CHOICE (log 47). -/
opaque loopStep : Bool → Nat → Int → Int → Int

/-- The 64 KiB granules that the SPI NAND holds for the library (R258): a part of the board. DESIGN CHOICE (log 110). -/
opaque nandGranules : Nat

/-- The sites at which free values are drawn. -/
inductive Site where
  | nonce | trim | band | intLat | selfTest | memory | takeOver
  deriving DecidableEq, Repr

/-- The number of a site. -/
def Site.num : Site → Nat
  | .nonce => 0 | .trim => 2 | .band => 3 | .intLat => 4 | .selfTest => 5 | .memory => 6 | .takeOver => 7

/-- Divide with the rounding the spec leaves open: the quotient rounded down, or one above it when inexact. DESIGN CHOICE (log 8). -/
def openDiv (site : Nat) (num : Int) (den : Nat) : Int :=
  num / (den : Int) + (if num % (den : Int) ≠ 0 ∧ roundsUp site num den then 1 else 0)

end Sys2Proof.Config
end

