-- ==== Sys2Proof/Machine/RegMap.lean ====
section
/-! DEFINITION. Machine/RegMap.lean: every register of the host map (R387 and the register tables R77, R111, R144, R161,
R186, R210, R238, R268, R269, R298, R327, R340, R353, R408 to R410, R420), field by field. -/

namespace Sys2Proof.Machine

/-- The access codes of R8. `b` RWB, `i` RWI, `o` RO, `c` ROC, `w` WO, `s` SET. -/
inductive Acc where
  | b | i | o | c | w | s
  deriving DecidableEq, Repr

/-- One field of a register: its block and offset, lowest bit and width, access code and reset value.
`sts` are the strides of the arrays the register stands in; `so` marks a stopped-only field, `sa` one that only SAFETY
may write (R393), `lk` the bit of LKF_LOCK that guards it (R394), `der` a field computed when it is read. -/
structure Fld where
  blk : Nat
  off : Nat
  lo : Nat
  w : Nat
  acc : Acc
  rst : Nat := 0
  sts : List Nat := []
  so : Bool := false
  sa : Bool := false
  lk : Option Nat := none
  der : Bool := false
  unit : Nat := 0
  deriving DecidableEq, Repr

/-- A register: its array dimensions as (count, stride) pairs, how many units its select register opens, its fields. -/
structure Reg where
  blk : Nat
  off : Nat
  dims : List (Nat × Nat)
  units : Nat
  flds : List Fld
  deriving DecidableEq, Repr

/-- The offset that an array index adds. -/
def strideSum : List Nat → List Nat → Nat
  | st :: sts, i :: ix => st * i + strideSum sts ix
  | _, _ => 0

/-- The field at an array index. -/
def Fld.at (f : Fld) (ix : List Nat) : Fld := { f with off := f.off + strideSum f.sts ix }

/-- The field of one unit behind a select register. -/
def Fld.un (f : Fld) (u : Nat) : Fld := { f with unit := u }

/-- The key under which a field's value is stored. -/
def Fld.key (f : Fld) : Nat := f.lo + 32 * (f.off + 65536 * (f.blk + 16 * f.unit))

/-- The fused base address plus the port number (R166), in its low 32 bits or its high 16. -/
def macPart (port : Nat) (hi : Bool) : Nat :=
  let m := (ofBE (slice Config.baseMac 0 6) + port) % 2 ^ 48
  if hi then m / 2 ^ 32 else m % 2 ^ 32

/-- The group that UPD_ASSIGNb holds after reset (R397). -/
def updDefault (b : Nat) : Nat := [0, 11, 1, 2, 0, 3, 4, 5, 6, 7, 8, 9, 10, 0, 0, 0].getD b 0

/-- PWR_COEF as R333 gives the coefficients, in mW. -/
def pwrCoef (i : Nat) : Nat := [2650, 150, 40, 3, 180, 180, 60, 8, 12, 1, 40, 300].getD i 0

/-- The reset value of a field, with the resets that differ by unit: REF_SLOTn_CFG RANK_OVR and DRIFT_TOL, the receive
queues, STR_CTX_SSRC, SUP_PATH_SHIFT, the update groups, the coefficients, the queue policies and the module buses. -/
def Fld.reset (f : Fld) : Nat :=
  if f.blk = 0 ∧ 0x1040 ≤ f.off ∧ f.off < 0x1080 then updDefault ((f.off - 0x1040) / 4)
  else if f.blk = 2 ∧ f.off = 0x200 ∧ f.lo = 16 then 20
  else if f.blk = 2 ∧ f.off = 0x240 ∧ f.lo = 16 then 40
  else if f.blk = 2 ∧ f.off = 0x24C then 50
  else if f.blk = 5 ∧ f.off % 0x4000 = 0x500 ∧ f.lo = 31 then 1
  else if f.blk = 5 ∧ f.off % 0x4000 = 0x500 ∧ f.lo = 0 then 320
  else if f.blk = 5 ∧ (f.off = 0x4010 ∨ f.off = 0x4014 ∨ (0x410 ≤ f.off % 0x4000 ∧ f.off % 0x4000 < 0x420)) then
    macPart (if f.off = 0x4010 ∨ f.off = 0x4014 then 4 else f.off / 0x4000) (decide (f.off % 8 = 4))
  else if f.blk = 6 ∧ f.off = 0x21C then 0x4F560000 + f.unit
  else if f.blk = 10 ∧ f.off = 0x10C then 1365 * f.unit
  else if f.blk = 12 ∧ 0x100 ≤ f.off ∧ f.off < 0x130 then pwrCoef ((f.off - 0x100) / 4)
  else if f.blk = 13 ∧ (f.off = 0x100 ∨ f.off = 0x120) ∧ f.lo = 31 then 1
  else if f.blk = 14 ∧ 0x100 ≤ f.off ∧ f.off < 0x180 ∧ f.off % 16 = 0 ∧ f.lo = 8 then (f.off - 0x100) / 16 % 4
  else f.rst

namespace F

/-- GCTL_ID ID (R408). -/
def GCTL_ID_ID : Fld := Fld.mk 0 0 0 32 .o 0x4f564840 [] false false none false 0
/-- GCTL_REV MAJOR (R408). -/
def GCTL_REV_MAJOR : Fld := Fld.mk 0 4 24 8 .o 1 [] false false none false 0
/-- GCTL_REV MINOR (R408). -/
def GCTL_REV_MINOR : Fld := Fld.mk 0 4 16 8 .o 0 [] false false none false 0
/-- GCTL_MODE PREV_MODE (R37). -/
def GCTL_MODE_PREV_MODE : Fld := Fld.mk 0 8 28 4 .o 0 [] false false none true 0
/-- GCTL_MODE ENTRY_CAUSE (R37). -/
def GCTL_MODE_ENTRY_CAUSE : Fld := Fld.mk 0 8 20 8 .o 0 [] false false none true 0
/-- GCTL_MODE IN_TRANSITION (R37). -/
def GCTL_MODE_IN_TRANSITION : Fld := Fld.mk 0 8 16 1 .o 0 [] false false none true 0
/-- GCTL_MODE TRANSITION_COUNT (R37). -/
def GCTL_MODE_TRANSITION_COUNT : Fld := Fld.mk 0 8 8 8 .o 0 [] false false none true 0
/-- GCTL_MODE MODE (R37). -/
def GCTL_MODE_MODE : Fld := Fld.mk 0 8 0 4 .o 0 [] false false none true 0
/-- GCTL_MODE_REQ REQ_GO (R55). -/
def GCTL_MODE_REQ_REQ_GO : Fld := Fld.mk 0 0xc 31 1 .i 0 [] false false none false 0
/-- GCTL_MODE_REQ FORCE (R55). -/
def GCTL_MODE_REQ_FORCE : Fld := Fld.mk 0 0xc 30 1 .i 0 [] false true none false 0
/-- GCTL_MODE_REQ RESULT (R55). -/
def GCTL_MODE_REQ_RESULT : Fld := Fld.mk 0 0xc 16 8 .o 0 [] false false none false 0
/-- GCTL_MODE_REQ TARGET (R55). -/
def GCTL_MODE_REQ_TARGET : Fld := Fld.mk 0 0xc 0 4 .i 0 [] false false none false 0
/-- GCTL_CAPACITY MTX_SLICES (R35). -/
def GCTL_CAPACITY_MTX_SLICES : Fld := Fld.mk 0 0x10 28 4 .o 0 [] false false none true 0
/-- GCTL_CAPACITY MTX_SPARE_FREE (R35). -/
def GCTL_CAPACITY_MTX_SPARE_FREE : Fld := Fld.mk 0 0x10 27 1 .o 0 [] false false none true 0
/-- GCTL_CAPACITY STR_SLICES (R35). -/
def GCTL_CAPACITY_STR_SLICES : Fld := Fld.mk 0 0x10 23 4 .o 0 [] false false none true 0
/-- GCTL_CAPACITY STR_SPARE_FREE (R35). -/
def GCTL_CAPACITY_STR_SPARE_FREE : Fld := Fld.mk 0 0x10 22 1 .o 0 [] false false none true 0
/-- GCTL_CAPACITY NET_LANES (R35). -/
def GCTL_CAPACITY_NET_LANES : Fld := Fld.mk 0 0x10 19 3 .o 0 [] false false none true 0
/-- GCTL_CAPACITY IRM_LANE (R35). -/
def GCTL_CAPACITY_IRM_LANE : Fld := Fld.mk 0 0x10 18 1 .o 0 [] false false none true 0
/-- GCTL_CAPACITY CORRELATORS (R35). -/
def GCTL_CAPACITY_CORRELATORS : Fld := Fld.mk 0 0x10 10 8 .o 0 [] false false none true 0
/-- GCTL_CAPACITY APT_PORTS (R35). -/
def GCTL_CAPACITY_APT_PORTS : Fld := Fld.mk 0 0x10 5 5 .o 0 [] false false none true 0
/-- GCTL_CAPACITY TS_UNITS (R35). -/
def GCTL_CAPACITY_TS_UNITS : Fld := Fld.mk 0 0x10 0 5 .o 0 [] false false none true 0
/-- GCTL_BOOT_STATUS BOOT_STEP (R50). -/
def GCTL_BOOT_STATUS_BOOT_STEP : Fld := Fld.mk 0 0x14 28 4 .o 0 [] false false none false 0
/-- GCTL_BOOT_STATUS DDR_TRAIN_FAIL (R50). -/
def GCTL_BOOT_STATUS_DDR_TRAIN_FAIL : Fld := Fld.mk 0 0x14 20 1 .o 0 [] false false none false 0
/-- GCTL_BOOT_STATUS LIB_BG_DONE (R50). -/
def GCTL_BOOT_STATUS_LIB_BG_DONE : Fld := Fld.mk 0 0x14 19 1 .o 0 [] false false none false 0
/-- GCTL_BOOT_STATUS LIB_ESSENTIAL_OK (R50). -/
def GCTL_BOOT_STATUS_LIB_ESSENTIAL_OK : Fld := Fld.mk 0 0x14 18 1 .o 0 [] false false none false 0
/-- GCTL_BOOT_STATUS CONFIG_VALID (R50). -/
def GCTL_BOOT_STATUS_CONFIG_VALID : Fld := Fld.mk 0 0x14 17 1 .o 0 [] false false none false 0
/-- GCTL_BOOT_STATUS DDR_SIZE_MISMATCH (R50). -/
def GCTL_BOOT_STATUS_DDR_SIZE_MISMATCH : Fld := Fld.mk 0 0x14 16 1 .o 0 [] false false none false 0
/-- GCTL_BOOT_STATUS IMAGE_FALLBACK (R50). -/
def GCTL_BOOT_STATUS_IMAGE_FALLBACK : Fld := Fld.mk 0 0x14 15 1 .o 0 [] false false none false 0
/-- GCTL_BOOT_STATUS IMAGE_SLOT (R50). -/
def GCTL_BOOT_STATUS_IMAGE_SLOT : Fld := Fld.mk 0 0x14 14 1 .o 0 [] false false none false 0
/-- GCTL_BOOT_STATUS HOST_ROLE (R50). -/
def GCTL_BOOT_STATUS_HOST_ROLE : Fld := Fld.mk 0 0x14 3 1 .o 0 [] false false none false 0
/-- GCTL_BOOT_STATUS PAIR_SIDE (R50). -/
def GCTL_BOOT_STATUS_PAIR_SIDE : Fld := Fld.mk 0 0x14 2 1 .o 0 [] false false none false 0
/-- GCTL_BOOT_STATUS BOOT_SEL (R50). -/
def GCTL_BOOT_STATUS_BOOT_SEL : Fld := Fld.mk 0 0x14 0 2 .o 0 [] false false none false 0
/-- GCTL_IRQ_STATUS MODE_CHANGE (R408). -/
def GCTL_IRQ_STATUS_MODE_CHANGE : Fld := Fld.mk 0 0x20 31 1 .c 0 [] false false none false 0
/-- GCTL_IRQ_STATUS CAPACITY_CHANGE (R408). -/
def GCTL_IRQ_STATUS_CAPACITY_CHANGE : Fld := Fld.mk 0 0x20 30 1 .c 0 [] false false none false 0
/-- GCTL_IRQ_STATUS BOOT_DONE (R408). -/
def GCTL_IRQ_STATUS_BOOT_DONE : Fld := Fld.mk 0 0x20 29 1 .c 0 [] false false none false 0
/-- GCTL_IRQ_STATUS FREEZE (R408). -/
def GCTL_IRQ_STATUS_FREEZE : Fld := Fld.mk 0 0x20 28 1 .c 0 [] false false none false 0
/-- GCTL_IRQ_STATUS LOCK_DENIED (R408). -/
def GCTL_IRQ_STATUS_LOCK_DENIED : Fld := Fld.mk 0 0x20 27 1 .c 0 [] false false none false 0
/-- GCTL_IRQ_STATUS MEM_UNCORRECTABLE (R408). -/
def GCTL_IRQ_STATUS_MEM_UNCORRECTABLE : Fld := Fld.mk 0 0x20 26 1 .c 0 [] false false none false 0
/-- GCTL_IRQ_STATUS CONFIG_DEFAULTED (R408). -/
def GCTL_IRQ_STATUS_CONFIG_DEFAULTED : Fld := Fld.mk 0 0x20 25 1 .c 0 [] false false none false 0
/-- GCTL_IRQ_STATUS CAPACITY_ALARM (R408). -/
def GCTL_IRQ_STATUS_CAPACITY_ALARM : Fld := Fld.mk 0 0x20 24 1 .c 0 [] false false none false 0
/-- GCTL_IRQ_STATUS DDR_SIZE_MISMATCH (R408). -/
def GCTL_IRQ_STATUS_DDR_SIZE_MISMATCH : Fld := Fld.mk 0 0x20 23 1 .c 0 [] false false none false 0
/-- GCTL_IRQ_STATUS JOURNAL_HIGH (R408). -/
def GCTL_IRQ_STATUS_JOURNAL_HIGH : Fld := Fld.mk 0 0x20 22 1 .c 0 [] false false none false 0
/-- GCTL_IRQ_STATUS BLOCK (R408). -/
def GCTL_IRQ_STATUS_BLOCK : Fld := Fld.mk 0 0x20 1 15 .o 0 [] false false none true 0
/-- GCTL_IRQ_ENABLE EVENTS (R408). -/
def GCTL_IRQ_ENABLE_EVENTS : Fld := Fld.mk 0 0x24 22 10 .i 0 [] false false none false 0
/-- GCTL_IRQ_ENABLE BLOCK (R408). -/
def GCTL_IRQ_ENABLE_BLOCK : Fld := Fld.mk 0 0x24 1 15 .i 0 [] false false none false 0
/-- GCTL_SCRATCH SCRATCH (R408). -/
def GCTL_SCRATCH_SCRATCH : Fld := Fld.mk 0 0x28 0 32 .i 0 [] false false none false 0
/-- GCTL_HOST_ERR BAD_OPCODE (R408). -/
def GCTL_HOST_ERR_BAD_OPCODE : Fld := Fld.mk 0 0x2c 24 8 .c 0 [] false false none false 0
/-- GCTL_HOST_ERR ABANDONED (R408). -/
def GCTL_HOST_ERR_ABANDONED : Fld := Fld.mk 0 0x2c 16 8 .c 0 [] false false none false 0
/-- GCTL_HOST_ERR DENIED (R408). -/
def GCTL_HOST_ERR_DENIED : Fld := Fld.mk 0 0x2c 8 8 .c 0 [] false false none false 0
/-- GCTL_HOST_ERR IGNORED (R408). -/
def GCTL_HOST_ERR_IGNORED : Fld := Fld.mk 0 0x2c 0 8 .c 0 [] false false none false 0
/-- UPD_STROBE STROBE (R409). -/
def UPD_STROBE_STROBE : Fld := Fld.mk 0 0x1000 0 16 .w 0 [] false false none false 0
/-- UPD_PENDING PENDING (R396). -/
def UPD_PENDING_PENDING : Fld := Fld.mk 0 0x1004 0 16 .o 0 [] false false none true 0
/-- UPD_HELD HELD (R398). -/
def UPD_HELD_HELD : Fld := Fld.mk 0 0x1008 0 16 .o 0 [] false false none true 0
/-- UPD_ASSIGN GROUP (R409). -/
def UPD_ASSIGN_GROUP : Fld := Fld.mk 0 0x1040 0 4 .i 0 [4] false false (some 8) false 0
/-- SNAP_CMD VIEW_OFF (R409). -/
def SNAP_CMD_VIEW_OFF : Fld := Fld.mk 0 0x1100 5 1 .w 0 [] false false none false 0
/-- SNAP_CMD VIEW_ON (R409). -/
def SNAP_CMD_VIEW_ON : Fld := Fld.mk 0 0x1100 4 1 .w 0 [] false false none false 0
/-- SNAP_CMD CLEAR (R409). -/
def SNAP_CMD_CLEAR : Fld := Fld.mk 0 0x1100 1 1 .w 0 [] false false none false 0
/-- SNAP_CMD TAKE (R409). -/
def SNAP_CMD_TAKE : Fld := Fld.mk 0 0x1100 0 1 .w 0 [] false false none false 0
/-- SNAP_STAMP_SEC SEC (R409). -/
def SNAP_STAMP_SEC_SEC : Fld := Fld.mk 0 0x1104 0 32 .o 0 [] false false none true 0
/-- SNAP_STAMP_NS NS (R409). -/
def SNAP_STAMP_NS_NS : Fld := Fld.mk 0 0x1108 0 32 .o 0 [] false false none false 0
/-- SNAP_STAMP_SEC_HI SUB (R409). -/
def SNAP_STAMP_SEC_HI_SUB : Fld := Fld.mk 0 0x110c 16 16 .o 0 [] false false none false 0
/-- SNAP_STAMP_SEC_HI SEC_HI (R409). -/
def SNAP_STAMP_SEC_HI_SEC_HI : Fld := Fld.mk 0 0x110c 0 16 .o 0 [] false false none false 0
/-- SNAP_STATUS VIEW (R409). -/
def SNAP_STATUS_VIEW : Fld := Fld.mk 0 0x1110 31 1 .o 0 [] false false none false 0
/-- SNAP_STATUS VALID (R409). -/
def SNAP_STATUS_VALID : Fld := Fld.mk 0 0x1110 30 1 .o 0 [] false false none false 0
/-- SNAP_STATUS COUNT (R409). -/
def SNAP_STATUS_COUNT : Fld := Fld.mk 0 0x1110 0 16 .o 0 [] false false none false 0
/-- LKF_LOCK LOCK (R394). -/
def LKF_LOCK_LOCK : Fld := Fld.mk 0 0x2000 0 11 .s 0 [] false false none false 0
/-- LKF_FREEZE_STATUS HOST_FROZEN (R409). -/
def LKF_FREEZE_STATUS_HOST_FROZEN : Fld := Fld.mk 0 0x2004 31 1 .o 0 [] false false none true 0
/-- LKF_FREEZE_STATUS SESSIONS (R409). -/
def LKF_FREEZE_STATUS_SESSIONS : Fld := Fld.mk 0 0x2004 16 8 .o 0 [] false false none true 0
/-- LKF_FREEZE_STATUS PEERS (R409). -/
def LKF_FREEZE_STATUS_PEERS : Fld := Fld.mk 0 0x2004 8 8 .o 0 [] false false none true 0
/-- LKF_FREEZE_CAUSE NEW (R409). -/
def LKF_FREEZE_CAUSE_NEW : Fld := Fld.mk 0 0x2008 31 1 .c 0 [] false false none false 0
/-- LKF_FREEZE_CAUSE CAUSE (R409). -/
def LKF_FREEZE_CAUSE_CAUSE : Fld := Fld.mk 0 0x2008 0 8 .o 0 [] false false none false 0
/-- LKF_FREEZE_MASTER MASTER (R409). -/
def LKF_FREEZE_MASTER_MASTER : Fld := Fld.mk 0 0x200c 0 32 .o 0 [] false false none false 0
/-- LKF_LOCK_DENIED COUNT (R409). -/
def LKF_LOCK_DENIED_COUNT : Fld := Fld.mk 0 0x2010 0 32 .c 0 [] false false none false 0
/-- CLK_ROOT_STATUS ROOT_LOCKED (R77). -/
def CLK_ROOT_STATUS_ROOT_LOCKED : Fld := Fld.mk 1 0 31 1 .o 0 [] false false none false 0
/-- CLK_ROOT_STATUS ON_BACKUP (R77). -/
def CLK_ROOT_STATUS_ON_BACKUP : Fld := Fld.mk 1 0 30 1 .o 0 [] false false none false 0
/-- CLK_ROOT_STATUS XO_PRESENT (R77). -/
def CLK_ROOT_STATUS_XO_PRESENT : Fld := Fld.mk 1 0 29 1 .o 0 [] false false none false 0
/-- CLK_ROOT_STATUS BACKUP_FAULT (R77). -/
def CLK_ROOT_STATUS_BACKUP_FAULT : Fld := Fld.mk 1 0 28 1 .o 0 [] false false none false 0
/-- CLK_ROOT_STATUS XO_FREQ (R77). -/
def CLK_ROOT_STATUS_XO_FREQ : Fld := Fld.mk 1 0 26 2 .o 0 [] false false none false 0
/-- CLK_ROOT_STATUS BACKUP_OFFSET (R77). -/
def CLK_ROOT_STATUS_BACKUP_OFFSET : Fld := Fld.mk 1 0 0 16 .o 0 [] false false none false 0
/-- CLK_ROOT_STICKY XO_LOST_SEEN (R77). -/
def CLK_ROOT_STICKY_XO_LOST_SEEN : Fld := Fld.mk 1 4 3 1 .c 0 [] false false none false 0
/-- CLK_ROOT_STICKY ROOT_UNLOCK_SEEN (R77). -/
def CLK_ROOT_STICKY_ROOT_UNLOCK_SEEN : Fld := Fld.mk 1 4 2 1 .c 0 [] false false none false 0
/-- CLK_ROOT_STICKY BACKUP_FAULT_SEEN (R77). -/
def CLK_ROOT_STICKY_BACKUP_FAULT_SEEN : Fld := Fld.mk 1 4 1 1 .c 0 [] false false none false 0
/-- CLK_ROOT_STICKY BACKUP_SWITCH_SEEN (R77). -/
def CLK_ROOT_STICKY_BACKUP_SWITCH_SEEN : Fld := Fld.mk 1 4 0 1 .c 0 [] false false none false 0
/-- CLK_ROOT_CTL SRD_REF_EN (R77). -/
def CLK_ROOT_CTL_SRD_REF_EN : Fld := Fld.mk 1 8 0 1 .i 0 [] false false none false 0
/-- CLK_SYN_INT ALIGN_SEC (R77). -/
def CLK_SYN_INT_ALIGN_SEC : Fld := Fld.mk 1 0x100 24 8 .b 1 [0x20] true false none false 0
/-- CLK_SYN_INT AUTO_RESTART (R77). -/
def CLK_SYN_INT_AUTO_RESTART : Fld := Fld.mk 1 0x100 6 1 .b 1 [0x20] false false none false 0
/-- CLK_SYN_INT N (R77). -/
def CLK_SYN_INT_N : Fld := Fld.mk 1 0x100 0 6 .b 0x1e [0x20] true false none false 0
/-- CLK_SYN_NUM NUM (R77). -/
def CLK_SYN_NUM_NUM : Fld := Fld.mk 1 0x104 0 24 .b 0 [0x20] true false none false 0
/-- CLK_SYN_DEN DEN (R77). -/
def CLK_SYN_DEN_DEN : Fld := Fld.mk 1 0x108 0 24 .b 1 [0x20] true false none false 0
/-- CLK_SYN_STATUS LOCKED (R77). -/
def CLK_SYN_STATUS_LOCKED : Fld := Fld.mk 1 0x10c 31 1 .o 0 [0x20] false false none false 0
/-- CLK_SYN_STATUS ALIGNED (R77). -/
def CLK_SYN_STATUS_ALIGNED : Fld := Fld.mk 1 0x10c 30 1 .o 0 [0x20] false false none false 0
/-- CLK_SYN_STATUS CFG_ERR (R77). -/
def CLK_SYN_STATUS_CFG_ERR : Fld := Fld.mk 1 0x10c 29 1 .o 0 [0x20] false false none false 0
/-- CLK_SYN_STATUS CFG_REFUSED (R77). -/
def CLK_SYN_STATUS_CFG_REFUSED : Fld := Fld.mk 1 0x10c 28 1 .o 0 [0x20] false false none false 0
/-- CLK_SYN_STATUS UNLOCK_COUNT (R77). -/
def CLK_SYN_STATUS_UNLOCK_COUNT : Fld := Fld.mk 1 0x10c 0 8 .o 0 [0x20] false false none false 0
/-- CLK_OUT_CFG EN (R77). -/
def CLK_OUT_CFG_EN : Fld := Fld.mk 1 0x200 31 1 .b 0 [0x10] false false none false 0
/-- CLK_OUT_CFG DIS_STATE (R77). -/
def CLK_OUT_CFG_DIS_STATE : Fld := Fld.mk 1 0x200 30 1 .b 0 [0x10] false false none false 0
/-- CLK_OUT_CFG SRC (R77). -/
def CLK_OUT_CFG_SRC : Fld := Fld.mk 1 0x200 28 2 .b 0 [0x10] false false none false 0
/-- CLK_OUT_CFG WAIT_DLL (R77). -/
def CLK_OUT_CFG_WAIT_DLL : Fld := Fld.mk 1 0x200 27 1 .b 0 [0x10] false false none false 0
/-- CLK_OUT_CFG FORMAT (R77). -/
def CLK_OUT_CFG_FORMAT : Fld := Fld.mk 1 0x200 0 2 .b 0 [0x10] false false none false 0
/-- CLK_OUT_DIV DIV (R77). -/
def CLK_OUT_DIV_DIV : Fld := Fld.mk 1 0x204 0 24 .b 0x12c [0x10] false false none false 0
/-- CLK_OUT_PHASE PHASE_OFFSET (R77). -/
def CLK_OUT_PHASE_PHASE_OFFSET : Fld := Fld.mk 1 0x208 0 32 .b 0 [0x10] false false none false 0
/-- CLK_OUT_STATUS RUNNING (R77). -/
def CLK_OUT_STATUS_RUNNING : Fld := Fld.mk 1 0x20c 31 1 .o 0 [0x10] false false none false 0
/-- CLK_OUT_STATUS GATED (R77). -/
def CLK_OUT_STATUS_GATED : Fld := Fld.mk 1 0x20c 30 1 .o 0 [0x10] false false none false 0
/-- CLK_OUT_STATUS PENDING_DIV (R77). -/
def CLK_OUT_STATUS_PENDING_DIV : Fld := Fld.mk 1 0x20c 29 1 .o 0 [0x10] false false none false 0
/-- CLK_OUT_STATUS STEP_ACTIVE (R77). -/
def CLK_OUT_STATUS_STEP_ACTIVE : Fld := Fld.mk 1 0x20c 28 1 .o 0 [0x10] false false none true 0
/-- CLK_DLL_CFG EN (R77). -/
def CLK_DLL_CFG_EN : Fld := Fld.mk 1 0x300 31 1 .b 0 [0x10] false false none false 0
/-- CLK_DLL_CFG OUT_SEL (R77). -/
def CLK_DLL_CFG_OUT_SEL : Fld := Fld.mk 1 0x300 24 3 .b 0 [0x10] false false none false 0
/-- CLK_DLL_CFG SET (R77). -/
def CLK_DLL_CFG_SET : Fld := Fld.mk 1 0x300 16 8 .b 0 [0x10] false false none false 0
/-- CLK_DLL_STATUS LOCKED (R77). -/
def CLK_DLL_STATUS_LOCKED : Fld := Fld.mk 1 0x304 31 1 .o 0 [0x10] false false none false 0
/-- CLK_DLL_STATUS FB_LOST (R77). -/
def CLK_DLL_STATUS_FB_LOST : Fld := Fld.mk 1 0x304 30 1 .o 0 [0x10] false false none false 0
/-- CLK_DLL_STATUS RANGE_ERR (R77). -/
def CLK_DLL_STATUS_RANGE_ERR : Fld := Fld.mk 1 0x304 29 1 .o 0 [0x10] false false none false 0
/-- CLK_DLL_STATUS DELAY (R77). -/
def CLK_DLL_STATUS_DELAY : Fld := Fld.mk 1 0x304 0 11 .o 0 [0x10] false false none false 0
/-- CLK_DLL_LOOP LOOP_DELAY (R77). -/
def CLK_DLL_LOOP_LOOP_DELAY : Fld := Fld.mk 1 0x308 0 16 .o 0 [0x10] false false none false 0
/-- CLK_MCLK_CFG EN (R77). -/
def CLK_MCLK_CFG_EN : Fld := Fld.mk 1 0x400 31 1 .b 0 [0x10] false false none false 0
/-- CLK_MCLK_CFG DIS_STATE (R77). -/
def CLK_MCLK_CFG_DIS_STATE : Fld := Fld.mk 1 0x400 30 1 .b 0 [0x10] false false none false 0
/-- CLK_MCLK_CFG RATE (R77). -/
def CLK_MCLK_CFG_RATE : Fld := Fld.mk 1 0x400 29 1 .b 0 [0x10] true false none false 0
/-- CLK_MCLK_CFG RATIO (R77). -/
def CLK_MCLK_CFG_RATIO : Fld := Fld.mk 1 0x400 24 3 .b 1 [0x10] true false none false 0
/-- CLK_MCLK_TRIM TRIM (R77). -/
def CLK_MCLK_TRIM_TRIM : Fld := Fld.mk 1 0x404 0 32 .i 0 [0x10] false false none false 0
/-- CLK_MCLK_STATUS LOCKED (R77). -/
def CLK_MCLK_STATUS_LOCKED : Fld := Fld.mk 1 0x408 31 1 .o 0 [0x10] false false none false 0
/-- CLK_MCLK_STATUS ALIGNED (R77). -/
def CLK_MCLK_STATUS_ALIGNED : Fld := Fld.mk 1 0x408 30 1 .o 0 [0x10] false false none false 0
/-- CLK_MCLK_STATUS TRIM_CLAMPED (R77). -/
def CLK_MCLK_STATUS_TRIM_CLAMPED : Fld := Fld.mk 1 0x408 29 1 .o 0 [0x10] false false none false 0
/-- CLK_IRQ_STATUS MCLK_UNLOCK7 (R77). -/
def CLK_IRQ_STATUS_MCLK_UNLOCK7 : Fld := Fld.mk 1 0x500 25 1 .c 0 [] false false none false 0
/-- CLK_IRQ_STATUS MCLK_UNLOCK6 (R77). -/
def CLK_IRQ_STATUS_MCLK_UNLOCK6 : Fld := Fld.mk 1 0x500 24 1 .c 0 [] false false none false 0
/-- CLK_IRQ_STATUS MCLK_UNLOCK5 (R77). -/
def CLK_IRQ_STATUS_MCLK_UNLOCK5 : Fld := Fld.mk 1 0x500 23 1 .c 0 [] false false none false 0
/-- CLK_IRQ_STATUS MCLK_UNLOCK4 (R77). -/
def CLK_IRQ_STATUS_MCLK_UNLOCK4 : Fld := Fld.mk 1 0x500 22 1 .c 0 [] false false none false 0
/-- CLK_IRQ_STATUS MCLK_UNLOCK3 (R77). -/
def CLK_IRQ_STATUS_MCLK_UNLOCK3 : Fld := Fld.mk 1 0x500 21 1 .c 0 [] false false none false 0
/-- CLK_IRQ_STATUS MCLK_UNLOCK2 (R77). -/
def CLK_IRQ_STATUS_MCLK_UNLOCK2 : Fld := Fld.mk 1 0x500 20 1 .c 0 [] false false none false 0
/-- CLK_IRQ_STATUS MCLK_UNLOCK1 (R77). -/
def CLK_IRQ_STATUS_MCLK_UNLOCK1 : Fld := Fld.mk 1 0x500 19 1 .c 0 [] false false none false 0
/-- CLK_IRQ_STATUS MCLK_UNLOCK0 (R77). -/
def CLK_IRQ_STATUS_MCLK_UNLOCK0 : Fld := Fld.mk 1 0x500 18 1 .c 0 [] false false none false 0
/-- CLK_IRQ_STATUS DLL_FAULT1 (R77). -/
def CLK_IRQ_STATUS_DLL_FAULT1 : Fld := Fld.mk 1 0x500 17 1 .c 0 [] false false none false 0
/-- CLK_IRQ_STATUS DLL_FAULT0 (R77). -/
def CLK_IRQ_STATUS_DLL_FAULT0 : Fld := Fld.mk 1 0x500 16 1 .c 0 [] false false none false 0
/-- CLK_IRQ_STATUS OUT_GATED7 (R77). -/
def CLK_IRQ_STATUS_OUT_GATED7 : Fld := Fld.mk 1 0x500 15 1 .c 0 [] false false none false 0
/-- CLK_IRQ_STATUS OUT_GATED6 (R77). -/
def CLK_IRQ_STATUS_OUT_GATED6 : Fld := Fld.mk 1 0x500 14 1 .c 0 [] false false none false 0
/-- CLK_IRQ_STATUS OUT_GATED5 (R77). -/
def CLK_IRQ_STATUS_OUT_GATED5 : Fld := Fld.mk 1 0x500 13 1 .c 0 [] false false none false 0
/-- CLK_IRQ_STATUS OUT_GATED4 (R77). -/
def CLK_IRQ_STATUS_OUT_GATED4 : Fld := Fld.mk 1 0x500 12 1 .c 0 [] false false none false 0
/-- CLK_IRQ_STATUS OUT_GATED3 (R77). -/
def CLK_IRQ_STATUS_OUT_GATED3 : Fld := Fld.mk 1 0x500 11 1 .c 0 [] false false none false 0
/-- CLK_IRQ_STATUS OUT_GATED2 (R77). -/
def CLK_IRQ_STATUS_OUT_GATED2 : Fld := Fld.mk 1 0x500 10 1 .c 0 [] false false none false 0
/-- CLK_IRQ_STATUS OUT_GATED1 (R77). -/
def CLK_IRQ_STATUS_OUT_GATED1 : Fld := Fld.mk 1 0x500 9 1 .c 0 [] false false none false 0
/-- CLK_IRQ_STATUS OUT_GATED0 (R77). -/
def CLK_IRQ_STATUS_OUT_GATED0 : Fld := Fld.mk 1 0x500 8 1 .c 0 [] false false none false 0
/-- CLK_IRQ_STATUS SYN_UNLOCK3 (R77). -/
def CLK_IRQ_STATUS_SYN_UNLOCK3 : Fld := Fld.mk 1 0x500 7 1 .c 0 [] false false none false 0
/-- CLK_IRQ_STATUS SYN_UNLOCK2 (R77). -/
def CLK_IRQ_STATUS_SYN_UNLOCK2 : Fld := Fld.mk 1 0x500 6 1 .c 0 [] false false none false 0
/-- CLK_IRQ_STATUS SYN_UNLOCK1 (R77). -/
def CLK_IRQ_STATUS_SYN_UNLOCK1 : Fld := Fld.mk 1 0x500 5 1 .c 0 [] false false none false 0
/-- CLK_IRQ_STATUS SYN_UNLOCK0 (R77). -/
def CLK_IRQ_STATUS_SYN_UNLOCK0 : Fld := Fld.mk 1 0x500 4 1 .c 0 [] false false none false 0
/-- CLK_IRQ_STATUS XO_LOST (R77). -/
def CLK_IRQ_STATUS_XO_LOST : Fld := Fld.mk 1 0x500 3 1 .c 0 [] false false none false 0
/-- CLK_IRQ_STATUS BACKUP_FAULT (R77). -/
def CLK_IRQ_STATUS_BACKUP_FAULT : Fld := Fld.mk 1 0x500 2 1 .c 0 [] false false none false 0
/-- CLK_IRQ_STATUS BACKUP_SWITCH (R77). -/
def CLK_IRQ_STATUS_BACKUP_SWITCH : Fld := Fld.mk 1 0x500 1 1 .c 0 [] false false none false 0
/-- CLK_IRQ_STATUS ROOT_UNLOCK (R77). -/
def CLK_IRQ_STATUS_ROOT_UNLOCK : Fld := Fld.mk 1 0x500 0 1 .c 0 [] false false none false 0
/-- CLK_IRQ_ENABLE ENABLE (R77). -/
def CLK_IRQ_ENABLE_ENABLE : Fld := Fld.mk 1 0x504 0 26 .i 0 [] false false none false 0
/-- REF_SEL_STATUS FREQ_SEL (R111). -/
def REF_SEL_STATUS_FREQ_SEL : Fld := Fld.mk 2 0 28 4 .o 0xf [] false false none false 0
/-- REF_SEL_STATUS TIME_SEL (R111). -/
def REF_SEL_STATUS_TIME_SEL : Fld := Fld.mk 2 0 24 4 .o 0 [] false false none false 0
/-- REF_SEL_STATUS FREQ_SEL_VALID (R111). -/
def REF_SEL_STATUS_FREQ_SEL_VALID : Fld := Fld.mk 2 0 23 1 .o 0 [] false false none false 0
/-- REF_SEL_STATUS TIME_SEL_VALID (R111). -/
def REF_SEL_STATUS_TIME_SEL_VALID : Fld := Fld.mk 2 0 22 1 .o 0 [] false false none false 0
/-- REF_SEL_STATUS TIME_VALID (R111). -/
def REF_SEL_STATUS_TIME_VALID : Fld := Fld.mk 2 0 21 1 .o 0 [] false false none false 0
/-- REF_SEL_STATUS FPATH_STATE (R111). -/
def REF_SEL_STATUS_FPATH_STATE : Fld := Fld.mk 2 0 18 3 .o 0 [] false false none false 0
/-- REF_SEL_STATUS TPATH_STATE (R111). -/
def REF_SEL_STATUS_TPATH_STATE : Fld := Fld.mk 2 0 16 2 .o 0 [] false false none false 0
/-- REF_SEL_STATUS FREQ_RANK (R111). -/
def REF_SEL_STATUS_FREQ_RANK : Fld := Fld.mk 2 0 8 8 .o 0xfa [] false false none false 0
/-- REF_SEL_STATUS TIME_RANK (R111). -/
def REF_SEL_STATUS_TIME_RANK : Fld := Fld.mk 2 0 0 8 .o 0xff [] false false none false 0
/-- REF_SEL_CTL FORCE_F_EN (R111). -/
def REF_SEL_CTL_FORCE_F_EN : Fld := Fld.mk 2 4 31 1 .b 0 [] false true (some 0) false 0
/-- REF_SEL_CTL FORCE_F (R111). -/
def REF_SEL_CTL_FORCE_F : Fld := Fld.mk 2 4 27 4 .b 0 [] false true (some 0) false 0
/-- REF_SEL_CTL FORCE_T_EN (R111). -/
def REF_SEL_CTL_FORCE_T_EN : Fld := Fld.mk 2 4 26 1 .b 0 [] false true (some 0) false 0
/-- REF_SEL_CTL FORCE_T (R111). -/
def REF_SEL_CTL_FORCE_T : Fld := Fld.mk 2 4 22 4 .b 0 [] false true (some 0) false 0
/-- REF_SEL_CTL REVERTIVE (R111). -/
def REF_SEL_CTL_REVERTIVE : Fld := Fld.mk 2 4 21 1 .b 1 [] false false none false 0
/-- REF_LOOP_CFG LOOP_MODE (R111). -/
def REF_LOOP_CFG_LOOP_MODE : Fld := Fld.mk 2 8 30 2 .b 0 [] false true (some 0) false 0
/-- REF_LOOP_CFG TBW_CODE (R111). -/
def REF_LOOP_CFG_TBW_CODE : Fld := Fld.mk 2 8 4 4 .b 3 [] false false none false 0
/-- REF_LOOP_CFG FBW_CODE (R111). -/
def REF_LOOP_CFG_FBW_CODE : Fld := Fld.mk 2 8 0 4 .b 0xa [] false false none false 0
/-- REF_QUAL_CFG WTR (R111). -/
def REF_QUAL_CFG_WTR : Fld := Fld.mk 2 0xc 16 16 .b 0x12c [] false false none false 0
/-- REF_QUAL_CFG QUAL_WIN (R111). -/
def REF_QUAL_CFG_QUAL_WIN : Fld := Fld.mk 2 0xc 0 16 .b 0xa [] false false none false 0
/-- REF_DIS_FREQ DIS_FREQ (R111). -/
def REF_DIS_FREQ_DIS_FREQ : Fld := Fld.mk 2 0x10 0 32 .b 0x3e8 [] false false none false 0
/-- REF_DIS_TIME DIS_TIME (R111). -/
def REF_DIS_TIME_DIS_TIME : Fld := Fld.mk 2 0x14 0 32 .b 0xfa0 [] false false none false 0
/-- REF_STEP_LIMIT STEP_LIMIT (R111). -/
def REF_STEP_LIMIT_STEP_LIMIT : Fld := Fld.mk 2 0x18 0 32 .b 0xf42400 [] false true (some 1) false 0
/-- REF_STEP_ACCEPT ACCEPT (R111). -/
def REF_STEP_ACCEPT_ACCEPT : Fld := Fld.mk 2 0x1c 0 16 .w 0 [] false false none false 0
/-- REF_NCO_LO LO (R111). -/
def REF_NCO_LO_LO : Fld := Fld.mk 2 0x20 0 32 .i 0 [] false false none true 0
/-- REF_NCO_HI HI (R111). -/
def REF_NCO_HI_HI : Fld := Fld.mk 2 0x24 0 16 .i 0 [] false false none false 0
/-- REF_LOOP_FERR FERR (R111). -/
def REF_LOOP_FERR_FERR : Fld := Fld.mk 2 0x28 0 32 .o 0 [] false false none false 0
/-- REF_LOOP_PERR PERR (R111). -/
def REF_LOOP_PERR_PERR : Fld := Fld.mk 2 0x2c 0 32 .o 0 [] false false none false 0
/-- REF_HO_STATUS MODEL_VALID (R111). -/
def REF_HO_STATUS_MODEL_VALID : Fld := Fld.mk 2 0x40 31 1 .o 0 [] false false none false 0
/-- REF_HO_STATUS HO_FREQ (R111). -/
def REF_HO_STATUS_HO_FREQ : Fld := Fld.mk 2 0x40 30 1 .o 0 [] false false none true 0
/-- REF_HO_STATUS HO_TIME (R111). -/
def REF_HO_STATUS_HO_TIME : Fld := Fld.mk 2 0x40 29 1 .o 0 [] false false none true 0
/-- REF_HO_STATUS HO_EXPIRED (R111). -/
def REF_HO_STATUS_HO_EXPIRED : Fld := Fld.mk 2 0x40 28 1 .o 0 [] false false none false 0
/-- REF_HO_STATUS REGIME (R111). -/
def REF_HO_STATUS_REGIME : Fld := Fld.mk 2 0x40 26 2 .o 2 [] false false none true 0
/-- REF_HO_STATUS LEARNED (R111). -/
def REF_HO_STATUS_LEARNED : Fld := Fld.mk 2 0x40 0 17 .o 0 [] false false none false 0
/-- REF_HO_SPEC SPEC (R111). -/
def REF_HO_SPEC_SPEC : Fld := Fld.mk 2 0x44 0 32 .b 0x5dc0 [] false false none false 0
/-- REF_HO_REMAIN REMAIN (R111). -/
def REF_HO_REMAIN_REMAIN : Fld := Fld.mk 2 0x48 0 32 .o 0 [] false false none false 0
/-- REF_HO_ELAPSED ELAPSED (R111). -/
def REF_HO_ELAPSED_ELAPSED : Fld := Fld.mk 2 0x4c 0 32 .o 0 [] false false none false 0
/-- REF_HO_Y Y0 (R111). -/
def REF_HO_Y_Y0 : Fld := Fld.mk 2 0x50 0 32 .o 0 [] false false none false 0
/-- REF_HO_D D (R111). -/
def REF_HO_D_D : Fld := Fld.mk 2 0x54 0 32 .o 0 [] false false none false 0
/-- REF_HO_UY UY (R111). -/
def REF_HO_UY_UY : Fld := Fld.mk 2 0x58 0 32 .o 0 [] false false none false 0
/-- REF_HO_UD UD (R111). -/
def REF_HO_UD_UD : Fld := Fld.mk 2 0x5c 0 32 .o 0 [] false false none false 0
/-- REF_HO_FLOOR_UY FLOOR_UY (R111). -/
def REF_HO_FLOOR_UY_FLOOR_UY : Fld := Fld.mk 2 0x60 0 32 .b 0xf4240 [] false false none false 0
/-- REF_HO_FLOOR_UD FLOOR_UD (R111). -/
def REF_HO_FLOOR_UD_FLOOR_UD : Fld := Fld.mk 2 0x64 0 32 .b 0x186a0 [] false false none false 0
/-- REF_TERM TERM (R111). -/
def REF_TERM_TERM : Fld := Fld.mk 2 0x80 0 32 .o 0xffffffff [4] false false none false 0
/-- REF_STEP_SEC_LO SEC_LO (R111). -/
def REF_STEP_SEC_LO_SEC_LO : Fld := Fld.mk 2 0xa0 0 32 .o 0 [] false false none true 0
/-- REF_STEP_SEC_HI SEC_HI (R111). -/
def REF_STEP_SEC_HI_SEC_HI : Fld := Fld.mk 2 0xa4 0 16 .o 0 [] false false none false 0
/-- REF_STEP_NS NS (R111). -/
def REF_STEP_NS_NS : Fld := Fld.mk 2 0xa8 0 32 .o 0 [] false false none false 0
/-- REF_STEP_DELTA_LO DELTA_LO (R111). -/
def REF_STEP_DELTA_LO_DELTA_LO : Fld := Fld.mk 2 0xac 0 32 .o 0 [] false false none false 0
/-- REF_STEP_DELTA_HI DELTA_HI (R111). -/
def REF_STEP_DELTA_HI_DELTA_HI : Fld := Fld.mk 2 0xb0 0 32 .o 0 [] false false none false 0
/-- REF_STEP_INFO FROM (R111). -/
def REF_STEP_INFO_FROM : Fld := Fld.mk 2 0xb4 28 4 .o 0 [] false false none false 0
/-- REF_STEP_INFO TO (R111). -/
def REF_STEP_INFO_TO : Fld := Fld.mk 2 0xb4 24 4 .o 0 [] false false none false 0
/-- REF_STEP_INFO FROM_VALID (R111). -/
def REF_STEP_INFO_FROM_VALID : Fld := Fld.mk 2 0xb4 23 1 .o 0 [] false false none false 0
/-- REF_STEP_INFO STEP_COUNT (R111). -/
def REF_STEP_INFO_STEP_COUNT : Fld := Fld.mk 2 0xb4 0 16 .o 0 [] false false none false 0
/-- REF_GNSS_CFG LABEL (R111). -/
def REF_GNSS_CFG_LABEL : Fld := Fld.mk 2 0xc0 31 1 .b 0 [] true false none false 0
/-- REF_GNSS_CFG BAUD (R111). -/
def REF_GNSS_CFG_BAUD : Fld := Fld.mk 2 0xc0 28 3 .b 1 [] true false none false 0
/-- REF_SLOT_CFG EN (R111). -/
def REF_SLOT_CFG_EN : Fld := Fld.mk 2 0x100 31 1 .b 0 [0x40] false false none false 0
/-- REF_SLOT_CFG TYPE (R111). -/
def REF_SLOT_CFG_TYPE : Fld := Fld.mk 2 0x100 30 1 .b 0 [0x40] true false none false 0
/-- REF_SLOT_CFG RANK_OVR_EN (R111). -/
def REF_SLOT_CFG_RANK_OVR_EN : Fld := Fld.mk 2 0x100 29 1 .b 0 [0x40] false false none false 0
/-- REF_SLOT_CFG EDGE (R111). -/
def REF_SLOT_CFG_EDGE : Fld := Fld.mk 2 0x100 28 1 .b 0 [0x40] true false none false 0
/-- REF_SLOT_CFG PRIORITY (R111). -/
def REF_SLOT_CFG_PRIORITY : Fld := Fld.mk 2 0x100 24 4 .b 8 [0x40] false false none false 0
/-- REF_SLOT_CFG RANK_OVR (R111). -/
def REF_SLOT_CFG_RANK_OVR : Fld := Fld.mk 2 0x100 16 8 .b 0x80 [0x40] false false none false 0
/-- REF_SLOT_NOMINAL NOMINAL (R111). -/
def REF_SLOT_NOMINAL_NOMINAL : Fld := Fld.mk 2 0x104 0 32 .b 0x989680 [0x40] true false none false 0
/-- REF_SLOT_FREQ_LIMIT FREQ_LIMIT (R111). -/
def REF_SLOT_FREQ_LIMIT_FREQ_LIMIT : Fld := Fld.mk 2 0x108 0 32 .b 0x11f8 [0x40] false false none false 0
/-- REF_SLOT_DRIFT_TOL DRIFT_TOL (R111). -/
def REF_SLOT_DRIFT_TOL_DRIFT_TOL : Fld := Fld.mk 2 0x10c 0 32 .b 0x2710 [0x40] false false none false 0
/-- REF_SLOT_STATUS STATE (R111). -/
def REF_SLOT_STATUS_STATE : Fld := Fld.mk 2 0x110 29 3 .o 0 [0x40] false false none false 0
/-- REF_SLOT_STATUS ACTIVITY (R111). -/
def REF_SLOT_STATUS_ACTIVITY : Fld := Fld.mk 2 0x110 28 1 .o 0 [0x40] false false none false 0
/-- REF_SLOT_STATUS SEL_F (R111). -/
def REF_SLOT_STATUS_SEL_F : Fld := Fld.mk 2 0x110 27 1 .o 0 [0x40] false false none false 0
/-- REF_SLOT_STATUS SEL_T (R111). -/
def REF_SLOT_STATUS_SEL_T : Fld := Fld.mk 2 0x110 26 1 .o 0 [0x40] false false none false 0
/-- REF_SLOT_STATUS DISAGREE (R111). -/
def REF_SLOT_STATUS_DISAGREE : Fld := Fld.mk 2 0x110 25 1 .o 0 [0x40] false false none false 0
/-- REF_SLOT_STATUS STEP_LIMIT (R111). -/
def REF_SLOT_STATUS_STEP_LIMIT : Fld := Fld.mk 2 0x110 24 1 .o 0 [0x40] false false none false 0
/-- REF_SLOT_STATUS RANK (R111). -/
def REF_SLOT_STATUS_RANK : Fld := Fld.mk 2 0x110 16 8 .o 0xff [0x40] false false none false 0
/-- REF_SLOT_STATUS ADV_RANK (R111). -/
def REF_SLOT_STATUS_ADV_RANK : Fld := Fld.mk 2 0x110 8 8 .o 0xff [0x40] false false none false 0
/-- REF_SLOT_STICKY STEP_LIMIT_SEEN (R111). -/
def REF_SLOT_STICKY_STEP_LIMIT_SEEN : Fld := Fld.mk 2 0x114 7 1 .c 0 [0x40] false false none false 0
/-- REF_SLOT_STICKY RANK_CHANGE_SEEN (R111). -/
def REF_SLOT_STICKY_RANK_CHANGE_SEEN : Fld := Fld.mk 2 0x114 6 1 .c 0 [0x40] false false none false 0
/-- REF_SLOT_STICKY DISAGREE_SEEN (R111). -/
def REF_SLOT_STICKY_DISAGREE_SEEN : Fld := Fld.mk 2 0x114 5 1 .c 0 [0x40] false false none false 0
/-- REF_SLOT_STICKY OUTLIER_SEEN (R111). -/
def REF_SLOT_STICKY_OUTLIER_SEEN : Fld := Fld.mk 2 0x114 4 1 .c 0 [0x40] false false none false 0
/-- REF_SLOT_STICKY FREQ_FAIL_SEEN (R111). -/
def REF_SLOT_STICKY_FREQ_FAIL_SEEN : Fld := Fld.mk 2 0x114 3 1 .c 0 [0x40] false false none false 0
/-- REF_SLOT_STICKY QUALIFIED_SEEN (R111). -/
def REF_SLOT_STICKY_QUALIFIED_SEEN : Fld := Fld.mk 2 0x114 2 1 .c 0 [0x40] false false none false 0
/-- REF_SLOT_STICKY LOS_SEEN (R111). -/
def REF_SLOT_STICKY_LOS_SEEN : Fld := Fld.mk 2 0x114 1 1 .c 0 [0x40] false false none false 0
/-- REF_SLOT_STICKY SELECT_CHANGE_SEEN (R111). -/
def REF_SLOT_STICKY_SELECT_CHANGE_SEEN : Fld := Fld.mk 2 0x114 0 1 .c 0 [0x40] false false none false 0
/-- REF_SLOT_IRQ_EN ENABLE (R111). -/
def REF_SLOT_IRQ_EN_ENABLE : Fld := Fld.mk 2 0x118 0 8 .i 0 [0x40] false false none false 0
/-- REF_SLOT_MEAS_FREQ MEAS_FREQ (R111). -/
def REF_SLOT_MEAS_FREQ_MEAS_FREQ : Fld := Fld.mk 2 0x11c 0 32 .o 0 [0x40] false false none false 0
/-- REF_SLOT_MEAS_PHASE MEAS_PHASE (R111). -/
def REF_SLOT_MEAS_PHASE_MEAS_PHASE : Fld := Fld.mk 2 0x120 0 32 .o 0 [0x40] false false none false 0
/-- REF_SLOT_ADV_BOUND ADV_BOUND (R111). -/
def REF_SLOT_ADV_BOUND_ADV_BOUND : Fld := Fld.mk 2 0x124 0 32 .b 0x640 [0x40] false false none false 0
/-- REF_SLOT_ADV_BOUND_RO ADV_BOUND (R111). -/
def REF_SLOT_ADV_BOUND_RO_ADV_BOUND : Fld := Fld.mk 2 0x264 0 32 .o 0x640 [0x40] false false none false 0
/-- REF_SLOT_PHASE_CORR PHASE_CORR (R111). -/
def REF_SLOT_PHASE_CORR_PHASE_CORR : Fld := Fld.mk 2 0x128 0 32 .b 0 [0x40] false false none false 0
/-- REF_PULSE_CFG EN (R111). -/
def REF_PULSE_CFG_EN : Fld := Fld.mk 2 0x600 31 1 .b 0 [0x10] false false none false 0
/-- REF_PULSE_CFG POLARITY (R111). -/
def REF_PULSE_CFG_POLARITY : Fld := Fld.mk 2 0x600 30 1 .b 0 [0x10] false false none false 0
/-- REF_PULSE_CFG WIDTH (R111). -/
def REF_PULSE_CFG_WIDTH : Fld := Fld.mk 2 0x600 16 14 .b 0x2710 [0x10] false false none false 0
/-- REF_PULSE_CFG PERIOD_MS (R111). -/
def REF_PULSE_CFG_PERIOD_MS : Fld := Fld.mk 2 0x600 0 16 .b 0x3e8 [0x10] true false none false 0
/-- REF_PULSE_OFFSET_LO LO (R111). -/
def REF_PULSE_OFFSET_LO_LO : Fld := Fld.mk 2 0x604 0 32 .o 0 [0x10] false false none true 0
/-- REF_PULSE_OFFSET_HI HI (R111). -/
def REF_PULSE_OFFSET_HI_HI : Fld := Fld.mk 2 0x608 0 32 .o 0 [0x10] false false none false 0
/-- REF_PULSE_CTL REALIGN (R111). -/
def REF_PULSE_CTL_REALIGN : Fld := Fld.mk 2 0x60c 31 1 .w 0 [0x10] false false none false 0
/-- REF_PULSE_CTL REALIGN_PENDING (R111). -/
def REF_PULSE_CTL_REALIGN_PENDING : Fld := Fld.mk 2 0x60c 30 1 .o 0 [0x10] false false none false 0
/-- REF_PULSE_CTL RUNNING (R111). -/
def REF_PULSE_CTL_RUNNING : Fld := Fld.mk 2 0x60c 29 1 .o 0 [0x10] false false none false 0
/-- REF_IRQ_STATUS NCO_CLAMPED (R111). -/
def REF_IRQ_STATUS_NCO_CLAMPED : Fld := Fld.mk 2 0x700 23 1 .c 0 [] false false none false 0
/-- REF_IRQ_STATUS HO_EXPIRED (R111). -/
def REF_IRQ_STATUS_HO_EXPIRED : Fld := Fld.mk 2 0x700 22 1 .c 0 [] false false none false 0
/-- REF_IRQ_STATUS HO_ENTERED (R111). -/
def REF_IRQ_STATUS_HO_ENTERED : Fld := Fld.mk 2 0x700 21 1 .c 0 [] false false none false 0
/-- REF_IRQ_STATUS STEP_REFUSED (R111). -/
def REF_IRQ_STATUS_STEP_REFUSED : Fld := Fld.mk 2 0x700 20 1 .c 0 [] false false none false 0
/-- REF_IRQ_STATUS STEP_DONE (R111). -/
def REF_IRQ_STATUS_STEP_DONE : Fld := Fld.mk 2 0x700 19 1 .c 0 [] false false none false 0
/-- REF_IRQ_STATUS LOCK_CHANGE (R111). -/
def REF_IRQ_STATUS_LOCK_CHANGE : Fld := Fld.mk 2 0x700 18 1 .c 0 [] false false none false 0
/-- REF_IRQ_STATUS T_SWITCH (R111). -/
def REF_IRQ_STATUS_T_SWITCH : Fld := Fld.mk 2 0x700 17 1 .c 0 [] false false none false 0
/-- REF_IRQ_STATUS F_SWITCH (R111). -/
def REF_IRQ_STATUS_F_SWITCH : Fld := Fld.mk 2 0x700 16 1 .c 0 [] false false none false 0
/-- REF_IRQ_STATUS SLOT (R111). -/
def REF_IRQ_STATUS_SLOT : Fld := Fld.mk 2 0x700 0 16 .o 0 [] false false none true 0
/-- REF_IRQ_ENABLE ENABLE (R111). -/
def REF_IRQ_ENABLE_ENABLE : Fld := Fld.mk 2 0x704 0 24 .i 0 [] false false none false 0
/-- TIM_TAI_SEC_LO SEC_LO (R144). -/
def TIM_TAI_SEC_LO_SEC_LO : Fld := Fld.mk 3 0 0 32 .o 0 [] false false none true 0
/-- TIM_TAI_SEC_HI SEC_HI (R144). -/
def TIM_TAI_SEC_HI_SEC_HI : Fld := Fld.mk 3 4 0 16 .o 0 [] false false none false 0
/-- TIM_TAI_NS NS (R144). -/
def TIM_TAI_NS_NS : Fld := Fld.mk 3 8 0 32 .o 0 [] false false none false 0
/-- TIM_TAI_SUB SUB (R144). -/
def TIM_TAI_SUB_SUB : Fld := Fld.mk 3 0xc 0 16 .o 0 [] false false none false 0
/-- TIM_STATUS TIME_VALID (R144). -/
def TIM_STATUS_TIME_VALID : Fld := Fld.mk 3 0x10 31 1 .o 0 [] false false none true 0
/-- TIM_STATUS BOUND_SAT (R144). -/
def TIM_STATUS_BOUND_SAT : Fld := Fld.mk 3 0x10 30 1 .o 1 [] false false none true 0
/-- TIM_STATUS LEAP_ARMED (R144). -/
def TIM_STATUS_LEAP_ARMED : Fld := Fld.mk 3 0x10 29 1 .o 0 [] false false none false 0
/-- TIM_STATUS LEAP_DIR (R144). -/
def TIM_STATUS_LEAP_DIR : Fld := Fld.mk 3 0x10 28 1 .o 0 [] false false none false 0
/-- TIM_STATUS LEAP_WINDOW (R144). -/
def TIM_STATUS_LEAP_WINDOW : Fld := Fld.mk 3 0x10 27 1 .o 0 [] false false none true 0
/-- TIM_STATUS HO_EXPIRED (R144). -/
def TIM_STATUS_HO_EXPIRED : Fld := Fld.mk 3 0x10 26 1 .o 0 [] false false none true 0
/-- TIM_STATUS NTP_SERVING (R144). -/
def TIM_STATUS_NTP_SERVING : Fld := Fld.mk 3 0x10 25 1 .o 0 [] false false none true 0
/-- TIM_STATUS NO_ISSUE_KEY (R144). -/
def TIM_STATUS_NO_ISSUE_KEY : Fld := Fld.mk 3 0x10 24 1 .o 0 [] false false none true 0
/-- TIM_STATUS TIME_ROLE (R144). -/
def TIM_STATUS_TIME_ROLE : Fld := Fld.mk 3 0x10 22 2 .o 0 [] false false none false 0
/-- TIM_STATUS UTC_OFFSET (R144). -/
def TIM_STATUS_UTC_OFFSET : Fld := Fld.mk 3 0x10 0 16 .o 0x25 [] false false none false 0
/-- TIM_UTC_CFG SRC (R144). -/
def TIM_UTC_CFG_SRC : Fld := Fld.mk 3 0x14 31 1 .b 0 [] false true (some 2) false 0
/-- TIM_UTC_CFG MANUAL_OFFSET (R144). -/
def TIM_UTC_CFG_MANUAL_OFFSET : Fld := Fld.mk 3 0x14 0 16 .b 0x25 [] false true (some 2) false 0
/-- TIM_LEAP_CFG ARM (R144). -/
def TIM_LEAP_CFG_ARM : Fld := Fld.mk 3 0x18 31 1 .b 0 [] false false none false 0
/-- TIM_LEAP_CFG DIR (R144). -/
def TIM_LEAP_CFG_DIR : Fld := Fld.mk 3 0x18 30 1 .b 0 [] false false none false 0
/-- TIM_LEAP_CFG CANCEL (R144). -/
def TIM_LEAP_CFG_CANCEL : Fld := Fld.mk 3 0x18 29 1 .w 0 [] false false none false 0
/-- TIM_LEAP_CFG SOURCE (R144). -/
def TIM_LEAP_CFG_SOURCE : Fld := Fld.mk 3 0x18 28 1 .o 0 [] false false none false 0
/-- TIM_LEAP_AT_LO LO (R144). -/
def TIM_LEAP_AT_LO_LO : Fld := Fld.mk 3 0x1c 0 32 .b 0 [] false false none false 0
/-- TIM_LEAP_AT_HI HI (R144). -/
def TIM_LEAP_AT_HI_HI : Fld := Fld.mk 3 0x20 0 16 .b 0 [] false false none false 0
/-- TIM_BOUND_NOW BOUND (R144). -/
def TIM_BOUND_NOW_BOUND : Fld := Fld.mk 3 0x40 0 32 .o 0xffffffff [] false false none false 0
/-- TIM_TERM_ASYM ASYM (R144). -/
def TIM_TERM_ASYM_ASYM : Fld := Fld.mk 3 0x44 0 32 .o 0xffffffff [] false false none false 0
/-- TIM_TERM_QUANT QUANT (R144). -/
def TIM_TERM_QUANT_QUANT : Fld := Fld.mk 3 0x48 0 32 .o 0xffffffff [] false false none false 0
/-- TIM_CAP_CFG FALL (R144). -/
def TIM_CAP_CFG_FALL : Fld := Fld.mk 3 0x80 16 16 .b 0 [] false false none false 0
/-- TIM_CAP_CFG RISE (R144). -/
def TIM_CAP_CFG_RISE : Fld := Fld.mk 3 0x80 0 16 .b 0 [] false false none false 0
/-- TIM_CAP_LOST LOST (R144). -/
def TIM_CAP_LOST_LOST : Fld := Fld.mk 3 0x84 0 32 .c 0 [] false false none false 0
/-- TIM_NTP_CFG EN (R144). -/
def TIM_NTP_CFG_EN : Fld := Fld.mk 3 0x100 31 1 .b 0 [] false false none false 0
/-- TIM_NTP_CFG NTS_EN (R144). -/
def TIM_NTP_CFG_NTS_EN : Fld := Fld.mk 3 0x100 30 1 .b 0 [] false false none false 0
/-- TIM_NTP_CFG PLAIN_EN (R144). -/
def TIM_NTP_CFG_PLAIN_EN : Fld := Fld.mk 3 0x100 29 1 .b 1 [] false false none false 0
/-- TIM_NTP_CFG V3_EN (R144). -/
def TIM_NTP_CFG_V3_EN : Fld := Fld.mk 3 0x100 28 1 .b 1 [] false false none false 0
/-- TIM_NTP_CFG EXPIRED_POLICY (R144). -/
def TIM_NTP_CFG_EXPIRED_POLICY : Fld := Fld.mk 3 0x100 27 1 .b 0 [] false false none false 0
/-- TIM_NTP_CFG BOUND_EF_EN (R144). -/
def TIM_NTP_CFG_BOUND_EF_EN : Fld := Fld.mk 3 0x100 26 1 .b 0 [] false false none false 0
/-- TIM_NTP_CFG MAXPOLL (R144). -/
def TIM_NTP_CFG_MAXPOLL : Fld := Fld.mk 3 0x100 8 5 .b 0xa [] false false none false 0
/-- TIM_NTP_CFG MINPOLL (R144). -/
def TIM_NTP_CFG_MINPOLL : Fld := Fld.mk 3 0x100 0 5 .b 4 [] false false none false 0
/-- TIM_NTP_EF BOUND_EF_TYPE (R144). -/
def TIM_NTP_EF_BOUND_EF_TYPE : Fld := Fld.mk 3 0x104 0 16 .b 0xf5c1 [] false false none false 0
/-- TIM_NTP_RATE RATE (R144). -/
def TIM_NTP_RATE_RATE : Fld := Fld.mk 3 0x108 0 32 .b 0x80 [] false false none false 0
/-- TIM_NTP_BURST BURST (R144). -/
def TIM_NTP_BURST_BURST : Fld := Fld.mk 3 0x10c 0 8 .b 0x10 [] false false none false 0
/-- TIM_NTP_IDLE CLIENT_IDLE (R144). -/
def TIM_NTP_IDLE_CLIENT_IDLE : Fld := Fld.mk 3 0x110 0 32 .b 0xe10 [] false false none false 0
/-- TIM_NTP_HOLDOFF KOD_HOLDOFF (R144). -/
def TIM_NTP_HOLDOFF_KOD_HOLDOFF : Fld := Fld.mk 3 0x114 0 32 .b 8 [] false false none false 0
/-- TIM_NTP_FLOOR TS_FLOOR (R144). -/
def TIM_NTP_FLOOR_TS_FLOOR : Fld := Fld.mk 3 0x118 0 5 .b 4 [] false false none false 0
/-- TIM_NTP_COUNT COUNT (R144). -/
def TIM_NTP_COUNT_COUNT : Fld := Fld.mk 3 0x140 0 32 .c 0 [4] false false none false 0
/-- TIM_NTP_CLIENTS CLIENTS (R144). -/
def TIM_NTP_CLIENTS_CLIENTS : Fld := Fld.mk 3 0x168 0 32 .o 0 [] false false none true 0
/-- TIM_NTS_STATUS STATE (R144). -/
def TIM_NTS_STATUS_STATE : Fld := Fld.mk 3 0x180 30 2 .o 0 [0x10] false false none true 0
/-- TIM_NTS_STATUS WAIT_ISSUE (R144). -/
def TIM_NTS_STATUS_WAIT_ISSUE : Fld := Fld.mk 3 0x180 29 1 .o 0 [0x10] false false none true 0
/-- TIM_NTS_ID KEY_ID (R144). -/
def TIM_NTS_ID_KEY_ID : Fld := Fld.mk 3 0x184 0 32 .o 0 [0x10] false false none true 0
/-- TIM_NTS_KCV KCV (R144). -/
def TIM_NTS_KCV_KCV : Fld := Fld.mk 3 0x188 0 32 .o 0 [0x10] false false none true 0
/-- TIM_PTP_CFG EN (R144). -/
def TIM_PTP_CFG_EN : Fld := Fld.mk 3 0x400 31 1 .b 0 [0x100] false false none false 0
/-- TIM_PTP_CFG PROFILE (R144). -/
def TIM_PTP_CFG_PROFILE : Fld := Fld.mk 3 0x400 29 2 .b 0 [0x100] true false none false 0
/-- TIM_PTP_CFG TRANSPORT (R144). -/
def TIM_PTP_CFG_TRANSPORT : Fld := Fld.mk 3 0x400 28 1 .b 1 [0x100] true false none false 0
/-- TIM_PTP_CFG ONE_STEP (R144). -/
def TIM_PTP_CFG_ONE_STEP : Fld := Fld.mk 3 0x400 27 1 .b 0 [0x100] false false none false 0
/-- TIM_PTP_CFG SLAVE_ONLY (R144). -/
def TIM_PTP_CFG_SLAVE_ONLY : Fld := Fld.mk 3 0x400 26 1 .b 0 [0x100] false false none false 0
/-- TIM_PTP_CFG MASTER_ONLY (R144). -/
def TIM_PTP_CFG_MASTER_ONLY : Fld := Fld.mk 3 0x400 25 1 .b 0 [0x100] false false none false 0
/-- TIM_PTP_CFG AUTH_REQ (R144). -/
def TIM_PTP_CFG_AUTH_REQ : Fld := Fld.mk 3 0x400 24 1 .b 0 [0x100] false false none false 0
/-- TIM_PTP_CFG DOMAIN (R144). -/
def TIM_PTP_CFG_DOMAIN : Fld := Fld.mk 3 0x400 16 8 .b 0 [0x100] true false none false 0
/-- TIM_PTP_CFG PRIORITY1 (R144). -/
def TIM_PTP_CFG_PRIORITY1 : Fld := Fld.mk 3 0x400 8 8 .b 0x80 [0x100] false false none false 0
/-- TIM_PTP_CFG PRIORITY2 (R144). -/
def TIM_PTP_CFG_PRIORITY2 : Fld := Fld.mk 3 0x400 0 8 .b 0x80 [0x100] false false none false 0
/-- TIM_PTP_INTV LOG_ANNOUNCE (R144). -/
def TIM_PTP_INTV_LOG_ANNOUNCE : Fld := Fld.mk 3 0x404 28 4 .b 1 [0x100] false false none false 0
/-- TIM_PTP_INTV LOG_SYNC (R144). -/
def TIM_PTP_INTV_LOG_SYNC : Fld := Fld.mk 3 0x404 24 4 .b 0 [0x100] false false none false 0
/-- TIM_PTP_INTV LOG_DELAY_REQ (R144). -/
def TIM_PTP_INTV_LOG_DELAY_REQ : Fld := Fld.mk 3 0x404 20 4 .b 0 [0x100] false false none false 0
/-- TIM_PTP_INTV ANN_TIMEOUT (R144). -/
def TIM_PTP_INTV_ANN_TIMEOUT : Fld := Fld.mk 3 0x404 16 4 .b 3 [0x100] false false none false 0
/-- TIM_PTP_INTV HOP_ALLOW (R144). -/
def TIM_PTP_INTV_HOP_ALLOW : Fld := Fld.mk 3 0x404 0 16 .b 0x320 [0x100] false false none false 0
/-- TIM_PTP_STATUS PORT_STATE (R144). -/
def TIM_PTP_STATUS_PORT_STATE : Fld := Fld.mk 3 0x408 28 4 .o 3 [0x100] false false none false 0
/-- TIM_PTP_STATUS INSTANCE (R144). -/
def TIM_PTP_STATUS_INSTANCE : Fld := Fld.mk 3 0x408 26 2 .o 0 [0x100] false false none false 0
/-- TIM_PTP_STATUS BOUND_TLV_SEEN (R144). -/
def TIM_PTP_STATUS_BOUND_TLV_SEEN : Fld := Fld.mk 3 0x408 25 1 .o 0 [0x100] false false none false 0
/-- TIM_PTP_STATUS CFG_CONFLICT (R144). -/
def TIM_PTP_STATUS_CFG_CONFLICT : Fld := Fld.mk 3 0x408 24 1 .o 0 [0x100] false false none false 0
/-- TIM_PTP_STATUS MASTER_CLASS (R144). -/
def TIM_PTP_STATUS_MASTER_CLASS : Fld := Fld.mk 3 0x408 16 8 .o 0xff [0x100] false false none false 0
/-- TIM_PTP_STATUS MASTER_ACCURACY (R144). -/
def TIM_PTP_STATUS_MASTER_ACCURACY : Fld := Fld.mk 3 0x408 8 8 .o 0xfe [0x100] false false none false 0
/-- TIM_PTP_STATUS STEPS_REMOVED (R144). -/
def TIM_PTP_STATUS_STEPS_REMOVED : Fld := Fld.mk 3 0x408 0 8 .o 0 [0x100] false false none false 0
/-- TIM_PTP_STICKY MGMT_DISCARD_SEEN (R144). -/
def TIM_PTP_STICKY_MGMT_DISCARD_SEEN : Fld := Fld.mk 3 0x40c 4 1 .c 0 [0x100] false false none false 0
/-- TIM_PTP_STICKY PDELAY_SEEN (R144). -/
def TIM_PTP_STICKY_PDELAY_SEEN : Fld := Fld.mk 3 0x40c 3 1 .c 0 [0x100] false false none false 0
/-- TIM_PTP_STICKY AUTH_FAIL_SEEN (R144). -/
def TIM_PTP_STICKY_AUTH_FAIL_SEEN : Fld := Fld.mk 3 0x40c 2 1 .c 0 [0x100] false false none false 0
/-- TIM_PTP_STICKY TIMEOUT_SEEN (R144). -/
def TIM_PTP_STICKY_TIMEOUT_SEEN : Fld := Fld.mk 3 0x40c 1 1 .c 0 [0x100] false false none false 0
/-- TIM_PTP_STICKY STATE_CHANGE_SEEN (R144). -/
def TIM_PTP_STICKY_STATE_CHANGE_SEEN : Fld := Fld.mk 3 0x40c 0 1 .c 0 [0x100] false false none false 0
/-- TIM_PTP_TX_CAL TX_CAL (R144). -/
def TIM_PTP_TX_CAL_TX_CAL : Fld := Fld.mk 3 0x410 0 32 .b 0 [0x100] false false none false 0
/-- TIM_PTP_RX_CAL RX_CAL (R144). -/
def TIM_PTP_RX_CAL_RX_CAL : Fld := Fld.mk 3 0x414 0 32 .b 0 [0x100] false false none false 0
/-- TIM_PTP_ASYM_CORR ASYM_CORR (R144). -/
def TIM_PTP_ASYM_CORR_ASYM_CORR : Fld := Fld.mk 3 0x418 0 32 .b 0 [0x100] false false none false 0
/-- TIM_PTP_ASYM_ALLOW ASYM_ALLOW (R144). -/
def TIM_PTP_ASYM_ALLOW_ASYM_ALLOW : Fld := Fld.mk 3 0x41c 0 32 .b 0x640 [0x100] false false none false 0
/-- TIM_PTP_INT_LAT TX (R144). -/
def TIM_PTP_INT_LAT_TX : Fld := Fld.mk 3 0x420 16 16 .o 0 [0x100] false false none true 0
/-- TIM_PTP_INT_LAT RX (R144). -/
def TIM_PTP_INT_LAT_RX : Fld := Fld.mk 3 0x420 0 16 .o 0 [0x100] false false none true 0
/-- TIM_PTP_PATH_DELAY PATH_DELAY (R144). -/
def TIM_PTP_PATH_DELAY_PATH_DELAY : Fld := Fld.mk 3 0x424 0 32 .o 0 [0x100] false false none false 0
/-- TIM_PTP_OFFSET OFFSET (R144). -/
def TIM_PTP_OFFSET_OFFSET : Fld := Fld.mk 3 0x428 0 32 .o 0 [0x100] false false none false 0
/-- TIM_PTP_CAL CAL_DONE (R144). -/
def TIM_PTP_CAL_CAL_DONE : Fld := Fld.mk 3 0x42c 31 1 .b 0 [0x100] false false none false 0
/-- TIM_IRQ_STATUS PTP_PORT3 (R144). -/
def TIM_IRQ_STATUS_PTP_PORT3 : Fld := Fld.mk 3 0x800 15 1 .c 0 [] false false none false 0
/-- TIM_IRQ_STATUS PTP_PORT2 (R144). -/
def TIM_IRQ_STATUS_PTP_PORT2 : Fld := Fld.mk 3 0x800 14 1 .c 0 [] false false none false 0
/-- TIM_IRQ_STATUS PTP_PORT1 (R144). -/
def TIM_IRQ_STATUS_PTP_PORT1 : Fld := Fld.mk 3 0x800 13 1 .c 0 [] false false none false 0
/-- TIM_IRQ_STATUS PTP_PORT0 (R144). -/
def TIM_IRQ_STATUS_PTP_PORT0 : Fld := Fld.mk 3 0x800 12 1 .c 0 [] false false none false 0
/-- TIM_IRQ_STATUS OVERLOAD (R144). -/
def TIM_IRQ_STATUS_OVERLOAD : Fld := Fld.mk 3 0x800 11 1 .c 0 [] false false none false 0
/-- TIM_IRQ_STATUS CAP_LOST (R144). -/
def TIM_IRQ_STATUS_CAP_LOST : Fld := Fld.mk 3 0x800 10 1 .c 0 [] false false none false 0
/-- TIM_IRQ_STATUS NO_ISSUE_KEY (R144). -/
def TIM_IRQ_STATUS_NO_ISSUE_KEY : Fld := Fld.mk 3 0x800 9 1 .c 0 [] false false none false 0
/-- TIM_IRQ_STATUS NTS_KEY_EXPIRED (R144). -/
def TIM_IRQ_STATUS_NTS_KEY_EXPIRED : Fld := Fld.mk 3 0x800 8 1 .c 0 [] false false none false 0
/-- TIM_IRQ_STATUS NTS_KEY_ROTATED (R144). -/
def TIM_IRQ_STATUS_NTS_KEY_ROTATED : Fld := Fld.mk 3 0x800 7 1 .c 0 [] false false none false 0
/-- TIM_IRQ_STATUS ROLE_CHANGE (R144). -/
def TIM_IRQ_STATUS_ROLE_CHANGE : Fld := Fld.mk 3 0x800 6 1 .c 0 [] false false none false 0
/-- TIM_IRQ_STATUS BOUND_SAT_CHANGE (R144). -/
def TIM_IRQ_STATUS_BOUND_SAT_CHANGE : Fld := Fld.mk 3 0x800 5 1 .c 0 [] false false none false 0
/-- TIM_IRQ_STATUS OFFSET_CHANGE (R144). -/
def TIM_IRQ_STATUS_OFFSET_CHANGE : Fld := Fld.mk 3 0x800 4 1 .c 0 [] false false none false 0
/-- TIM_IRQ_STATUS LEAP_REFUSED (R144). -/
def TIM_IRQ_STATUS_LEAP_REFUSED : Fld := Fld.mk 3 0x800 3 1 .c 0 [] false false none false 0
/-- TIM_IRQ_STATUS LEAP_ARMED (R144). -/
def TIM_IRQ_STATUS_LEAP_ARMED : Fld := Fld.mk 3 0x800 2 1 .c 0 [] false false none false 0
/-- TIM_IRQ_STATUS LEAP_DONE (R144). -/
def TIM_IRQ_STATUS_LEAP_DONE : Fld := Fld.mk 3 0x800 1 1 .c 0 [] false false none false 0
/-- TIM_IRQ_STATUS LEAP_CANCELLED (R144). -/
def TIM_IRQ_STATUS_LEAP_CANCELLED : Fld := Fld.mk 3 0x800 0 1 .c 0 [] false false none false 0
/-- TIM_IRQ_ENABLE ENABLE (R144). -/
def TIM_IRQ_ENABLE_ENABLE : Fld := Fld.mk 3 0x804 0 16 .i 0 [] false false none false 0
/-- ALM_CFG GUARD_MS (R161). -/
def ALM_CFG_GUARD_MS : Fld := Fld.mk 4 0 16 16 .i 2 [] false false none false 0
/-- ALM_CFG DEFAULT_LEAD_MS (R161). -/
def ALM_CFG_DEFAULT_LEAD_MS : Fld := Fld.mk 4 0 0 16 .i 0x3e8 [] false false none false 0
/-- ALM_STATUS USED (R161). -/
def ALM_STATUS_USED : Fld := Fld.mk 4 4 19 13 .o 0 [] false false none true 0
/-- ALM_STATUS COPIES (R161). -/
def ALM_STATUS_COPIES : Fld := Fld.mk 4 4 6 13 .o 0 [] false false none true 0
/-- ALM_JOURNAL_LOAD LOAD (R161). -/
def ALM_JOURNAL_LOAD_LOAD : Fld := Fld.mk 4 8 0 32 .o 0 [] false false none true 0
/-- ALM_NEXT_SEC_LO SEC_LO (R161). -/
def ALM_NEXT_SEC_LO_SEC_LO : Fld := Fld.mk 4 0x10 0 32 .o 0 [] false false none true 0
/-- ALM_NEXT_SEC_HI SEC_HI (R161). -/
def ALM_NEXT_SEC_HI_SEC_HI : Fld := Fld.mk 4 0x14 0 16 .o 0 [] false false none false 0
/-- ALM_NEXT_NS NS (R161). -/
def ALM_NEXT_NS_NS : Fld := Fld.mk 4 0x18 0 32 .o 0 [] false false none false 0
/-- ALM_NEXT_ROW ROW (R161). -/
def ALM_NEXT_ROW_ROW : Fld := Fld.mk 4 0x1c 0 32 .o 0xffffffff [] false false none false 0
/-- ALM_ENT_ROW ROW (R161). -/
def ALM_ENT_ROW_ROW : Fld := Fld.mk 4 0x100 0 12 .i 0 [] false false none false 0
/-- ALM_ENT_CMD OP (R161). -/
def ALM_ENT_CMD_OP : Fld := Fld.mk 4 0x104 0 4 .w 0 [] false false none false 0
/-- ALM_ENT_RESULT BUSY (R161). -/
def ALM_ENT_RESULT_BUSY : Fld := Fld.mk 4 0x108 31 1 .o 0 [] false false none false 0
/-- ALM_ENT_RESULT STATUS (R161). -/
def ALM_ENT_RESULT_STATUS : Fld := Fld.mk 4 0x108 0 8 .o 0 [] false false none false 0
/-- ALM_ENT_DATA DATA (R161). -/
def ALM_ENT_DATA_DATA : Fld := Fld.mk 4 0x180 0 32 .i 0 [4] false false none false 0
/-- ALM_COUNT COUNT (R161). -/
def ALM_COUNT_COUNT : Fld := Fld.mk 4 0x200 0 32 .c 0 [4] false false none false 0
/-- ALM_IRQ_STATUS RETRACT_UNACKED (R161). -/
def ALM_IRQ_STATUS_RETRACT_UNACKED : Fld := Fld.mk 4 0x300 5 1 .c 0 [] false false none false 0
/-- ALM_IRQ_STATUS PEER_REFUSED (R161). -/
def ALM_IRQ_STATUS_PEER_REFUSED : Fld := Fld.mk 4 0x300 4 1 .c 0 [] false false none false 0
/-- ALM_IRQ_STATUS BUDGET (R161). -/
def ALM_IRQ_STATUS_BUDGET : Fld := Fld.mk 4 0x300 3 1 .c 0 [] false false none false 0
/-- ALM_IRQ_STATUS UNCONFIRMED (R161). -/
def ALM_IRQ_STATUS_UNCONFIRMED : Fld := Fld.mk 4 0x300 2 1 .c 0 [] false false none false 0
/-- ALM_IRQ_STATUS SKIPPED (R161). -/
def ALM_IRQ_STATUS_SKIPPED : Fld := Fld.mk 4 0x300 1 1 .c 0 [] false false none false 0
/-- ALM_IRQ_STATUS FAILED (R161). -/
def ALM_IRQ_STATUS_FAILED : Fld := Fld.mk 4 0x300 0 1 .c 0 [] false false none false 0
/-- ALM_IRQ_ENABLE ENABLE (R161). -/
def ALM_IRQ_ENABLE_ENABLE : Fld := Fld.mk 4 0x304 0 6 .i 0 [] false false none false 0
/-- NET_BYPASS_CTL FORCE_A (R186). -/
def NET_BYPASS_CTL_FORCE_A : Fld := Fld.mk 5 0 31 1 .b 0 [] false true (some 3) false 0
/-- NET_BYPASS_CTL FORCE_B (R186). -/
def NET_BYPASS_CTL_FORCE_B : Fld := Fld.mk 5 0 30 1 .b 0 [] false true (some 3) false 0
/-- NET_BYPASS_CTL SETTLE_MS (R186). -/
def NET_BYPASS_CTL_SETTLE_MS : Fld := Fld.mk 5 0 0 16 .b 0xa [] false true none false 0
/-- NET_BYPASS_STATUS A_ENERGISED (R186). -/
def NET_BYPASS_STATUS_A_ENERGISED : Fld := Fld.mk 5 4 31 1 .o 0 [] false false none false 0
/-- NET_BYPASS_STATUS B_ENERGISED (R186). -/
def NET_BYPASS_STATUS_B_ENERGISED : Fld := Fld.mk 5 4 30 1 .o 0 [] false false none false 0
/-- NET_BYPASS_STATUS A_SETTLING (R186). -/
def NET_BYPASS_STATUS_A_SETTLING : Fld := Fld.mk 5 4 29 1 .o 0 [] false false none false 0
/-- NET_BYPASS_STATUS B_SETTLING (R186). -/
def NET_BYPASS_STATUS_B_SETTLING : Fld := Fld.mk 5 4 28 1 .o 0 [] false false none false 0
/-- MGT_CFG EN (R186). -/
def MGT_CFG_EN : Fld := Fld.mk 5 0x4000 31 1 .b 1 [] false false none false 0
/-- MGT_CFG RGMII_ID (R186). -/
def MGT_CFG_RGMII_ID : Fld := Fld.mk 5 0x4000 30 1 .b 0 [] true false none false 0
/-- MGT_CFG PHY_ADDR (R186). -/
def MGT_CFG_PHY_ADDR : Fld := Fld.mk 5 0x4000 25 5 .b 0 [] false false none false 0
/-- MGT_CFG PHY_POLL_EN (R186). -/
def MGT_CFG_PHY_POLL_EN : Fld := Fld.mk 5 0x4000 24 1 .b 1 [] false false none false 0
/-- MGT_CFG MAX_FRAME (R186). -/
def MGT_CFG_MAX_FRAME : Fld := Fld.mk 5 0x4000 0 14 .b 0x5f2 [] false false none false 0
/-- MGT_STATUS LINK (R186). -/
def MGT_STATUS_LINK : Fld := Fld.mk 5 0x4004 31 1 .o 0 [] false false none false 0
/-- MGT_MDIO_CMD GO (R186). -/
def MGT_MDIO_CMD_GO : Fld := Fld.mk 5 0x4008 31 1 .i 0 [] false false none false 0
/-- MGT_MDIO_CMD CLAUSE45 (R186). -/
def MGT_MDIO_CMD_CLAUSE45 : Fld := Fld.mk 5 0x4008 30 1 .i 0 [] false false none false 0
/-- MGT_MDIO_CMD OP (R186). -/
def MGT_MDIO_CMD_OP : Fld := Fld.mk 5 0x4008 28 2 .i 0 [] false false none false 0
/-- MGT_MDIO_CMD PHYAD (R186). -/
def MGT_MDIO_CMD_PHYAD : Fld := Fld.mk 5 0x4008 23 5 .i 0 [] false false none false 0
/-- MGT_MDIO_CMD REGAD (R186). -/
def MGT_MDIO_CMD_REGAD : Fld := Fld.mk 5 0x4008 18 5 .i 0 [] false false none false 0
/-- MGT_MDIO_DATA DATA (R186). -/
def MGT_MDIO_DATA_DATA : Fld := Fld.mk 5 0x400c 0 16 .i 0 [] false false none false 0
/-- MGT_STATION_LO LO (R186). -/
def MGT_STATION_LO_LO : Fld := Fld.mk 5 0x4010 0 32 .b 0 [] false false none false 0
/-- MGT_STATION_HI HI (R186). -/
def MGT_STATION_HI_HI : Fld := Fld.mk 5 0x4014 0 16 .b 0 [] false false none false 0
/-- MGT_RXQ0_CFG EN (R186). -/
def MGT_RXQ0_CFG_EN : Fld := Fld.mk 5 0x4018 31 1 .b 1 [] false false none false 0
/-- MGT_RXQ0_CFG DEST (R186). -/
def MGT_RXQ0_CFG_DEST : Fld := Fld.mk 5 0x4018 30 1 .b 1 [] false false none false 0
/-- MGT_RXQ0_CFG BUFS (R186). -/
def MGT_RXQ0_CFG_BUFS : Fld := Fld.mk 5 0x4018 0 11 .b 0x40 [] true false none false 0
/-- MGT_RXQ0_FREE FREE (R186). -/
def MGT_RXQ0_FREE_FREE : Fld := Fld.mk 5 0x401c 0 11 .o 0x40 [] false false none true 0
/-- MGT_BUF_SEL SEL (R186). -/
def MGT_BUF_SEL_SEL : Fld := Fld.mk 5 0x4020 0 11 .i 0 [] false false none false 0
/-- MGT_BUF_NEXT NEXT (R186). -/
def MGT_BUF_NEXT_NEXT : Fld := Fld.mk 5 0x4024 0 32 .o 0xffff [] false false none true 0
/-- MGT_RX_RETURN RETURN (R186). -/
def MGT_RX_RETURN_RETURN : Fld := Fld.mk 5 0x4028 0 32 .w 0 [] false false none false 0
/-- MGT_TX_ALLOC ALLOC (R186). -/
def MGT_TX_ALLOC_ALLOC : Fld := Fld.mk 5 0x402c 0 32 .o 0 [] false false none true 0
/-- MGT_TX_POST CLASS (R186). -/
def MGT_TX_POST_CLASS : Fld := Fld.mk 5 0x4030 29 3 .w 0 [] false false none false 0
/-- MGT_TX_POST BUFFER (R186). -/
def MGT_TX_POST_BUFFER : Fld := Fld.mk 5 0x4030 18 11 .w 0 [] false false none false 0
/-- MGT_TX_POST LENGTH (R186). -/
def MGT_TX_POST_LENGTH : Fld := Fld.mk 5 0x4030 0 11 .w 0 [] false false none false 0
/-- MGT_TX_RESULT PENDING (R186). -/
def MGT_TX_RESULT_PENDING : Fld := Fld.mk 5 0x4034 16 10 .o 0 [] false false none true 0
/-- MGT_TX_RESULT STATUS (R186). -/
def MGT_TX_RESULT_STATUS : Fld := Fld.mk 5 0x4034 0 8 .o 0 [] false false none false 0
/-- MGT_COUNT COUNT (R186). -/
def MGT_COUNT_COUNT : Fld := Fld.mk 5 0x4100 0 32 .c 0 [4] false false none false 0
/-- NET_CFG EN (R186). -/
def NET_CFG_EN : Fld := Fld.mk 5 0x400 31 1 .b 0 [0x4000] false false none false 0
/-- NET_CFG SPEED (R186). -/
def NET_CFG_SPEED : Fld := Fld.mk 5 0x400 29 2 .b 0 [0x4000] true false none false 0
/-- NET_CFG AN_EN (R186). -/
def NET_CFG_AN_EN : Fld := Fld.mk 5 0x400 28 1 .b 1 [0x4000] false false none false 0
/-- NET_CFG PAUSE_RX_EN (R186). -/
def NET_CFG_PAUSE_RX_EN : Fld := Fld.mk 5 0x400 27 1 .b 1 [0x4000] false false none false 0
/-- NET_CFG ESMC_TX_EN (R186). -/
def NET_CFG_ESMC_TX_EN : Fld := Fld.mk 5 0x400 26 1 .b 0 [0x4000] false false none false 0
/-- NET_CFG MAX_FRAME (R186). -/
def NET_CFG_MAX_FRAME : Fld := Fld.mk 5 0x400 0 14 .b 0x5f2 [0x4000] false false none false 0
/-- NET_STATUS LINK (R186). -/
def NET_STATUS_LINK : Fld := Fld.mk 5 0x404 31 1 .o 0 [0x4000] false false none false 0
/-- NET_STATUS SPEED_ACTIVE (R186). -/
def NET_STATUS_SPEED_ACTIVE : Fld := Fld.mk 5 0x404 29 2 .o 0 [0x4000] false false none false 0
/-- NET_STATUS AN_DONE (R186). -/
def NET_STATUS_AN_DONE : Fld := Fld.mk 5 0x404 28 1 .o 0 [0x4000] false false none false 0
/-- NET_STATUS PCS_LOCK (R186). -/
def NET_STATUS_PCS_LOCK : Fld := Fld.mk 5 0x404 27 1 .o 0 [0x4000] false false none false 0
/-- NET_STATUS PAUSED (R186). -/
def NET_STATUS_PAUSED : Fld := Fld.mk 5 0x404 26 1 .o 0 [0x4000] false false none false 0
/-- NET_STATUS IN_SERVICE (R186). -/
def NET_STATUS_IN_SERVICE : Fld := Fld.mk 5 0x404 25 1 .o 0 [0x4000] false false none true 0
/-- NET_STATUS SELF_TEST (R186). -/
def NET_STATUS_SELF_TEST : Fld := Fld.mk 5 0x404 24 1 .o 0 [0x4000] false false none false 0
/-- NET_STATUS MODULE_MISMATCH (R186). -/
def NET_STATUS_MODULE_MISMATCH : Fld := Fld.mk 5 0x404 23 1 .o 0 [0x4000] false false none true 0
/-- NET_STICKY LATE_DROP_SEEN (R186). -/
def NET_STICKY_LATE_DROP_SEEN : Fld := Fld.mk 5 0x408 6 1 .c 0 [0x4000] false false none false 0
/-- NET_STICKY NOBUF_SEEN (R186). -/
def NET_STICKY_NOBUF_SEEN : Fld := Fld.mk 5 0x408 5 1 .c 0 [0x4000] false false none false 0
/-- NET_STICKY TRUNC_SEEN (R186). -/
def NET_STICKY_TRUNC_SEEN : Fld := Fld.mk 5 0x408 4 1 .c 0 [0x4000] false false none false 0
/-- NET_STICKY WAKE_SEEN (R186). -/
def NET_STICKY_WAKE_SEEN : Fld := Fld.mk 5 0x408 3 1 .c 0 [0x4000] false false none false 0
/-- NET_STICKY PAUSE_SEEN (R186). -/
def NET_STICKY_PAUSE_SEEN : Fld := Fld.mk 5 0x408 2 1 .c 0 [0x4000] false false none false 0
/-- NET_STICKY PCS_ERR_SEEN (R186). -/
def NET_STICKY_PCS_ERR_SEEN : Fld := Fld.mk 5 0x408 1 1 .c 0 [0x4000] false false none false 0
/-- NET_STICKY LINK_CHANGE_SEEN (R186). -/
def NET_STICKY_LINK_CHANGE_SEEN : Fld := Fld.mk 5 0x408 0 1 .c 0 [0x4000] false false none false 0
/-- NET_IRQ_EN ENABLE (R186). -/
def NET_IRQ_EN_ENABLE : Fld := Fld.mk 5 0x40c 0 7 .i 0 [0x4000] false false none false 0
/-- NET_STATION_LO LO (R186). -/
def NET_STATION_LO_LO : Fld := Fld.mk 5 0x410 0 32 .b 0 [0x4000] false false none false 0
/-- NET_STATION_HI HI (R186). -/
def NET_STATION_HI_HI : Fld := Fld.mk 5 0x414 0 16 .b 0 [0x4000] false false none false 0
/-- NET_SERVICE_LO LO (R186). -/
def NET_SERVICE_LO_LO : Fld := Fld.mk 5 0x418 0 32 .b 0 [0x4000] false false none false 0
/-- NET_SERVICE_HI HI (R186). -/
def NET_SERVICE_HI_HI : Fld := Fld.mk 5 0x41c 0 16 .b 0 [0x4000] false false none false 0
/-- NET_VLAN SVC_PCP (R186). -/
def NET_VLAN_SVC_PCP : Fld := Fld.mk 5 0x420 29 3 .b 0 [0x4000] false false none false 0
/-- NET_VLAN SVC_VID (R186). -/
def NET_VLAN_SVC_VID : Fld := Fld.mk 5 0x420 16 12 .b 0 [0x4000] false false none false 0
/-- NET_VLAN PVID (R186). -/
def NET_VLAN_PVID : Fld := Fld.mk 5 0x420 0 12 .b 1 [0x4000] false false none false 0
/-- NET_LATE_TOL LATE_TOL (R186). -/
def NET_LATE_TOL_LATE_TOL : Fld := Fld.mk 5 0x424 0 32 .b 0xc350 [0x4000] false false none false 0
/-- NET_DEFAULT_Q QUEUE (R186). -/
def NET_DEFAULT_Q_QUEUE : Fld := Fld.mk 5 0x428 0 4 .b 0 [0x4000] false false none false 0
/-- NET_PAUSE_LEFT LEFT (R186). -/
def NET_PAUSE_LEFT_LEFT : Fld := Fld.mk 5 0x42c 0 32 .o 0 [0x4000] false false none true 0
/-- NET_RXQ_CFG EN (R186). -/
def NET_RXQ_CFG_EN : Fld := Fld.mk 5 0x500 31 1 .b 0 [0x4000, 4] false false none false 0
/-- NET_RXQ_CFG DEST (R186). -/
def NET_RXQ_CFG_DEST : Fld := Fld.mk 5 0x500 30 1 .b 1 [0x4000, 4] false false none false 0
/-- NET_RXQ_CFG BUFS (R186). -/
def NET_RXQ_CFG_BUFS : Fld := Fld.mk 5 0x500 0 11 .b 0 [0x4000, 4] true false none false 0
/-- NET_RXQ_FREE FREE (R186). -/
def NET_RXQ_FREE_FREE : Fld := Fld.mk 5 0x540 0 11 .o 0 [0x4000, 4] false false none true 0
/-- NET_FLT_A EN (R186). -/
def NET_FLT_A_EN : Fld := Fld.mk 5 0x600 31 1 .b 0 [0x4000, 8] false false none false 0
/-- NET_FLT_A MATCH_UNTAGGED (R186). -/
def NET_FLT_A_MATCH_UNTAGGED : Fld := Fld.mk 5 0x600 30 1 .b 0 [0x4000, 8] false false none false 0
/-- NET_FLT_A VID_ANY (R186). -/
def NET_FLT_A_VID_ANY : Fld := Fld.mk 5 0x600 29 1 .b 0 [0x4000, 8] false false none false 0
/-- NET_FLT_A PCP_MASK (R186). -/
def NET_FLT_A_PCP_MASK : Fld := Fld.mk 5 0x600 16 8 .b 0xff [0x4000, 8] false false none false 0
/-- NET_FLT_A VID (R186). -/
def NET_FLT_A_VID : Fld := Fld.mk 5 0x600 0 12 .b 0 [0x4000, 8] false false none false 0
/-- NET_FLT_B DROP (R186). -/
def NET_FLT_B_DROP : Fld := Fld.mk 5 0x604 31 1 .b 0 [0x4000, 8] false false none false 0
/-- NET_FLT_B QUEUE (R186). -/
def NET_FLT_B_QUEUE : Fld := Fld.mk 5 0x604 16 4 .b 0 [0x4000, 8] false false none false 0
/-- NET_FLT_B ETYPE (R186). -/
def NET_FLT_B_ETYPE : Fld := Fld.mk 5 0x604 0 16 .b 0 [0x4000, 8] false false none false 0
/-- NET_WAKE_CTL EN (R186). -/
def NET_WAKE_CTL_EN : Fld := Fld.mk 5 0x800 31 1 .b 0 [0x4000, 0x100] false false none false 0
/-- NET_WAKE_CTL ACTION (R186). -/
def NET_WAKE_CTL_ACTION : Fld := Fld.mk 5 0x800 30 1 .b 0 [0x4000, 0x100] false false none false 0
/-- NET_WAKE_CTL CHECK (R186). -/
def NET_WAKE_CTL_CHECK : Fld := Fld.mk 5 0x800 0 16 .b 0 [0x4000, 0x100] false false none false 0
/-- NET_WAKE_MASK MASK (R186). -/
def NET_WAKE_MASK_MASK : Fld := Fld.mk 5 0x880 0 32 .b 0 [0x4000, 0x100, 4] false false none false 0
/-- NET_COUNT COUNT (R186). -/
def NET_COUNT_COUNT : Fld := Fld.mk 5 0x1000 0 32 .c 0 [0x4000, 4] false false none false 0
/-- NET_BUF_SEL SEL (R186). -/
def NET_BUF_SEL_SEL : Fld := Fld.mk 5 0x1100 0 11 .i 0 [0x4000] false false none false 0
/-- NET_BUF_NEXT NEXT (R186). -/
def NET_BUF_NEXT_NEXT : Fld := Fld.mk 5 0x1104 0 32 .o 0xffff [0x4000] false false none true 0
/-- NET_RX_RETURN RETURN (R186). -/
def NET_RX_RETURN_RETURN : Fld := Fld.mk 5 0x1108 0 32 .w 0 [0x4000] false false none false 0
/-- NET_TX_ALLOC ALLOC (R186). -/
def NET_TX_ALLOC_ALLOC : Fld := Fld.mk 5 0x110c 0 32 .o 0 [0x4000] false false none true 0
/-- NET_TX_POST CLASS (R186). -/
def NET_TX_POST_CLASS : Fld := Fld.mk 5 0x1110 29 3 .w 0 [0x4000] false false none false 0
/-- NET_TX_POST BUFFER (R186). -/
def NET_TX_POST_BUFFER : Fld := Fld.mk 5 0x1110 18 11 .w 0 [0x4000] false false none false 0
/-- NET_TX_POST LENGTH (R186). -/
def NET_TX_POST_LENGTH : Fld := Fld.mk 5 0x1110 0 11 .w 0 [0x4000] false false none false 0
/-- NET_TX_RESULT PENDING (R186). -/
def NET_TX_RESULT_PENDING : Fld := Fld.mk 5 0x1114 16 10 .o 0 [0x4000] false false none true 0
/-- NET_TX_RESULT STATUS (R186). -/
def NET_TX_RESULT_STATUS : Fld := Fld.mk 5 0x1114 0 8 .o 0 [0x4000] false false none false 0
/-- NET_DATA DATA (R186). -/
def NET_DATA_DATA : Fld := Fld.mk 5 0x2000 0 32 .i 0 [0x4000, 4] false false none true 0
/-- MGT_DATA DATA (R186). -/
def MGT_DATA_DATA : Fld := Fld.mk 5 0x6800 0 32 .i 0 [4] false false none true 0
/-- STR_STATUS RUNNING (R210). -/
def STR_STATUS_RUNNING : Fld := Fld.mk 6 0 23 9 .o 0 [] false false none true 0
/-- STR_STATUS RX_PAIRED (R210). -/
def STR_STATUS_RX_PAIRED : Fld := Fld.mk 6 0 15 8 .o 0 [] false false none true 0
/-- STR_STATUS TX_PAIRED (R210). -/
def STR_STATUS_TX_PAIRED : Fld := Fld.mk 6 0 7 8 .o 0 [] false false none true 0
/-- STR_CH_USE RX (R210). -/
def STR_CH_USE_RX : Fld := Fld.mk 6 4 16 11 .o 0 [] false false none true 0
/-- STR_CH_USE TX (R210). -/
def STR_CH_USE_TX : Fld := Fld.mk 6 4 0 11 .o 0 [] false false none true 0
/-- STR_PKT_RATE RX (R210). -/
def STR_PKT_RATE_RX : Fld := Fld.mk 6 8 16 16 .o 0 [] false false none true 0
/-- STR_PKT_RATE TX (R210). -/
def STR_PKT_RATE_TX : Fld := Fld.mk 6 8 0 16 .o 0 [] false false none true 0
/-- STR_SLICE LOST (R210). -/
def STR_SLICE_LOST : Fld := Fld.mk 6 0xc 9 9 .o 0 [] false false none true 0
/-- STR_SLICE IN_SERVICE (R210). -/
def STR_SLICE_IN_SERVICE : Fld := Fld.mk 6 0xc 0 9 .o 0 [] false false none true 0
/-- STR_LOST_MAP MAP (R210). -/
def STR_LOST_MAP_MAP : Fld := Fld.mk 6 0x20 0 32 .o 0 [4] false false none true 0
/-- STR_DEGRADED_MAP MAP (R210). -/
def STR_DEGRADED_MAP_MAP : Fld := Fld.mk 6 0x40 0 32 .o 0 [4] false false none true 0
/-- STR_CTX_SEL SEL (R210). -/
def STR_CTX_SEL_SEL : Fld := Fld.mk 6 0x100 0 8 .i 0 [] false false none false 0
/-- STR_CTX_RESULT RESULT (R210). -/
def STR_CTX_RESULT_RESULT : Fld := Fld.mk 6 0x104 0 8 .o 0 [] false false none false 0
/-- STR_CTX_CFG EN (R210). -/
def STR_CTX_CFG_EN : Fld := Fld.mk 6 0x200 31 1 .b 0 [] false false none false 0
/-- STR_CTX_CFG DIR (R210). -/
def STR_CTX_CFG_DIR : Fld := Fld.mk 6 0x200 30 1 .b 0 [] true false none false 0
/-- STR_CTX_CFG FORMAT (R210). -/
def STR_CTX_CFG_FORMAT : Fld := Fld.mk 6 0x200 28 2 .b 1 [] true false none false 0
/-- STR_CTX_CFG PTIME (R210). -/
def STR_CTX_CFG_PTIME : Fld := Fld.mk 6 0x200 25 3 .b 3 [] true false none false 0
/-- STR_CTX_CFG PAIRED (R210). -/
def STR_CTX_CFG_PAIRED : Fld := Fld.mk 6 0x200 24 1 .b 0 [] true false none false 0
/-- STR_CTX_CFG CLASS_S (R210). -/
def STR_CTX_CFG_CLASS_S : Fld := Fld.mk 6 0x200 23 1 .b 0 [] false true none false 0
/-- STR_CTX_CFG IPV6 (R210). -/
def STR_CTX_CFG_IPV6 : Fld := Fld.mk 6 0x200 22 1 .b 0 [] true false none false 0
/-- STR_CTX_CFG SRC_FLT_EN (R210). -/
def STR_CTX_CFG_SRC_FLT_EN : Fld := Fld.mk 6 0x200 21 1 .b 0 [] false false none false 0
/-- STR_CTX_CFG SSRC_FLT_EN (R210). -/
def STR_CTX_CFG_SSRC_FLT_EN : Fld := Fld.mk 6 0x200 20 1 .b 0 [] false false none false 0
/-- STR_CTX_CFG CHANNELS (R210). -/
def STR_CTX_CFG_CHANNELS : Fld := Fld.mk 6 0x200 0 7 .b 0 [] true false none false 0
/-- STR_CTX_MAP LINK_OFFSET (R210). -/
def STR_CTX_MAP_LINK_OFFSET : Fld := Fld.mk 6 0x204 16 16 .b 0x30 [] true false none false 0
/-- STR_CTX_MAP CHAN_BASE (R210). -/
def STR_CTX_MAP_CHAN_BASE : Fld := Fld.mk 6 0x204 0 11 .b 0 [] true false none false 0
/-- STR_CTX_NET PORT_A (R210). -/
def STR_CTX_NET_PORT_A : Fld := Fld.mk 6 0x208 30 2 .b 0 [] true false none false 0
/-- STR_CTX_NET PORT_B (R210). -/
def STR_CTX_NET_PORT_B : Fld := Fld.mk 6 0x208 28 2 .b 2 [] true false none false 0
/-- STR_CTX_NET PT (R210). -/
def STR_CTX_NET_PT : Fld := Fld.mk 6 0x208 21 7 .b 0x61 [] false false none false 0
/-- STR_CTX_NET DSCP (R210). -/
def STR_CTX_NET_DSCP : Fld := Fld.mk 6 0x208 15 6 .b 0x22 [] false false none false 0
/-- STR_CTX_NET TTL (R210). -/
def STR_CTX_NET_TTL : Fld := Fld.mk 6 0x208 0 8 .b 0x40 [] false false none false 0
/-- STR_CTX_VLAN PCP (R210). -/
def STR_CTX_VLAN_PCP : Fld := Fld.mk 6 0x20c 29 3 .b 0 [] false false none false 0
/-- STR_CTX_VLAN VID_B (R210). -/
def STR_CTX_VLAN_VID_B : Fld := Fld.mk 6 0x20c 12 12 .b 0 [] false false none false 0
/-- STR_CTX_VLAN VID_A (R210). -/
def STR_CTX_VLAN_VID_A : Fld := Fld.mk 6 0x20c 0 12 .b 0 [] false false none false 0
/-- STR_CTX_UDP UDP_B (R210). -/
def STR_CTX_UDP_UDP_B : Fld := Fld.mk 6 0x210 16 16 .b 0x138c [] false false none false 0
/-- STR_CTX_UDP UDP_A (R210). -/
def STR_CTX_UDP_UDP_A : Fld := Fld.mk 6 0x210 0 16 .b 0x138c [] false false none false 0
/-- STR_CTX_SPORT SPORT (R210). -/
def STR_CTX_SPORT_SPORT : Fld := Fld.mk 6 0x214 0 16 .b 0x138c [] false false none false 0
/-- STR_CTX_RTP_OFFSET RTP_OFFSET (R210). -/
def STR_CTX_RTP_OFFSET_RTP_OFFSET : Fld := Fld.mk 6 0x218 0 32 .b 0 [] true false none false 0
/-- STR_CTX_SSRC SSRC (R210). -/
def STR_CTX_SSRC_SSRC : Fld := Fld.mk 6 0x21c 0 32 .b 0x4f560000 [] true false none false 0
/-- STR_CTX_SEQ TIMEOUT_MS (R210). -/
def STR_CTX_SEQ_TIMEOUT_MS : Fld := Fld.mk 6 0x220 16 16 .b 0x64 [] false false none false 0
/-- STR_CTX_SEQ SEQ_BASE (R210). -/
def STR_CTX_SEQ_SEQ_BASE : Fld := Fld.mk 6 0x220 0 16 .b 0 [] true false none false 0
/-- STR_CTX_DST_A ADDR (R210). -/
def STR_CTX_DST_A_ADDR : Fld := Fld.mk 6 0x230 0 32 .b 0 [4] false false none false 0
/-- STR_CTX_DST_B ADDR (R210). -/
def STR_CTX_DST_B_ADDR : Fld := Fld.mk 6 0x240 0 32 .b 0 [4] false false none false 0
/-- STR_CTX_SRC_A ADDR (R210). -/
def STR_CTX_SRC_A_ADDR : Fld := Fld.mk 6 0x250 0 32 .b 0 [4] false false none false 0
/-- STR_CTX_SRC_B ADDR (R210). -/
def STR_CTX_SRC_B_ADDR : Fld := Fld.mk 6 0x260 0 32 .b 0 [4] false false none false 0
/-- STR_CTX_STATUS STATE (R210). -/
def STR_CTX_STATUS_STATE : Fld := Fld.mk 6 0x300 29 3 .o 0 [] false false none false 0
/-- STR_CTX_STATUS COPY_A_OK (R210). -/
def STR_CTX_STATUS_COPY_A_OK : Fld := Fld.mk 6 0x300 28 1 .o 0 [] false false none false 0
/-- STR_CTX_STATUS COPY_B_OK (R210). -/
def STR_CTX_STATUS_COPY_B_OK : Fld := Fld.mk 6 0x300 27 1 .o 0 [] false false none false 0
/-- STR_CTX_STATUS DEGRADED (R210). -/
def STR_CTX_STATUS_DEGRADED : Fld := Fld.mk 6 0x300 26 1 .o 0 [] false false none false 0
/-- STR_CTX_STATUS CONCEALING (R210). -/
def STR_CTX_STATUS_CONCEALING : Fld := Fld.mk 6 0x300 25 1 .o 0 [] false false none true 0
/-- STR_CTX_STATUS ON_SPARE (R210). -/
def STR_CTX_STATUS_ON_SPARE : Fld := Fld.mk 6 0x300 24 1 .o 0 [] false false none true 0
/-- STR_CTX_STATUS G_NOW (R210). -/
def STR_CTX_STATUS_G_NOW : Fld := Fld.mk 6 0x300 0 9 .o 0x100 [] false false none false 0
/-- STR_CTX_STICKY STEP_JUMP_SEEN (R210). -/
def STR_CTX_STICKY_STEP_JUMP_SEEN : Fld := Fld.mk 6 0x304 6 1 .c 0 [] false false none false 0
/-- STR_CTX_STICKY COPY_LOST_SEEN (R210). -/
def STR_CTX_STICKY_COPY_LOST_SEEN : Fld := Fld.mk 6 0x304 5 1 .c 0 [] false false none false 0
/-- STR_CTX_STICKY SSRC_CHANGE_SEEN (R210). -/
def STR_CTX_STICKY_SSRC_CHANGE_SEEN : Fld := Fld.mk 6 0x304 4 1 .c 0 [] false false none false 0
/-- STR_CTX_STICKY FORMAT_ERR_SEEN (R210). -/
def STR_CTX_STICKY_FORMAT_ERR_SEEN : Fld := Fld.mk 6 0x304 3 1 .c 0 [] false false none false 0
/-- STR_CTX_STICKY EARLY_SEEN (R210). -/
def STR_CTX_STICKY_EARLY_SEEN : Fld := Fld.mk 6 0x304 2 1 .c 0 [] false false none false 0
/-- STR_CTX_STICKY LATE_SEEN (R210). -/
def STR_CTX_STICKY_LATE_SEEN : Fld := Fld.mk 6 0x304 1 1 .c 0 [] false false none false 0
/-- STR_CTX_STICKY LOST_SEEN (R210). -/
def STR_CTX_STICKY_LOST_SEEN : Fld := Fld.mk 6 0x304 0 1 .c 0 [] false false none false 0
/-- STR_CTX_SSRC_A SSRC (R210). -/
def STR_CTX_SSRC_A_SSRC : Fld := Fld.mk 6 0x308 0 32 .o 0 [] false false none false 0
/-- STR_CTX_SSRC_B SSRC (R210). -/
def STR_CTX_SSRC_B_SSRC : Fld := Fld.mk 6 0x30c 0 32 .o 0 [] false false none false 0
/-- STR_CTX_MARGIN_MIN MARGIN (R210). -/
def STR_CTX_MARGIN_MIN_MARGIN : Fld := Fld.mk 6 0x310 0 32 .c 0x7fffffff [] false false none false 0
/-- STR_CTX_TS_LAST TS (R210). -/
def STR_CTX_TS_LAST_TS : Fld := Fld.mk 6 0x314 0 32 .o 0 [] false false none false 0
/-- STR_CTX_COUNT_A COUNT (R210). -/
def STR_CTX_COUNT_A_COUNT : Fld := Fld.mk 6 0x340 0 32 .c 0 [4] false false none false 0
/-- STR_CTX_COUNT_B COUNT (R210). -/
def STR_CTX_COUNT_B_COUNT : Fld := Fld.mk 6 0x360 0 32 .c 0 [4] false false none false 0
/-- STR_CTX_CONCEAL COUNT (R210). -/
def STR_CTX_CONCEAL_COUNT : Fld := Fld.mk 6 0x380 0 32 .c 0 [] false false none false 0
/-- STR_CTX_FROM_B COUNT (R210). -/
def STR_CTX_FROM_B_COUNT : Fld := Fld.mk 6 0x384 0 32 .c 0 [] false false none false 0
/-- STR_IRQ_STATUS STEP_JUMP (R210). -/
def STR_IRQ_STATUS_STEP_JUMP : Fld := Fld.mk 6 0x400 6 1 .c 0 [] false false none false 0
/-- STR_IRQ_STATUS CAPACITY (R210). -/
def STR_IRQ_STATUS_CAPACITY : Fld := Fld.mk 6 0x400 5 1 .c 0 [] false false none false 0
/-- STR_IRQ_STATUS SSRC_CHANGE (R210). -/
def STR_IRQ_STATUS_SSRC_CHANGE : Fld := Fld.mk 6 0x400 4 1 .c 0 [] false false none false 0
/-- STR_IRQ_STATUS FORMAT_ERR (R210). -/
def STR_IRQ_STATUS_FORMAT_ERR : Fld := Fld.mk 6 0x400 3 1 .c 0 [] false false none false 0
/-- STR_IRQ_STATUS LATE_EARLY (R210). -/
def STR_IRQ_STATUS_LATE_EARLY : Fld := Fld.mk 6 0x400 2 1 .c 0 [] false false none false 0
/-- STR_IRQ_STATUS COPY_LOST (R210). -/
def STR_IRQ_STATUS_COPY_LOST : Fld := Fld.mk 6 0x400 1 1 .c 0 [] false false none false 0
/-- STR_IRQ_STATUS LOST (R210). -/
def STR_IRQ_STATUS_LOST : Fld := Fld.mk 6 0x400 0 1 .c 0 [] false false none false 0
/-- STR_IRQ_ENABLE ENABLE (R210). -/
def STR_IRQ_ENABLE_ENABLE : Fld := Fld.mk 6 0x404 0 7 .i 0 [] false false none false 0
/-- APT_CFG EN (R238). -/
def APT_CFG_EN : Fld := Fld.mk 7 0 31 1 .b 0 [0x800] false false none false 0
/-- APT_CFG MODE (R238). -/
def APT_CFG_MODE : Fld := Fld.mk 7 0 29 2 .b 0 [0x800] true false none false 0
/-- APT_CFG DATA (R238). -/
def APT_CFG_DATA : Fld := Fld.mk 7 0 28 1 .b 0 [0x800] true false none false 0
/-- APT_CFG CLASS_S (R238). -/
def APT_CFG_CLASS_S : Fld := Fld.mk 7 0 27 1 .b 0 [0x800] false true none false 0
/-- APT_CFG TRISTATE (R238). -/
def APT_CFG_TRISTATE : Fld := Fld.mk 7 0 26 1 .b 1 [0x800] false false none false 0
/-- APT_CFG FS_POL (R238). -/
def APT_CFG_FS_POL : Fld := Fld.mk 7 0 25 1 .b 0 [0x800] true false none false 0
/-- APT_CFG BCLK_POL (R238). -/
def APT_CFG_BCLK_POL : Fld := Fld.mk 7 0 24 1 .b 0 [0x800] true false none false 0
/-- APT_CFG FS_DELAY (R238). -/
def APT_CFG_FS_DELAY : Fld := Fld.mk 7 0 23 1 .b 0 [0x800] true false none false 0
/-- APT_CFG WIDTH (R238). -/
def APT_CFG_WIDTH : Fld := Fld.mk 7 0 21 2 .b 2 [0x800] true false none false 0
/-- APT_CFG WORD (R238). -/
def APT_CFG_WORD : Fld := Fld.mk 7 0 19 2 .b 1 [0x800] true false none false 0
/-- APT_CFG SLOTS (R238). -/
def APT_CFG_SLOTS : Fld := Fld.mk 7 0 0 6 .b 2 [0x800] true false none false 0
/-- APT_RX_MASK MASK (R238). -/
def APT_RX_MASK_MASK : Fld := Fld.mk 7 4 0 32 .b 3 [0x800] false false none false 0
/-- APT_TX_MASK MASK (R238). -/
def APT_TX_MASK_MASK : Fld := Fld.mk 7 8 0 32 .b 3 [0x800] false false none false 0
/-- APT_MAP RX_BASE (R238). -/
def APT_MAP_RX_BASE : Fld := Fld.mk 7 0xc 16 9 .b 0 [0x800] false false none false 0
/-- APT_MAP TX_BASE (R238). -/
def APT_MAP_TX_BASE : Fld := Fld.mk 7 0xc 0 9 .b 0 [0x800] false false none false 0
/-- APT_SETTLE SETTLE (R238). -/
def APT_SETTLE_SETTLE : Fld := Fld.mk 7 0x10 0 16 .b 0x1e0 [0x800] false false none false 0
/-- APT_STATUS STATE (R238). -/
def APT_STATUS_STATE : Fld := Fld.mk 7 0x14 29 3 .o 0 [0x800] false false none false 0
/-- APT_STATUS CLK_VALID (R238). -/
def APT_STATUS_CLK_VALID : Fld := Fld.mk 7 0x14 28 1 .o 0 [0x800] false false none false 0
/-- APT_STATUS SETTLED (R238). -/
def APT_STATUS_SETTLED : Fld := Fld.mk 7 0x14 27 1 .o 0 [0x800] false false none false 0
/-- APT_STATUS NOT_FOLLOWING (R238). -/
def APT_STATUS_NOT_FOLLOWING : Fld := Fld.mk 7 0x14 26 1 .o 0 [0x800] false false none false 0
/-- APT_STATUS PHASE_AMBIG (R238). -/
def APT_STATUS_PHASE_AMBIG : Fld := Fld.mk 7 0x14 25 1 .o 0 [0x800] false false none false 0
/-- APT_STATUS CONCEALING (R238). -/
def APT_STATUS_CONCEALING : Fld := Fld.mk 7 0x14 24 1 .o 0 [0x800] false false none true 0
/-- APT_STATUS RX_EPOCH (R238). -/
def APT_STATUS_RX_EPOCH : Fld := Fld.mk 7 0x14 16 8 .o 0 [0x800] false false none false 0
/-- APT_STATUS TX_EPOCH (R238). -/
def APT_STATUS_TX_EPOCH : Fld := Fld.mk 7 0x14 8 8 .o 0 [0x800] false false none false 0
/-- APT_STATUS SELF_TEST (R238). -/
def APT_STATUS_SELF_TEST : Fld := Fld.mk 7 0x14 7 1 .o 0 [0x800] false false none false 0
/-- APT_FILL RX_FILL (R238). -/
def APT_FILL_RX_FILL : Fld := Fld.mk 7 0x18 16 8 .o 0 [0x800] false false none false 0
/-- APT_FILL TX_FILL (R238). -/
def APT_FILL_TX_FILL : Fld := Fld.mk 7 0x18 0 8 .o 0 [0x800] false false none false 0
/-- APT_FS_PHASE FS_PHASE (R238). -/
def APT_FS_PHASE_FS_PHASE : Fld := Fld.mk 7 0x1c 0 32 .o 0 [0x800] false false none false 0
/-- APT_SHIFT RX_SHIFT (R238). -/
def APT_SHIFT_RX_SHIFT : Fld := Fld.mk 7 0x20 16 16 .o 0 [0x800] false false none false 0
/-- APT_SHIFT TX_SHIFT (R238). -/
def APT_SHIFT_TX_SHIFT : Fld := Fld.mk 7 0x20 0 16 .o 0 [0x800] false false none false 0
/-- APT_STICKY STEP_JUMP_SEEN (R238). -/
def APT_STICKY_STEP_JUMP_SEEN : Fld := Fld.mk 7 0x24 9 1 .c 0 [0x800] false false none false 0
/-- APT_STICKY CS_CRC_ERR_SEEN (R238). -/
def APT_STICKY_CS_CRC_ERR_SEEN : Fld := Fld.mk 7 0x24 8 1 .c 0 [0x800] false false none false 0
/-- APT_STICKY BLOCK_ERR_SEEN (R238). -/
def APT_STICKY_BLOCK_ERR_SEEN : Fld := Fld.mk 7 0x24 7 1 .c 0 [0x800] false false none false 0
/-- APT_STICKY CS_NEW_SEEN (R238). -/
def APT_STICKY_CS_NEW_SEEN : Fld := Fld.mk 7 0x24 6 1 .c 0 [0x800] false false none false 0
/-- APT_STICKY NOT_FOLLOWING_SEEN (R238). -/
def APT_STICKY_NOT_FOLLOWING_SEEN : Fld := Fld.mk 7 0x24 5 1 .c 0 [0x800] false false none false 0
/-- APT_STICKY SLIP_SEEN (R238). -/
def APT_STICKY_SLIP_SEEN : Fld := Fld.mk 7 0x24 4 1 .c 0 [0x800] false false none false 0
/-- APT_STICKY FRAME_ERR_SEEN (R238). -/
def APT_STICKY_FRAME_ERR_SEEN : Fld := Fld.mk 7 0x24 3 1 .c 0 [0x800] false false none false 0
/-- APT_STICKY CLOCK_LOSS_SEEN (R238). -/
def APT_STICKY_CLOCK_LOSS_SEEN : Fld := Fld.mk 7 0x24 2 1 .c 0 [0x800] false false none false 0
/-- APT_STICKY SETTLED_SEEN (R238). -/
def APT_STICKY_SETTLED_SEEN : Fld := Fld.mk 7 0x24 1 1 .c 0 [0x800] false false none false 0
/-- APT_STICKY STATE_CHANGE_SEEN (R238). -/
def APT_STICKY_STATE_CHANGE_SEEN : Fld := Fld.mk 7 0x24 0 1 .c 0 [0x800] false false none false 0
/-- APT_IRQ_EN ENABLE (R238). -/
def APT_IRQ_EN_ENABLE : Fld := Fld.mk 7 0x28 0 10 .i 0 [0x800] false false none false 0
/-- APT_RESULT RESULT (R238). -/
def APT_RESULT_RESULT : Fld := Fld.mk 7 0x2c 0 8 .o 0 [0x800] false false none false 0
/-- APT_SS_CFG V_TX (R238). -/
def APT_SS_CFG_V_TX : Fld := Fld.mk 7 0x30 31 1 .b 0 [0x800] false false none false 0
/-- APT_SS_CFG CRCC_EN (R238). -/
def APT_SS_CFG_CRCC_EN : Fld := Fld.mk 7 0x30 30 1 .b 1 [0x800] false false none false 0
/-- APT_SS_CFG CS_RX_SLOT (R238). -/
def APT_SS_CFG_CS_RX_SLOT : Fld := Fld.mk 7 0x30 0 5 .b 0 [0x800] false false none false 0
/-- APT_CS_TX_A BYTES (R238). -/
def APT_CS_TX_A_BYTES : Fld := Fld.mk 7 0x40 0 32 .b 0 [0x800, 4] false false none false 0
/-- APT_CS_TX_B BYTES (R238). -/
def APT_CS_TX_B_BYTES : Fld := Fld.mk 7 0x60 0 32 .b 0 [0x800, 4] false false none false 0
/-- APT_CS_RX BYTES (R238). -/
def APT_CS_RX_BYTES : Fld := Fld.mk 7 0x80 0 32 .o 0 [0x800, 4] false false none false 0
/-- APT_COUNT COUNT (R238). -/
def APT_COUNT_COUNT : Fld := Fld.mk 7 0x100 0 32 .c 0 [0x800, 4] false false none false 0
/-- APT_IRQ_STATUS PORT (R238). -/
def APT_IRQ_STATUS_PORT : Fld := Fld.mk 7 0x700 0 16 .o 0 [] false false none true 0
/-- APT_IRQ_ENABLE ENABLE (R238). -/
def APT_IRQ_ENABLE_ENABLE : Fld := Fld.mk 7 0x704 0 16 .i 0 [] false false none false 0
/-- APT_RUNNING PORT (R238). -/
def APT_RUNNING_PORT : Fld := Fld.mk 7 0x708 0 16 .o 0 [] false false none true 0
/-- APT_GRP_CFG STEERED (R238). -/
def APT_GRP_CFG_STEERED : Fld := Fld.mk 7 0x740 31 1 .b 0 [4] false false none false 0
/-- APT_GRP_CFG STEER_PORT (R238). -/
def APT_GRP_CFG_STEER_PORT : Fld := Fld.mk 7 0x740 30 1 .b 0 [4] false false none false 0
/-- APT_GRP_STATUS STEERING (R238). -/
def APT_GRP_STATUS_STEERING : Fld := Fld.mk 7 0x760 31 1 .o 0 [4] false false none true 0
/-- APT_GRP_STATUS CLAMP_1S (R238). -/
def APT_GRP_STATUS_CLAMP_1S : Fld := Fld.mk 7 0x760 30 1 .o 0 [4] false false none false 0
/-- MTX_RATE RATE_NOW (R268). -/
def MTX_RATE_RATE_NOW : Fld := Fld.mk 8 0 31 1 .o 0 [] false false none false 0
/-- MTX_RATE RATE_NEXT (R268). -/
def MTX_RATE_RATE_NEXT : Fld := Fld.mk 8 0 30 1 .i 0 [] false false none false 0
/-- MTX_STATUS ACTIVE_XP (R268). -/
def MTX_STATUS_ACTIVE_XP : Fld := Fld.mk 8 4 16 16 .o 0 [] false false none true 0
/-- MTX_STATUS DELAYED (R268). -/
def MTX_STATUS_DELAYED : Fld := Fld.mk 8 4 0 11 .o 0 [] false false none true 0
/-- MTX_SLICE LOST (R268). -/
def MTX_SLICE_LOST : Fld := Fld.mk 8 8 9 9 .o 0 [] false false none true 0
/-- MTX_SLICE IN_SERVICE (R268). -/
def MTX_SLICE_IN_SERVICE : Fld := Fld.mk 8 8 0 9 .o 0 [] false false none true 0
/-- MTX_RESULT RESULT (R268). -/
def MTX_RESULT_RESULT : Fld := Fld.mk 8 0xc 0 8 .o 0 [] false false none false 0
/-- MTX_XP_SEL SEL (R268). -/
def MTX_XP_SEL_SEL : Fld := Fld.mk 8 0x100 0 15 .i 0 [] false false none false 0
/-- MTX_XP_CFG EN (R268). -/
def MTX_XP_CFG_EN : Fld := Fld.mk 8 0x104 31 1 .b 0 [] false false none false 0
/-- MTX_XP_CFG CLAIM (R268). -/
def MTX_XP_CFG_CLAIM : Fld := Fld.mk 8 0x104 30 1 .b 0 [] false false none false 0
/-- MTX_XP_CFG LEVEL (R268). -/
def MTX_XP_CFG_LEVEL : Fld := Fld.mk 8 0x104 27 3 .b 0 [] true false none false 0
/-- MTX_XP_CFG INPUT (R268). -/
def MTX_XP_CFG_INPUT : Fld := Fld.mk 8 0x104 16 11 .b 0 [] true false none false 0
/-- MTX_XP_CFG OUTPUT (R268). -/
def MTX_XP_CFG_OUTPUT : Fld := Fld.mk 8 0x104 0 11 .b 0 [] true false none false 0
/-- MTX_XP_GAIN GAIN (R268). -/
def MTX_XP_GAIN_GAIN : Fld := Fld.mk 8 0x108 0 32 .b 0 [] false false none false 0
/-- MTX_XP_RAMP RAMP_MS (R268). -/
def MTX_XP_RAMP_RAMP_MS : Fld := Fld.mk 8 0x10c 0 14 .b 0xa [] false false none false 0
/-- MTX_XP_STATUS STATE (R268). -/
def MTX_XP_STATUS_STATE : Fld := Fld.mk 8 0x110 29 3 .o 0 [] false false none true 0
/-- MTX_XP_STATUS CLASS_S (R268). -/
def MTX_XP_STATUS_CLASS_S : Fld := Fld.mk 8 0x110 28 1 .o 0 [] false false none true 0
/-- MTX_XP_STATUS ON_SPARE (R268). -/
def MTX_XP_STATUS_ON_SPARE : Fld := Fld.mk 8 0x110 27 1 .o 0 [] false false none true 0
/-- MTX_XP_STATUS SLICE (R268). -/
def MTX_XP_STATUS_SLICE : Fld := Fld.mk 8 0x110 0 4 .o 0 [] false false none true 0
/-- MTX_XP_GAIN_NOW GAIN (R268). -/
def MTX_XP_GAIN_NOW_GAIN : Fld := Fld.mk 8 0x114 0 32 .o 0 [] false false none true 0
/-- MTX_ZN_SEL SEL (R268). -/
def MTX_ZN_SEL_SEL : Fld := Fld.mk 8 0x200 0 11 .i 0 [] false false none false 0
/-- MTX_ZN_CFG SAFETY_FLOOR (R268). -/
def MTX_ZN_CFG_SAFETY_FLOOR : Fld := Fld.mk 8 0x204 28 4 .b 8 [] false true (some 4) false 0
/-- MTX_ZN_CFG HANG_MS (R268). -/
def MTX_ZN_CFG_HANG_MS : Fld := Fld.mk 8 0x204 0 16 .b 0 [] false false none false 0
/-- MTX_ZN_RAMP ATTACK_MS (R268). -/
def MTX_ZN_RAMP_ATTACK_MS : Fld := Fld.mk 8 0x208 16 16 .b 0x32 [] false false none false 0
/-- MTX_ZN_RAMP RELEASE_MS (R268). -/
def MTX_ZN_RAMP_RELEASE_MS : Fld := Fld.mk 8 0x208 0 16 .b 0x1f4 [] false false none false 0
/-- MTX_ZN_DELAY DELAY (R268). -/
def MTX_ZN_DELAY_DELAY : Fld := Fld.mk 8 0x20c 0 18 .b 0 [] false false none false 0
/-- MTX_ZN_DUCK DUCK (R268). -/
def MTX_ZN_DUCK_DUCK : Fld := Fld.mk 8 0x210 0 16 .b 0xc8 [4] false false none false 0
/-- MTX_ZN_STATUS H (R268). -/
def MTX_ZN_STATUS_H : Fld := Fld.mk 8 0x240 29 3 .o 0 [] false false none true 0
/-- MTX_ZN_STATUS H_VALID (R268). -/
def MTX_ZN_STATUS_H_VALID : Fld := Fld.mk 8 0x240 28 1 .o 0 [] false false none true 0
/-- MTX_ZN_STATUS LIFE_SAFETY (R268). -/
def MTX_ZN_STATUS_LIFE_SAFETY : Fld := Fld.mk 8 0x240 27 1 .o 0 [] false false none true 0
/-- MTX_ZN_STATUS DELAYED (R268). -/
def MTX_ZN_STATUS_DELAYED : Fld := Fld.mk 8 0x240 26 1 .o 0 [] false false none true 0
/-- MTX_ZN_STATUS ACTIVE (R268). -/
def MTX_ZN_STATUS_ACTIVE : Fld := Fld.mk 8 0x240 8 8 .o 0 [] false false none false 0
/-- MTX_ZN_CLIP CLIP (R268). -/
def MTX_ZN_CLIP_CLIP : Fld := Fld.mk 8 0x244 0 32 .c 0 [] false false none false 0
/-- MTX_ZN_DNOW D (R268). -/
def MTX_ZN_DNOW_D : Fld := Fld.mk 8 0x260 0 32 .o 0x1000000 [4] false false none false 0
/-- MTX_ZS_SEL SEL (R268). -/
def MTX_ZS_SEL_SEL : Fld := Fld.mk 8 0x300 0 8 .i 0 [] false false none false 0
/-- MTX_ZS_MAP MAP (R268). -/
def MTX_ZS_MAP_MAP : Fld := Fld.mk 8 0x340 0 32 .b 0 [4] false false none false 0
/-- MTX_CLIP_TOTAL COUNT (R268). -/
def MTX_CLIP_TOTAL_COUNT : Fld := Fld.mk 8 0x400 0 32 .c 0 [] false false none false 0
/-- MTX_CLAIM_REFUSED COUNT (R268). -/
def MTX_CLAIM_REFUSED_COUNT : Fld := Fld.mk 8 0x404 0 32 .c 0 [] false false none false 0
/-- MTX_IRQ_STATUS CAPACITY (R268). -/
def MTX_IRQ_STATUS_CAPACITY : Fld := Fld.mk 8 0x500 3 1 .c 0 [] false false none false 0
/-- MTX_IRQ_STATUS CLAIM_REFUSED (R268). -/
def MTX_IRQ_STATUS_CLAIM_REFUSED : Fld := Fld.mk 8 0x500 2 1 .c 0 [] false false none false 0
/-- MTX_IRQ_STATUS CLIP (R268). -/
def MTX_IRQ_STATUS_CLIP : Fld := Fld.mk 8 0x500 1 1 .c 0 [] false false none false 0
/-- MTX_IRQ_STATUS SLICE_CHANGE (R268). -/
def MTX_IRQ_STATUS_SLICE_CHANGE : Fld := Fld.mk 8 0x500 0 1 .c 0 [] false false none false 0
/-- MTX_IRQ_ENABLE ENABLE (R268). -/
def MTX_IRQ_ENABLE_ENABLE : Fld := Fld.mk 8 0x504 0 4 .i 0 [] false false none false 0
/-- LIB_STATUS RESIDENT (R269). -/
def LIB_STATUS_RESIDENT : Fld := Fld.mk 9 0 18 14 .o 0 [] false false none true 0
/-- LIB_STATUS BG_LOAD (R269). -/
def LIB_STATUS_BG_LOAD : Fld := Fld.mk 9 0 17 1 .o 0 [] false false none true 0
/-- LIB_STATUS BUSY_VOICES (R269). -/
def LIB_STATUS_BUSY_VOICES : Fld := Fld.mk 9 0 0 7 .o 0 [] false false none true 0
/-- LIB_DRAM_USED GRANULES (R269). -/
def LIB_DRAM_USED_GRANULES : Fld := Fld.mk 9 4 0 32 .o 0 [] false false none true 0
/-- LIB_NAND_USED GRANULES (R269). -/
def LIB_NAND_USED_GRANULES : Fld := Fld.mk 9 8 0 32 .o 0 [] false false none true 0
/-- LIB_CMD_DATA0 DATA (R269). -/
def LIB_CMD_DATA0_DATA : Fld := Fld.mk 9 0x10 0 32 .i 0 [] false false none false 0
/-- LIB_CMD_DATA1 DATA (R269). -/
def LIB_CMD_DATA1_DATA : Fld := Fld.mk 9 0x14 0 32 .i 0 [] false false none false 0
/-- LIB_CMD_DATA2 MARK (R269). -/
def LIB_CMD_DATA2_MARK : Fld := Fld.mk 9 0x18 24 8 .i 0 [] false false none false 0
/-- LIB_CMD_DATA2 CHANNEL (R269). -/
def LIB_CMD_DATA2_CHANNEL : Fld := Fld.mk 9 0x18 16 6 .i 0 [] false false none false 0
/-- LIB_CMD_LEN LENGTH (R269). -/
def LIB_CMD_LEN_LENGTH : Fld := Fld.mk 9 0x1c 0 32 .i 0 [] false false none false 0
/-- LIB_CMD OP (R269). -/
def LIB_CMD_OP : Fld := Fld.mk 9 0x20 0 4 .w 0 [] false false none false 0
/-- LIB_CMD_RESULT BUSY (R269). -/
def LIB_CMD_RESULT_BUSY : Fld := Fld.mk 9 0x24 31 1 .o 0 [] false false none false 0
/-- LIB_CMD_RESULT VOICE (R269). -/
def LIB_CMD_RESULT_VOICE : Fld := Fld.mk 9 0x24 8 8 .o 0xff [] false false none false 0
/-- LIB_CMD_RESULT STATUS (R269). -/
def LIB_CMD_RESULT_STATUS : Fld := Fld.mk 9 0x24 0 8 .o 0 [] false false none false 0
/-- LIB_VC_SEL SEL (R269). -/
def LIB_VC_SEL_SEL : Fld := Fld.mk 9 0x100 0 6 .i 0 [] false false none false 0
/-- LIB_VC_STATUS STATE (R269). -/
def LIB_VC_STATUS_STATE : Fld := Fld.mk 9 0x104 30 2 .o 0 [] false false none true 0
/-- LIB_VC_STATUS CLASS_S (R269). -/
def LIB_VC_STATUS_CLASS_S : Fld := Fld.mk 9 0x104 29 1 .o 0 [] false false none true 0
/-- LIB_VC_STATUS REWIND (R269). -/
def LIB_VC_STATUS_REWIND : Fld := Fld.mk 9 0x104 28 1 .o 0 [] false false none true 0
/-- LIB_VC_STATUS LEVEL (R269). -/
def LIB_VC_STATUS_LEVEL : Fld := Fld.mk 9 0x104 25 3 .o 0 [] false false none true 0
/-- LIB_VC_STATUS ZONE_SET (R269). -/
def LIB_VC_STATUS_ZONE_SET : Fld := Fld.mk 9 0x104 0 8 .o 0 [] false false none true 0
/-- LIB_VC_MSG MSG (R269). -/
def LIB_VC_MSG_MSG : Fld := Fld.mk 9 0x108 0 32 .o 0 [] false false none true 0
/-- LIB_VC_POS POS (R269). -/
def LIB_VC_POS_POS : Fld := Fld.mk 9 0x10c 0 32 .o 0 [] false false none true 0
/-- LIB_VC_START START (R269). -/
def LIB_VC_START_START : Fld := Fld.mk 9 0x110 0 32 .o 0 [] false false none true 0
/-- LIB_TONE_CFG EN (R269). -/
def LIB_TONE_CFG_EN : Fld := Fld.mk 9 0x200 31 1 .b 0 [0x20] false false none false 0
/-- LIB_TONE_CFG WAVE (R269). -/
def LIB_TONE_CFG_WAVE : Fld := Fld.mk 9 0x200 28 3 .b 0 [0x20] true false none false 0
/-- LIB_TONE_CFG EDGE_MS (R269). -/
def LIB_TONE_CFG_EDGE_MS : Fld := Fld.mk 9 0x200 0 7 .b 5 [0x20] true false none false 0
/-- LIB_TONE_F1 F1 (R269). -/
def LIB_TONE_F1_F1 : Fld := Fld.mk 9 0x204 0 21 .b 0x186a0 [0x20] true false none false 0
/-- LIB_TONE_F2 F2 (R269). -/
def LIB_TONE_F2_F2 : Fld := Fld.mk 9 0x208 0 21 .b 0x186a0 [0x20] true false none false 0
/-- LIB_TONE_LEVEL LEVEL (R269). -/
def LIB_TONE_LEVEL_LEVEL : Fld := Fld.mk 9 0x20c 0 11 .b 0xc8 [0x20] false false none false 0
/-- LIB_TONE_CADENCE ON_MS (R269). -/
def LIB_TONE_CADENCE_ON_MS : Fld := Fld.mk 9 0x210 16 16 .b 0 [0x20] true false none false 0
/-- LIB_TONE_CADENCE OFF_MS (R269). -/
def LIB_TONE_CADENCE_OFF_MS : Fld := Fld.mk 9 0x210 0 16 .b 0 [0x20] true false none false 0
/-- LIB_TONE_PERIOD PERIOD_MS (R269). -/
def LIB_TONE_PERIOD_PERIOD_MS : Fld := Fld.mk 9 0x214 0 16 .b 0x3e8 [0x20] true false none false 0
/-- LIB_REC_CFG REC_EN (R269). -/
def LIB_REC_CFG_REC_EN : Fld := Fld.mk 9 0x400 31 1 .b 0 [] false false none false 0
/-- LIB_REC_STATUS RUNNING (R269). -/
def LIB_REC_STATUS_RUNNING : Fld := Fld.mk 9 0x404 31 1 .o 0 [] false false none true 0
/-- LIB_REC_W_LO LO (R269). -/
def LIB_REC_W_LO_LO : Fld := Fld.mk 9 0x408 0 32 .o 0 [] false false none true 0
/-- LIB_REC_W_HI HI (R269). -/
def LIB_REC_W_HI_HI : Fld := Fld.mk 9 0x40c 0 32 .o 0 [] false false none false 0
/-- LIB_REC_OLDEST_LO LO (R269). -/
def LIB_REC_OLDEST_LO_LO : Fld := Fld.mk 9 0x410 0 32 .o 0 [] false false none true 0
/-- LIB_REC_OLDEST_HI HI (R269). -/
def LIB_REC_OLDEST_HI_HI : Fld := Fld.mk 9 0x414 0 32 .o 0 [] false false none false 0
/-- LIB_REC_SIZE P (R269). -/
def LIB_REC_SIZE_P : Fld := Fld.mk 9 0x418 0 32 .o 0 [] false false none true 0
/-- LIB_REC_TAP EN (R269). -/
def LIB_REC_TAP_EN : Fld := Fld.mk 9 0x500 31 1 .b 0 [4] false false none false 0
/-- LIB_REC_TAP SRC (R269). -/
def LIB_REC_TAP_SRC : Fld := Fld.mk 9 0x500 0 16 .b 0 [4] false false none false 0
/-- LIB_MK_SEL SEL (R269). -/
def LIB_MK_SEL_SEL : Fld := Fld.mk 9 0x600 0 8 .i 0 [] false false none false 0
/-- LIB_MK_STATE STATE (R269). -/
def LIB_MK_STATE_STATE : Fld := Fld.mk 9 0x604 0 2 .o 0 [] false false none true 0
/-- LIB_MK_POS_LO LO (R269). -/
def LIB_MK_POS_LO_LO : Fld := Fld.mk 9 0x608 0 32 .o 0 [] false false none true 0
/-- LIB_MK_POS_HI HI (R269). -/
def LIB_MK_POS_HI_HI : Fld := Fld.mk 9 0x60c 0 32 .o 0 [] false false none false 0
/-- LIB_MK_LABEL LABEL (R269). -/
def LIB_MK_LABEL_LABEL : Fld := Fld.mk 9 0x610 0 32 .o 0 [] false false none true 0
/-- LIB_COUNT COUNT (R269). -/
def LIB_COUNT_COUNT : Fld := Fld.mk 9 0x700 0 32 .c 0 [4] false false none false 0
/-- LIB_IRQ_STATUS MARK_INVALID (R269). -/
def LIB_IRQ_STATUS_MARK_INVALID : Fld := Fld.mk 9 0x800 3 1 .c 0 [] false false none false 0
/-- LIB_IRQ_STATUS BAD_MESSAGE (R269). -/
def LIB_IRQ_STATUS_BAD_MESSAGE : Fld := Fld.mk 9 0x800 2 1 .c 0 [] false false none false 0
/-- LIB_IRQ_STATUS VOICE_END (R269). -/
def LIB_IRQ_STATUS_VOICE_END : Fld := Fld.mk 9 0x800 1 1 .c 0 [] false false none false 0
/-- LIB_IRQ_STATUS REC_CHANGE (R269). -/
def LIB_IRQ_STATUS_REC_CHANGE : Fld := Fld.mk 9 0x800 0 1 .c 0 [] false false none false 0
/-- LIB_IRQ_ENABLE ENABLE (R269). -/
def LIB_IRQ_ENABLE_ENABLE : Fld := Fld.mk 9 0x804 0 4 .i 0 [] false false none false 0
/-- SUP_CFG INJECT_EN (R298). -/
def SUP_CFG_INJECT_EN : Fld := Fld.mk 10 0 31 1 .b 1 [] false true (some 5) false 0
/-- SUP_CFG CORR_EN (R298). -/
def SUP_CFG_CORR_EN : Fld := Fld.mk 10 0 30 1 .b 1 [] false true (some 5) false 0
/-- SUP_CFG SEARCH_S (R298). -/
def SUP_CFG_SEARCH_S : Fld := Fld.mk 10 0 0 16 .b 2 [] false false none false 0
/-- SUP_STATUS BUSY (R298). -/
def SUP_STATUS_BUSY : Fld := Fld.mk 10 4 24 8 .o 0 [] false false none true 0
/-- SUP_STATUS PINNED (R298). -/
def SUP_STATUS_PINNED : Fld := Fld.mk 10 4 16 8 .o 0 [] false false none true 0
/-- SUP_STATUS ENABLED (R298). -/
def SUP_STATUS_ENABLED : Fld := Fld.mk 10 4 0 11 .o 0 [] false false none true 0
/-- SUP_REVISIT REVISIT (R298). -/
def SUP_REVISIT_REVISIT : Fld := Fld.mk 10 8 0 32 .o 0 [] false false none false 0
/-- SUP_RESULT RESULT (R298). -/
def SUP_RESULT_RESULT : Fld := Fld.mk 10 0xc 0 8 .o 0 [] false false none false 0
/-- SUP_PATH_SEL SEL (R298). -/
def SUP_PATH_SEL_SEL : Fld := Fld.mk 10 0x100 0 11 .i 0 [] false false none false 0
/-- SUP_PATH_CFG EN (R298). -/
def SUP_PATH_CFG_EN : Fld := Fld.mk 10 0x104 31 1 .b 0 [] false false none false 0
/-- SUP_PATH_CFG PIN (R298). -/
def SUP_PATH_CFG_PIN : Fld := Fld.mk 10 0x104 30 1 .b 0 [] false false none false 0
/-- SUP_PATH_CFG LAG_SEARCH (R298). -/
def SUP_PATH_CFG_LAG_SEARCH : Fld := Fld.mk 10 0x104 29 1 .b 1 [] false false none false 0
/-- SUP_PATH_CFG FAULT_COUNT (R298). -/
def SUP_PATH_CFG_FAULT_COUNT : Fld := Fld.mk 10 0x104 16 8 .b 2 [] false false none false 0
/-- SUP_PATH_CFG SENSE (R298). -/
def SUP_PATH_CFG_SENSE : Fld := Fld.mk 10 0x104 0 16 .b 0xffff [] false false none false 0
/-- SUP_PATH_LEVEL PILOT_LEVEL (R298). -/
def SUP_PATH_LEVEL_PILOT_LEVEL : Fld := Fld.mk 10 0x108 16 16 .b 0xfc18 [] false false none false 0
/-- SUP_PATH_LEVEL GATE (R298). -/
def SUP_PATH_LEVEL_GATE : Fld := Fld.mk 10 0x108 0 16 .b 0xfda8 [] false false none false 0
/-- SUP_PATH_SHIFT SHIFT (R298). -/
def SUP_PATH_SHIFT_SHIFT : Fld := Fld.mk 10 0x10c 0 21 .b 0 [] false false none false 0
/-- SUP_PATH_LAG LAG_BASE (R298). -/
def SUP_PATH_LAG_LAG_BASE : Fld := Fld.mk 10 0x110 0 18 .b 0 [] false false none false 0
/-- SUP_PATH_INT INT_S (R298). -/
def SUP_PATH_INT_INT_S : Fld := Fld.mk 10 0x114 0 16 .b 0x3c [] false false none false 0
/-- SUP_PATH_REF_GAIN REF_GAIN (R298). -/
def SUP_PATH_REF_GAIN_REF_GAIN : Fld := Fld.mk 10 0x118 16 16 .b 0x8000 [] false false none false 0
/-- SUP_PATH_REF_GAIN GAIN_TOL (R298). -/
def SUP_PATH_REF_GAIN_GAIN_TOL : Fld := Fld.mk 10 0x118 0 16 .b 0x12c [] false false none false 0
/-- SUP_PATH_REF_DELAY DELAY_TOL (R298). -/
def SUP_PATH_REF_DELAY_DELAY_TOL : Fld := Fld.mk 10 0x11c 22 10 .b 2 [] false false none false 0
/-- SUP_PATH_REF_DELAY REF_DELAY (R298). -/
def SUP_PATH_REF_DELAY_REF_DELAY : Fld := Fld.mk 10 0x11c 0 22 .b 0 [] false false none false 0
/-- SUP_PATH_NOISE_MAX NOISE_MAX (R298). -/
def SUP_PATH_NOISE_MAX_NOISE_MAX : Fld := Fld.mk 10 0x120 0 16 .b 0xe890 [] false false none false 0
/-- SUP_PATH_STATUS STATE (R298). -/
def SUP_PATH_STATUS_STATE : Fld := Fld.mk 10 0x140 29 3 .o 0 [] false false none false 0
/-- SUP_PATH_STATUS ALARM (R298). -/
def SUP_PATH_STATUS_ALARM : Fld := Fld.mk 10 0x140 28 1 .o 0 [] false false none false 0
/-- SUP_PATH_STATUS OUTCOME (R298). -/
def SUP_PATH_STATUS_OUTCOME : Fld := Fld.mk 10 0x140 24 4 .o 0 [] false false none false 0
/-- SUP_PATH_STATUS ACCURATE (R298). -/
def SUP_PATH_STATUS_ACCURATE : Fld := Fld.mk 10 0x140 23 1 .o 0 [] false false none false 0
/-- SUP_PATH_STATUS POLARITY_INV (R298). -/
def SUP_PATH_STATUS_POLARITY_INV : Fld := Fld.mk 10 0x140 22 1 .o 0 [] false false none false 0
/-- SUP_PATH_STATUS LEARN_PENDING (R298). -/
def SUP_PATH_STATUS_LEARN_PENDING : Fld := Fld.mk 10 0x140 21 1 .o 0 [] false false none false 0
/-- SUP_PATH_STATUS CORRELATOR (R298). -/
def SUP_PATH_STATUS_CORRELATOR : Fld := Fld.mk 10 0x140 8 7 .o 0 [] false false none false 0
/-- SUP_PATH_GAIN GAIN (R298). -/
def SUP_PATH_GAIN_GAIN : Fld := Fld.mk 10 0x144 16 16 .o 0 [] false false none false 0
/-- SUP_PATH_GAIN NOISE (R298). -/
def SUP_PATH_GAIN_NOISE : Fld := Fld.mk 10 0x144 0 16 .o 0 [] false false none false 0
/-- SUP_PATH_DELAY DELAY (R298). -/
def SUP_PATH_DELAY_DELAY : Fld := Fld.mk 10 0x148 0 22 .o 0 [] false false none false 0
/-- SUP_PATH_SNR SNR (R298). -/
def SUP_PATH_SNR_SNR : Fld := Fld.mk 10 0x14c 0 16 .o 0 [] false false none false 0
/-- SUP_PATH_LEARN LEARN (R298). -/
def SUP_PATH_LEARN_LEARN : Fld := Fld.mk 10 0x150 0 1 .w 0 [] false false none false 0
/-- SUP_VIG_STATUS RUNNING (R298). -/
def SUP_VIG_STATUS_RUNNING : Fld := Fld.mk 10 0x400 31 1 .o 0 [] false false none true 0
/-- SUP_VIG_STATUS TEST (R298). -/
def SUP_VIG_STATUS_TEST : Fld := Fld.mk 10 0x400 24 4 .o 0 [] false false none true 0
/-- SUP_VIG_STATUS INSTANCE (R298). -/
def SUP_VIG_STATUS_INSTANCE : Fld := Fld.mk 10 0x400 16 8 .o 0 [] false false none true 0
/-- SUP_VIG_STATUS RUN (R298). -/
def SUP_VIG_STATUS_RUN : Fld := Fld.mk 10 0x400 0 16 .o 0 [] false false none true 0
/-- SUP_VIG_CMD ABORT (R298). -/
def SUP_VIG_CMD_ABORT : Fld := Fld.mk 10 0x404 31 1 .w 0 [] false false none false 0
/-- SUP_VIG_ELAPSED ELAPSED (R298). -/
def SUP_VIG_ELAPSED_ELAPSED : Fld := Fld.mk 10 0x408 0 32 .o 0 [] false false none true 0
/-- SUP_ST_SEL SEL (R298). -/
def SUP_ST_SEL_SEL : Fld := Fld.mk 10 0x500 0 7 .i 0 [] false false none false 0
/-- SUP_ST_RESULT RESULT (R298). -/
def SUP_ST_RESULT_RESULT : Fld := Fld.mk 10 0x504 28 4 .o 0 [] false false none true 0
/-- SUP_ST_RESULT CAUSE (R298). -/
def SUP_ST_RESULT_CAUSE : Fld := Fld.mk 10 0x504 24 4 .o 0 [] false false none true 0
/-- SUP_ST_RESULT MEASURED (R298). -/
def SUP_ST_RESULT_MEASURED : Fld := Fld.mk 10 0x504 0 16 .o 0 [] false false none true 0
/-- SUP_ST_SIG SIG (R298). -/
def SUP_ST_SIG_SIG : Fld := Fld.mk 10 0x508 0 32 .o 0 [] false false none true 0
/-- SUP_ST_EXPECT EXPECT (R298). -/
def SUP_ST_EXPECT_EXPECT : Fld := Fld.mk 10 0x50c 0 32 .o 0 [] false false none true 0
/-- SUP_ST_CYC_LO LO (R298). -/
def SUP_ST_CYC_LO_LO : Fld := Fld.mk 10 0x510 0 32 .o 0 [] false false none true 0
/-- SUP_ST_CYC_HI HI (R298). -/
def SUP_ST_CYC_HI_HI : Fld := Fld.mk 10 0x514 0 32 .o 0 [] false false none false 0
/-- SUP_COUNT COUNT (R298). -/
def SUP_COUNT_COUNT : Fld := Fld.mk 10 0x600 0 32 .c 0 [4] false false none false 0
/-- SUP_IRQ_STATUS VIGIL_END (R298). -/
def SUP_IRQ_STATUS_VIGIL_END : Fld := Fld.mk 10 0x700 4 1 .c 0 [] false false none false 0
/-- SUP_IRQ_STATUS ST_FAIL (R298). -/
def SUP_IRQ_STATUS_ST_FAIL : Fld := Fld.mk 10 0x700 3 1 .c 0 [] false false none false 0
/-- SUP_IRQ_STATUS ST_INCOMPLETE (R298). -/
def SUP_IRQ_STATUS_ST_INCOMPLETE : Fld := Fld.mk 10 0x700 2 1 .c 0 [] false false none false 0
/-- SUP_IRQ_STATUS ALARM_CLEAR (R298). -/
def SUP_IRQ_STATUS_ALARM_CLEAR : Fld := Fld.mk 10 0x700 1 1 .c 0 [] false false none false 0
/-- SUP_IRQ_STATUS ALARM (R298). -/
def SUP_IRQ_STATUS_ALARM : Fld := Fld.mk 10 0x700 0 1 .c 0 [] false false none false 0
/-- SUP_IRQ_ENABLE ENABLE (R298). -/
def SUP_IRQ_ENABLE_ENABLE : Fld := Fld.mk 10 0x704 0 5 .i 0 [] false false none false 0
/-- PAIR_CFG EN (R327). -/
def PAIR_CFG_EN : Fld := Fld.mk 11 0 31 1 .b 0 [] false true (some 6) false 0
/-- PAIR_CFG EXCUSE_MS (R327). -/
def PAIR_CFG_EXCUSE_MS : Fld := Fld.mk 11 0 0 16 .b 0x834 [] false false none false 0
/-- PAIR_STATUS ROLE (R327). -/
def PAIR_STATUS_ROLE : Fld := Fld.mk 11 4 30 2 .o 0 [] false false none false 0
/-- PAIR_STATUS SIDE (R327). -/
def PAIR_STATUS_SIDE : Fld := Fld.mk 11 4 29 1 .o 0 [] false false none true 0
/-- PAIR_STATUS CLAIM_LOW (R327). -/
def PAIR_STATUS_CLAIM_LOW : Fld := Fld.mk 11 4 28 1 .o 0 [] false false none true 0
/-- PAIR_STATUS IRMON_UP (R327). -/
def PAIR_STATUS_IRMON_UP : Fld := Fld.mk 11 4 27 1 .o 0 [] false false none false 0
/-- PAIR_STATUS HB_HEARD (R327). -/
def PAIR_STATUS_HB_HEARD : Fld := Fld.mk 11 4 26 1 .o 0 [] false false none false 0
/-- PAIR_STATUS SIGN_CLAIM (R327). -/
def PAIR_STATUS_SIGN_CLAIM : Fld := Fld.mk 11 4 25 1 .o 0 [] false false none false 0
/-- PAIR_STATUS SIGN_IRMON (R327). -/
def PAIR_STATUS_SIGN_IRMON : Fld := Fld.mk 11 4 24 1 .o 0 [] false false none false 0
/-- PAIR_STATUS SIGN_HB (R327). -/
def PAIR_STATUS_SIGN_HB : Fld := Fld.mk 11 4 23 1 .o 0 [] false false none false 0
/-- PAIR_STATUS EXCUSED (R327). -/
def PAIR_STATUS_EXCUSED : Fld := Fld.mk 11 4 22 1 .o 0 [] false false none false 0
/-- PAIR_STATUS RESYNC_BLOCKED (R327). -/
def PAIR_STATUS_RESYNC_BLOCKED : Fld := Fld.mk 11 4 21 1 .o 0 [] false false none false 0
/-- PAIR_STATUS RESYNC_STEP (R327). -/
def PAIR_STATUS_RESYNC_STEP : Fld := Fld.mk 11 4 16 3 .o 0 [] false false none false 0
/-- PAIR_STATUS MISMATCH_RUN (R327). -/
def PAIR_STATUS_MISMATCH_RUN : Fld := Fld.mk 11 4 0 16 .o 0 [] false false none false 0
/-- PAIR_STICKY DUAL_ACTIVE_SEEN (R327). -/
def PAIR_STICKY_DUAL_ACTIVE_SEEN : Fld := Fld.mk 11 8 9 1 .c 0 [] false false none false 0
/-- PAIR_STICKY DRILL_FAIL_SEEN (R327). -/
def PAIR_STICKY_DRILL_FAIL_SEEN : Fld := Fld.mk 11 8 8 1 .c 0 [] false false none false 0
/-- PAIR_STICKY RESYNC_DONE_SEEN (R327). -/
def PAIR_STICKY_RESYNC_DONE_SEEN : Fld := Fld.mk 11 8 7 1 .c 0 [] false false none false 0
/-- PAIR_STICKY ACCUSE_SEEN (R327). -/
def PAIR_STICKY_ACCUSE_SEEN : Fld := Fld.mk 11 8 6 1 .c 0 [] false false none false 0
/-- PAIR_STICKY TOKEN_MISS_SEEN (R327). -/
def PAIR_STICKY_TOKEN_MISS_SEEN : Fld := Fld.mk 11 8 5 1 .c 0 [] false false none false 0
/-- PAIR_STICKY HB_LOSS_SEEN (R327). -/
def PAIR_STICKY_HB_LOSS_SEEN : Fld := Fld.mk 11 8 4 1 .c 0 [] false false none false 0
/-- PAIR_STICKY IRMON_LOSS_SEEN (R327). -/
def PAIR_STICKY_IRMON_LOSS_SEEN : Fld := Fld.mk 11 8 3 1 .c 0 [] false false none false 0
/-- PAIR_STICKY MISMATCH_SEEN (R327). -/
def PAIR_STICKY_MISMATCH_SEEN : Fld := Fld.mk 11 8 2 1 .c 0 [] false false none false 0
/-- PAIR_STICKY HANDOVER_SEEN (R327). -/
def PAIR_STICKY_HANDOVER_SEEN : Fld := Fld.mk 11 8 1 1 .c 0 [] false false none false 0
/-- PAIR_STICKY TAKEOVER_SEEN (R327). -/
def PAIR_STICKY_TAKEOVER_SEEN : Fld := Fld.mk 11 8 0 1 .c 0 [] false false none false 0
/-- PAIR_IRQ_EN ENABLE (R327). -/
def PAIR_IRQ_EN_ENABLE : Fld := Fld.mk 11 0xc 0 10 .i 0 [] false false none false 0
/-- PAIR_RESYNC_LIMIT LIMIT (R327). -/
def PAIR_RESYNC_LIMIT_LIMIT : Fld := Fld.mk 11 0x10 0 32 .b 0x78 [] false false none false 0
/-- PAIR_IRM_CAL CAL (R327). -/
def PAIR_IRM_CAL_CAL : Fld := Fld.mk 11 0x14 0 32 .b 0 [] false false none false 0
/-- PAIR_IRM_DELAY DELAY (R327). -/
def PAIR_IRM_DELAY_DELAY : Fld := Fld.mk 11 0x18 0 32 .o 0 [] false false none false 0
/-- PAIR_IRM_OFFSET OFFSET (R327). -/
def PAIR_IRM_OFFSET_OFFSET : Fld := Fld.mk 11 0x1c 0 32 .o 0 [] false false none false 0
/-- PAIR_MM_MS MS (R327). -/
def PAIR_MM_MS_MS : Fld := Fld.mk 11 0x20 0 32 .o 0 [] false false none false 0
/-- PAIR_MM_MASK MASK (R327). -/
def PAIR_MM_MASK_MASK : Fld := Fld.mk 11 0x24 0 4 .o 0 [] false false none false 0
/-- PAIR_PARTNER MODE (R327). -/
def PAIR_PARTNER_MODE : Fld := Fld.mk 11 0x28 0 4 .o 0xf [] false false none false 0
/-- PAIR_PARTNER_VER VER (R327). -/
def PAIR_PARTNER_VER_VER : Fld := Fld.mk 11 0x2c 0 32 .o 0 [] false false none false 0
/-- PAIR_CMD DRILL (R327). -/
def PAIR_CMD_DRILL : Fld := Fld.mk 11 0x30 0 1 .w 0 [] false false none false 0
/-- PAIR_COUNT COUNT (R327). -/
def PAIR_COUNT_COUNT : Fld := Fld.mk 11 0x100 0 32 .c 0 [4] false false none false 0
/-- PAIR_CAS_CFG RANK (R327). -/
def PAIR_CAS_CFG_RANK : Fld := Fld.mk 11 0x200 0 16 .b 0xffff [] false false none false 0
/-- PAIR_CAS_STATUS PARENT_OK (R327). -/
def PAIR_CAS_STATUS_PARENT_OK : Fld := Fld.mk 11 0x204 31 1 .o 0 [] false false none false 0
/-- PAIR_CAS_STATUS ALT_IN_USE (R327). -/
def PAIR_CAS_STATUS_ALT_IN_USE : Fld := Fld.mk 11 0x204 30 1 .o 0 [] false false none false 0
/-- PAIR_CAS_STATUS CHILDREN (R327). -/
def PAIR_CAS_STATUS_CHILDREN : Fld := Fld.mk 11 0x204 24 6 .o 0 [] false false none true 0
/-- PAIR_CAS_STATUS DEPTH (R327). -/
def PAIR_CAS_STATUS_DEPTH : Fld := Fld.mk 11 0x204 0 16 .o 0 [] false false none false 0
/-- PAIR_CAS_COUNT COUNT (R327). -/
def PAIR_CAS_COUNT_COUNT : Fld := Fld.mk 11 0x280 0 32 .c 0 [4] false false none false 0
/-- PAIR_IRQ_STATUS PARENT_LOST (R327). -/
def PAIR_IRQ_STATUS_PARENT_LOST : Fld := Fld.mk 11 0x700 7 1 .c 0 [] false false none false 0
/-- PAIR_IRQ_STATUS DUAL_ACTIVE (R327). -/
def PAIR_IRQ_STATUS_DUAL_ACTIVE : Fld := Fld.mk 11 0x700 6 1 .c 0 [] false false none false 0
/-- PAIR_IRQ_STATUS DRILL_FAIL (R327). -/
def PAIR_IRQ_STATUS_DRILL_FAIL : Fld := Fld.mk 11 0x700 5 1 .c 0 [] false false none false 0
/-- PAIR_IRQ_STATUS RESYNC_DONE (R327). -/
def PAIR_IRQ_STATUS_RESYNC_DONE : Fld := Fld.mk 11 0x700 4 1 .c 0 [] false false none false 0
/-- PAIR_IRQ_STATUS MISMATCH (R327). -/
def PAIR_IRQ_STATUS_MISMATCH : Fld := Fld.mk 11 0x700 3 1 .c 0 [] false false none false 0
/-- PAIR_IRQ_STATUS SIGN (R327). -/
def PAIR_IRQ_STATUS_SIGN : Fld := Fld.mk 11 0x700 2 1 .c 0 [] false false none false 0
/-- PAIR_IRQ_STATUS HANDOVER (R327). -/
def PAIR_IRQ_STATUS_HANDOVER : Fld := Fld.mk 11 0x700 1 1 .c 0 [] false false none false 0
/-- PAIR_IRQ_STATUS TAKEOVER (R327). -/
def PAIR_IRQ_STATUS_TAKEOVER : Fld := Fld.mk 11 0x700 0 1 .c 0 [] false false none false 0
/-- PAIR_IRQ_ENABLE ENABLE (R327). -/
def PAIR_IRQ_ENABLE_ENABLE : Fld := Fld.mk 11 0x704 0 8 .i 0 [] false false none false 0
/-- PWR_STATUS ON_BATTERY (R340). -/
def PWR_STATUS_ON_BATTERY : Fld := Fld.mk 12 0 31 1 .o 0 [] false false none false 0
/-- PWR_STATUS SHEDDING (R340). -/
def PWR_STATUS_SHEDDING : Fld := Fld.mk 12 0 30 1 .o 0 [] false false none true 0
/-- PWR_STATUS THERM_LIMIT (R340). -/
def PWR_STATUS_THERM_LIMIT : Fld := Fld.mk 12 0 29 1 .o 0 [] false false none true 0
/-- PWR_STATUS STARVED (R340). -/
def PWR_STATUS_STARVED : Fld := Fld.mk 12 0 28 1 .o 0 [] false false none false 0
/-- PWR_STATUS RESERVE_STALE (R340). -/
def PWR_STATUS_RESERVE_STALE : Fld := Fld.mk 12 0 27 1 .o 0 [] false false none false 0
/-- PWR_STATUS SCRUB_LATE (R340). -/
def PWR_STATUS_SCRUB_LATE : Fld := Fld.mk 12 0 26 1 .o 0 [] false false none false 0
/-- PWR_STATUS LIFE_WARN (R340). -/
def PWR_STATUS_LIFE_WARN : Fld := Fld.mk 12 0 25 1 .o 0 [] false false none false 0
/-- PWR_STATUS SHED_LEVEL (R340). -/
def PWR_STATUS_SHED_LEVEL : Fld := Fld.mk 12 0 23 2 .o 0 [] false false none true 0
/-- PWR_STATUS BINDING (R340). -/
def PWR_STATUS_BINDING : Fld := Fld.mk 12 0 20 3 .o 0 [] false false none false 0
/-- PWR_MEAS TJ (R340). -/
def PWR_MEAS_TJ : Fld := Fld.mk 12 4 16 16 .o 0 [] false false none false 0
/-- PWR_MEAS P (R340). -/
def PWR_MEAS_P : Fld := Fld.mk 12 4 0 16 .o 0 [] false false none false 0
/-- PWR_CAP_NOW THERM_CAP (R340). -/
def PWR_CAP_NOW_THERM_CAP : Fld := Fld.mk 12 8 16 16 .o 0 [] false false none false 0
/-- PWR_CAP_NOW CAP (R340). -/
def PWR_CAP_NOW_CAP : Fld := Fld.mk 12 8 0 16 .o 0x251c [] false false none false 0
/-- PWR_SCALE SCALE (R340). -/
def PWR_SCALE_SCALE : Fld := Fld.mk 12 0xc 0 32 .o 0x400 [] false false none false 0
/-- PWR_LIMITS BAT_CAP (R340). -/
def PWR_LIMITS_BAT_CAP : Fld := Fld.mk 12 0x10 16 16 .b 0x1388 [] false true (some 7) false 0
/-- PWR_LIMITS POWER_CAP (R340). -/
def PWR_LIMITS_POWER_CAP : Fld := Fld.mk 12 0x10 0 16 .b 0x251c [] false true (some 7) false 0
/-- PWR_MARGIN RESTORE_GAP (R340). -/
def PWR_MARGIN_RESTORE_GAP : Fld := Fld.mk 12 0x14 16 16 .b 0x1f4 [] false true none false 0
/-- PWR_MARGIN MARGIN (R340). -/
def PWR_MARGIN_MARGIN : Fld := Fld.mk 12 0x14 0 16 .b 0xc8 [] false true none false 0
/-- PWR_THERM THERM_STEP (R340). -/
def PWR_THERM_THERM_STEP : Fld := Fld.mk 12 0x18 16 16 .b 0xfa [] false true (some 7) false 0
/-- PWR_THERM TJ_CRIT (R340). -/
def PWR_THERM_TJ_CRIT : Fld := Fld.mk 12 0x18 8 8 .b 0x78 [] false true (some 7) false 0
/-- PWR_THERM TJ_TARGET (R340). -/
def PWR_THERM_TJ_TARGET : Fld := Fld.mk 12 0x18 0 8 .b 0x64 [] false true (some 7) false 0
/-- PWR_RESERVE ENERGY_RESERVE (R340). -/
def PWR_RESERVE_ENERGY_RESERVE : Fld := Fld.mk 12 0x1c 0 24 .i 0 [] false false none false 0
/-- PWR_AUTONOMY RESERVE_MAX_AGE (R340). -/
def PWR_AUTONOMY_RESERVE_MAX_AGE : Fld := Fld.mk 12 0x20 16 16 .b 0x3c [] false true none false 0
/-- PWR_AUTONOMY AUTONOMY_MIN (R340). -/
def PWR_AUTONOMY_AUTONOMY_MIN : Fld := Fld.mk 12 0x20 0 16 .b 0x3c [] false true none false 0
/-- PWR_POLICY B_ON_BATTERY (R340). -/
def PWR_POLICY_B_ON_BATTERY : Fld := Fld.mk 12 0x24 31 1 .b 0 [] false true none false 0
/-- PWR_POLICY LANE_SHED (R340). -/
def PWR_POLICY_LANE_SHED : Fld := Fld.mk 12 0x24 0 4 .b 0 [] false true none false 0
/-- PWR_RESTORE RESTORE_HOLD (R340). -/
def PWR_RESTORE_RESTORE_HOLD : Fld := Fld.mk 12 0x28 0 16 .b 0x3e8 [] false true none false 0
/-- PWR_COEF COEF (R340). -/
def PWR_COEF_COEF : Fld := Fld.mk 12 0x100 0 32 .o 0 [4] false false none false 0
/-- PWR_LIFE_AVG AVG (R340). -/
def PWR_LIFE_AVG_AVG : Fld := Fld.mk 12 0x200 0 32 .o 0 [] false false none false 0
/-- PWR_LIFE_HOURS HOURS (R340). -/
def PWR_LIFE_HOURS_HOURS : Fld := Fld.mk 12 0x204 0 32 .o 0 [] false false none false 0
/-- PWR_HOURS_HOT HOT (R340). -/
def PWR_HOURS_HOT_HOT : Fld := Fld.mk 12 0x208 0 32 .o 0 [] false false none false 0
/-- PWR_COUNT COUNT (R340). -/
def PWR_COUNT_COUNT : Fld := Fld.mk 12 0x300 0 32 .c 0 [4] false false none false 0
/-- PWR_IRQ_STATUS LIFE_WARN (R340). -/
def PWR_IRQ_STATUS_LIFE_WARN : Fld := Fld.mk 12 0x700 5 1 .c 0 [] false false none false 0
/-- PWR_IRQ_STATUS STARVED (R340). -/
def PWR_IRQ_STATUS_STARVED : Fld := Fld.mk 12 0x700 4 1 .c 0 [] false false none false 0
/-- PWR_IRQ_STATUS SOURCE_CHANGE (R340). -/
def PWR_IRQ_STATUS_SOURCE_CHANGE : Fld := Fld.mk 12 0x700 3 1 .c 0 [] false false none false 0
/-- PWR_IRQ_STATUS THERM_LIMIT (R340). -/
def PWR_IRQ_STATUS_THERM_LIMIT : Fld := Fld.mk 12 0x700 2 1 .c 0 [] false false none false 0
/-- PWR_IRQ_STATUS RESTORE (R340). -/
def PWR_IRQ_STATUS_RESTORE : Fld := Fld.mk 12 0x700 1 1 .c 0 [] false false none false 0
/-- PWR_IRQ_STATUS SHED (R340). -/
def PWR_IRQ_STATUS_SHED : Fld := Fld.mk 12 0x700 0 1 .c 0 [] false false none false 0
/-- PWR_IRQ_ENABLE ENABLE (R340). -/
def PWR_IRQ_ENABLE_ENABLE : Fld := Fld.mk 12 0x704 0 6 .i 0 [] false false none false 0
/-- QUE_NONEMPTY MAP (R410). -/
def QUE_NONEMPTY_MAP : Fld := Fld.mk 13 0 0 32 .o 0 [] false false none true 0
/-- QUE_FULL MAP (R410). -/
def QUE_FULL_MAP : Fld := Fld.mk 13 4 0 32 .o 0 [] false false none true 0
/-- QUE_CFG POLICY (R410). -/
def QUE_CFG_POLICY : Fld := Fld.mk 13 0x100 31 1 .i 0 [0x20] false false none false 0
/-- QUE_CFG ITEM_SIZE (R410). -/
def QUE_CFG_ITEM_SIZE : Fld := Fld.mk 13 0x100 16 7 .o 0 [0x20] false false none true 0
/-- QUE_CFG ROUTE (R410). -/
def QUE_CFG_ROUTE : Fld := Fld.mk 13 0x100 0 16 .i 0 [0x20] false false none false 0
/-- QUE_COUNT CAPACITY (R410). -/
def QUE_COUNT_CAPACITY : Fld := Fld.mk 13 0x104 16 12 .o 0 [0x20] false false none true 0
/-- QUE_COUNT COUNT (R410). -/
def QUE_COUNT_COUNT : Fld := Fld.mk 13 0x104 0 12 .o 0 [0x20] false false none true 0
/-- QUE_PEAK PEAK (R410). -/
def QUE_PEAK_PEAK : Fld := Fld.mk 13 0x108 0 12 .c 0 [0x20] false false none false 0
/-- QUE_LOSS LOSS (R410). -/
def QUE_LOSS_LOSS : Fld := Fld.mk 13 0x10c 0 32 .c 0 [0x20] false false none false 0
/-- QUE_PORT PORT (R410). -/
def QUE_PORT_PORT : Fld := Fld.mk 13 0x110 0 32 .o 0 [0x20] false false none true 0
/-- QUE_ABANDON COUNT (R410). -/
def QUE_ABANDON_COUNT : Fld := Fld.mk 13 0x114 0 32 .c 0 [0x20] false false none false 0
/-- QUE_FLUSH FLUSH (R410). -/
def QUE_FLUSH_FLUSH : Fld := Fld.mk 13 0x118 0 1 .w 0 [0x20] false false none false 0
/-- MID_CFG SPEED (R420). -/
def MID_CFG_SPEED : Fld := Fld.mk 14 0 31 1 .b 1 [] false false none false 0
/-- MID_CFG SFP_POLL_EN (R420). -/
def MID_CFG_SFP_POLL_EN : Fld := Fld.mk 14 0 30 1 .b 1 [] false false none false 0
/-- MID_STATUS BUSY (R420). -/
def MID_STATUS_BUSY : Fld := Fld.mk 14 4 31 1 .o 0 [] false false none true 0
/-- MID_STATUS SFP_PRESENT (R420). -/
def MID_STATUS_SFP_PRESENT : Fld := Fld.mk 14 4 16 4 .o 0 [] false false none true 0
/-- MID_STATUS RECORD_OK (R420). -/
def MID_STATUS_RECORD_OK : Fld := Fld.mk 14 4 8 8 .o 0 [] false false none true 0
/-- MID_STATUS PRESENT (R420). -/
def MID_STATUS_PRESENT : Fld := Fld.mk 14 4 0 8 .o 0 [] false false none false 0
/-- MID_STICKY SFP_CHANGE_SEEN3 (R420). -/
def MID_STICKY_SFP_CHANGE_SEEN3 : Fld := Fld.mk 14 8 27 1 .c 0 [] false false none false 0
/-- MID_STICKY SFP_CHANGE_SEEN2 (R420). -/
def MID_STICKY_SFP_CHANGE_SEEN2 : Fld := Fld.mk 14 8 26 1 .c 0 [] false false none false 0
/-- MID_STICKY SFP_CHANGE_SEEN1 (R420). -/
def MID_STICKY_SFP_CHANGE_SEEN1 : Fld := Fld.mk 14 8 25 1 .c 0 [] false false none false 0
/-- MID_STICKY SFP_CHANGE_SEEN0 (R420). -/
def MID_STICKY_SFP_CHANGE_SEEN0 : Fld := Fld.mk 14 8 24 1 .c 0 [] false false none false 0
/-- MID_STICKY BAD_SEEN7 (R420). -/
def MID_STICKY_BAD_SEEN7 : Fld := Fld.mk 14 8 23 1 .c 0 [] false false none false 0
/-- MID_STICKY BAD_SEEN6 (R420). -/
def MID_STICKY_BAD_SEEN6 : Fld := Fld.mk 14 8 22 1 .c 0 [] false false none false 0
/-- MID_STICKY BAD_SEEN5 (R420). -/
def MID_STICKY_BAD_SEEN5 : Fld := Fld.mk 14 8 21 1 .c 0 [] false false none false 0
/-- MID_STICKY BAD_SEEN4 (R420). -/
def MID_STICKY_BAD_SEEN4 : Fld := Fld.mk 14 8 20 1 .c 0 [] false false none false 0
/-- MID_STICKY BAD_SEEN3 (R420). -/
def MID_STICKY_BAD_SEEN3 : Fld := Fld.mk 14 8 19 1 .c 0 [] false false none false 0
/-- MID_STICKY BAD_SEEN2 (R420). -/
def MID_STICKY_BAD_SEEN2 : Fld := Fld.mk 14 8 18 1 .c 0 [] false false none false 0
/-- MID_STICKY BAD_SEEN1 (R420). -/
def MID_STICKY_BAD_SEEN1 : Fld := Fld.mk 14 8 17 1 .c 0 [] false false none false 0
/-- MID_STICKY BAD_SEEN0 (R420). -/
def MID_STICKY_BAD_SEEN0 : Fld := Fld.mk 14 8 16 1 .c 0 [] false false none false 0
/-- MID_STICKY REMOVE_SEEN7 (R420). -/
def MID_STICKY_REMOVE_SEEN7 : Fld := Fld.mk 14 8 15 1 .c 0 [] false false none false 0
/-- MID_STICKY REMOVE_SEEN6 (R420). -/
def MID_STICKY_REMOVE_SEEN6 : Fld := Fld.mk 14 8 14 1 .c 0 [] false false none false 0
/-- MID_STICKY REMOVE_SEEN5 (R420). -/
def MID_STICKY_REMOVE_SEEN5 : Fld := Fld.mk 14 8 13 1 .c 0 [] false false none false 0
/-- MID_STICKY REMOVE_SEEN4 (R420). -/
def MID_STICKY_REMOVE_SEEN4 : Fld := Fld.mk 14 8 12 1 .c 0 [] false false none false 0
/-- MID_STICKY REMOVE_SEEN3 (R420). -/
def MID_STICKY_REMOVE_SEEN3 : Fld := Fld.mk 14 8 11 1 .c 0 [] false false none false 0
/-- MID_STICKY REMOVE_SEEN2 (R420). -/
def MID_STICKY_REMOVE_SEEN2 : Fld := Fld.mk 14 8 10 1 .c 0 [] false false none false 0
/-- MID_STICKY REMOVE_SEEN1 (R420). -/
def MID_STICKY_REMOVE_SEEN1 : Fld := Fld.mk 14 8 9 1 .c 0 [] false false none false 0
/-- MID_STICKY REMOVE_SEEN0 (R420). -/
def MID_STICKY_REMOVE_SEEN0 : Fld := Fld.mk 14 8 8 1 .c 0 [] false false none false 0
/-- MID_STICKY INSERT_SEEN7 (R420). -/
def MID_STICKY_INSERT_SEEN7 : Fld := Fld.mk 14 8 7 1 .c 0 [] false false none false 0
/-- MID_STICKY INSERT_SEEN6 (R420). -/
def MID_STICKY_INSERT_SEEN6 : Fld := Fld.mk 14 8 6 1 .c 0 [] false false none false 0
/-- MID_STICKY INSERT_SEEN5 (R420). -/
def MID_STICKY_INSERT_SEEN5 : Fld := Fld.mk 14 8 5 1 .c 0 [] false false none false 0
/-- MID_STICKY INSERT_SEEN4 (R420). -/
def MID_STICKY_INSERT_SEEN4 : Fld := Fld.mk 14 8 4 1 .c 0 [] false false none false 0
/-- MID_STICKY INSERT_SEEN3 (R420). -/
def MID_STICKY_INSERT_SEEN3 : Fld := Fld.mk 14 8 3 1 .c 0 [] false false none false 0
/-- MID_STICKY INSERT_SEEN2 (R420). -/
def MID_STICKY_INSERT_SEEN2 : Fld := Fld.mk 14 8 2 1 .c 0 [] false false none false 0
/-- MID_STICKY INSERT_SEEN1 (R420). -/
def MID_STICKY_INSERT_SEEN1 : Fld := Fld.mk 14 8 1 1 .c 0 [] false false none false 0
/-- MID_STICKY INSERT_SEEN0 (R420). -/
def MID_STICKY_INSERT_SEEN0 : Fld := Fld.mk 14 8 0 1 .c 0 [] false false none false 0
/-- MID_NACKS COUNT (R420). -/
def MID_NACKS_COUNT : Fld := Fld.mk 14 0xc 0 32 .c 0 [] false false none false 0
/-- MID_MOD_CFG BUS (R420). -/
def MID_MOD_CFG_BUS : Fld := Fld.mk 14 0x100 8 2 .b 0 [0x10] false false none false 0
/-- MID_MOD_CFG ADDRESS (R420). -/
def MID_MOD_CFG_ADDRESS : Fld := Fld.mk 14 0x100 0 7 .b 0x50 [0x10] false false none false 0
/-- MID_MOD_STATUS STATE (R420). -/
def MID_MOD_STATUS_STATE : Fld := Fld.mk 14 0x104 29 3 .o 0 [0x10] false false none false 0
/-- MID_MOD_STATUS ERROR (R420). -/
def MID_MOD_STATUS_ERROR : Fld := Fld.mk 14 0x104 24 4 .o 0 [0x10] false false none false 0
/-- MID_MOD_STATUS VERSION (R420). -/
def MID_MOD_STATUS_VERSION : Fld := Fld.mk 14 0x104 16 8 .o 0 [0x10] false false none false 0
/-- MID_MOD_STATUS CLASS (R420). -/
def MID_MOD_STATUS_CLASS : Fld := Fld.mk 14 0x104 0 16 .o 0 [0x10] false false none false 0
/-- MID_MOD_LENGTH LENGTH (R420). -/
def MID_MOD_LENGTH_LENGTH : Fld := Fld.mk 14 0x108 0 12 .o 0 [0x10] false false none false 0
/-- MID_MOD_READ READ (R420). -/
def MID_MOD_READ_READ : Fld := Fld.mk 14 0x10c 0 1 .w 0 [0x10] false false none false 0
/-- MID_REC_SEL PAGE (R420). -/
def MID_REC_SEL_PAGE : Fld := Fld.mk 14 0x200 8 2 .i 0 [] false false none false 0
/-- MID_REC_SEL MODULE (R420). -/
def MID_REC_SEL_MODULE : Fld := Fld.mk 14 0x200 0 3 .i 0 [] false false none false 0
/-- MID_SFP_STATUS PRESENT (R420). -/
def MID_SFP_STATUS_PRESENT : Fld := Fld.mk 14 0x300 31 1 .o 0 [0x10] false false none false 0
/-- MID_SFP_STATUS CC_OK (R420). -/
def MID_SFP_STATUS_CC_OK : Fld := Fld.mk 14 0x300 30 1 .o 0 [0x10] false false none false 0
/-- MID_SFP_STATUS DDM (R420). -/
def MID_SFP_STATUS_DDM : Fld := Fld.mk 14 0x300 29 1 .o 0 [0x10] false false none false 0
/-- MID_SFP_STATUS SPEEDS (R420). -/
def MID_SFP_STATUS_SPEEDS : Fld := Fld.mk 14 0x300 0 4 .o 0 [0x10] false false none false 0
/-- MID_SFP_TEMP TEMP (R420). -/
def MID_SFP_TEMP_TEMP : Fld := Fld.mk 14 0x304 0 16 .o 0 [0x10] false false none false 0
/-- MID_SFP_POWER RX (R420). -/
def MID_SFP_POWER_RX : Fld := Fld.mk 14 0x308 16 16 .o 0 [0x10] false false none false 0
/-- MID_SFP_POWER TX (R420). -/
def MID_SFP_POWER_TX : Fld := Fld.mk 14 0x308 0 16 .o 0 [0x10] false false none false 0
/-- MID_REC BYTES (R420). -/
def MID_REC_BYTES : Fld := Fld.mk 14 0x400 0 32 .o 0 [4] false false none true 0
/-- MID_IRQ_STATUS SFP_CHANGE (R420). -/
def MID_IRQ_STATUS_SFP_CHANGE : Fld := Fld.mk 14 0x700 3 1 .c 0 [] false false none false 0
/-- MID_IRQ_STATUS RECORD_BAD (R420). -/
def MID_IRQ_STATUS_RECORD_BAD : Fld := Fld.mk 14 0x700 2 1 .c 0 [] false false none false 0
/-- MID_IRQ_STATUS REMOVED (R420). -/
def MID_IRQ_STATUS_REMOVED : Fld := Fld.mk 14 0x700 1 1 .c 0 [] false false none false 0
/-- MID_IRQ_STATUS INSERTED (R420). -/
def MID_IRQ_STATUS_INSERTED : Fld := Fld.mk 14 0x700 0 1 .c 0 [] false false none false 0
/-- MID_IRQ_ENABLE ENABLE (R420). -/
def MID_IRQ_ENABLE_ENABLE : Fld := Fld.mk 14 0x704 0 4 .i 0 [] false false none false 0
/-- DMB_STATUS BUSY (R353). -/
def DMB_STATUS_BUSY : Fld := Fld.mk 15 0 31 1 .o 0 [] false false none false 0
/-- DMB_STATUS LAST_TAG (R353). -/
def DMB_STATUS_LAST_TAG : Fld := Fld.mk 15 0 0 12 .o 0 [] false false none false 0
/-- DMB_IGNORED COUNT (R353). -/
def DMB_IGNORED_COUNT : Fld := Fld.mk 15 4 0 32 .c 0 [] false false none false 0
/-- DMB_RESP_LEN LEN (R353). -/
def DMB_RESP_LEN_LEN : Fld := Fld.mk 15 8 0 9 .o 0 [] false false none false 0
/-- DMB_REQ BYTES (R353). -/
def DMB_REQ_BYTES : Fld := Fld.mk 15 0x40 0 32 .i 0 [4] false false none false 0
/-- DMB_RESP BYTES (R353). -/
def DMB_RESP_BYTES : Fld := Fld.mk 15 0x200 0 32 .o 0 [4] false false none false 0

end F

/-- Registers of block GCTL (part 0). -/
def regsGCTL0 : List Reg := [
  ⟨0, 0, [], 1, [F.GCTL_ID_ID]⟩,
  ⟨0, 4, [], 1, [F.GCTL_REV_MAJOR, F.GCTL_REV_MINOR]⟩,
  ⟨0, 8, [], 1, [F.GCTL_MODE_PREV_MODE, F.GCTL_MODE_ENTRY_CAUSE, F.GCTL_MODE_IN_TRANSITION, F.GCTL_MODE_TRANSITION_COUNT, F.GCTL_MODE_MODE]⟩,
  ⟨0, 0xc, [], 1, [F.GCTL_MODE_REQ_REQ_GO, F.GCTL_MODE_REQ_FORCE, F.GCTL_MODE_REQ_RESULT, F.GCTL_MODE_REQ_TARGET]⟩,
  ⟨0, 0x10, [], 1, [F.GCTL_CAPACITY_MTX_SLICES, F.GCTL_CAPACITY_MTX_SPARE_FREE, F.GCTL_CAPACITY_STR_SLICES, F.GCTL_CAPACITY_STR_SPARE_FREE, F.GCTL_CAPACITY_NET_LANES, F.GCTL_CAPACITY_IRM_LANE, F.GCTL_CAPACITY_CORRELATORS, F.GCTL_CAPACITY_APT_PORTS, F.GCTL_CAPACITY_TS_UNITS]⟩,
  ⟨0, 0x14, [], 1, [F.GCTL_BOOT_STATUS_BOOT_STEP, F.GCTL_BOOT_STATUS_DDR_TRAIN_FAIL, F.GCTL_BOOT_STATUS_LIB_BG_DONE, F.GCTL_BOOT_STATUS_LIB_ESSENTIAL_OK, F.GCTL_BOOT_STATUS_CONFIG_VALID, F.GCTL_BOOT_STATUS_DDR_SIZE_MISMATCH, F.GCTL_BOOT_STATUS_IMAGE_FALLBACK, F.GCTL_BOOT_STATUS_IMAGE_SLOT, F.GCTL_BOOT_STATUS_HOST_ROLE, F.GCTL_BOOT_STATUS_PAIR_SIDE, F.GCTL_BOOT_STATUS_BOOT_SEL]⟩,
  ⟨0, 0x20, [], 1, [F.GCTL_IRQ_STATUS_MODE_CHANGE, F.GCTL_IRQ_STATUS_CAPACITY_CHANGE, F.GCTL_IRQ_STATUS_BOOT_DONE, F.GCTL_IRQ_STATUS_FREEZE, F.GCTL_IRQ_STATUS_LOCK_DENIED, F.GCTL_IRQ_STATUS_MEM_UNCORRECTABLE, F.GCTL_IRQ_STATUS_CONFIG_DEFAULTED, F.GCTL_IRQ_STATUS_CAPACITY_ALARM, F.GCTL_IRQ_STATUS_DDR_SIZE_MISMATCH, F.GCTL_IRQ_STATUS_JOURNAL_HIGH, F.GCTL_IRQ_STATUS_BLOCK]⟩,
  ⟨0, 0x24, [], 1, [F.GCTL_IRQ_ENABLE_EVENTS, F.GCTL_IRQ_ENABLE_BLOCK]⟩,
  ⟨0, 0x28, [], 1, [F.GCTL_SCRATCH_SCRATCH]⟩,
  ⟨0, 0x2c, [], 1, [F.GCTL_HOST_ERR_BAD_OPCODE, F.GCTL_HOST_ERR_ABANDONED, F.GCTL_HOST_ERR_DENIED, F.GCTL_HOST_ERR_IGNORED]⟩,
  ⟨0, 0x1000, [], 1, [F.UPD_STROBE_STROBE]⟩,
  ⟨0, 0x1004, [], 1, [F.UPD_PENDING_PENDING]⟩,
  ⟨0, 0x1008, [], 1, [F.UPD_HELD_HELD]⟩,
  ⟨0, 0x1040, [(16, 4)], 1, [F.UPD_ASSIGN_GROUP]⟩,
  ⟨0, 0x1100, [], 1, [F.SNAP_CMD_VIEW_OFF, F.SNAP_CMD_VIEW_ON, F.SNAP_CMD_CLEAR, F.SNAP_CMD_TAKE]⟩,
  ⟨0, 0x1104, [], 1, [F.SNAP_STAMP_SEC_SEC]⟩,
  ⟨0, 0x1108, [], 1, [F.SNAP_STAMP_NS_NS]⟩,
  ⟨0, 0x110c, [], 1, [F.SNAP_STAMP_SEC_HI_SUB, F.SNAP_STAMP_SEC_HI_SEC_HI]⟩,
  ⟨0, 0x1110, [], 1, [F.SNAP_STATUS_VIEW, F.SNAP_STATUS_VALID, F.SNAP_STATUS_COUNT]⟩,
  ⟨0, 0x2000, [], 1, [F.LKF_LOCK_LOCK]⟩]
/-- Registers of block GCTL (part 1). -/
def regsGCTL1 : List Reg := [
  ⟨0, 0x2004, [], 1, [F.LKF_FREEZE_STATUS_HOST_FROZEN, F.LKF_FREEZE_STATUS_SESSIONS, F.LKF_FREEZE_STATUS_PEERS]⟩,
  ⟨0, 0x2008, [], 1, [F.LKF_FREEZE_CAUSE_NEW, F.LKF_FREEZE_CAUSE_CAUSE]⟩,
  ⟨0, 0x200c, [], 1, [F.LKF_FREEZE_MASTER_MASTER]⟩,
  ⟨0, 0x2010, [], 1, [F.LKF_LOCK_DENIED_COUNT]⟩]
/-- Registers of block GCTL. -/
def regsGCTL : List Reg := regsGCTL0 ++ regsGCTL1
/-- Registers of block CLK. -/
def regsCLK : List Reg := [
  ⟨1, 0, [], 1, [F.CLK_ROOT_STATUS_ROOT_LOCKED, F.CLK_ROOT_STATUS_ON_BACKUP, F.CLK_ROOT_STATUS_XO_PRESENT, F.CLK_ROOT_STATUS_BACKUP_FAULT, F.CLK_ROOT_STATUS_XO_FREQ, F.CLK_ROOT_STATUS_BACKUP_OFFSET]⟩,
  ⟨1, 4, [], 1, [F.CLK_ROOT_STICKY_XO_LOST_SEEN, F.CLK_ROOT_STICKY_ROOT_UNLOCK_SEEN, F.CLK_ROOT_STICKY_BACKUP_FAULT_SEEN, F.CLK_ROOT_STICKY_BACKUP_SWITCH_SEEN]⟩,
  ⟨1, 8, [], 1, [F.CLK_ROOT_CTL_SRD_REF_EN]⟩,
  ⟨1, 0x100, [(4, 0x20)], 1, [F.CLK_SYN_INT_ALIGN_SEC, F.CLK_SYN_INT_AUTO_RESTART, F.CLK_SYN_INT_N]⟩,
  ⟨1, 0x104, [(4, 0x20)], 1, [F.CLK_SYN_NUM_NUM]⟩,
  ⟨1, 0x108, [(4, 0x20)], 1, [F.CLK_SYN_DEN_DEN]⟩,
  ⟨1, 0x10c, [(4, 0x20)], 1, [F.CLK_SYN_STATUS_LOCKED, F.CLK_SYN_STATUS_ALIGNED, F.CLK_SYN_STATUS_CFG_ERR, F.CLK_SYN_STATUS_CFG_REFUSED, F.CLK_SYN_STATUS_UNLOCK_COUNT]⟩,
  ⟨1, 0x200, [(8, 0x10)], 1, [F.CLK_OUT_CFG_EN, F.CLK_OUT_CFG_DIS_STATE, F.CLK_OUT_CFG_SRC, F.CLK_OUT_CFG_WAIT_DLL, F.CLK_OUT_CFG_FORMAT]⟩,
  ⟨1, 0x204, [(8, 0x10)], 1, [F.CLK_OUT_DIV_DIV]⟩,
  ⟨1, 0x208, [(8, 0x10)], 1, [F.CLK_OUT_PHASE_PHASE_OFFSET]⟩,
  ⟨1, 0x20c, [(8, 0x10)], 1, [F.CLK_OUT_STATUS_RUNNING, F.CLK_OUT_STATUS_GATED, F.CLK_OUT_STATUS_PENDING_DIV, F.CLK_OUT_STATUS_STEP_ACTIVE]⟩,
  ⟨1, 0x300, [(2, 0x10)], 1, [F.CLK_DLL_CFG_EN, F.CLK_DLL_CFG_OUT_SEL, F.CLK_DLL_CFG_SET]⟩,
  ⟨1, 0x304, [(2, 0x10)], 1, [F.CLK_DLL_STATUS_LOCKED, F.CLK_DLL_STATUS_FB_LOST, F.CLK_DLL_STATUS_RANGE_ERR, F.CLK_DLL_STATUS_DELAY]⟩,
  ⟨1, 0x308, [(2, 0x10)], 1, [F.CLK_DLL_LOOP_LOOP_DELAY]⟩,
  ⟨1, 0x400, [(8, 0x10)], 1, [F.CLK_MCLK_CFG_EN, F.CLK_MCLK_CFG_DIS_STATE, F.CLK_MCLK_CFG_RATE, F.CLK_MCLK_CFG_RATIO]⟩,
  ⟨1, 0x404, [(8, 0x10)], 1, [F.CLK_MCLK_TRIM_TRIM]⟩,
  ⟨1, 0x408, [(8, 0x10)], 1, [F.CLK_MCLK_STATUS_LOCKED, F.CLK_MCLK_STATUS_ALIGNED, F.CLK_MCLK_STATUS_TRIM_CLAMPED]⟩,
  ⟨1, 0x500, [], 1, [F.CLK_IRQ_STATUS_MCLK_UNLOCK7, F.CLK_IRQ_STATUS_MCLK_UNLOCK6, F.CLK_IRQ_STATUS_MCLK_UNLOCK5, F.CLK_IRQ_STATUS_MCLK_UNLOCK4, F.CLK_IRQ_STATUS_MCLK_UNLOCK3, F.CLK_IRQ_STATUS_MCLK_UNLOCK2, F.CLK_IRQ_STATUS_MCLK_UNLOCK1, F.CLK_IRQ_STATUS_MCLK_UNLOCK0, F.CLK_IRQ_STATUS_DLL_FAULT1, F.CLK_IRQ_STATUS_DLL_FAULT0, F.CLK_IRQ_STATUS_OUT_GATED7, F.CLK_IRQ_STATUS_OUT_GATED6, F.CLK_IRQ_STATUS_OUT_GATED5, F.CLK_IRQ_STATUS_OUT_GATED4, F.CLK_IRQ_STATUS_OUT_GATED3, F.CLK_IRQ_STATUS_OUT_GATED2, F.CLK_IRQ_STATUS_OUT_GATED1, F.CLK_IRQ_STATUS_OUT_GATED0, F.CLK_IRQ_STATUS_SYN_UNLOCK3, F.CLK_IRQ_STATUS_SYN_UNLOCK2, F.CLK_IRQ_STATUS_SYN_UNLOCK1, F.CLK_IRQ_STATUS_SYN_UNLOCK0, F.CLK_IRQ_STATUS_XO_LOST, F.CLK_IRQ_STATUS_BACKUP_FAULT, F.CLK_IRQ_STATUS_BACKUP_SWITCH, F.CLK_IRQ_STATUS_ROOT_UNLOCK]⟩,
  ⟨1, 0x504, [], 1, [F.CLK_IRQ_ENABLE_ENABLE]⟩]
/-- Registers of block REF (part 0). -/
def regsREF0 : List Reg := [
  ⟨2, 0, [], 1, [F.REF_SEL_STATUS_FREQ_SEL, F.REF_SEL_STATUS_TIME_SEL, F.REF_SEL_STATUS_FREQ_SEL_VALID, F.REF_SEL_STATUS_TIME_SEL_VALID, F.REF_SEL_STATUS_TIME_VALID, F.REF_SEL_STATUS_FPATH_STATE, F.REF_SEL_STATUS_TPATH_STATE, F.REF_SEL_STATUS_FREQ_RANK, F.REF_SEL_STATUS_TIME_RANK]⟩,
  ⟨2, 4, [], 1, [F.REF_SEL_CTL_FORCE_F_EN, F.REF_SEL_CTL_FORCE_F, F.REF_SEL_CTL_FORCE_T_EN, F.REF_SEL_CTL_FORCE_T, F.REF_SEL_CTL_REVERTIVE]⟩,
  ⟨2, 8, [], 1, [F.REF_LOOP_CFG_LOOP_MODE, F.REF_LOOP_CFG_TBW_CODE, F.REF_LOOP_CFG_FBW_CODE]⟩,
  ⟨2, 0xc, [], 1, [F.REF_QUAL_CFG_WTR, F.REF_QUAL_CFG_QUAL_WIN]⟩,
  ⟨2, 0x10, [], 1, [F.REF_DIS_FREQ_DIS_FREQ]⟩,
  ⟨2, 0x14, [], 1, [F.REF_DIS_TIME_DIS_TIME]⟩,
  ⟨2, 0x18, [], 1, [F.REF_STEP_LIMIT_STEP_LIMIT]⟩,
  ⟨2, 0x1c, [], 1, [F.REF_STEP_ACCEPT_ACCEPT]⟩,
  ⟨2, 0x20, [], 1, [F.REF_NCO_LO_LO]⟩,
  ⟨2, 0x24, [], 1, [F.REF_NCO_HI_HI]⟩,
  ⟨2, 0x28, [], 1, [F.REF_LOOP_FERR_FERR]⟩,
  ⟨2, 0x2c, [], 1, [F.REF_LOOP_PERR_PERR]⟩,
  ⟨2, 0x40, [], 1, [F.REF_HO_STATUS_MODEL_VALID, F.REF_HO_STATUS_HO_FREQ, F.REF_HO_STATUS_HO_TIME, F.REF_HO_STATUS_HO_EXPIRED, F.REF_HO_STATUS_REGIME, F.REF_HO_STATUS_LEARNED]⟩,
  ⟨2, 0x44, [], 1, [F.REF_HO_SPEC_SPEC]⟩,
  ⟨2, 0x48, [], 1, [F.REF_HO_REMAIN_REMAIN]⟩,
  ⟨2, 0x4c, [], 1, [F.REF_HO_ELAPSED_ELAPSED]⟩,
  ⟨2, 0x50, [], 1, [F.REF_HO_Y_Y0]⟩,
  ⟨2, 0x54, [], 1, [F.REF_HO_D_D]⟩,
  ⟨2, 0x58, [], 1, [F.REF_HO_UY_UY]⟩,
  ⟨2, 0x5c, [], 1, [F.REF_HO_UD_UD]⟩]
/-- Registers of block REF (part 1). -/
def regsREF1 : List Reg := [
  ⟨2, 0x60, [], 1, [F.REF_HO_FLOOR_UY_FLOOR_UY]⟩,
  ⟨2, 0x64, [], 1, [F.REF_HO_FLOOR_UD_FLOOR_UD]⟩,
  ⟨2, 0x80, [(5, 4)], 1, [F.REF_TERM_TERM]⟩,
  ⟨2, 0xa0, [], 1, [F.REF_STEP_SEC_LO_SEC_LO]⟩,
  ⟨2, 0xa4, [], 1, [F.REF_STEP_SEC_HI_SEC_HI]⟩,
  ⟨2, 0xa8, [], 1, [F.REF_STEP_NS_NS]⟩,
  ⟨2, 0xac, [], 1, [F.REF_STEP_DELTA_LO_DELTA_LO]⟩,
  ⟨2, 0xb0, [], 1, [F.REF_STEP_DELTA_HI_DELTA_HI]⟩,
  ⟨2, 0xb4, [], 1, [F.REF_STEP_INFO_FROM, F.REF_STEP_INFO_TO, F.REF_STEP_INFO_FROM_VALID, F.REF_STEP_INFO_STEP_COUNT]⟩,
  ⟨2, 0xc0, [], 1, [F.REF_GNSS_CFG_LABEL, F.REF_GNSS_CFG_BAUD]⟩,
  ⟨2, 0x100, [(16, 0x40)], 1, [F.REF_SLOT_CFG_EN, F.REF_SLOT_CFG_TYPE, F.REF_SLOT_CFG_RANK_OVR_EN, F.REF_SLOT_CFG_EDGE, F.REF_SLOT_CFG_PRIORITY, F.REF_SLOT_CFG_RANK_OVR]⟩,
  ⟨2, 0x104, [(16, 0x40)], 1, [F.REF_SLOT_NOMINAL_NOMINAL]⟩,
  ⟨2, 0x108, [(16, 0x40)], 1, [F.REF_SLOT_FREQ_LIMIT_FREQ_LIMIT]⟩,
  ⟨2, 0x10c, [(16, 0x40)], 1, [F.REF_SLOT_DRIFT_TOL_DRIFT_TOL]⟩,
  ⟨2, 0x110, [(16, 0x40)], 1, [F.REF_SLOT_STATUS_STATE, F.REF_SLOT_STATUS_ACTIVITY, F.REF_SLOT_STATUS_SEL_F, F.REF_SLOT_STATUS_SEL_T, F.REF_SLOT_STATUS_DISAGREE, F.REF_SLOT_STATUS_STEP_LIMIT, F.REF_SLOT_STATUS_RANK, F.REF_SLOT_STATUS_ADV_RANK]⟩,
  ⟨2, 0x114, [(16, 0x40)], 1, [F.REF_SLOT_STICKY_STEP_LIMIT_SEEN, F.REF_SLOT_STICKY_RANK_CHANGE_SEEN, F.REF_SLOT_STICKY_DISAGREE_SEEN, F.REF_SLOT_STICKY_OUTLIER_SEEN, F.REF_SLOT_STICKY_FREQ_FAIL_SEEN, F.REF_SLOT_STICKY_QUALIFIED_SEEN, F.REF_SLOT_STICKY_LOS_SEEN, F.REF_SLOT_STICKY_SELECT_CHANGE_SEEN]⟩,
  ⟨2, 0x118, [(16, 0x40)], 1, [F.REF_SLOT_IRQ_EN_ENABLE]⟩,
  ⟨2, 0x11c, [(16, 0x40)], 1, [F.REF_SLOT_MEAS_FREQ_MEAS_FREQ]⟩,
  ⟨2, 0x120, [(16, 0x40)], 1, [F.REF_SLOT_MEAS_PHASE_MEAS_PHASE]⟩,
  ⟨2, 0x124, [(5, 0x40)], 1, [F.REF_SLOT_ADV_BOUND_ADV_BOUND]⟩]
/-- Registers of block REF (part 2). -/
def regsREF2 : List Reg := [
  ⟨2, 0x264, [(11, 0x40)], 1, [F.REF_SLOT_ADV_BOUND_RO_ADV_BOUND]⟩,
  ⟨2, 0x128, [(5, 0x40)], 1, [F.REF_SLOT_PHASE_CORR_PHASE_CORR]⟩,
  ⟨2, 0x600, [(4, 0x10)], 1, [F.REF_PULSE_CFG_EN, F.REF_PULSE_CFG_POLARITY, F.REF_PULSE_CFG_WIDTH, F.REF_PULSE_CFG_PERIOD_MS]⟩,
  ⟨2, 0x604, [(4, 0x10)], 1, [F.REF_PULSE_OFFSET_LO_LO]⟩,
  ⟨2, 0x608, [(4, 0x10)], 1, [F.REF_PULSE_OFFSET_HI_HI]⟩,
  ⟨2, 0x60c, [(4, 0x10)], 1, [F.REF_PULSE_CTL_REALIGN, F.REF_PULSE_CTL_REALIGN_PENDING, F.REF_PULSE_CTL_RUNNING]⟩,
  ⟨2, 0x700, [], 1, [F.REF_IRQ_STATUS_NCO_CLAMPED, F.REF_IRQ_STATUS_HO_EXPIRED, F.REF_IRQ_STATUS_HO_ENTERED, F.REF_IRQ_STATUS_STEP_REFUSED, F.REF_IRQ_STATUS_STEP_DONE, F.REF_IRQ_STATUS_LOCK_CHANGE, F.REF_IRQ_STATUS_T_SWITCH, F.REF_IRQ_STATUS_F_SWITCH, F.REF_IRQ_STATUS_SLOT]⟩,
  ⟨2, 0x704, [], 1, [F.REF_IRQ_ENABLE_ENABLE]⟩]
/-- Registers of block REF. -/
def regsREF : List Reg := regsREF0 ++ regsREF1 ++ regsREF2
/-- Registers of block TIM (part 0). -/
def regsTIM0 : List Reg := [
  ⟨3, 0, [], 1, [F.TIM_TAI_SEC_LO_SEC_LO]⟩,
  ⟨3, 4, [], 1, [F.TIM_TAI_SEC_HI_SEC_HI]⟩,
  ⟨3, 8, [], 1, [F.TIM_TAI_NS_NS]⟩,
  ⟨3, 0xc, [], 1, [F.TIM_TAI_SUB_SUB]⟩,
  ⟨3, 0x10, [], 1, [F.TIM_STATUS_TIME_VALID, F.TIM_STATUS_BOUND_SAT, F.TIM_STATUS_LEAP_ARMED, F.TIM_STATUS_LEAP_DIR, F.TIM_STATUS_LEAP_WINDOW, F.TIM_STATUS_HO_EXPIRED, F.TIM_STATUS_NTP_SERVING, F.TIM_STATUS_NO_ISSUE_KEY, F.TIM_STATUS_TIME_ROLE, F.TIM_STATUS_UTC_OFFSET]⟩,
  ⟨3, 0x14, [], 1, [F.TIM_UTC_CFG_SRC, F.TIM_UTC_CFG_MANUAL_OFFSET]⟩,
  ⟨3, 0x18, [], 1, [F.TIM_LEAP_CFG_ARM, F.TIM_LEAP_CFG_DIR, F.TIM_LEAP_CFG_CANCEL, F.TIM_LEAP_CFG_SOURCE]⟩,
  ⟨3, 0x1c, [], 1, [F.TIM_LEAP_AT_LO_LO]⟩,
  ⟨3, 0x20, [], 1, [F.TIM_LEAP_AT_HI_HI]⟩,
  ⟨3, 0x40, [], 1, [F.TIM_BOUND_NOW_BOUND]⟩,
  ⟨3, 0x44, [], 1, [F.TIM_TERM_ASYM_ASYM]⟩,
  ⟨3, 0x48, [], 1, [F.TIM_TERM_QUANT_QUANT]⟩,
  ⟨3, 0x80, [], 1, [F.TIM_CAP_CFG_FALL, F.TIM_CAP_CFG_RISE]⟩,
  ⟨3, 0x84, [], 1, [F.TIM_CAP_LOST_LOST]⟩,
  ⟨3, 0x100, [], 1, [F.TIM_NTP_CFG_EN, F.TIM_NTP_CFG_NTS_EN, F.TIM_NTP_CFG_PLAIN_EN, F.TIM_NTP_CFG_V3_EN, F.TIM_NTP_CFG_EXPIRED_POLICY, F.TIM_NTP_CFG_BOUND_EF_EN, F.TIM_NTP_CFG_MAXPOLL, F.TIM_NTP_CFG_MINPOLL]⟩,
  ⟨3, 0x104, [], 1, [F.TIM_NTP_EF_BOUND_EF_TYPE]⟩,
  ⟨3, 0x108, [], 1, [F.TIM_NTP_RATE_RATE]⟩,
  ⟨3, 0x10c, [], 1, [F.TIM_NTP_BURST_BURST]⟩,
  ⟨3, 0x110, [], 1, [F.TIM_NTP_IDLE_CLIENT_IDLE]⟩,
  ⟨3, 0x114, [], 1, [F.TIM_NTP_HOLDOFF_KOD_HOLDOFF]⟩]
/-- Registers of block TIM (part 1). -/
def regsTIM1 : List Reg := [
  ⟨3, 0x118, [], 1, [F.TIM_NTP_FLOOR_TS_FLOOR]⟩,
  ⟨3, 0x140, [(10, 4)], 1, [F.TIM_NTP_COUNT_COUNT]⟩,
  ⟨3, 0x168, [], 1, [F.TIM_NTP_CLIENTS_CLIENTS]⟩,
  ⟨3, 0x180, [(4, 0x10)], 1, [F.TIM_NTS_STATUS_STATE, F.TIM_NTS_STATUS_WAIT_ISSUE]⟩,
  ⟨3, 0x184, [(4, 0x10)], 1, [F.TIM_NTS_ID_KEY_ID]⟩,
  ⟨3, 0x188, [(4, 0x10)], 1, [F.TIM_NTS_KCV_KCV]⟩,
  ⟨3, 0x400, [(4, 0x100)], 1, [F.TIM_PTP_CFG_EN, F.TIM_PTP_CFG_PROFILE, F.TIM_PTP_CFG_TRANSPORT, F.TIM_PTP_CFG_ONE_STEP, F.TIM_PTP_CFG_SLAVE_ONLY, F.TIM_PTP_CFG_MASTER_ONLY, F.TIM_PTP_CFG_AUTH_REQ, F.TIM_PTP_CFG_DOMAIN, F.TIM_PTP_CFG_PRIORITY1, F.TIM_PTP_CFG_PRIORITY2]⟩,
  ⟨3, 0x404, [(4, 0x100)], 1, [F.TIM_PTP_INTV_LOG_ANNOUNCE, F.TIM_PTP_INTV_LOG_SYNC, F.TIM_PTP_INTV_LOG_DELAY_REQ, F.TIM_PTP_INTV_ANN_TIMEOUT, F.TIM_PTP_INTV_HOP_ALLOW]⟩,
  ⟨3, 0x408, [(4, 0x100)], 1, [F.TIM_PTP_STATUS_PORT_STATE, F.TIM_PTP_STATUS_INSTANCE, F.TIM_PTP_STATUS_BOUND_TLV_SEEN, F.TIM_PTP_STATUS_CFG_CONFLICT, F.TIM_PTP_STATUS_MASTER_CLASS, F.TIM_PTP_STATUS_MASTER_ACCURACY, F.TIM_PTP_STATUS_STEPS_REMOVED]⟩,
  ⟨3, 0x40c, [(4, 0x100)], 1, [F.TIM_PTP_STICKY_MGMT_DISCARD_SEEN, F.TIM_PTP_STICKY_PDELAY_SEEN, F.TIM_PTP_STICKY_AUTH_FAIL_SEEN, F.TIM_PTP_STICKY_TIMEOUT_SEEN, F.TIM_PTP_STICKY_STATE_CHANGE_SEEN]⟩,
  ⟨3, 0x410, [(4, 0x100)], 1, [F.TIM_PTP_TX_CAL_TX_CAL]⟩,
  ⟨3, 0x414, [(4, 0x100)], 1, [F.TIM_PTP_RX_CAL_RX_CAL]⟩,
  ⟨3, 0x418, [(4, 0x100)], 1, [F.TIM_PTP_ASYM_CORR_ASYM_CORR]⟩,
  ⟨3, 0x41c, [(4, 0x100)], 1, [F.TIM_PTP_ASYM_ALLOW_ASYM_ALLOW]⟩,
  ⟨3, 0x420, [(4, 0x100)], 1, [F.TIM_PTP_INT_LAT_TX, F.TIM_PTP_INT_LAT_RX]⟩,
  ⟨3, 0x424, [(4, 0x100)], 1, [F.TIM_PTP_PATH_DELAY_PATH_DELAY]⟩,
  ⟨3, 0x428, [(4, 0x100)], 1, [F.TIM_PTP_OFFSET_OFFSET]⟩,
  ⟨3, 0x42c, [(4, 0x100)], 1, [F.TIM_PTP_CAL_CAL_DONE]⟩,
  ⟨3, 0x800, [], 1, [F.TIM_IRQ_STATUS_PTP_PORT3, F.TIM_IRQ_STATUS_PTP_PORT2, F.TIM_IRQ_STATUS_PTP_PORT1, F.TIM_IRQ_STATUS_PTP_PORT0, F.TIM_IRQ_STATUS_OVERLOAD, F.TIM_IRQ_STATUS_CAP_LOST, F.TIM_IRQ_STATUS_NO_ISSUE_KEY, F.TIM_IRQ_STATUS_NTS_KEY_EXPIRED, F.TIM_IRQ_STATUS_NTS_KEY_ROTATED, F.TIM_IRQ_STATUS_ROLE_CHANGE, F.TIM_IRQ_STATUS_BOUND_SAT_CHANGE, F.TIM_IRQ_STATUS_OFFSET_CHANGE, F.TIM_IRQ_STATUS_LEAP_REFUSED, F.TIM_IRQ_STATUS_LEAP_ARMED, F.TIM_IRQ_STATUS_LEAP_DONE, F.TIM_IRQ_STATUS_LEAP_CANCELLED]⟩,
  ⟨3, 0x804, [], 1, [F.TIM_IRQ_ENABLE_ENABLE]⟩]
/-- Registers of block TIM. -/
def regsTIM : List Reg := regsTIM0 ++ regsTIM1
/-- Registers of block ALM. -/
def regsALM : List Reg := [
  ⟨4, 0, [], 1, [F.ALM_CFG_GUARD_MS, F.ALM_CFG_DEFAULT_LEAD_MS]⟩,
  ⟨4, 4, [], 1, [F.ALM_STATUS_USED, F.ALM_STATUS_COPIES]⟩,
  ⟨4, 8, [], 1, [F.ALM_JOURNAL_LOAD_LOAD]⟩,
  ⟨4, 0x10, [], 1, [F.ALM_NEXT_SEC_LO_SEC_LO]⟩,
  ⟨4, 0x14, [], 1, [F.ALM_NEXT_SEC_HI_SEC_HI]⟩,
  ⟨4, 0x18, [], 1, [F.ALM_NEXT_NS_NS]⟩,
  ⟨4, 0x1c, [], 1, [F.ALM_NEXT_ROW_ROW]⟩,
  ⟨4, 0x100, [], 1, [F.ALM_ENT_ROW_ROW]⟩,
  ⟨4, 0x104, [], 1, [F.ALM_ENT_CMD_OP]⟩,
  ⟨4, 0x108, [], 1, [F.ALM_ENT_RESULT_BUSY, F.ALM_ENT_RESULT_STATUS]⟩,
  ⟨4, 0x180, [(32, 4)], 1, [F.ALM_ENT_DATA_DATA]⟩,
  ⟨4, 0x200, [(8, 4)], 1, [F.ALM_COUNT_COUNT]⟩,
  ⟨4, 0x300, [], 1, [F.ALM_IRQ_STATUS_RETRACT_UNACKED, F.ALM_IRQ_STATUS_PEER_REFUSED, F.ALM_IRQ_STATUS_BUDGET, F.ALM_IRQ_STATUS_UNCONFIRMED, F.ALM_IRQ_STATUS_SKIPPED, F.ALM_IRQ_STATUS_FAILED]⟩,
  ⟨4, 0x304, [], 1, [F.ALM_IRQ_ENABLE_ENABLE]⟩]
/-- Registers of block NET (part 0). -/
def regsNET0 : List Reg := [
  ⟨5, 0, [], 1, [F.NET_BYPASS_CTL_FORCE_A, F.NET_BYPASS_CTL_FORCE_B, F.NET_BYPASS_CTL_SETTLE_MS]⟩,
  ⟨5, 4, [], 1, [F.NET_BYPASS_STATUS_A_ENERGISED, F.NET_BYPASS_STATUS_B_ENERGISED, F.NET_BYPASS_STATUS_A_SETTLING, F.NET_BYPASS_STATUS_B_SETTLING]⟩,
  ⟨5, 0x4000, [], 1, [F.MGT_CFG_EN, F.MGT_CFG_RGMII_ID, F.MGT_CFG_PHY_ADDR, F.MGT_CFG_PHY_POLL_EN, F.MGT_CFG_MAX_FRAME]⟩,
  ⟨5, 0x4004, [], 1, [F.MGT_STATUS_LINK]⟩,
  ⟨5, 0x4008, [], 1, [F.MGT_MDIO_CMD_GO, F.MGT_MDIO_CMD_CLAUSE45, F.MGT_MDIO_CMD_OP, F.MGT_MDIO_CMD_PHYAD, F.MGT_MDIO_CMD_REGAD]⟩,
  ⟨5, 0x400c, [], 1, [F.MGT_MDIO_DATA_DATA]⟩,
  ⟨5, 0x4010, [], 1, [F.MGT_STATION_LO_LO]⟩,
  ⟨5, 0x4014, [], 1, [F.MGT_STATION_HI_HI]⟩,
  ⟨5, 0x4018, [], 1, [F.MGT_RXQ0_CFG_EN, F.MGT_RXQ0_CFG_DEST, F.MGT_RXQ0_CFG_BUFS]⟩,
  ⟨5, 0x401c, [], 1, [F.MGT_RXQ0_FREE_FREE]⟩,
  ⟨5, 0x4020, [], 1, [F.MGT_BUF_SEL_SEL]⟩,
  ⟨5, 0x4024, [], 1, [F.MGT_BUF_NEXT_NEXT]⟩,
  ⟨5, 0x4028, [], 1, [F.MGT_RX_RETURN_RETURN]⟩,
  ⟨5, 0x402c, [], 1, [F.MGT_TX_ALLOC_ALLOC]⟩,
  ⟨5, 0x4030, [], 1, [F.MGT_TX_POST_CLASS, F.MGT_TX_POST_BUFFER, F.MGT_TX_POST_LENGTH]⟩,
  ⟨5, 0x4034, [], 1, [F.MGT_TX_RESULT_PENDING, F.MGT_TX_RESULT_STATUS]⟩,
  ⟨5, 0x4100, [(19, 4)], 1, [F.MGT_COUNT_COUNT]⟩,
  ⟨5, 0x400, [(4, 0x4000)], 1, [F.NET_CFG_EN, F.NET_CFG_SPEED, F.NET_CFG_AN_EN, F.NET_CFG_PAUSE_RX_EN, F.NET_CFG_ESMC_TX_EN, F.NET_CFG_MAX_FRAME]⟩,
  ⟨5, 0x404, [(4, 0x4000)], 1, [F.NET_STATUS_LINK, F.NET_STATUS_SPEED_ACTIVE, F.NET_STATUS_AN_DONE, F.NET_STATUS_PCS_LOCK, F.NET_STATUS_PAUSED, F.NET_STATUS_IN_SERVICE, F.NET_STATUS_SELF_TEST, F.NET_STATUS_MODULE_MISMATCH]⟩,
  ⟨5, 0x408, [(4, 0x4000)], 1, [F.NET_STICKY_LATE_DROP_SEEN, F.NET_STICKY_NOBUF_SEEN, F.NET_STICKY_TRUNC_SEEN, F.NET_STICKY_WAKE_SEEN, F.NET_STICKY_PAUSE_SEEN, F.NET_STICKY_PCS_ERR_SEEN, F.NET_STICKY_LINK_CHANGE_SEEN]⟩]
/-- Registers of block NET (part 1). -/
def regsNET1 : List Reg := [
  ⟨5, 0x40c, [(4, 0x4000)], 1, [F.NET_IRQ_EN_ENABLE]⟩,
  ⟨5, 0x410, [(4, 0x4000)], 1, [F.NET_STATION_LO_LO]⟩,
  ⟨5, 0x414, [(4, 0x4000)], 1, [F.NET_STATION_HI_HI]⟩,
  ⟨5, 0x418, [(4, 0x4000)], 1, [F.NET_SERVICE_LO_LO]⟩,
  ⟨5, 0x41c, [(4, 0x4000)], 1, [F.NET_SERVICE_HI_HI]⟩,
  ⟨5, 0x420, [(4, 0x4000)], 1, [F.NET_VLAN_SVC_PCP, F.NET_VLAN_SVC_VID, F.NET_VLAN_PVID]⟩,
  ⟨5, 0x424, [(4, 0x4000)], 1, [F.NET_LATE_TOL_LATE_TOL]⟩,
  ⟨5, 0x428, [(4, 0x4000)], 1, [F.NET_DEFAULT_Q_QUEUE]⟩,
  ⟨5, 0x42c, [(4, 0x4000)], 1, [F.NET_PAUSE_LEFT_LEFT]⟩,
  ⟨5, 0x500, [(4, 0x4000), (16, 4)], 1, [F.NET_RXQ_CFG_EN, F.NET_RXQ_CFG_DEST, F.NET_RXQ_CFG_BUFS]⟩,
  ⟨5, 0x540, [(4, 0x4000), (16, 4)], 1, [F.NET_RXQ_FREE_FREE]⟩,
  ⟨5, 0x600, [(4, 0x4000), (32, 8)], 1, [F.NET_FLT_A_EN, F.NET_FLT_A_MATCH_UNTAGGED, F.NET_FLT_A_VID_ANY, F.NET_FLT_A_PCP_MASK, F.NET_FLT_A_VID]⟩,
  ⟨5, 0x604, [(4, 0x4000), (32, 8)], 1, [F.NET_FLT_B_DROP, F.NET_FLT_B_QUEUE, F.NET_FLT_B_ETYPE]⟩,
  ⟨5, 0x800, [(4, 0x4000), (8, 0x100)], 1, [F.NET_WAKE_CTL_EN, F.NET_WAKE_CTL_ACTION, F.NET_WAKE_CTL_CHECK]⟩,
  ⟨5, 0x880, [(4, 0x4000), (8, 0x100), (32, 4)], 1, [F.NET_WAKE_MASK_MASK]⟩,
  ⟨5, 0x1000, [(4, 0x4000), (19, 4)], 1, [F.NET_COUNT_COUNT]⟩,
  ⟨5, 0x1100, [(4, 0x4000)], 1, [F.NET_BUF_SEL_SEL]⟩,
  ⟨5, 0x1104, [(4, 0x4000)], 1, [F.NET_BUF_NEXT_NEXT]⟩,
  ⟨5, 0x1108, [(4, 0x4000)], 1, [F.NET_RX_RETURN_RETURN]⟩,
  ⟨5, 0x110c, [(4, 0x4000)], 1, [F.NET_TX_ALLOC_ALLOC]⟩]
/-- Registers of block NET (part 2). -/
def regsNET2 : List Reg := [
  ⟨5, 0x1110, [(4, 0x4000)], 1, [F.NET_TX_POST_CLASS, F.NET_TX_POST_BUFFER, F.NET_TX_POST_LENGTH]⟩,
  ⟨5, 0x1114, [(4, 0x4000)], 1, [F.NET_TX_RESULT_PENDING, F.NET_TX_RESULT_STATUS]⟩,
  ⟨5, 0x2000, [(4, 0x4000), (512, 4)], 1, [F.NET_DATA_DATA]⟩,
  ⟨5, 0x6800, [(512, 4)], 1, [F.MGT_DATA_DATA]⟩]
/-- Registers of block NET. -/
def regsNET : List Reg := regsNET0 ++ regsNET1 ++ regsNET2
/-- Registers of block STR (part 0). -/
def regsSTR0 : List Reg := [
  ⟨6, 0, [], 1, [F.STR_STATUS_RUNNING, F.STR_STATUS_RX_PAIRED, F.STR_STATUS_TX_PAIRED]⟩,
  ⟨6, 4, [], 1, [F.STR_CH_USE_RX, F.STR_CH_USE_TX]⟩,
  ⟨6, 8, [], 1, [F.STR_PKT_RATE_RX, F.STR_PKT_RATE_TX]⟩,
  ⟨6, 0xc, [], 1, [F.STR_SLICE_LOST, F.STR_SLICE_IN_SERVICE]⟩,
  ⟨6, 0x20, [(8, 4)], 1, [F.STR_LOST_MAP_MAP]⟩,
  ⟨6, 0x40, [(8, 4)], 1, [F.STR_DEGRADED_MAP_MAP]⟩,
  ⟨6, 0x100, [], 1, [F.STR_CTX_SEL_SEL]⟩,
  ⟨6, 0x104, [], 256, [F.STR_CTX_RESULT_RESULT]⟩,
  ⟨6, 0x200, [], 256, [F.STR_CTX_CFG_EN, F.STR_CTX_CFG_DIR, F.STR_CTX_CFG_FORMAT, F.STR_CTX_CFG_PTIME, F.STR_CTX_CFG_PAIRED, F.STR_CTX_CFG_CLASS_S, F.STR_CTX_CFG_IPV6, F.STR_CTX_CFG_SRC_FLT_EN, F.STR_CTX_CFG_SSRC_FLT_EN, F.STR_CTX_CFG_CHANNELS]⟩,
  ⟨6, 0x204, [], 256, [F.STR_CTX_MAP_LINK_OFFSET, F.STR_CTX_MAP_CHAN_BASE]⟩,
  ⟨6, 0x208, [], 256, [F.STR_CTX_NET_PORT_A, F.STR_CTX_NET_PORT_B, F.STR_CTX_NET_PT, F.STR_CTX_NET_DSCP, F.STR_CTX_NET_TTL]⟩,
  ⟨6, 0x20c, [], 256, [F.STR_CTX_VLAN_PCP, F.STR_CTX_VLAN_VID_B, F.STR_CTX_VLAN_VID_A]⟩,
  ⟨6, 0x210, [], 256, [F.STR_CTX_UDP_UDP_B, F.STR_CTX_UDP_UDP_A]⟩,
  ⟨6, 0x214, [], 256, [F.STR_CTX_SPORT_SPORT]⟩,
  ⟨6, 0x218, [], 256, [F.STR_CTX_RTP_OFFSET_RTP_OFFSET]⟩,
  ⟨6, 0x21c, [], 256, [F.STR_CTX_SSRC_SSRC]⟩,
  ⟨6, 0x220, [], 256, [F.STR_CTX_SEQ_TIMEOUT_MS, F.STR_CTX_SEQ_SEQ_BASE]⟩,
  ⟨6, 0x230, [(4, 4)], 256, [F.STR_CTX_DST_A_ADDR]⟩,
  ⟨6, 0x240, [(4, 4)], 256, [F.STR_CTX_DST_B_ADDR]⟩,
  ⟨6, 0x250, [(4, 4)], 256, [F.STR_CTX_SRC_A_ADDR]⟩]
/-- Registers of block STR (part 1). -/
def regsSTR1 : List Reg := [
  ⟨6, 0x260, [(4, 4)], 256, [F.STR_CTX_SRC_B_ADDR]⟩,
  ⟨6, 0x300, [], 256, [F.STR_CTX_STATUS_STATE, F.STR_CTX_STATUS_COPY_A_OK, F.STR_CTX_STATUS_COPY_B_OK, F.STR_CTX_STATUS_DEGRADED, F.STR_CTX_STATUS_CONCEALING, F.STR_CTX_STATUS_ON_SPARE, F.STR_CTX_STATUS_G_NOW]⟩,
  ⟨6, 0x304, [], 256, [F.STR_CTX_STICKY_STEP_JUMP_SEEN, F.STR_CTX_STICKY_COPY_LOST_SEEN, F.STR_CTX_STICKY_SSRC_CHANGE_SEEN, F.STR_CTX_STICKY_FORMAT_ERR_SEEN, F.STR_CTX_STICKY_EARLY_SEEN, F.STR_CTX_STICKY_LATE_SEEN, F.STR_CTX_STICKY_LOST_SEEN]⟩,
  ⟨6, 0x308, [], 256, [F.STR_CTX_SSRC_A_SSRC]⟩,
  ⟨6, 0x30c, [], 256, [F.STR_CTX_SSRC_B_SSRC]⟩,
  ⟨6, 0x310, [], 256, [F.STR_CTX_MARGIN_MIN_MARGIN]⟩,
  ⟨6, 0x314, [], 256, [F.STR_CTX_TS_LAST_TS]⟩,
  ⟨6, 0x340, [(8, 4)], 256, [F.STR_CTX_COUNT_A_COUNT]⟩,
  ⟨6, 0x360, [(8, 4)], 256, [F.STR_CTX_COUNT_B_COUNT]⟩,
  ⟨6, 0x380, [], 256, [F.STR_CTX_CONCEAL_COUNT]⟩,
  ⟨6, 0x384, [], 256, [F.STR_CTX_FROM_B_COUNT]⟩,
  ⟨6, 0x400, [], 1, [F.STR_IRQ_STATUS_STEP_JUMP, F.STR_IRQ_STATUS_CAPACITY, F.STR_IRQ_STATUS_SSRC_CHANGE, F.STR_IRQ_STATUS_FORMAT_ERR, F.STR_IRQ_STATUS_LATE_EARLY, F.STR_IRQ_STATUS_COPY_LOST, F.STR_IRQ_STATUS_LOST]⟩,
  ⟨6, 0x404, [], 1, [F.STR_IRQ_ENABLE_ENABLE]⟩]
/-- Registers of block STR. -/
def regsSTR : List Reg := regsSTR0 ++ regsSTR1
/-- Registers of block APT (part 0). -/
def regsAPT0 : List Reg := [
  ⟨7, 0, [(16, 0x800)], 1, [F.APT_CFG_EN, F.APT_CFG_MODE, F.APT_CFG_DATA, F.APT_CFG_CLASS_S, F.APT_CFG_TRISTATE, F.APT_CFG_FS_POL, F.APT_CFG_BCLK_POL, F.APT_CFG_FS_DELAY, F.APT_CFG_WIDTH, F.APT_CFG_WORD, F.APT_CFG_SLOTS]⟩,
  ⟨7, 4, [(16, 0x800)], 1, [F.APT_RX_MASK_MASK]⟩,
  ⟨7, 8, [(16, 0x800)], 1, [F.APT_TX_MASK_MASK]⟩,
  ⟨7, 0xc, [(16, 0x800)], 1, [F.APT_MAP_RX_BASE, F.APT_MAP_TX_BASE]⟩,
  ⟨7, 0x10, [(16, 0x800)], 1, [F.APT_SETTLE_SETTLE]⟩,
  ⟨7, 0x14, [(16, 0x800)], 1, [F.APT_STATUS_STATE, F.APT_STATUS_CLK_VALID, F.APT_STATUS_SETTLED, F.APT_STATUS_NOT_FOLLOWING, F.APT_STATUS_PHASE_AMBIG, F.APT_STATUS_CONCEALING, F.APT_STATUS_RX_EPOCH, F.APT_STATUS_TX_EPOCH, F.APT_STATUS_SELF_TEST]⟩,
  ⟨7, 0x18, [(16, 0x800)], 1, [F.APT_FILL_RX_FILL, F.APT_FILL_TX_FILL]⟩,
  ⟨7, 0x1c, [(16, 0x800)], 1, [F.APT_FS_PHASE_FS_PHASE]⟩,
  ⟨7, 0x20, [(16, 0x800)], 1, [F.APT_SHIFT_RX_SHIFT, F.APT_SHIFT_TX_SHIFT]⟩,
  ⟨7, 0x24, [(16, 0x800)], 1, [F.APT_STICKY_STEP_JUMP_SEEN, F.APT_STICKY_CS_CRC_ERR_SEEN, F.APT_STICKY_BLOCK_ERR_SEEN, F.APT_STICKY_CS_NEW_SEEN, F.APT_STICKY_NOT_FOLLOWING_SEEN, F.APT_STICKY_SLIP_SEEN, F.APT_STICKY_FRAME_ERR_SEEN, F.APT_STICKY_CLOCK_LOSS_SEEN, F.APT_STICKY_SETTLED_SEEN, F.APT_STICKY_STATE_CHANGE_SEEN]⟩,
  ⟨7, 0x28, [(16, 0x800)], 1, [F.APT_IRQ_EN_ENABLE]⟩,
  ⟨7, 0x2c, [(16, 0x800)], 1, [F.APT_RESULT_RESULT]⟩,
  ⟨7, 0x30, [(16, 0x800)], 1, [F.APT_SS_CFG_V_TX, F.APT_SS_CFG_CRCC_EN, F.APT_SS_CFG_CS_RX_SLOT]⟩,
  ⟨7, 0x40, [(16, 0x800), (6, 4)], 1, [F.APT_CS_TX_A_BYTES]⟩,
  ⟨7, 0x60, [(16, 0x800), (6, 4)], 1, [F.APT_CS_TX_B_BYTES]⟩,
  ⟨7, 0x80, [(16, 0x800), (6, 4)], 1, [F.APT_CS_RX_BYTES]⟩,
  ⟨7, 0x100, [(16, 0x800), (14, 4)], 1, [F.APT_COUNT_COUNT]⟩,
  ⟨7, 0x700, [], 1, [F.APT_IRQ_STATUS_PORT]⟩,
  ⟨7, 0x704, [], 1, [F.APT_IRQ_ENABLE_ENABLE]⟩,
  ⟨7, 0x708, [], 1, [F.APT_RUNNING_PORT]⟩]
/-- Registers of block APT (part 1). -/
def regsAPT1 : List Reg := [
  ⟨7, 0x740, [(8, 4)], 1, [F.APT_GRP_CFG_STEERED, F.APT_GRP_CFG_STEER_PORT]⟩,
  ⟨7, 0x760, [(8, 4)], 1, [F.APT_GRP_STATUS_STEERING, F.APT_GRP_STATUS_CLAMP_1S]⟩]
/-- Registers of block APT. -/
def regsAPT : List Reg := regsAPT0 ++ regsAPT1
/-- Registers of block MTX (part 0). -/
def regsMTX0 : List Reg := [
  ⟨8, 0, [], 1, [F.MTX_RATE_RATE_NOW, F.MTX_RATE_RATE_NEXT]⟩,
  ⟨8, 4, [], 1, [F.MTX_STATUS_ACTIVE_XP, F.MTX_STATUS_DELAYED]⟩,
  ⟨8, 8, [], 1, [F.MTX_SLICE_LOST, F.MTX_SLICE_IN_SERVICE]⟩,
  ⟨8, 0xc, [], 1, [F.MTX_RESULT_RESULT]⟩,
  ⟨8, 0x100, [], 1, [F.MTX_XP_SEL_SEL]⟩,
  ⟨8, 0x104, [], 32768, [F.MTX_XP_CFG_EN, F.MTX_XP_CFG_CLAIM, F.MTX_XP_CFG_LEVEL, F.MTX_XP_CFG_INPUT, F.MTX_XP_CFG_OUTPUT]⟩,
  ⟨8, 0x108, [], 32768, [F.MTX_XP_GAIN_GAIN]⟩,
  ⟨8, 0x10c, [], 32768, [F.MTX_XP_RAMP_RAMP_MS]⟩,
  ⟨8, 0x110, [], 32768, [F.MTX_XP_STATUS_STATE, F.MTX_XP_STATUS_CLASS_S, F.MTX_XP_STATUS_ON_SPARE, F.MTX_XP_STATUS_SLICE]⟩,
  ⟨8, 0x114, [], 32768, [F.MTX_XP_GAIN_NOW_GAIN]⟩,
  ⟨8, 0x200, [], 1, [F.MTX_ZN_SEL_SEL]⟩,
  ⟨8, 0x204, [], 1536, [F.MTX_ZN_CFG_SAFETY_FLOOR, F.MTX_ZN_CFG_HANG_MS]⟩,
  ⟨8, 0x208, [], 1536, [F.MTX_ZN_RAMP_ATTACK_MS, F.MTX_ZN_RAMP_RELEASE_MS]⟩,
  ⟨8, 0x20c, [], 1536, [F.MTX_ZN_DELAY_DELAY]⟩,
  ⟨8, 0x210, [(8, 4)], 1536, [F.MTX_ZN_DUCK_DUCK]⟩,
  ⟨8, 0x240, [], 1536, [F.MTX_ZN_STATUS_H, F.MTX_ZN_STATUS_H_VALID, F.MTX_ZN_STATUS_LIFE_SAFETY, F.MTX_ZN_STATUS_DELAYED, F.MTX_ZN_STATUS_ACTIVE]⟩,
  ⟨8, 0x244, [], 1536, [F.MTX_ZN_CLIP_CLIP]⟩,
  ⟨8, 0x260, [(8, 4)], 1536, [F.MTX_ZN_DNOW_D]⟩,
  ⟨8, 0x300, [], 1, [F.MTX_ZS_SEL_SEL]⟩,
  ⟨8, 0x340, [(48, 4)], 256, [F.MTX_ZS_MAP_MAP]⟩]
/-- Registers of block MTX (part 1). -/
def regsMTX1 : List Reg := [
  ⟨8, 0x400, [], 1, [F.MTX_CLIP_TOTAL_COUNT]⟩,
  ⟨8, 0x404, [], 1, [F.MTX_CLAIM_REFUSED_COUNT]⟩,
  ⟨8, 0x500, [], 1, [F.MTX_IRQ_STATUS_CAPACITY, F.MTX_IRQ_STATUS_CLAIM_REFUSED, F.MTX_IRQ_STATUS_CLIP, F.MTX_IRQ_STATUS_SLICE_CHANGE]⟩,
  ⟨8, 0x504, [], 1, [F.MTX_IRQ_ENABLE_ENABLE]⟩]
/-- Registers of block MTX. -/
def regsMTX : List Reg := regsMTX0 ++ regsMTX1
/-- Registers of block LIB (part 0). -/
def regsLIB0 : List Reg := [
  ⟨9, 0, [], 1, [F.LIB_STATUS_RESIDENT, F.LIB_STATUS_BG_LOAD, F.LIB_STATUS_BUSY_VOICES]⟩,
  ⟨9, 4, [], 1, [F.LIB_DRAM_USED_GRANULES]⟩,
  ⟨9, 8, [], 1, [F.LIB_NAND_USED_GRANULES]⟩,
  ⟨9, 0x10, [], 1, [F.LIB_CMD_DATA0_DATA]⟩,
  ⟨9, 0x14, [], 1, [F.LIB_CMD_DATA1_DATA]⟩,
  ⟨9, 0x18, [], 1, [F.LIB_CMD_DATA2_MARK, F.LIB_CMD_DATA2_CHANNEL]⟩,
  ⟨9, 0x1c, [], 1, [F.LIB_CMD_LEN_LENGTH]⟩,
  ⟨9, 0x20, [], 1, [F.LIB_CMD_OP]⟩,
  ⟨9, 0x24, [], 1, [F.LIB_CMD_RESULT_BUSY, F.LIB_CMD_RESULT_VOICE, F.LIB_CMD_RESULT_STATUS]⟩,
  ⟨9, 0x100, [], 1, [F.LIB_VC_SEL_SEL]⟩,
  ⟨9, 0x104, [], 64, [F.LIB_VC_STATUS_STATE, F.LIB_VC_STATUS_CLASS_S, F.LIB_VC_STATUS_REWIND, F.LIB_VC_STATUS_LEVEL, F.LIB_VC_STATUS_ZONE_SET]⟩,
  ⟨9, 0x108, [], 64, [F.LIB_VC_MSG_MSG]⟩,
  ⟨9, 0x10c, [], 64, [F.LIB_VC_POS_POS]⟩,
  ⟨9, 0x110, [], 64, [F.LIB_VC_START_START]⟩,
  ⟨9, 0x200, [(16, 0x20)], 1, [F.LIB_TONE_CFG_EN, F.LIB_TONE_CFG_WAVE, F.LIB_TONE_CFG_EDGE_MS]⟩,
  ⟨9, 0x204, [(16, 0x20)], 1, [F.LIB_TONE_F1_F1]⟩,
  ⟨9, 0x208, [(16, 0x20)], 1, [F.LIB_TONE_F2_F2]⟩,
  ⟨9, 0x20c, [(16, 0x20)], 1, [F.LIB_TONE_LEVEL_LEVEL]⟩,
  ⟨9, 0x210, [(16, 0x20)], 1, [F.LIB_TONE_CADENCE_ON_MS, F.LIB_TONE_CADENCE_OFF_MS]⟩,
  ⟨9, 0x214, [(16, 0x20)], 1, [F.LIB_TONE_PERIOD_PERIOD_MS]⟩]
/-- Registers of block LIB (part 1). -/
def regsLIB1 : List Reg := [
  ⟨9, 0x400, [], 1, [F.LIB_REC_CFG_REC_EN]⟩,
  ⟨9, 0x404, [], 1, [F.LIB_REC_STATUS_RUNNING]⟩,
  ⟨9, 0x408, [], 1, [F.LIB_REC_W_LO_LO]⟩,
  ⟨9, 0x40c, [], 1, [F.LIB_REC_W_HI_HI]⟩,
  ⟨9, 0x410, [], 1, [F.LIB_REC_OLDEST_LO_LO]⟩,
  ⟨9, 0x414, [], 1, [F.LIB_REC_OLDEST_HI_HI]⟩,
  ⟨9, 0x418, [], 1, [F.LIB_REC_SIZE_P]⟩,
  ⟨9, 0x500, [(64, 4)], 1, [F.LIB_REC_TAP_EN, F.LIB_REC_TAP_SRC]⟩,
  ⟨9, 0x600, [], 1, [F.LIB_MK_SEL_SEL]⟩,
  ⟨9, 0x604, [], 256, [F.LIB_MK_STATE_STATE]⟩,
  ⟨9, 0x608, [], 256, [F.LIB_MK_POS_LO_LO]⟩,
  ⟨9, 0x60c, [], 1, [F.LIB_MK_POS_HI_HI]⟩,
  ⟨9, 0x610, [], 256, [F.LIB_MK_LABEL_LABEL]⟩,
  ⟨9, 0x700, [(6, 4)], 1, [F.LIB_COUNT_COUNT]⟩,
  ⟨9, 0x800, [], 1, [F.LIB_IRQ_STATUS_MARK_INVALID, F.LIB_IRQ_STATUS_BAD_MESSAGE, F.LIB_IRQ_STATUS_VOICE_END, F.LIB_IRQ_STATUS_REC_CHANGE]⟩,
  ⟨9, 0x804, [], 1, [F.LIB_IRQ_ENABLE_ENABLE]⟩]
/-- Registers of block LIB. -/
def regsLIB : List Reg := regsLIB0 ++ regsLIB1
/-- Registers of block SUP (part 0). -/
def regsSUP0 : List Reg := [
  ⟨10, 0, [], 1, [F.SUP_CFG_INJECT_EN, F.SUP_CFG_CORR_EN, F.SUP_CFG_SEARCH_S]⟩,
  ⟨10, 4, [], 1, [F.SUP_STATUS_BUSY, F.SUP_STATUS_PINNED, F.SUP_STATUS_ENABLED]⟩,
  ⟨10, 8, [], 1, [F.SUP_REVISIT_REVISIT]⟩,
  ⟨10, 0xc, [], 1, [F.SUP_RESULT_RESULT]⟩,
  ⟨10, 0x100, [], 1, [F.SUP_PATH_SEL_SEL]⟩,
  ⟨10, 0x104, [], 1536, [F.SUP_PATH_CFG_EN, F.SUP_PATH_CFG_PIN, F.SUP_PATH_CFG_LAG_SEARCH, F.SUP_PATH_CFG_FAULT_COUNT, F.SUP_PATH_CFG_SENSE]⟩,
  ⟨10, 0x108, [], 1536, [F.SUP_PATH_LEVEL_PILOT_LEVEL, F.SUP_PATH_LEVEL_GATE]⟩,
  ⟨10, 0x10c, [], 1536, [F.SUP_PATH_SHIFT_SHIFT]⟩,
  ⟨10, 0x110, [], 1536, [F.SUP_PATH_LAG_LAG_BASE]⟩,
  ⟨10, 0x114, [], 1536, [F.SUP_PATH_INT_INT_S]⟩,
  ⟨10, 0x118, [], 1536, [F.SUP_PATH_REF_GAIN_REF_GAIN, F.SUP_PATH_REF_GAIN_GAIN_TOL]⟩,
  ⟨10, 0x11c, [], 1536, [F.SUP_PATH_REF_DELAY_DELAY_TOL, F.SUP_PATH_REF_DELAY_REF_DELAY]⟩,
  ⟨10, 0x120, [], 1536, [F.SUP_PATH_NOISE_MAX_NOISE_MAX]⟩,
  ⟨10, 0x140, [], 1536, [F.SUP_PATH_STATUS_STATE, F.SUP_PATH_STATUS_ALARM, F.SUP_PATH_STATUS_OUTCOME, F.SUP_PATH_STATUS_ACCURATE, F.SUP_PATH_STATUS_POLARITY_INV, F.SUP_PATH_STATUS_LEARN_PENDING, F.SUP_PATH_STATUS_CORRELATOR]⟩,
  ⟨10, 0x144, [], 1536, [F.SUP_PATH_GAIN_GAIN, F.SUP_PATH_GAIN_NOISE]⟩,
  ⟨10, 0x148, [], 1536, [F.SUP_PATH_DELAY_DELAY]⟩,
  ⟨10, 0x14c, [], 1536, [F.SUP_PATH_SNR_SNR]⟩,
  ⟨10, 0x150, [], 1536, [F.SUP_PATH_LEARN_LEARN]⟩,
  ⟨10, 0x400, [], 1, [F.SUP_VIG_STATUS_RUNNING, F.SUP_VIG_STATUS_TEST, F.SUP_VIG_STATUS_INSTANCE, F.SUP_VIG_STATUS_RUN]⟩,
  ⟨10, 0x404, [], 1, [F.SUP_VIG_CMD_ABORT]⟩]
/-- Registers of block SUP (part 1). -/
def regsSUP1 : List Reg := [
  ⟨10, 0x408, [], 1, [F.SUP_VIG_ELAPSED_ELAPSED]⟩,
  ⟨10, 0x500, [], 1, [F.SUP_ST_SEL_SEL]⟩,
  ⟨10, 0x504, [], 77, [F.SUP_ST_RESULT_RESULT, F.SUP_ST_RESULT_CAUSE, F.SUP_ST_RESULT_MEASURED]⟩,
  ⟨10, 0x508, [], 77, [F.SUP_ST_SIG_SIG]⟩,
  ⟨10, 0x50c, [], 77, [F.SUP_ST_EXPECT_EXPECT]⟩,
  ⟨10, 0x510, [], 77, [F.SUP_ST_CYC_LO_LO]⟩,
  ⟨10, 0x514, [], 1, [F.SUP_ST_CYC_HI_HI]⟩,
  ⟨10, 0x600, [(5, 4)], 1, [F.SUP_COUNT_COUNT]⟩,
  ⟨10, 0x700, [], 1, [F.SUP_IRQ_STATUS_VIGIL_END, F.SUP_IRQ_STATUS_ST_FAIL, F.SUP_IRQ_STATUS_ST_INCOMPLETE, F.SUP_IRQ_STATUS_ALARM_CLEAR, F.SUP_IRQ_STATUS_ALARM]⟩,
  ⟨10, 0x704, [], 1, [F.SUP_IRQ_ENABLE_ENABLE]⟩]
/-- Registers of block SUP. -/
def regsSUP : List Reg := regsSUP0 ++ regsSUP1
/-- Registers of block PAIR. -/
def regsPAIR : List Reg := [
  ⟨11, 0, [], 1, [F.PAIR_CFG_EN, F.PAIR_CFG_EXCUSE_MS]⟩,
  ⟨11, 4, [], 1, [F.PAIR_STATUS_ROLE, F.PAIR_STATUS_SIDE, F.PAIR_STATUS_CLAIM_LOW, F.PAIR_STATUS_IRMON_UP, F.PAIR_STATUS_HB_HEARD, F.PAIR_STATUS_SIGN_CLAIM, F.PAIR_STATUS_SIGN_IRMON, F.PAIR_STATUS_SIGN_HB, F.PAIR_STATUS_EXCUSED, F.PAIR_STATUS_RESYNC_BLOCKED, F.PAIR_STATUS_RESYNC_STEP, F.PAIR_STATUS_MISMATCH_RUN]⟩,
  ⟨11, 8, [], 1, [F.PAIR_STICKY_DUAL_ACTIVE_SEEN, F.PAIR_STICKY_DRILL_FAIL_SEEN, F.PAIR_STICKY_RESYNC_DONE_SEEN, F.PAIR_STICKY_ACCUSE_SEEN, F.PAIR_STICKY_TOKEN_MISS_SEEN, F.PAIR_STICKY_HB_LOSS_SEEN, F.PAIR_STICKY_IRMON_LOSS_SEEN, F.PAIR_STICKY_MISMATCH_SEEN, F.PAIR_STICKY_HANDOVER_SEEN, F.PAIR_STICKY_TAKEOVER_SEEN]⟩,
  ⟨11, 0xc, [], 1, [F.PAIR_IRQ_EN_ENABLE]⟩,
  ⟨11, 0x10, [], 1, [F.PAIR_RESYNC_LIMIT_LIMIT]⟩,
  ⟨11, 0x14, [], 1, [F.PAIR_IRM_CAL_CAL]⟩,
  ⟨11, 0x18, [], 1, [F.PAIR_IRM_DELAY_DELAY]⟩,
  ⟨11, 0x1c, [], 1, [F.PAIR_IRM_OFFSET_OFFSET]⟩,
  ⟨11, 0x20, [], 1, [F.PAIR_MM_MS_MS]⟩,
  ⟨11, 0x24, [], 1, [F.PAIR_MM_MASK_MASK]⟩,
  ⟨11, 0x28, [], 1, [F.PAIR_PARTNER_MODE]⟩,
  ⟨11, 0x2c, [], 1, [F.PAIR_PARTNER_VER_VER]⟩,
  ⟨11, 0x30, [], 1, [F.PAIR_CMD_DRILL]⟩,
  ⟨11, 0x100, [(9, 4)], 1, [F.PAIR_COUNT_COUNT]⟩,
  ⟨11, 0x200, [], 1, [F.PAIR_CAS_CFG_RANK]⟩,
  ⟨11, 0x204, [], 1, [F.PAIR_CAS_STATUS_PARENT_OK, F.PAIR_CAS_STATUS_ALT_IN_USE, F.PAIR_CAS_STATUS_CHILDREN, F.PAIR_CAS_STATUS_DEPTH]⟩,
  ⟨11, 0x280, [(3, 4)], 1, [F.PAIR_CAS_COUNT_COUNT]⟩,
  ⟨11, 0x700, [], 1, [F.PAIR_IRQ_STATUS_PARENT_LOST, F.PAIR_IRQ_STATUS_DUAL_ACTIVE, F.PAIR_IRQ_STATUS_DRILL_FAIL, F.PAIR_IRQ_STATUS_RESYNC_DONE, F.PAIR_IRQ_STATUS_MISMATCH, F.PAIR_IRQ_STATUS_SIGN, F.PAIR_IRQ_STATUS_HANDOVER, F.PAIR_IRQ_STATUS_TAKEOVER]⟩,
  ⟨11, 0x704, [], 1, [F.PAIR_IRQ_ENABLE_ENABLE]⟩]
/-- Registers of block PWR. -/
def regsPWR : List Reg := [
  ⟨12, 0, [], 1, [F.PWR_STATUS_ON_BATTERY, F.PWR_STATUS_SHEDDING, F.PWR_STATUS_THERM_LIMIT, F.PWR_STATUS_STARVED, F.PWR_STATUS_RESERVE_STALE, F.PWR_STATUS_SCRUB_LATE, F.PWR_STATUS_LIFE_WARN, F.PWR_STATUS_SHED_LEVEL, F.PWR_STATUS_BINDING]⟩,
  ⟨12, 4, [], 1, [F.PWR_MEAS_TJ, F.PWR_MEAS_P]⟩,
  ⟨12, 8, [], 1, [F.PWR_CAP_NOW_THERM_CAP, F.PWR_CAP_NOW_CAP]⟩,
  ⟨12, 0xc, [], 1, [F.PWR_SCALE_SCALE]⟩,
  ⟨12, 0x10, [], 1, [F.PWR_LIMITS_BAT_CAP, F.PWR_LIMITS_POWER_CAP]⟩,
  ⟨12, 0x14, [], 1, [F.PWR_MARGIN_RESTORE_GAP, F.PWR_MARGIN_MARGIN]⟩,
  ⟨12, 0x18, [], 1, [F.PWR_THERM_THERM_STEP, F.PWR_THERM_TJ_CRIT, F.PWR_THERM_TJ_TARGET]⟩,
  ⟨12, 0x1c, [], 1, [F.PWR_RESERVE_ENERGY_RESERVE]⟩,
  ⟨12, 0x20, [], 1, [F.PWR_AUTONOMY_RESERVE_MAX_AGE, F.PWR_AUTONOMY_AUTONOMY_MIN]⟩,
  ⟨12, 0x24, [], 1, [F.PWR_POLICY_B_ON_BATTERY, F.PWR_POLICY_LANE_SHED]⟩,
  ⟨12, 0x28, [], 1, [F.PWR_RESTORE_RESTORE_HOLD]⟩,
  ⟨12, 0x100, [(12, 4)], 1, [F.PWR_COEF_COEF]⟩,
  ⟨12, 0x200, [], 1, [F.PWR_LIFE_AVG_AVG]⟩,
  ⟨12, 0x204, [], 1, [F.PWR_LIFE_HOURS_HOURS]⟩,
  ⟨12, 0x208, [], 1, [F.PWR_HOURS_HOT_HOT]⟩,
  ⟨12, 0x300, [(6, 4)], 1, [F.PWR_COUNT_COUNT]⟩,
  ⟨12, 0x700, [], 1, [F.PWR_IRQ_STATUS_LIFE_WARN, F.PWR_IRQ_STATUS_STARVED, F.PWR_IRQ_STATUS_SOURCE_CHANGE, F.PWR_IRQ_STATUS_THERM_LIMIT, F.PWR_IRQ_STATUS_RESTORE, F.PWR_IRQ_STATUS_SHED]⟩,
  ⟨12, 0x704, [], 1, [F.PWR_IRQ_ENABLE_ENABLE]⟩]
/-- Registers of block QUE. -/
def regsQUE : List Reg := [
  ⟨13, 0, [], 1, [F.QUE_NONEMPTY_MAP]⟩,
  ⟨13, 4, [], 1, [F.QUE_FULL_MAP]⟩,
  ⟨13, 0x100, [(32, 0x20)], 1, [F.QUE_CFG_POLICY, F.QUE_CFG_ITEM_SIZE, F.QUE_CFG_ROUTE]⟩,
  ⟨13, 0x104, [(32, 0x20)], 1, [F.QUE_COUNT_CAPACITY, F.QUE_COUNT_COUNT]⟩,
  ⟨13, 0x108, [(32, 0x20)], 1, [F.QUE_PEAK_PEAK]⟩,
  ⟨13, 0x10c, [(32, 0x20)], 1, [F.QUE_LOSS_LOSS]⟩,
  ⟨13, 0x110, [(32, 0x20)], 1, [F.QUE_PORT_PORT]⟩,
  ⟨13, 0x114, [(32, 0x20)], 1, [F.QUE_ABANDON_COUNT]⟩,
  ⟨13, 0x118, [(32, 0x20)], 1, [F.QUE_FLUSH_FLUSH]⟩]
/-- Registers of block MID. -/
def regsMID : List Reg := [
  ⟨14, 0, [], 1, [F.MID_CFG_SPEED, F.MID_CFG_SFP_POLL_EN]⟩,
  ⟨14, 4, [], 1, [F.MID_STATUS_BUSY, F.MID_STATUS_SFP_PRESENT, F.MID_STATUS_RECORD_OK, F.MID_STATUS_PRESENT]⟩,
  ⟨14, 8, [], 1, [F.MID_STICKY_SFP_CHANGE_SEEN3, F.MID_STICKY_SFP_CHANGE_SEEN2, F.MID_STICKY_SFP_CHANGE_SEEN1, F.MID_STICKY_SFP_CHANGE_SEEN0, F.MID_STICKY_BAD_SEEN7, F.MID_STICKY_BAD_SEEN6, F.MID_STICKY_BAD_SEEN5, F.MID_STICKY_BAD_SEEN4, F.MID_STICKY_BAD_SEEN3, F.MID_STICKY_BAD_SEEN2, F.MID_STICKY_BAD_SEEN1, F.MID_STICKY_BAD_SEEN0, F.MID_STICKY_REMOVE_SEEN7, F.MID_STICKY_REMOVE_SEEN6, F.MID_STICKY_REMOVE_SEEN5, F.MID_STICKY_REMOVE_SEEN4, F.MID_STICKY_REMOVE_SEEN3, F.MID_STICKY_REMOVE_SEEN2, F.MID_STICKY_REMOVE_SEEN1, F.MID_STICKY_REMOVE_SEEN0, F.MID_STICKY_INSERT_SEEN7, F.MID_STICKY_INSERT_SEEN6, F.MID_STICKY_INSERT_SEEN5, F.MID_STICKY_INSERT_SEEN4, F.MID_STICKY_INSERT_SEEN3, F.MID_STICKY_INSERT_SEEN2, F.MID_STICKY_INSERT_SEEN1, F.MID_STICKY_INSERT_SEEN0]⟩,
  ⟨14, 0xc, [], 1, [F.MID_NACKS_COUNT]⟩,
  ⟨14, 0x100, [(8, 0x10)], 1, [F.MID_MOD_CFG_BUS, F.MID_MOD_CFG_ADDRESS]⟩,
  ⟨14, 0x104, [(8, 0x10)], 1, [F.MID_MOD_STATUS_STATE, F.MID_MOD_STATUS_ERROR, F.MID_MOD_STATUS_VERSION, F.MID_MOD_STATUS_CLASS]⟩,
  ⟨14, 0x108, [(8, 0x10)], 1, [F.MID_MOD_LENGTH_LENGTH]⟩,
  ⟨14, 0x10c, [(8, 0x10)], 1, [F.MID_MOD_READ_READ]⟩,
  ⟨14, 0x200, [], 1, [F.MID_REC_SEL_PAGE, F.MID_REC_SEL_MODULE]⟩,
  ⟨14, 0x300, [(4, 0x10)], 1, [F.MID_SFP_STATUS_PRESENT, F.MID_SFP_STATUS_CC_OK, F.MID_SFP_STATUS_DDM, F.MID_SFP_STATUS_SPEEDS]⟩,
  ⟨14, 0x304, [(4, 0x10)], 1, [F.MID_SFP_TEMP_TEMP]⟩,
  ⟨14, 0x308, [(4, 0x10)], 1, [F.MID_SFP_POWER_RX, F.MID_SFP_POWER_TX]⟩,
  ⟨14, 0x400, [(128, 4)], 1, [F.MID_REC_BYTES]⟩,
  ⟨14, 0x700, [], 1, [F.MID_IRQ_STATUS_SFP_CHANGE, F.MID_IRQ_STATUS_RECORD_BAD, F.MID_IRQ_STATUS_REMOVED, F.MID_IRQ_STATUS_INSERTED]⟩,
  ⟨14, 0x704, [], 1, [F.MID_IRQ_ENABLE_ENABLE]⟩]
/-- Registers of block DMB. -/
def regsDMB : List Reg := [
  ⟨15, 0, [], 1, [F.DMB_STATUS_BUSY, F.DMB_STATUS_LAST_TAG]⟩,
  ⟨15, 4, [], 1, [F.DMB_IGNORED_COUNT]⟩,
  ⟨15, 8, [], 1, [F.DMB_RESP_LEN_LEN]⟩,
  ⟨15, 0x40, [(112, 4)], 1, [F.DMB_REQ_BYTES]⟩,
  ⟨15, 0x200, [(128, 4)], 1, [F.DMB_RESP_BYTES]⟩]
/-- The registers of a block. -/
def regsOf : Nat → List Reg
  | 0 => regsGCTL
  | 1 => regsCLK
  | 2 => regsREF
  | 3 => regsTIM
  | 4 => regsALM
  | 5 => regsNET
  | 6 => regsSTR
  | 7 => regsAPT
  | 8 => regsMTX
  | 9 => regsLIB
  | 10 => regsSUP
  | 11 => regsPAIR
  | 12 => regsPWR
  | 13 => regsQUE
  | 14 => regsMID
  | 15 => regsDMB
  | _ => []

/-- The array index an offset beyond the base has in dimensions given outermost first, or none. -/
def indexIn : List (Nat × Nat) → Nat → Option (List Nat)
  | [], 0 => some []
  | [], _ => none
  | (n, st) :: rest, x =>
    if x / st < n then (indexIn rest (x % st)).map (x / st :: ·) else none

/-- The array index that an offset has in a register, or none. -/
def Reg.index? (r : Reg) (off : Nat) : Option (List Nat) :=
  if off < r.off then none else indexIn r.dims (off - r.off)

/-- The register at an implemented offset of a block, with its array index. -/
def findReg (blk off : Nat) : Option (Reg × List Nat) :=
  (regsOf blk).findSome? (fun r => (r.index? off).map (fun ix => (r, ix)))

/-- The field that a key names. -/
def fieldOf (key : Nat) : Option Fld :=
  let lo := key % 32
  let off := key / 32 % 65536
  let bu := key / 32 / 65536
  match findReg (bu % 16) off with
  | none => none
  | some (r, ix) => (r.flds.find? (fun f => f.lo = lo)).map (fun f => (f.at ix).un (bu / 16))


end Sys2Proof.Machine
end

