-- ==== Sys2Proof/Machine/State.lean ====
section
/-! DEFINITION. Machine/State.lean: everything the spec says the device holds, as plain data, and the state after reset. -/

namespace Sys2Proof.Machine

/-- A sparse table: rows by rising key, a key that is not listed reading as its default. -/
abbrev Tbl (α : Type) := List (Nat × α)

/-- The row at a key, if one is listed. -/
def Tbl.find? {α : Type} : Tbl α → Nat → Option α
  | [], _ => none
  | (k, v) :: t, q => if q = k then some v else if q < k then none else Tbl.find? t q

/-- The row at a key, or the default. -/
def Tbl.get {α : Type} (t : Tbl α) (d : α) (k : Nat) : α := (Tbl.find? t k).getD d

/-- Write a row, keeping the keys rising. -/
def Tbl.put {α : Type} : Tbl α → Nat → α → Tbl α
  | [], q, x => [(q, x)]
  | (k, v) :: t, q, x => if q < k then (q, x) :: (k, v) :: t else if q = k then (q, x) :: t else (k, v) :: Tbl.put t q x

/-- Remove a row. -/
def Tbl.del {α : Type} (t : Tbl α) (q : Nat) : Tbl α := t.filter (fun r => r.1 ≠ q)

/-- The packet staging memory (R22, R176): address and byte, addresses rising, no byte 0 listed. Step 2 of R45 clears the
SRAM, so an unlisted byte reads 0. -/
abbrev Mem := List Host.Cell

/-- The byte at an address. DESIGN CHOICE (log 5). -/
def Mem.read : Mem → Nat → Byte
  | [], _ => 0
  | (k, v) :: t, a => if a = k then v else if a < k then 0 else Mem.read t a

/-- Write a byte, in canonical form. -/
def Mem.write : Mem → Nat → Byte → Mem
  | [], a, x => if x = 0 then [] else [(a, x)]
  | (k, v) :: t, a, x =>
    if a < k then (if x = 0 then (k, v) :: t else (a, x) :: (k, v) :: t)
    else if a = k then (if x = 0 then t else (a, x) :: t)
    else (k, v) :: Mem.write t a x

/-- Every listed address lies above `lo` and no listed byte is 0. -/
def Mem.wfAbove (lo : Nat) : Mem → Bool
  | [] => true
  | (k, v) :: t => decide (lo ≤ k) && decide (v ≠ 0) && Mem.wfAbove (k + 1) t

/-- The canonical form: addresses strictly rising, no byte that equals an unlisted one. -/
def Mem.wf (m : Mem) : Bool := Mem.wfAbove 0 m

/-- A TAI instant that no reset has moved: the epoch, where the counter starts (R441). -/
def Tai.epoch : Tai := ⟨0, 0, 0⟩

/-! ### Time -/

/-- The time engine (R15, R16): the TAI counter, the part of a sub-nanosecond below its last bit (in units of
2⁻¹⁶ ÷ (65,536 × 10¹²) ns), and the datapath cycles counted since power-on. -/
structure TimeSt where
  tai : Tai := ⟨0, 0, 0⟩
  frac : Nat := 0
  cycles : Nat := 0
  deriving DecidableEq, Repr

/-! ### Registers -/

/-- The values one strobe captured for a block (R396): its block, its group, the field values by key, and whether an ODP
StrobeGroups waits for them. -/
structure Capture where
  blk : Nat
  group : Nat
  vals : Tbl Nat
  deriving DecidableEq, Repr

/-- The register file: running values, buffered values of RWB fields, captures waiting for their apply points, the fields
held as stopped-only (R398) and the snapshot (R400) with its stamp. -/
structure RegSt where
  live : Tbl Nat := []
  buf : Tbl Nat := []
  caps : List Capture := []
  held : List (Nat × Nat) := []
  snap : Tbl Nat := []
  stamp : Tai := ⟨0, 0, 0⟩
  deriving DecidableEq, Repr

/-- A queue of R401: its items, the read latch's remaining words as bytes, the item a producer holds under back-pressure,
the bytes of a Q0 item still being pushed, and the words left of an idle item (R402). -/
structure Queue where
  items : List (List Byte) := []
  latch : List Byte := []
  held : Option (List Byte) := none
  part : List Byte := []
  idle : Nat := 0
  deriving DecidableEq, Repr

/-! ### Modes (chapter 2) -/

/-- A decided transition that has not taken effect (R40, R42): its target, its cause, the master whose request it is. -/
structure Decision where
  target : Mode
  cause : Nat
  master : Nat
  deriving DecidableEq, Repr

/-- The pins an event sets from outside: supplies, RST_N, the straps as last sampled, ROLE_CLAIM_N as the partner drives
it, PWR_SRC, MPRES and GPIO levels. -/
structure PinSt where
  supplies : Bool := true
  rstN : Bool := false
  firstRise : Bool := true
  bootSel : Nat := 0
  pairSide : Bool := false
  hostRole : Bool := false
  testEn : Bool := false
  strapConflict : Bool := false
  partnerClaims : Bool := false
  mramInhibit : Bool := false
  gpio : Nat := 0
  rstOut : Bool := false
  deriving DecidableEq, Repr

/-- The mode machine (R36 to R59): the mode and how it was entered, a decided transition, the mode of entry of LANTERN and
VIGIL, SAFE_HOLD causes that wait, when the present cause cleared (cycles), the instants of the last auto-restarts, whether
they are spent, the last request, and the control cycle of the decision with its cause's place in the list of R40. -/
structure ModeSt where
  mode : Mode := .reset
  prev : Mode := .reset
  cause : Nat := 0
  count : Nat := 0
  decided : Option Decision := none
  entered : Tai := ⟨0, 0, 0⟩
  origin : Mode := .solo
  held : List Nat := []
  clearSince : Option Nat := none
  restarts : List Nat := []
  spent : Bool := false
  lastTarget : Nat := 0
  lastStatus : Status := .ok
  decidedAt : Nat := 0
  decidedRank : Nat := 0
  deriving DecidableEq, Repr

/-- The island watch of R56: islanded, entered by request, when the watch last heard traffic and since when the island has
stayed cleared (cycles). -/
structure IslandSt where
  islanded : Bool := false
  byRequest : Bool := false
  heard : Nat := 0
  clearAt : Option Nat := none
  deriving DecidableEq, Repr

/-- The power-up sequence (R43 to R50), since when side B waits to sample ROLE_CLAIM_N again (R52, cycles) and the memory partitions in force (R25 to R28). -/
structure BootSt where
  cause : Nat := 0
  pairWait : Option Nat := none
  onBackup : Bool := false
  dram : Bool := false
  slotB : Option Bool := none
  version : Nat := 0
  ms : Nat := 0
  essentialOver : Bool := false
  configCause : Nat := 3
  fitted : Nat := 0
  library : Nat := 0
  recorder : Nat := 0
  deriving DecidableEq, Repr

/-- A LANTERN trigger's contact (R58): whether it counts as closed, the voice it latched. -/
structure Contact where
  closed : Bool := false
  voice : Option Nat := none
  deriving DecidableEq, Repr

/-! ### The dictionary, its sessions and the journal (chapter 14) -/

/-- A journal entry (R360). `value` is the value as written; its 24-byte form and the CRC are computed when it is read. -/
structure Entry where
  seq : Nat
  tai : Tai
  master : Nat
  role : Nat
  op : Nat
  status : Status
  flags : Nat
  index : Nat
  sub : Nat
  row : Nat
  value : List Byte
  deriving DecidableEq, Repr

/-- The command journal (R360 to R363). `ring` holds the durable entries, newest last; `gaps` the ranges that RESTART and
GAP entries name. -/
structure Journal where
  head : Nat := 0
  durable : Nat := 0
  staged : List Entry := []
  ring : List Entry := []
  gaps : List (Nat × Nat) := []
  flushMark : Bool := false
  restart : Option (Nat × Nat) := none
  lost : Nat := 0
  lostRange : Option (Nat × Nat) := none
  madeThisSecond : Nat := 0
  rate : Nat := 0
  deriving DecidableEq, Repr

/-- A segmented transfer (R351): object, row, total length, the bytes received, when the last segment came (cycles). -/
structure Transfer where
  index : Nat
  sub : Nat
  row : Nat
  total : Nat
  data : List Byte
  last : Nat
  deriving DecidableEq, Repr

/-- A subscription (R352): changes without a notice of their own, whether the newest value waits for its notice, the value last seen. -/
structure Subscription where
  id : Nat
  session : Nat
  index : Nat
  sub : Nat
  row : Nat
  count : Nat
  interval : Nat
  onChange : Bool
  last : Nat
  coalesced : Nat
  pending : Bool
  value : List Byte
  deriving DecidableEq, Repr

/-- An open session (R345, R346): its id, key row, role, peer, key, sequence window, response cache, the notices of the last
second, whether it was opened at the service address. -/
structure Session where
  id : Nat
  keyRow : Nat
  keyId : Nat
  role : Role
  source : List Byte
  port : Port
  opened : Tai
  heard : Nat
  key : List Byte
  highest : Nat := 0
  seen : Nat := 0
  txSeq : Nat := 1
  cache : List (Nat × List Byte) := []
  noticed : List Nat := []
  service : Bool := false
  deriving DecidableEq, Repr

/-- An opening that waits for its OPEN_PROOF (R344). -/
structure Attempt where
  id : Nat
  keyRow : Nat
  role : Role
  nc : List Byte
  nd : List Byte
  source : List Byte
  port : Port
  service : Bool
  started : Nat
  deriving DecidableEq, Repr

/-- A frozen master (R357, R359): its id, the cause, the instant. -/
structure Freeze where
  master : Nat
  cause : Nat
  at_ : Tai
  deriving DecidableEq, Repr

/-- A record of the configuration store (R48): the object, whether its CRC holds, its values by key. -/
structure Record where
  object : Nat
  bad : Bool
  vals : Tbl Nat
  deriving DecidableEq, Repr

/-- The configuration store (R48, R365): whether its header passes its check, the generation, its instant, its records. -/
structure Store where
  headerOk : Bool
  generation : Nat
  tai : Tai
  records : List Record
  deriving DecidableEq, Repr

/-- A Commit in progress (R365): the session (none for the mailbox or the partner), the entry that must become durable. -/
structure CommitJob where
  origin : Nat
  seq : Nat
  reqSeq : Nat
  deriving DecidableEq, Repr

/-- A StrobeGroups waiting for its blocks (R350). -/
structure StrobeJob where
  origin : Nat
  mask : Nat
  reqSeq : Nat
  jseq : Nat
  answer : Status
  deriving DecidableEq, Repr

/-- A request passed to another rank (R325): its number, when it was passed (cycles), where its answer goes, the request, the target. -/
structure ProxyJob where
  id : Nat
  started : Nat
  origin : Nat
  reqSeq : Nat
  op : Nat
  target : Nat
  deriving DecidableEq, Repr

/-- The dictionary's own state; transfers are kept by master. -/
structure OdpSt where
  objs : Tbl Nat := []
  sessions : List Session := []
  opens : Nat := 0
  attempts : List Attempt := []
  throttle : List (List Byte × Nat) := []
  denials : List (Nat × Nat) := []
  frozen : List Freeze := []
  subs : List Subscription := []
  transfers : Tbl Transfer := []
  nextSub : Nat := 1
  journal : Journal := {}
  store : Option Store := none
  commit : Option CommitJob := none
  commitDone : Option Nat := none
  commitStatus : Status := .ok
  strobes : List StrobeJob := []
  proxies : List ProxyJob := []
  nextJob : Nat := 0
  dmb : Option Nat := none
  counts : Tbl Nat := []
  casSeq : Nat := 0
  peerSeq : Tbl Nat := []
  deriving DecidableEq, Repr

/-- The host port (R381 to R386): the outcome of the last word, and the words of a push that back-pressure holds (R403). -/
structure HostSt where
  outcome : Nat := 0
  stalled : List Nat := []
  deriving DecidableEq, Repr

/-- What the device sends or drives at one instant, in the order it does so. DESIGN CHOICE (log 4). -/
inductive Out where
  | datagram (port : Port) (dest : List Byte) (bytes : List Byte)
  | frame (port : Port) (bytes : List Byte)
  | hostWords (words : List Word)
  | media (context : Nat) (copyB : Bool) (rtp : List Byte)
  | ptp (port : Nat) (dest bytes : List Byte)
  | ntp (port : Port) (dest : List Byte) (bytes : List Byte)
  | pulse (output : Nat) (lead trail : Tai) (activeLow : Bool)
  | gnssText (bytes : List Byte)
  | mdio (clause45 : Bool) (op phy reg data : Nat)
  | irmon (kind : Nat) (bytes : List Byte)
  | tdo (bits : List Bool)
  | audio (port : Nat) (slots : List (Option Nat))
  deriving DecidableEq, Repr

/-! ### Capacity (chapter 1) -/

/-- Units lost to fault and units shed by the budget scheduler, by kind of R34 (0 stream contexts, 1 crosspoints, 2 matrix
slices, 3 stream slices, 4 network lanes, 5 correlators, 6 audio ports, 7 time-service units, 8 the Irmon lane), and what each
spare slice is held for (R31: 0 free, 1 a failed slice, 2 a slice under test whose service was asked for, 3 rotation), with the
slice it stands in for and the audio frame, by the grid of R17, in which that slice failed. The lost matrix or stream slice of number 8 is the spare. -/
structure CapSt where
  lost : List (Nat × Nat) := []
  shed : Tbl Nat := []
  mtxSpare : Nat × Nat := (0, 0)
  strSpare : Nat × Nat := (0, 0)
  mtxAt : Option Nat := none
  strAt : Option Nat := none
  mtxGap : Nat := 0
  strGap : Nat := 0
  deriving DecidableEq, Repr

/-! ### Clocks (chapter 3) -/

/-- A phase move of a running output (R72): its size in 1/16 ns, the period as a fraction of 1/16 ns, when it began (cycles). -/
structure Move where
  size : Int
  pnum : Nat
  pden : Nat
  start : Nat
  deriving DecidableEq, Repr

/-- The clock block beyond its registers: whether the root was lost since the last reset, whether a fault of the backup holds the
device in reset, outputs that wait to start with the instant from which they may, when each synthesizer locked, synthesizers barred
from an automatic restart and when they last restarted, pending divider values and the instant from which they may switch, phase
moves (outputs by number, media clocks from 8 on), when each delay line last moved and since when each group's TRIM is clamped (cycles). -/
structure ClkSt where
  rootLost : Bool := false
  heldInReset : Bool := false
  waiting : Tbl Tai := []
  locked : Tbl Tai := []
  barred : Tbl Bool := []
  restarted : Tbl Nat := []
  pend : Tbl Nat := []
  pendFrom : Tai := ⟨0, 0, 0⟩
  moves : Tbl Move := []
  tracked : Tbl Nat := []
  clamped : Tbl Nat := []
  deriving DecidableEq, Repr

/-! ### References (chapter 4) -/

/-- What a reference slot holds beyond its registers: the window's start and whether an update in it failed, the last failed
update, the start of WTR (cycles), the advertised rank, a better rank and since when it shows, the last pulse, the phase
measured without saturation (1/16 ns), unlabelled pulses in a row, whether the receiver's status holds the rank at 255, a
step accepted once, an outlier found, the two kinds of disagreement, whether a monitor update waits for the loop tick and whether one
has been acted on since WAIT_RESTORE began, and the SSM and extended codes that a SyncE port received last. -/
structure SlotSt where
  winStart : Nat := 0
  failed : Bool := false
  lastFail : Option Nat := none
  wtrStart : Nat := 0
  advRank : Nat := 255
  better : Option (Nat × Nat) := none
  pulse : Option Tai := none
  offset : Int := 0
  unlabelled : Nat := 0
  gated : Bool := false
  accept : Bool := false
  outlier : Bool := false
  disF : Bool := false
  disT : Bool := false
  fresh : Bool := false
  updated : Bool := false
  ssm : Nat := 0xF
  ext : Option Nat := none
  deriving DecidableEq, Repr

/-- A row of PhaseStepLog (R101). -/
structure StepRec where
  tai : Tai
  delta : Int
  from_ : Option Nat
  dest : Nat
  count : Nat
  deriving DecidableEq, Repr

/-- A holdover model (R105): y0 in 2⁻¹⁶ ppt, D in 10⁻⁹ ppt/s, U_y in 0.001 ppt, U_D in 10⁻⁹ ppt/s, its instant (cycles). -/
structure Model where
  y0 : Int := 0
  slope : Int := 0
  uy : Nat := 0
  ud : Nat := 0
  at_ : Nat := 0
  deriving DecidableEq, Repr

/-- Learning and steering in holdover (R105): the model, whether it is frozen in force, the samples of the present fit, the
sums of the present second, the line steered along and its anchor (cycles), when frequency HOLDOVER was entered (cycles), and when
the model was last kept in the store (cycles). -/
structure LearnSt where
  kept : Nat := 0
  model : Model := {}
  frozen : Bool := false
  samples : List (Nat × Int) := []
  sum : Int := 0
  ticks : Nat := 0
  clean : Bool := true
  line : Int := 0
  lineAt : Nat := 0
  since : Nat := 0
  deriving DecidableEq, Repr

/-- Growth in time holdover (R106): the growth of earlier regimes (numerator), milliseconds in this regime and in all, the
regime's U_y and U_D. -/
structure GrowSt where
  base : Nat := 0
  ms : Nat := 0
  total : Nat := 0
  uy : Nat := 0
  ud : Nat := 0
  deriving DecidableEq, Repr

/-- The durations of R97: since when each condition has held without a break (cycles). -/
structure HoldTimers where
  ferrSmall : Option Nat := none
  ferrLarge : Option Nat := none
  perrSmall : Option Nat := none
  perrLarge : Option Nat := none
  deriving DecidableEq, Repr

/-- A selection decided at a loop tick, which applies at the next (R91, R100): the slots, and the phase step with it. -/
structure Choice where
  freq : Option Nat := none
  time : Option Nat := none
  delta : Option Int := none
  deriving DecidableEq, Repr

/-- A pulse output beyond its registers (R102, R103): PULSE_OFFSET in 1/16 ns, the last leading edge, when a realignment was
commanded, when the output was enabled. -/
structure PulseSt where
  offset : Int := 0
  last : Option Tai := none
  realignAt : Option Tai := none
  enabledAt : Tai := ⟨0, 0, 0⟩
  deriving DecidableEq, Repr

/-- GNSS labelling (R81): the last ZDA and RMC as UTC seconds with their arrival (cycles), the TAI second of the ZDA, the label of the next
pulse with the arrival of its sentence (cycles), and whether the last pulse was labelled. -/
structure GnssSt where
  zda : Option (Nat × Nat) := none
  zdaTai : Nat := 0
  rmc : Option (Nat × Nat) := none
  nextLabel : Option (Nat × Nat) := none
  labelled : Bool := false
  deriving DecidableEq, Repr

/-- One path of the clean-up loop (R96): what it gives to the steering word, in its LSB, and the error its filter saw last. -/
structure LoopPath where
  word : Int := 0
  last : Int := 0
  deriving DecidableEq, Repr

/-- The reference block. `word` is NcoFrequencyWord in its LSB of 2⁻¹⁶ ppt, the sum of what the frequency path and the time path give;
`phase` is the frequency path's phase error from its zero; `due` is a step that a standby takes with its partner, with the number of
its loop tick; `tookOver` holds from a take-over or handover until the selectors have chosen anew. -/
structure RefSt where
  word : Int := 0
  pathF : LoopPath := {}
  pathT : LoopPath := {}
  phase : Int := 0
  due : Option (Nat × Int) := none
  tookOver : Bool := false
  slots : Tbl SlotSt := []
  choice : Choice := {}
  timers : HoldTimers := {}
  perrs : List (Nat × Nat) := []
  spreadF : Nat := 0
  spreadT : Nat := 0
  learn : LearnSt := {}
  grow : GrowSt := {}
  log : List StepRec := []
  pulses : Tbl PulseSt := []
  gnss : GnssSt := {}
  deriving DecidableEq, Repr

/-! ### The time service (chapter 5) -/

/-- A leap event (R115): LEAP_AT, the offsets before and after, whether PTP armed it, whether LEAP_AT has passed. -/
structure Leap where
  at_ : Nat
  old : Int
  new : Int
  byPtp : Bool
  stepped : Bool
  deriving DecidableEq, Repr

/-- A PTP port identity: clock identity and port number. -/
structure PtpId where
  clock : Nat
  port : Nat
  deriving DecidableEq, Repr

/-- The data set an Announce carries (R122, R124), its bound TLV (R125) among it. -/
structure PtpData where
  sender : PtpId
  prio1 : Nat
  cls : Nat
  acc : Nat
  var : Nat
  prio2 : Nat
  gm : Nat
  steps : Nat
  utc : Int
  utcValid : Bool
  leap61 : Bool
  leap59 : Bool
  timeSource : Nat
  bound : Option Nat
  deriving DecidableEq, Repr

/-- A foreign master: its newest data set, when its last two Announces came (cycles). -/
structure Foreign where
  data : PtpData
  last : Nat
  before : Option Nat
  deriving DecidableEq, Repr

/-- A PTP port beyond its registers: foreign masters, the selected master, offset and path-delay samples (2⁻¹⁶ ns, newest
last), Syncs and Delay_Resps since the filter was cleared, a two-step Sync that waits (sequenceId, ingress, correction), the last
Sync's difference, the last Delay_Req (sequenceId, egress), the next sequenceIds, and how many Pdelay messages, management messages
and messages that failed Annex P were discarded (R119, R122). -/
structure PtpPort where
  foreigns : List Foreign := []
  master : Option PtpData := none
  offsets : List Int := []
  delays : List Int := []
  syncs : Nat := 0
  resps : Nat := 0
  waiting : Option (Nat × Tai × Int) := none
  syncDiff : Option Int := none
  req : Option (Nat × Tai) := none
  annSeq : Nat := 0
  syncSeq : Nat := 0
  reqSeq : Nat := 0
  pdelays : Nat := 0
  managements : Nat := 0
  unauthentic : Nat := 0
  deriving DecidableEq, Repr

/-- An entry of the time-client table (R140), its CRC apart, which Client.bytes computes. -/
structure Client where
  key : List Byte := []
  seen : Nat := 0
  tokens : Nat := 0
  count : Nat := 0
  kissed : Option Nat := none
  nts : Bool := false
  overflow : Bool := false
  deriving DecidableEq, Repr

/-- The time service: the armed leap, one whose second is passing while another is armed, the last one done, a PTP update of the offset that waits for the loop tick (R114), the
sums of ADV to HOLD that stand in registers of REF, the PTP ports and the series they sent (launch, port, the bytes a digest
covers), the client table by set and way, the overflow bucket, the present tick and what it served and kissed (half units of
R142), the reference identifier and time that NTP shows, what the partner says of its source, GPIO captures, and the NTS row that
issued before the present one (R137). -/
structure TimSt where
  leap : Option Leap := none
  passing : Option Leap := none
  lastLeap : Option Leap := none
  utcNext : Option Int := none
  ports : Tbl PtpPort := []
  series : List (Tai × Nat × List Byte) := []
  clients : Tbl Client := []
  overflow : Client := { overflow := true }
  tick : Nat := 0
  served : Nat := 0
  kisses : Nat := 0
  refId : List Byte := []
  refTime : Tai := ⟨0, 0, 0⟩
  partnerSource : Nat := 0xA0
  capSeq : Nat := 0
  captured : Tbl Nat := []
  prevIssuer : Option Nat := none
  deriving DecidableEq, Repr

/-! ### Network ports (chapter 7) -/

/-- A stored frame: its queue (port × 16 + queue) and its buffers in order. -/
structure RxChain where
  queue : Nat
  bufs : List Nat
  deriving DecidableEq, Repr

/-- A frame that waits to be sent: its class, the host's buffer it came from, what leaves the port. -/
structure TxFrame where
  cls : Nat
  buffer : Option Nat
  out : Out
  deriving DecidableEq, Repr

/-- A launch-timed media packet that waits: its launch instant, its context and copy, the frame. -/
structure MediaTx where
  launch : Tai
  ctx : Nat
  copyB : Bool
  frame : List Byte
  deriving DecidableEq, Repr

/-- A port beyond its registers: frames and media that wait, a pause (its start in cycles and its length in 1/100 cycle, and since
when the transmitter is stopped, but for what TX_PAUSED_US has counted, with the cycles that an earlier stop left over), the resolved neighbours, the echoes answered in the present second, whether an IGMPv2 querier
is heard. -/
structure NetPortSt where
  txq : List TxFrame := []
  media : List MediaTx := []
  pause : Option (Nat × Nat) := none
  pausedAt : Nat := 0
  pausedRest : Nat := 0
  neighbours : List (Nat × Nat) := []
  echoSec : Nat := 0
  echoes : Nat := 0
  igmpV2 : Bool := false
  deriving DecidableEq, Repr

/-- The network block: its ports (4 is MGT), each queue's free buffers where they are not all free, the chains held for the host by
first buffer, the transmit buffers the host holds, when each relay began to settle, whether the MDIO frame in progress reads, and the request
that waits for it (origin, sequence, journal number). -/
structure NetSt where
  ports : Tbl NetPortSt := []
  free : Tbl (List Nat) := []
  chains : Tbl RxChain := []
  txAlloc : List Nat := []
  settle : Tbl Nat := []
  mdioRead : Bool := false
  mdioReply : Option (Nat × Nat × Nat) := none
  deriving DecidableEq, Repr

/-! ### Streams (chapter 8) -/

/-- A stream context beyond its registers (R193 to R206): a start or stop that waits for a frame boundary, the frames left of a
receive stop's fade, the two rings by slot with the position each sample belongs to, each copy's last sequence number and when it
last had a valid packet (cycles), the last 32 values presented (newest first), the highest position presented, the samples that
wait to be sent by index, the first index of the next packet, the last index taken and the index at which a stop ends, the slice that
serves it when it is not its own, whether a start was asked for while it stops, the index to which a forward jump last went (R195). -/
structure CtxSt where
  starting : Bool := false
  stopReq : Bool := false
  fading : Option Nat := none
  ringA : Tbl (Nat × List Int) := []
  ringB : Tbl (Nat × List Int) := []
  seqA : Option Nat := none
  seqB : Option Nat := none
  latchedA : Bool := false
  latchedB : Bool := false
  heardA : Option Nat := none
  heardB : Option Nat := none
  hist : List (List Int) := []
  presented : Option Nat := none
  tx : Tbl (List Int) := []
  nextK : Nat := 0
  top : Option Nat := none
  endK : Option Nat := none
  place : Option Nat := none
  restart : Bool := false
  jumpTo : Nat := 0
  deriving DecidableEq, Repr

/-- What the digests of R310 fold: the words presented to DOUT by port and position, and the packets built by the millisecond of
their launch and their context. -/
structure DigestSt where
  audio : List (Nat × Nat × List Nat) := []
  packets : List (Nat × Nat × List Byte) := []
  deriving DecidableEq, Repr

/-! ### Audio ports (chapter 9) -/

/-- A position of a port's ring (R219): the layout epoch, whether it carries no data, one 32-bit word per channel. -/
structure RingEntry where
  epoch : Nat
  missing : Bool
  words : List Nat
  deriving DecidableEq, Repr

/-- A layout of one direction: its mask and its base. -/
structure Layout where
  mask : Nat
  base : Nat
  deriving DecidableEq, Repr

/-- One direction of a port: the ring by position, the gain state (LSB 1/256), the fills sampled in this audio block and how
many, the layouts by epoch, the position from which a slot's channel ramps in, whether a layout waits for the next port frame. -/
structure PortDir where
  ring : Tbl RingEntry := []
  g : Nat := 256
  fillSum : Nat := 0
  fillCount : Nat := 0
  layouts : Tbl Layout := []
  ramps : Tbl Nat := []
  relayout : Bool := false
  deriving DecidableEq, Repr

/-- A port beyond its registers (R215 to R235): consecutive valid and invalid frames, the number of the port frame in progress
and of the AES3 transmitter's, starts and stops that wait for a frame boundary, the first position carried in each direction, the
position a stop names, frames played since the stop, whether DOUT releases with no zero period, each direction, the next position
to be written and to be gathered, port frames a receive slip still discards, a transmit slip's first frame and whether it inserts,
when the last slip was and since when TRIM is clamped, C bits of the block received and frames since B, the highest position played,
values that wait for a block boundary, on a standby the anchor the active told (its frame and that frame's edge), and whether a setting
of TAI makes the port anchor afresh (1 from the next block boundary, 2 at the next edge), and when the last FS edge came (cycles),
until the clock is declared lost. -/
structure PortSt where
  valid : Nat := 0
  invalid : Nat := 0
  frame : Option Nat := none
  txFrame : Option Nat := none
  startReq : Bool := false
  stopReq : Bool := false
  start : Option Nat := none
  txStart : Option Nat := none
  stop : Option Nat := none
  stopFrames : Nat := 0
  release : Bool := false
  rx : PortDir := {}
  tx : PortDir := {}
  rxNext : Option Nat := none
  gathered : Option Nat := none
  discard : Nat := 0
  slip : Option (Nat × Bool) := none
  lastSlip : Option Nat := none
  clampSince : Option Nat := none
  csBits : List Bool := []
  sinceB : Option Nat := none
  played : Option Nat := none
  pend : Tbl Nat := []
  told : Option (Nat × Tai) := none
  afresh : Nat := 0
  edge : Option Nat := none
  deriving DecidableEq, Repr

/-! ### Matrix, zones (chapter 10) -/

/-- A crosspoint that is not IDLE (R245): its gain at the ramp's boundary and its target in 43 fraction bits, the ramp's steps
and those taken, whether it ends IDLE, whether the ramp waits for the next frame boundary; the slice it is placed on when that is
not its own. -/
structure XpSt where
  from43 : Int
  to43 : Int
  steps : Nat
  done : Nat
  release : Bool := false
  place : Option Nat := none
  deriving DecidableEq, Repr

/-- A zone's delay line and claims (R249, R253): the delay in force, the boundary at which it changes (none: the next), the gain
after a change, the values held by position (none: lost), the last 32 values presented, each level's claim end (the position). -/
structure ZoneSt where
  delay : Nat := 0
  change : Option Nat := none
  g : Nat := 256
  line : Tbl (Option Int) := []
  hist : List Int := []
  ended : Tbl Nat := []
  deriving DecidableEq, Repr

/-- One frame's values on the sample exchange: zone outputs after the pilot, by zone. -/
abbrev Frame := Tbl Int

/-- The mix (R19, R240 to R254): rows that are not IDLE, rows that found no position, the zones with state beyond their registers,
the outputs of the last two gathers, the index of the last frame boundary, the gain
(1/256) at which the outputs enter and leave service (R41, R55, R59), and the last strobe's statuses by row and, from 32768 on, zone
(R268). -/
structure MtxSt where
  xps : Tbl XpSt := []
  unplaced : List Nat := []
  zones : Tbl ZoneSt := []
  pipe1 : Frame := []
  pipe2 : Frame := []
  last : Option Nat := none
  outGain : Nat := 0
  results : Tbl Nat := []
  deriving DecidableEq, Repr

/-! ### Library, voices, tones, recorder (chapter 10) -/

/-- What a voice plays: a message, or a recorder channel from a mark's position. -/
inductive VoiceSource where
  | message (id : Nat)
  | rewind (position channel length : Nat)
  deriving DecidableEq, Repr

/-- A play that waits for its boundary (R260): what it plays, its voice, level, zone set and class, who asked (1 the Almanac,
2 LIB_CMD, 3 a Lantern trigger, 4 a session), the earliest instant (cycles), the mark of a rewind, the request that waits for its
outcome (origin, sequence, journal number). -/
structure Play where
  source : VoiceSource
  voice : Nat
  level : Nat
  zoneSet : Nat
  classS : Bool
  origin : Nat
  due : Nat
  mark : Option Nat := none
  reply : Option (Nat × Nat × Nat) := none
  deriving DecidableEq, Repr

/-- A voice that is not IDLE (R261): what it plays, level, the set and its zones as latched, class, its start position, samples
played, the samples left of a fade with its reason code, the play that follows a pre-emption. -/
structure Voice where
  source : VoiceSource
  level : Nat
  zoneSet : Nat
  zones : List Nat
  classS : Bool
  start : Nat
  pos : Nat
  fade : Option (Nat × Nat) := none
  next : Option Play := none
  deriving DecidableEq, Repr

/-- A library message (R257, R258): its row's bytes as written, its audio in DRAM and in NAND, BAD and NO_ROOM; the audio that
voices still fade out when DRAM lost it (R30). -/
structure Message where
  entry : List Byte
  dram : Option (List Byte) := none
  stale : List Byte := []
  nand : Option (List Byte) := none
  bad : Bool := false
  noRoom : Bool := false
  deriving DecidableEq, Repr

/-- A recorder mark (R265). -/
structure Mark where
  state : Nat
  position : Nat
  label : Nat
  session : Nat
  deriving DecidableEq, Repr

/-- A running tone (R256): its start boundary (none: the next frame boundary), the level in force and the ramp between levels
(from, frames done), the boundary of its stop. -/
structure ToneSt where
  start : Option Nat := none
  levelFrom : Nat := 0
  levelDone : Nat := 0
  stop : Option Nat := none
  stopReq : Bool := false
  deriving DecidableEq, Repr

/-- The recorder (R263, R264): whether it runs, W, OLDEST, the ring's positions (64 values each), and the tick in which the budget last
deferred it. -/
structure RecSt where
  running : Bool := false
  w : Nat := 0
  oldest : Nat := 0
  ring : Tbl (List Int) := []
  tried : Option Nat := none
  deriving DecidableEq, Repr

/-- The library, its voices, plays that wait, tones, the recorder and its marks, the rows still to load
in their order, LANTERN triggers whose message is not resident yet (trigger row, its play). -/
structure LibSt where
  msgs : Tbl Message := []
  voices : Tbl Voice := []
  plays : List Play := []
  tones : Tbl ToneSt := []
  recd : RecSt := {}
  marks : Tbl Mark := []
  order : List Nat := []
  waiting : List (Nat × Play) := []
  deriving DecidableEq, Repr

/-! ### Supervision and self-test (chapter 11) -/

/-- A correlator at work (R275, R276): its path, when the integration began (cycles), the lag window's base and the length wanted,
the sense samples by position (none: missing or concealed), the zone's samples of the present gate block, the positions admitted;
the band of a sweep. -/
structure Corr where
  path : Nat
  began : Nat
  lagBase : Nat
  want : Nat
  xs : Tbl (Option Int) := []
  block : List (Nat × Int) := []
  adm : List Nat := []
  band : Option Nat := none
  deriving DecidableEq, Repr

/-- The alarm machine of a path (R280): whether it watches, the consecutive faulty or good outcomes. -/
structure PathSt where
  watching : Bool := false
  faults : Nat := 0
  oks : Nat := 0
  result : Option Tai := none
  deriving DecidableEq, Repr

/-- The result of a self-test row (R284, R286). -/
structure TestResult where
  result : Nat
  cause : Nat
  sig : Nat
  expect : Nat
  cycles : Nat
  measured : Nat
  tai : Tai
  run : Nat
  deriving DecidableEq, Repr

/-- The test instance that runs (R283): its row, when it started (cycles), whether outside a Vigil. -/
structure Testing where
  row : Nat
  start : Nat
  alone : Bool
  deriving DecidableEq, Repr

/-- A Vigil in progress (R288, R289): its plan, when it was entered (cycles and TAI), the rows still to run, the results by code,
since when the next instance waits for admission. -/
structure VigilSt where
  plan : List Nat
  began : Nat
  entry : Tai
  todo : List Nat
  counts : List Nat
  waiting : Option Nat
  deriving DecidableEq, Repr

/-- The supervision block: correlators at work, path machines, the shared path last taken (plus one),
when each path was last served, the results, the test in progress, the Vigil, the paths a sweep has served and its bands not detected,
the run number, what the last Vigil showed, and the tick in which the budget last put a pilot off. -/
structure SupSt where
  corrs : Tbl Corr := []
  paths : Tbl PathSt := []
  nextShared : Nat := 0
  lastVisit : Tbl Nat := []
  results : Tbl TestResult := []
  testing : Option Testing := none
  vigil : Option VigilSt := none
  swept : List Nat := []
  missed : Nat := 0
  run : Nat := 0
  lastEntry : Tai := ⟨0, 0, 0⟩
  lastEnd : Tai := ⟨0, 0, 0⟩
  lastCounts : List Nat := []
  summary : Nat := 0
  deferredAt : Option Nat := none
  deriving DecidableEq, Repr

/-! ### Budget scheduler (chapter 13) -/

/-- A unit that the budget scheduler sheds (R335). -/
inductive ShedUnit where
  | vigil | resync | recorder | bank (n : Nat) | library | scrub | timeUnit | voice (n : Nat) | tone (n : Nat)
  | context (n : Nat) | port (n : Nat) | row (n : Nat) | lane (n : Nat)
  deriving DecidableEq, Repr

/-- The budget scheduler: ticks run, the cost admitted in this tick, how many ticks P has exceeded CAP and TJ has stood at TJ_CRIT,
when ENERGY_RESERVE was last written, the last valid RESERVE_CAP, since which tick P allows a restore and when the last restore was,
units shed in the order they were, measured and predicted power of the last second, the hour's sum of TJ, the sum behind
LIFE_AVG_TJ, when scrub last made a pass (cycles), requests deferred, and the tick of the last THERM_CAP update. -/
structure PwrSt where
  ticks : Nat := 0
  admitted : Nat := 0
  high : Nat := 0
  hot : Nat := 0
  written : Option Nat := none
  reserveCap : Option Nat := none
  low : Option Nat := none
  restored : Nat := 0
  shed : List ShedUnit := []
  ratio : List (Nat × Nat) := []
  hourSum : Int := 0
  hourTicks : Nat := 0
  lifeSum : Int := 0
  scrubbed : Nat := 0
  sramScrubbed : Nat := 0
  errors : Tbl Nat := []
  thermAt : Nat := 0
  deriving DecidableEq, Repr

/-! ### The Almanac (chapter 6) -/

/-- A row of the Almanac that is not EMPTY (R146, R152): its 128 bytes as written, its state (1 ARMED, 2 STAGING, 3 STAGED,
4 COMMITTED, 5 DEFERRED, 6 DONE), author and role, origin, whether it is a received copy, the guard time latched, OCCURRENCE, the
number and instant of the current occurrence, whether it was confirmed, whether STAGE was sent, whether the entry ends with this
occurrence, peers that answered STAGED and REFUSED, whether a RETRACT went
unacknowledged, whether the occurrence was stepped
over, when it was deferred (cycles), the last RESULT and status, LAUNCH's UTC second of day for a DAILY_UTC repeat (R150), whether the
occurrence found 64 control actions launched on its edge (R158). -/
structure AlmRow where
  bytes : List Byte
  state : Nat := 1
  author : Nat := 0
  role : Nat := 0
  originRank : Nat := 0
  originRow : Nat := 0
  copy : Bool := false
  guard : Nat := 0
  occ : Nat := 0
  n : Nat := 0
  inst : Option Tai := none
  confirmed : Bool := false
  sent : Bool := false
  ending : Bool := false
  staged : Nat := 0
  refused : Nat := 0
  unacked : Bool := false
  stepped : Bool := false
  deferred : Option Nat := none
  result : Nat := 0
  status : Status := .ok
  tod : Nat := 0
  spilled : Bool := false
  deriving DecidableEq, Repr

/-- A RETRACT whose acknowledgements are awaited (R153): the row, its occurrence and instant, how many peers have yet to answer, and
the Q4 item that waits for them, where the occurrence has resolved. -/
structure Retract where
  row : Nat
  occ : Nat
  inst : Tai
  waiting : Nat
  item : Option (List Byte) := none
  deriving DecidableEq, Repr

/-- The Almanac: its rows, audio actions that wait for the frame boundary after their instant (row), the Q4 items posted in the
present millisecond with their millisecond (R309), the RETRACTs that await acknowledgements, the copies whose occurrences have
resolved, newest last (origin rank, origin row, occurrence, whether it launched), the control edge of the last launch and how many
control actions launched on it (R158). -/
structure AlmSt where
  rows : Tbl AlmRow := []
  audio : List Nat := []
  posted : List (Nat × List Byte) := []
  retracting : List Retract := []
  ended : List (Nat × Nat × Nat × Bool) := []
  edge : Nat := 0
  edgeCount : Nat := 0
  deriving DecidableEq, Repr

/-! ### Pair and cascade (chapter 12) -/

/-- The pair (R300 to R321): decisions that wait for the next token and its flags; the frames of the coming boundary by number, the
boundary, how many there are and its flags; its records' digests and the partner's by millisecond; milliseconds marked IMPERFECT and ACCUSED; the first
millisecond of the mismatch run; the last two TIME frames sent, and the last received (the partner's stamp, our stamp); the partner's journal head; whether the
unit still pulls ROLE_CLAIM_N and whether it enters SAFE_HOLD when it lets go; the drill (1 asked, 2 away, 3 back);
RESYNC: when it began (cycles), the boundary named, counted matches, whether an IRMON sign halts it; the count of heartbeats sent;
commands that wait for their boundary; the flags of the last token sent; a setting of TAI that the token carried. -/
structure PairSt where
  records : List (List Byte) := []
  flags : Nat := 0
  frames : Tbl (List (List Byte)) := []
  boundary : Nat := 0
  want : Nat := 0
  inFlags : Nat := 0
  own : Tbl (List Byte) := []
  theirs : Tbl (List Byte) := []
  imperfect : List Nat := []
  accused : List Nat := []
  runStart : Option Nat := none
  timeTx : Option Tai := none
  timeTxOld : Option Tai := none
  timeRx : Option (Tai × Tai) := none
  head : Nat := 0
  rank : Nat := 255
  claiming : Bool := false
  abdicates : Bool := false
  thenMaintenance : Option Nat := none
  drill : Nat := 0
  resyncFrom : Nat := 0
  named : Option Nat := none
  good : Nat := 0
  halted : Bool := false
  hbSeq : Nat := 0
  commands : List Command := []
  sent : Nat := 0
  setTai : Option Tai := none
  deriving DecidableEq, Repr

/-- A child of the cascade (R322): its rank, its address, its last HELLO. -/
structure Child where
  rank : Nat
  address : List Byte
  hello : Tai
  deriving DecidableEq, Repr

/-- The cascade (R322 to R326): children, when each parent last answered (cycles), whether the alternate is in use, since when the
primary has answered without a gap of 3 s, the master's EUI-64, the rank each parent showed. -/
structure CasSt where
  children : Tbl Child := []
  primary : Option Nat := none
  alternate : Option Nat := none
  useAlt : Bool := false
  since : Option Nat := none
  master : List Byte := []
  primaryRank : Option Nat := none
  alternateRank : Option Nat := none
  deriving DecidableEq, Repr

/-! ### Modules (chapter 17) and the TAP (chapter 18) -/

/-- A proposal of a port (R419): MODE, SLOTS, WIDTH, RX_MASK, TX_MASK, and what its sense input follows: the sense port and slot. -/
structure Proposal where
  module : Nat
  mode : Nat
  slots : Nat
  width : Nat
  rxMask : Nat
  txMask : Nat
  sense : Option (Nat × Nat)
  deriving DecidableEq, Repr

/-- A module row beyond its registers: the record as read, when it last changed, addresses not acknowledged in a row. -/
structure ModRow where
  record : List Byte := []
  changed : Tai := ⟨0, 0, 0⟩
  deriving DecidableEq, Repr

/-- Modules and cages: rows, proposals by port, cage pages A0h. -/
structure ModSt where
  rows : Tbl ModRow := []
  props : Tbl Proposal := []
  cages : Tbl (List Byte) := []
  deriving DecidableEq, Repr


/-- The TAP (R425): the bits preloaded for the balls, and whether EXTEST drives them. -/
structure JtagSt where
  preload : List Bool := []
  drives : Bool := false
  deriving DecidableEq, Repr

/-! ### The device -/

/-- Everything the device holds except its packet memory and the commands that wait. `free` numbers the free values drawn so
far; `out` is the model's own record of what the device sent. -/
structure Dev where
  time : TimeSt := {}
  regs : RegSt := {}
  pins : PinSt := {}
  mode : ModeSt := {}
  island : IslandSt := {}
  boot : BootSt := {}
  contacts : Tbl Contact := []
  ques : Tbl Queue := []
  evSeq : Nat := 0
  odp : OdpSt := {}
  host : HostSt := {}
  cap : CapSt := {}
  clk : ClkSt := {}
  ref : RefSt := {}
  tim : TimSt := {}
  net : NetSt := {}
  str : Tbl CtxSt := []
  dig : DigestSt := {}
  apt : Tbl PortSt := []
  mtx : MtxSt := {}
  lib : LibSt := {}
  sup : SupSt := {}
  pwr : PwrSt := {}
  alm : AlmSt := {}
  pair : PairSt := {}
  cas : CasSt := {}
  mid : ModSt := {}
  jtag : JtagSt := {}
  free : Nat := 0
  out : List Out := []
  deriving DecidableEq, Repr

/-- The state of the block: the device, its packet memory, and the commands waiting to act, first in, first out. -/
structure State where
  pending : List Instr := []
  mem : Mem := []
  dev : Dev := {}
  deriving DecidableEq, Repr

/-- No command of this device stops the machine with a fault: a fault of the model's own would be raised only by a meaning
that found its own tables inconsistent. Safe: it stops instead of choosing. -/
inductive Fault where
  /-- Raised by no meaning. Safe. -/
  | inconsistent (what : String)
  deriving DecidableEq, Repr

/-- A command that the model refuses. -/
inductive Refusal where
  /-- An arm of `exec` whose meaning has not been written. Safe: the machine stops. -/
  | notModelled (mnemonic : String)
  deriving DecidableEq, Repr

/-- The machine right after power-on with its supplies valid and RST_N low: RESET with cause 0x00 (R36, R37, R43), the TAI
counter at the epoch (R441), every register at its reset value, every store empty, no command waiting. DESIGN CHOICE (log 6). -/
def State.reset : State := {}

end Sys2Proof.Machine
end

