-- ==== Sys2Proof/Machine/Ops.lean ====
section
/-! DEFINITION. Machine/Ops.lean: the named operations every command is built from: time arithmetic, register fields,
interrupt and sticky bits, queues and events, the journal, free values, and how an effect becomes a step's outcome. -/

namespace Sys2Proof.Machine

/-! ### Time (R6, R7) -/

/-- Sub-nanoseconds in one second. -/
def subPerSec : Nat := 1000000000 * 65536

/-- A time as a count of sub-nanoseconds. -/
def Tai.toSub (t : Tai) : Nat := 65536 * (1000000000 * t.sec + t.ns) + t.sub

/-- The time that a count of sub-nanoseconds makes, the seconds wrapping at 48 bits. -/
def Tai.ofSub (n : Nat) : Tai := ⟨n / subPerSec % 2 ^ 48, n / 65536 % 1000000000, n % 65536⟩

/-- A time in range (R6). -/
def Tai.wf (t : Tai) : Bool := decide (t.sec < 2 ^ 48) && decide (t.ns < 1000000000) && decide (t.sub < 65536)

/-- A time moved by a signed count of sub-nanoseconds. -/
def Tai.addSub (t : Tai) (d : Int) : Tai := Tai.ofSub ((t.toSub : Int) + d).toNat

/-- A time moved by nanoseconds. -/
def Tai.addNs (t : Tai) (n : Int) : Tai := t.addSub (n * 65536)

/-- The order of times. -/
def Tai.le (a b : Tai) : Bool := decide (a.toSub ≤ b.toSub)

/-- Strictly before. -/
def Tai.lt (a b : Tai) : Bool := decide (a.toSub < b.toSub)

/-- The TAI80 encoding (R6, R347): seconds in 6 bytes, nanoseconds in 4. -/
def Tai.nat80 (t : Tai) : Nat := t.sec * 2 ^ 32 + t.ns

/-- The time in a TAI80. -/
def Tai.of80 (n : Nat) : Tai := ⟨n / 2 ^ 32 % 2 ^ 48, n % 2 ^ 32, 0⟩

/-- The 12-byte little-endian form of journal entries and events. -/
def Tai.le12 (t : Tai) : List Byte := toLE 6 t.sec ++ toLE 4 t.ns ++ toLE 2 t.sub

/-- The saturated error bound (R7). -/
def boundSat : Nat := 0xFFFFFFFF

/-- A sum of bounds: it saturates and never wraps, and a saturated term saturates the sum (R7). -/
def boundSum (l : List Nat) : Nat := if l.any (boundSat ≤ ·) then boundSat else min boundSat l.sum

/-! ### Register fields -/

/-- The running value of a field. -/
def Dev.rd (d : Dev) (f : Fld) : Nat := d.regs.live.get f.reset f.key

/-- The buffered value of a field, which a read of an RWB field returns (R8). -/
def Dev.rdB (d : Dev) (f : Fld) : Nat := d.regs.buf.get f.reset f.key

/-- A running field as a flag. -/
def Dev.on (d : Dev) (f : Fld) : Bool := d.rd f == 1

/-- A running field read in two's complement. -/
def Dev.rdS (d : Dev) (f : Fld) : Int := sgn f.w (d.rd f)

/-- Set the running value of a field. -/
def Dev.wr (d : Dev) (f : Fld) (v : Nat) : Dev :=
  { d with regs := { d.regs with live := d.regs.live.put f.key (v % 2 ^ f.w) } }

/-- Set a running flag. -/
def Dev.wrBit (d : Dev) (f : Fld) (b : Bool) : Dev := d.wr f (bit b)

/-- Set a running field to a signed value, kept within the field. -/
def Dev.wrS (d : Dev) (f : Fld) (v : Int) : Dev := d.wr f (unsgn f.w (clampInt (-(2 ^ (f.w - 1))) (2 ^ (f.w - 1) - 1) v))

/-- Set the buffered value of a field. -/
def Dev.wrB (d : Dev) (f : Fld) (v : Nat) : Dev :=
  { d with regs := { d.regs with buf := d.regs.buf.put f.key (v % 2 ^ f.w) } }

/-- Set both: a value restored or applied whole (R48). -/
def Dev.wrBoth (d : Dev) (f : Fld) (v : Nat) : Dev := (d.wrB f v).wr f v

/-- Hardware changes the running value of a buffered field; what software last wrote stays buffered (R399). -/
def Dev.wrRun (d : Dev) (f : Fld) (v : Nat) : Dev := (d.wrB f (d.rdB f)).wr f v

/-- Add to a saturating counter field. -/
def Dev.count (d : Dev) (f : Fld) (n : Nat := 1) : Dev := d.wr f (satAdd f.w (d.rd f) n)

/-- The 64-bit dictionary counters behind counter registers; no read clears them (R400). -/
def Dev.rd64 (d : Dev) (f : Fld) : Nat := d.odp.counts.get 0 f.key

/-- Count in a counter register and in the dictionary counter beside it. -/
def Dev.tally (d : Dev) (f : Fld) (n : Nat := 1) : Dev :=
  let d := d.count f n
  { d with odp := { d.odp with counts := d.odp.counts.put f.key ((d.rd64 f + n) % 2 ^ 64) } }

/-! ### Modes -/

/-- The 4-bit code of a mode (R36). -/
def modeCode : Mode → Nat
  | .reset => 0 | .bootstrap => 1 | .commission => 2 | .solo => 3 | .active => 4 | .marionette => 5 | .resync => 6
  | .estranged => 7 | .lantern => 8 | .vigil => 9 | .maintenance => 10 | .safeHold => 11

/-- The mode of a code (R36). -/
def modeOf : Nat → Option Mode
  | 0 => some .reset | 1 => some .bootstrap | 2 => some .commission | 3 => some .solo | 4 => some .active
  | 5 => some .marionette | 6 => some .resync | 7 => some .estranged | 8 => some .lantern | 9 => some .vigil
  | 10 => some .maintenance | 11 => some .safeHold | _ => none

/-- SOLO, ACTIVE, VIGIL and LANTERN: the modes R54 calls SVC. -/
def Mode.svc : Mode → Bool
  | .solo | .active | .vigil | .lantern => true
  | _ => false

/-- MARIONETTE, RESYNC and ESTRANGED: the modes R54 calls STBY. -/
def Mode.stby : Mode → Bool
  | .marionette | .resync | .estranged => true
  | _ => false

/-- The device is powered and out of RESET. -/
def Dev.alive (d : Dev) : Bool := d.pins.supplies && d.mode.mode != .reset

/-- The device has ended BOOTSTRAP: its blocks run. -/
def Dev.booted (d : Dev) : Bool := d.alive && d.mode.mode != .bootstrap

/-- The mode whose roles hold: LANTERN and VIGIL keep the role of the mode of entry (R41). -/
def Dev.roleMode (d : Dev) : Mode :=
  match d.mode.mode with
  | .lantern | .vigil => d.mode.origin
  | m => m

/-- The unit drives outputs and serves: SVC, but for a VIGIL entered from standby. -/
def Dev.serving (d : Dev) : Bool := d.mode.mode.svc && (d.roleMode == .solo || d.roleMode == .active)

/-- The unit computes in step behind a partner (R38). -/
def Dev.standby (d : Dev) : Bool := d.mode.mode.stby || (d.mode.mode.svc && d.roleMode == .marionette)

/-- SAFE_HOLD still fades the outputs that the device drove before it (R59). -/
def Dev.fading (d : Dev) : Bool := d.mode.mode == .safeHold && decide (0 < d.mtx.outGain)

/-- The device drives its audio outputs. -/
def Dev.drives (d : Dev) : Bool := d.serving || d.fading

/-- Audio is computed (R38): full service, in step, or fading out. -/
def Dev.audioRuns (d : Dev) : Bool := d.drives || d.standby

/-! ### Codes of R343 and R440 -/

/-- The code of a status (R440). -/
def Status.code : Status → Nat
  | .ok => 0 | .range => 1 | .mode => 2 | .busy => 3 | .accessDenied => 4 | .noObject => 5 | .noSubindex => 6
  | .typeMismatch => 7 | .locked => 8 | .frozen => 9 | .sequence => 10 | .auth => 11 | .capacity => 12
  | .stoppedOnly => 13 | .tooLate => 14 | .budget => 15 | .markOverrun => 16

/-- The code of a role (R343). -/
def Role.code : Role → Nat
  | .observer => 0 | .operator => 1 | .engineer => 2 | .safety => 3

/-- The role of a code (R343). -/
def roleOf : Nat → Option Role
  | 0 => some .observer | 1 => some .operator | 2 => some .engineer | 3 => some .safety | _ => none

/-- The order of roles (R343). -/
def Role.ge (a b : Role) : Bool := decide (b.code ≤ a.code)

/-- The number of a port: NET0 to NET3 are 0 to 3, MGT is 4. -/
def Port.num : Port → Nat
  | .net0 => 0 | .net1 => 1 | .net2 => 2 | .net3 => 3 | .mgt => 4

/-- The port of a number. -/
def portOf : Nat → Port
  | 0 => .net0 | 1 => .net1 | 2 => .net2 | 3 => .net3 | _ => .mgt

/-! ### Free values -/

/-- Draw a fresh free value at a site. DESIGN CHOICE (log 7). -/
def Dev.draw (d : Dev) (site : Config.Site) : Nat × Dev := (Config.free site.num d.free, { d with free := d.free + 1 })

/-- Draw `n` free bytes. DESIGN CHOICE (log 7). -/
def Dev.drawBytes (d : Dev) (site : Config.Site) (n : Nat) : List Byte × Dev :=
  (toBE n (Config.free site.num d.free), { d with free := d.free + 1 })

/-- Draw a free value kept within two limits that the spec sets. -/
def Dev.drawIn (d : Dev) (site : Config.Site) (lo hi : Int) : Int × Dev :=
  let r := d.draw site
  (lo + ((r.1 : Int) % (hi - lo + 1)), r.2)

/-! ### Output -/

/-- Record something sent. DESIGN CHOICE (log 4). -/
def Dev.emit (d : Dev) (o : Out) : Dev := { d with out := d.out ++ [o] }

/-! ### Queues (R401 to R405) -/

/-- A queue's item size in bytes (R401). -/
def itemSize (q : Nat) : Nat :=
  if q ≤ 1 then 8 else if q = 2 then 32 else if q = 3 then 16 else if q ≤ 6 then 32 else if q = 7 then 16
  else if q ≤ 12 then 24 else 32

/-- A queue's capacity in items (R401). -/
def queueCap (q : Nat) : Nat := 16384 / itemSize q

/-- A queue. -/
def Dev.que (d : Dev) (q : Nat) : Queue := d.ques.get {} q

/-- Replace a queue. -/
def Dev.setQue (d : Dev) (q : Nat) (x : Queue) : Dev := { d with ques := d.ques.put q x }

/-- Note a queue's count in its peak (R405). -/
def Dev.peak (d : Dev) (q : Nat) : Dev :=
  let n := (d.que q).items.length
  if d.rd (F.QUE_PEAK_PEAK.at [q]) < n then d.wr (F.QUE_PEAK_PEAK.at [q]) n else d

/-- A device-written item enters its queue by the queue's policy (R404): under OVERWRITE the oldest item gives way and is
counted, under BACKPRESSURE the producer holds one item and loses those that arrive while it holds it. -/
def Dev.enqueue (d : Dev) (q : Nat) (item : List Byte) : Dev :=
  let x := d.que q
  let presses := d.rd (F.QUE_CFG_POLICY.at [q]) ≠ 0
  if presses && x.held.isSome then d.count (F.QUE_LOSS_LOSS.at [q])
  else if x.items.length < queueCap q then (d.setQue q { x with items := x.items ++ [item] }).peak q
  else if presses then d.setQue q { x with held := some item }
  else (d.setQue q { x with items := x.items.drop 1 ++ [item] }).count (F.QUE_LOSS_LOSS.at [q])

/-- The queue that a block's events go to: the lowest of Q13 to Q31 whose ROUTE has the block's bit, or Q2 (R406). -/
def Dev.eventQueue (d : Dev) (blk : Nat) : Nat :=
  ((List.range 19).map (· + 13)).find? (fun q => bitAt (d.rd (F.QUE_CFG_ROUTE.at [q])) blk) |>.getD 2

/-- Post an event item (R406). `arg` is the argument's bytes from byte 16 on. -/
def Dev.event (d : Dev) (blk code unit : Nat) (arg : List Byte := []) : Dev :=
  let head := 2 * 2 ^ 28 + blk % 16 * 2 ^ 24 + code % 256 * 2 ^ 16 + unit % 65536
  let item := toLE 4 head ++ toLE 6 d.time.tai.sec ++ toLE 4 d.time.tai.ns ++ toLE 2 d.evSeq ++ slice arg 0 16
  { d.enqueue (d.eventQueue blk) item with evSeq := (d.evSeq + 1) % 65536 }

/-- No unit in particular. -/
def noUnit : Nat := 0xFFFF

/-- The stored word of a register: its running fields, each at its place. -/
def Dev.liveWord (d : Dev) (f : Fld) : Nat :=
  match findReg f.blk f.off with
  | none => 0
  | some (r, ix) => (r.flds.map (fun g => d.rd ((g.at ix).un f.unit) * 2 ^ g.lo)).sum

/-- Set a one-bit interrupt status field and post its event (R406): the code is the bit's number, and the argument begins with
the status word. DEDUCED (log 144). -/
def Dev.irq (d : Dev) (f : Fld) (unit : Nat := noUnit) (more : List Byte := []) : Dev :=
  let d := d.wr f 1
  d.event f.blk f.lo unit (toLE 4 (d.liveWord f) ++ more)

/-- Set a one-bit interrupt status field whose event the chapter posts elsewhere. -/
def Dev.flag (d : Dev) (f : Fld) : Dev := d.wr f 1

/-- Set a per-unit sticky field and post its event (R406: 0x20 plus the bit's number). DEDUCED (log 144). -/
def Dev.sticky (d : Dev) (f : Fld) (unit : Nat) (more : List Byte := []) : Dev :=
  let d := d.wr f 1
  d.event f.blk (0x20 + f.lo) unit (toLE 4 (d.liveWord f) ++ more)

/-- Post the event of code 0x40 that names an object (R406). -/
def Dev.objEvent (d : Dev) (blk unit index sub row : Nat) (arg : Nat := 0) : Dev :=
  d.event blk 0x40 unit (toLE 4 arg ++ toLE 2 index ++ toLE 1 sub ++ toLE 3 row)

/-! ### The journal (R360 to R363) -/

/-- How many entries the staging region holds, and how many of them commands may fill (R361). -/
def stagingCap : Nat := 40960
/-- The room commands have (R361). -/
def stagingCmd : Nat := 40000

/-- Post a Q7 item (R407). DESIGN CHOICE (log 145). -/
def Dev.q7 (d : Dev) (kind : Nat) : Dev :=
  let j := d.odp.journal
  d.enqueue 7 (toLE 4 (7 * 2 ^ 28 + kind * 2 ^ 24 + j.staged.length % 2 ^ 24) ++ toLE 8 j.head ++ toLE 4 j.durable)

/-- Replace the journal. -/
def Dev.setJournal (d : Dev) (j : Journal) : Dev := { d with odp := { d.odp with journal := j } }

/-- Stage one entry under the next sequence number; a full region loses its content and counts it (R361). DESIGN CHOICE (log 147). -/
def Dev.stage (d : Dev) (master role op : Nat) (st : Status) (flags index sub row : Nat) (value : List Byte) : Dev :=
  let j := d.odp.journal
  let n := j.head + 1
  let e : Entry := ⟨n, d.time.tai, master, role, op, st, flags, index, sub, row, value⟩
  let j := { j with head := n, flushMark := false, madeThisSecond := j.madeThisSecond + 1 }
  if j.staged.length < stagingCap then
    let j := { j with staged := j.staged ++ [e] }
    let d := d.setJournal j
    if j.staged.length = 30000 then (d.q7 3).irq F.GCTL_IRQ_STATUS_JOURNAL_HIGH else d
  else
    let r := match j.lostRange with
      | some (a, _) => (a, n)
      | none => (n, n)
    d.setJournal { j with lost := j.lost + 1, lostRange := some r }

/-- Write an entry (R360). The first entry after a BOOTSTRAP that skipped numbers is a RESTART entry naming them (R363). DESIGN CHOICE (log 148). -/
def Dev.journal (d : Dev) (master role op : Nat) (st : Status) (flags index sub row : Nat) (value : List Byte) : Dev :=
  let d := match d.odp.journal.restart with
    | none => d
    | some (a, b) =>
      let d := d.setJournal { d.odp.journal with restart := none, gaps := d.odp.journal.gaps ++ [(a, b)] }
      (d.stage 0 0xFF 0x24 .ok 0 0 0 0 (toLE 8 a ++ toLE 8 b)).q7 1
  d.stage master role op st flags index sub row value

/-- An entry of the device itself: master 0, role 0xFF (R360). -/
def Dev.journalDevice (d : Dev) (op : Nat) (value : List Byte) (flags : Nat := 0) : Dev :=
  d.journal 0 0xFF op .ok flags 0 0 0 value

/-- A DEVICE_EVENT entry (R360): its code, then what the event names, little-endian (R4). DESIGN CHOICE (log 190). -/
def Dev.deviceEvent (d : Dev) (code : Nat) (rest : List Byte := []) : Dev :=
  d.journalDevice 0x23 (toLE 1 code ++ rest)

/-! ### Outcomes -/

/-- A command's effect on the device. The TAI counter moves on the time engine's cycles and by the commands that step or
set it, and by no other (R15, R16); a command of any other kind leaves the packet memory and the queue as they are. -/
def State.act (s : State) (f : Dev → Dev) : Host.Outcome State Fault Refusal :=
  .next { s with dev := { f s.dev with time := s.dev.time } }

/-- Bring a TAI counter into its 48, 30 and 16 bits (R6). -/
def TimeSt.norm (t : TimeSt) : TimeSt := { t with tai := Tai.ofSub t.tai.toSub }

/-- The effect of a command that may step or set the TAI counter. -/
def State.actTime (s : State) (f : Dev → Dev) : Host.Outcome State Fault Refusal :=
  let d := f s.dev
  .next { s with dev := { d with time := d.time.norm } }

/-- The effect of a command that moves the TAI counter to a time of its own (R100, R441): the counter takes that time on the
cycle of the command. -/
def State.actTo (s : State) (g : Dev → Tai) (f : Dev → Dev) : Host.Outcome State Fault Refusal :=
  .next { s with dev := { f s.dev with time := { s.dev.time with tai := Tai.ofSub (g s.dev).toSub } } }

/-- Write bytes to the packet memory. -/
def Mem.writeAll (m : Mem) (l : List (Nat × Byte)) : Mem := l.foldl (fun m c => m.write c.1 c.2) m

/-- The effect of a command that reads and writes the packet memory: the bytes it stores, then the device. -/
def State.actMem (s : State) (f : Mem → Dev → List (Nat × Byte) × Dev) : Host.Outcome State Fault Refusal :=
  let r := f s.mem s.dev
  .next { s with mem := s.mem.writeAll r.1, dev := { r.2 with time := s.dev.time } }

/-- The effect of a command that may do all of these: set the TAI counter, and read and write the packet memory. -/
def State.actAll (s : State) (f : Mem → Dev → List (Nat × Byte) × Dev) : Host.Outcome State Fault Refusal :=
  let r := f s.mem s.dev
  .next { s with mem := s.mem.writeAll r.1, dev := { r.2 with time := r.2.time.norm } }

end Sys2Proof.Machine
end

