-- ==== Sys2Proof/Machine/Operands.lean ====
section
/-! DEFINITION. Machine/Operands.lean: how an address names a register (R387 to R389), how a stored key names a field, and
how an object's values travel on the wire (R347, R369). -/

namespace Sys2Proof.Machine

/-- The offset mask of a block's window (R387). -/
def offsetMask (blk : Nat) : Nat :=
  match blk with
  | 0 => 0x3FFF | 3 => 0x1FFF | 5 => 0x3FFF | 6 => 0x1FFF | 7 => 0x07FF | 12 => 0x07FF | 14 => 0x07FF | 15 => 0x03FF
  | _ => 0x0FFF

/-- Clear the highest set bit of an offset below `2 ^ n`. -/
def clearTop : Nat → Nat → Nat
  | 0, x => x
  | n + 1, x => if 2 ^ n ≤ x then x - 2 ^ n else clearTop n x

/-- The base within a block of the page that an offset of a window lies in (R389): NET's bypass page and MGT page, APT's
block page, or the window itself. -/
def pageBase (blk win off : Nat) : Nat :=
  if blk = 5 then (if off < 0x400 then (if win = 1 then 0x4000 else 0) else win * 0x4000)
  else if blk = 7 then (if 0x700 ≤ off ∧ off < 0x780 then 0 else win * 0x800)
  else 0

/-- The fold of R388: clear the highest set bit until the offset names a register. -/
def foldOff (blk win : Nat) : Nat → Nat → Nat
  | 0, off => pageBase blk win off + off
  | n + 1, off =>
    if (findReg blk (pageBase blk win off + off)).isSome then pageBase blk win off + off
    else foldOff blk (if blk = 7 ∧ 0x700 ≤ off ∧ off < 0x780 then 0 else win) n (clearTop 14 off)

/-- Where an address leads (R387 to R389): the block and the folded offset within it. -/
def decodeAddr (addr : Nat) : Nat × Nat :=
  let blk := addr / 65536 % 16
  let win := if blk = 5 then addr / 0x4000 % 4 else if blk = 7 then addr / 0x800 % 16 else 0
  (blk, foldOff blk win 15 ((addr % 65536).land (offsetMask blk) / 4 * 4))

/-- The register that selects the unit a window opens on, by block and offset; none where the register has no units. -/
def selectOf (blk off : Nat) : Option Fld :=
  match blk with
  | 6 => some F.STR_CTX_SEL_SEL
  | 8 => if off < 0x200 then some F.MTX_XP_SEL_SEL else if off < 0x300 then some F.MTX_ZN_SEL_SEL else some F.MTX_ZS_SEL_SEL
  | 9 => if off < 0x200 then some F.LIB_VC_SEL_SEL else some F.LIB_MK_SEL_SEL
  | 10 => if off < 0x400 then some F.SUP_PATH_SEL_SEL else some F.SUP_ST_SEL_SEL
  | _ => none

end Sys2Proof.Machine
end

