-- ==== Sys2Proof/Machine/Modes.lean ====
section
/-! DEFINITION. Machine/Modes.lean: deciding mode transitions (R40 to R42), the SAFE_HOLD causes (R59), what every reset keeps
(R53, R363, R364) and how buffered values are applied (R396 to R398). -/

namespace Sys2Proof.Machine

/-! ### Decisions -/

/-- The present control cycle (R11): two datapath cycles. -/
def Dev.controlCycle (d : Dev) : Nat := d.time.cycles / 2

/-- A cause's place in the list of R40: a reset, a SAFE_HOLD cause, the pair's, islanding, the Vigil's, a request. -/
def causeRank (target : Mode) (cause : Nat) : Nat :=
  match target with
  | .reset => 1
  | .safeHold => 2
  | _ =>
    if [0x07, 0x0C, 0x0D, 0x0E, 0x14].contains cause then 3 else if cause = 0x0A || cause = 0x0B then 4
    else if cause = 0x0F || cause = 0x10 then 5 else 6

/-- Decide a transition (R40): IN_TRANSITION reads 1 until it takes effect. -/
def Dev.goTo (d : Dev) (target : Mode) (cause : Nat) (master : Nat := 0) (rank : Nat := causeRank target cause) : Dev :=
  { d with mode := { d.mode with decided := some ⟨target, cause, master⟩, decidedAt := d.controlCycle, decidedRank := rank } }

/-- Nothing stands against a cause of this place in the list: no transition is decided, or one decided in the same control cycle by a
cause lower in the list (R40). -/
def Dev.yields (d : Dev) (rank : Nat) : Bool :=
  d.mode.decided.isNone || (d.mode.decidedAt = d.controlCycle && decide (rank < d.mode.decidedRank))

/-- What a decision leaves when a higher cause of its control cycle takes its place (R40): a request that loses shows MODE, and the
token carries no handover. DESIGN CHOICE (log 24). -/
def Dev.unseat (d : Dev) : Dev :=
  match d.mode.decided with
  | none => d
  | some x =>
    let d := if d.mode.decidedRank = 6 then { d with mode := { d.mode with lastStatus := .mode } } else d
    if x.target = .marionette then
      { d with pair := { d.pair with flags := d.pair.flags / 16 * 16, thenMaintenance := none } } else d

/-- A cause of a transition arises (R40): of two in one control cycle the higher in the list wins. -/
def Dev.arises (d : Dev) (target : Mode) (cause : Nat) (master : Nat := 0) (rank : Nat := causeRank target cause) : Dev :=
  if d.yields rank then d.unseat.goTo target cause master rank else d

/-- Keep a SAFE_HOLD cause until it can be judged (R40, R41). -/
def Dev.holdCause (d : Dev) (cause : Nat) : Dev :=
  if d.mode.held.contains cause then d else { d with mode := { d.mode with held := d.mode.held ++ [cause] } }

/-- A SAFE_HOLD cause arises (R41, R45, R59): BOOTSTRAP holds it for step 10; a transition decided in an earlier control cycle goes
first (R40). DESIGN CHOICE (log 24). -/
def Dev.safeHoldCause (d : Dev) (cause : Nat) : Dev :=
  match d.mode.mode with
  | .reset => d
  | .safeHold => d
  | .bootstrap => d.holdCause cause
  | _ => if d.yields 2 then d.arises .safeHold cause else d.holdCause cause

/-- A reset or SAFE_HOLD is decided: no change of role comes before it (R40). -/
def Dev.bound (d : Dev) : Bool :=
  match d.mode.decided with | some x => x.target == .reset || x.target == .safeHold | none => false

/-- A cause clears: the ten seconds of R59 start when it is the cause SAFE_HOLD was entered for. -/
def Dev.clearCause (d : Dev) (cause : Nat) : Dev :=
  if d.mode.mode = .safeHold ∧ d.mode.cause = cause ∧ d.mode.clearSince.isNone then
    { d with mode := { d.mode with clearSince := some d.time.cycles } }
  else d

/-- A cause returns before the ten seconds have run: they start again when it clears. DESIGN CHOICE (log 25). -/
def Dev.unclearCause (d : Dev) (cause : Nat) : Dev :=
  if d.mode.mode = .safeHold ∧ d.mode.cause = cause then { d with mode := { d.mode with clearSince := none } } else d

/-- The word GCTL_MODE shows of the last transition, and its record (R37, R42): the journal entry with the session of the
request, and the event on Q2. -/
def Dev.recordTransition (d : Dev) (target : Mode) (cause master : Nat) : Dev :=
  let old := d.mode.mode
  let d := { d with mode := { d.mode with mode := target, prev := old, cause := cause,
                                          count := (d.mode.count + 1) % 256, decided := none,
                                          entered := d.time.tai } }
  let d := d.journal master 0xFF 0x20 .ok 0 0 0 0 (toLE 1 (modeCode old) ++ toLE 1 (modeCode target) ++ toLE 1 cause)
  d.irq F.GCTL_IRQ_STATUS_MODE_CHANGE noUnit (toLE 1 (modeCode old) ++ toLE 1 (modeCode target) ++ toLE 1 cause)

/-! ### The island watch (R56) -/

/-- Qualifying traffic arrives: an authenticated ODP message, PTP from a qualified master, or an accepted media packet. -/
def Dev.islandHeard (d : Dev) : Dev :=
  if !d.booted then d
  else if d.island.islanded then
    { d with island := { d.island with islanded := false, heard := d.time.cycles, clearAt := some d.time.cycles } }
  else { d with island := { d.island with heard := d.time.cycles } }

/-! ### Decisions for the step token (R305, R306) -/

/-- Whether the unit makes no decision of its own and follows the active's (R337). DESIGN CHOICE (log 58). -/
def Dev.follows (d : Dev) : Bool := d.roleMode = .marionette || d.roleMode = .resync

/-- A decision that the next token carries to the standby: 16 bytes, the type first. -/
def Dev.note (d : Dev) (r : List Byte) : Dev :=
  if d.roleMode = .active && d.on F.PAIR_CFG_EN then { d with pair := { d.pair with records := d.pair.records ++ [slice r 0 16] } }
  else d

/-- ROLE_CLAIM_N is read: whether the partner holds it low; while it reads low the CLAIM sign is absent (R314). -/
def Dev.claimReads (d : Dev) (low : Bool) : Dev :=
  let d : Dev := { d with pins := { d.pins with partnerClaims := low } }
  if low then d.wr F.PAIR_STATUS_SIGN_CLAIM 0 else d

/-- A unit that does not watch for its partner shows no sign (R314). DESIGN CHOICE (log 206). -/
def Dev.clearSigns (d : Dev) : Dev :=
  ((d.wr F.PAIR_STATUS_SIGN_CLAIM 0).wr F.PAIR_STATUS_SIGN_IRMON 0).wr F.PAIR_STATUS_SIGN_HB 0

/-! ### Cycles and elapsed time -/

/-- Datapath cycles in a millisecond of root time (R11). -/
def cyclesPerMs : Nat := 400000

/-- Whether `ms` milliseconds have passed since an instant counted in cycles. DESIGN CHOICE (log 3). -/
def Dev.past (d : Dev) (since ms : Nat) : Bool := decide (since + cyclesPerMs * ms ≤ d.time.cycles)

/-! ### What a reset keeps -/

/-- The key of an object's column in the store of object values. -/
def objKey (index sub row col : Nat) : Nat := ((index * 256 + sub) * 4194304 + row) * 64 + col

/-- The value of an object's field, the default where nothing is stored. -/
def Dev.obj (d : Dev) (index sub row : Nat) (dflt : Nat := 0) : Nat := d.odp.objs.get dflt (objKey index sub row 0)

/-- Store the value of an object's field. -/
def Dev.setObj (d : Dev) (index sub row v : Nat) : Dev :=
  { d with odp := { d.odp with objs := d.odp.objs.put (objKey index sub row 0) v } }

/-- The index of a stored object value. -/
def objIndex (key : Nat) : Nat := key / 64 / 4194304 / 256

/-- The subindex of a stored object value. -/
def objSub (key : Nat) : Nat := key / 64 / 4194304 % 256

/-- Objects that MRAM keeps without a commit (R364, Persist = M in chapter 15): RollbackFloor, BootCount, SessionKeys, the
model's frequency and drift, PtpAuthKeys, NtsKeys, PairKey, LibraryIndex, CascadeKey, LifeRecord. -/
def keptInMram (key : Nat) : Bool :=
  let i := objIndex key
  let s := objSub key
  i = 0x1101 || i = 0x2413 || i = 0x2500 || i = 0x8004 || i = 0x6000 || i = 0x8802 || i = 0x9020 ||
  (i = 0x1040 && (s = 6 || s = 7)) || (i = 0x2040 && (s = 7 || s = 8))

/-- The journal's ring after some entries became durable (R362): the newest 65,536 stand. -/
def Journal.write (j : Journal) (n : Nat) : Journal :=
  let es := j.staged.take n
  let ring := j.ring ++ es
  { j with ring := ring.drop (ring.length - 65536), staged := j.staged.drop n,
           durable := match es.getLast? with | some e => e.seq | none => j.durable }

/-- The device at the start of a reset: every volatile field at its reset value. The journal, the configuration store, the
MRAM region and the library's flash survive (R53, R364), and so do the pins. -/
def Dev.resetVolatile (d : Dev) : Dev :=
  { time := { tai := Tai.epoch, frac := 0, cycles := d.time.cycles }
    pins := { d.pins with rstOut := false }
    lib := { msgs := d.lib.msgs.map (fun r => (r.1, { r.2 with dram := none, stale := [], noRoom := false })) }
    odp := { objs := d.odp.objs.filter (fun r => keptInMram r.1), journal := d.odp.journal, store := d.odp.store }
    pwr := { scrubbed := d.time.cycles, sramScrubbed := d.time.cycles }
    jtag := d.jtag
    free := d.free
    out := d.out }

/-- Bits 3:0 of GCTL_BOOT_STATUS as the straps give them, after any conflict is resolved (R44, R50). -/
def Dev.sampleStraps (d : Dev) : Dev :=
  let conflict := decide (d.pins.bootSel = 2) && !d.pins.hostRole
  let d := { d with pins := { d.pins with strapConflict := conflict } }
  let d := d.wr F.GCTL_BOOT_STATUS_BOOT_SEL (if conflict then 0 else d.pins.bootSel)
  let d := d.wrBit F.GCTL_BOOT_STATUS_PAIR_SIDE d.pins.pairSide
  d.wrBit F.GCTL_BOOT_STATUS_HOST_ROLE d.pins.hostRole

/-- Where the journal goes on after a reset (R363): staged entries are lost; a journal that never held an entry starts at 1, one with
the flush mark continues, and any other skips the 40,960 numbers that staging could have held. -/
def Journal.recover (j : Journal) : Journal :=
  let j := { j with staged := [], lost := 0, lostRange := none, madeThisSecond := 0, rate := 0 }
  if j.durable = 0 then { j with head := 0, restart := none }
  else if j.flushMark then { j with head := j.durable, restart := none }
  else { j with head := j.durable + 40960, restart := some (j.durable + 1, j.durable + 40960) }

/-- RESET ends and BOOTSTRAP begins with the cause of the reset (R37): TRANSITION_COUNT reads 1 and PREV_MODE 0. -/
def Dev.startBootstrap (d : Dev) (cause : Nat) : Dev :=
  let d := (d.setJournal d.odp.journal.recover).sampleStraps
  let d := { d with boot := { d.boot with cause := cause }, jtag := { d.jtag with drives := false } }
  d.recordTransition .bootstrap cause 0

/-- The device enters RESET of itself (R53, R65): the staged entries and the record of the transition become durable and the flush
mark is written (R363). The record of auto-restarts survives (R59). DESIGN CHOICE (log 14). -/
def Dev.enterReset (d : Dev) (cause master : Nat) : Dev :=
  let d := d.recordTransition .reset cause master
  let j := d.odp.journal.write d.odp.journal.staged.length
  let keep := d.mode.restarts
  let d := (d.setJournal { j with flushMark := true }).resetVolatile
  { d with mode := { d.mode with restarts := keep } }

/-- An internal reset (R53): the device holds RSTOUT_N low, samples the straps and starts again from step 1. -/
def Dev.internalReset (d : Dev) (cause : Nat) (master : Nat := 0) : Dev := (d.enterReset cause master).startBootstrap cause

/-! ### Applying buffered values (R396 to R398) -/

/-- The group a block's buffered fields belong to. -/
def Dev.groupOf (d : Dev) (blk : Nat) : Nat := d.rd (F.UPD_ASSIGN_GROUP.at [blk])

/-- The key of a write that acts when its strobe applies, beside the values written: `act` numbers it within its block. -/
def actKey (blk act : Nat) : Nat := (blk * 65536 + 0xFFFF) * 32 + act

/-- The key is that of an action. -/
def isAct (key : Nat) : Bool := key / 32 % 65536 = 0xFFFF

/-- Note that a write which acts at its strobe was made. -/
def Dev.markAct (d : Dev) (blk act : Nat) (v : Nat := 1) : Dev :=
  { d with regs := { d.regs with buf := d.regs.buf.put (actKey blk act) v } }

/-- Every buffered field's value of a block, as a strobe captures it (R396): the fields ever written since reset, and the
actions of a capture that this one replaces. -/
def Dev.captureOf (d : Dev) (blk : Nat) : Tbl Nat :=
  let old := (d.regs.caps.filter (fun c => c.blk = blk)).flatMap (fun c => c.vals.filter (fun r => isAct r.1))
  (d.regs.buf.filter (fun r => r.1 / 32 / 65536 % 16 = blk)).foldl (fun t r => t.put r.1 r.2) old

/-- Strobe groups (R396): each block of a strobed group captures anew, replacing a capture that still waits. -/
def Dev.strobe (d : Dev) (mask : Nat) : Dev :=
  let blks := (List.range 16).filter (fun b => bitAt mask (d.groupOf b))
  let kept := d.regs.caps.filter (fun c => !(blks.contains c.blk))
  let new := blks.map (fun b => (⟨b, d.groupOf b, d.captureOf b⟩ : Capture))
  let buf := d.regs.buf.filter (fun r => !(isAct r.1 && blks.contains (r.1 / 32 / 65536 % 16)))
  { d with regs := { d.regs with caps := kept ++ new, buf := buf } }

/-- A capture holds an action. -/
def hasAct (vals : Tbl Nat) (blk act : Nat) : Bool := (vals.find? (actKey blk act)).isSome

/-- Forget a field as held. -/
def Dev.unhold (d : Dev) (k : Nat) : Dev :=
  { d with regs := { d.regs with held := d.regs.held.filter (fun h => h.1 ≠ k) } }

/-- Hold a stopped-only field (R398): it stays buffered until a strobe finds its unit stopped. -/
def Dev.hold (d : Dev) (k group : Nat) : Dev :=
  let d := d.unhold k
  { d with regs := { d.regs with held := d.regs.held ++ [(k, group)] } }

/-- The value a captured field would take: its captured value, or the running one. -/
def Dev.proposed (d : Dev) (vals : Tbl Nat) (f : Fld) : Nat := vals.get (d.rd f) f.key

/-- Apply captured values (R397, R398). `running` is judged on the state before any of them applies. Answers the device and
whether any value was held. -/
def Dev.applyVals (d0 : Dev) (running : Fld → Bool) (group : Nat) (vals : Tbl Nat) : Dev × Bool :=
  vals.foldl (fun acc r =>
    match fieldOf r.1 with
    | none => acc
    | some f =>
      if r.2 = d0.rd f then (acc.1.unhold r.1, acc.2)
      else if f.so && running f then (acc.1.hold r.1 group, true)
      else ((acc.1.unhold r.1).wr f r.2, acc.2)) (d0, false)

/-- Drop captured values. -/
def dropVals (vals : Tbl Nat) (p : Fld → Bool) : Tbl Nat :=
  vals.filter (fun r => match fieldOf r.1 with | some f => !(p f) | none => false)

/-- The later status stands only where the earlier is OK. -/
def Status.orElse (a b : Status) : Status := if a = .ok then b else a

end Sys2Proof.Machine
end

