-- ==== Sys2Proof/Machine/Clock.lean ====
section
/-! DEFINITION. Machine/Clock.lean: the root clock and its backup, the output synthesizers, the delay-locked lines and the
media-clock synthesizers (R60 to R78). -/

namespace Sys2Proof.Machine

/-! ### Frequencies and periods -/

/-- A synthesizer's settings: N, NUM, DEN, ALIGN_SEC. -/
structure SynthCfg where
  n : Nat
  num : Nat
  den : Nat
  align : Nat
  deriving DecidableEq, Repr

/-- The settings in force. -/
def Dev.synth (d : Dev) (s : Nat) : SynthCfg :=
  ⟨d.rd (F.CLK_SYN_INT_N.at [s]), d.rd (F.CLK_SYN_NUM_NUM.at [s]), d.rd (F.CLK_SYN_DEN_DEN.at [s]),
    d.rd (F.CLK_SYN_INT_ALIGN_SEC.at [s])⟩


/-- A divider gives an integer number of periods in ALIGN_SEC seconds (R66). -/
def SynthCfg.fits (c : SynthCfg) (div : Nat) : Bool :=
  decide (c.den * div ∣ 100000000 * (c.n * c.den + c.num) * c.align)

/-- A valid synthesizer configuration for the dividers of its outputs (R66). DESIGN CHOICE (log 36). -/
def SynthCfg.valid (c : SynthCfg) (divs : List Nat) : Bool :=
  decide (24 ≤ c.n ∧ c.n ≤ 32 ∧ 1 ≤ c.den ∧ c.num < c.den ∧ 1 ≤ c.align) &&
  decide (24 * c.den ≤ c.n * c.den + c.num ∧ c.n * c.den + c.num ≤ 32 * c.den) &&
  divs.all (fun v => decide (2 ≤ v) && c.fits v)

/-- The nominal period of an output with divider `div`, as a fraction in units of 1/16 ns (R66 at s = 0). -/
def SynthCfg.period16 (c : SynthCfg) (div : Nat) : Nat × Nat := (160 * div * c.den, c.n * c.den + c.num)

/-- An output's nominal period as a fraction, in units of 1/16 ns. -/
def Dev.period16 (d : Dev) (n : Nat) : Nat × Nat :=
  (d.synth (d.rd (F.CLK_OUT_CFG_SRC.at [n]))).period16 (d.rd (F.CLK_OUT_DIV_DIV.at [n]))

/-- One hertz in the unit of the frequencies below: 2⁻¹⁶ ppt of a hertz. -/
def hertz : Nat := 65536 * 10 ^ 12

/-- An output's frequency (R66), as a fraction in units of 2⁻¹⁶ ppt of a hertz: the steering word counts in full. -/
def Dev.outHertz (d : Dev) (n : Nat) : Int × Nat :=
  let c := d.synth (d.rd (F.CLK_OUT_CFG_SRC.at [n]))
  (10 ^ 8 * (c.n * c.den + c.num : Nat) * ((hertz : Int) + d.ref.word), c.den * d.rd (F.CLK_OUT_DIV_DIV.at [n]))

/-! ### The phase grid (R67) -/

/-- The last whole multiple of `sec` seconds after the epoch at or before an instant, and the first at or after it, in
sub-nanoseconds. -/
def alignFloor (sec : Nat) (t : Tai) : Nat := t.toSub / (sec * subPerSec) * (sec * subPerSec)
/-- See `alignFloor`. -/
def alignCeil (sec : Nat) (t : Tai) : Nat := ceilDiv t.toSub (sec * subPerSec) * (sec * subPerSec)

/-- The number of an output's last grid edge at or before an instant (R67): edges lie at PHASE_OFFSET + k × P from an alignment
instant, and the epoch is one. -/
def Dev.edgeAt (d : Dev) (n : Nat) (t : Tai) : Int :=
  let p := d.period16 n
  ((t.toSub : Int) - 4096 * d.rdS (F.CLK_OUT_PHASE_PHASE_OFFSET.at [n])) * p.2 / (4096 * p.1 : Nat)

/-- A grid edge of the output lies between two instants, the first included and the second too. -/
def Dev.edgeIn (d : Dev) (n : Nat) (since till : Tai) : Bool :=
  since.le till && decide (d.edgeAt n (since.addSub (-1)) < d.edgeAt n till)

/-- The outputs that take their clock from a synthesizer: those enabled on it. -/
def Dev.outputsOf (d : Dev) (s : Nat) : List Nat :=
  (List.range 8).filter (fun n => d.on (F.CLK_OUT_CFG_EN.at [n]) && d.rd (F.CLK_OUT_CFG_SRC.at [n]) = s)

/-! ### Interrupts of the block -/

/-- Set a sticky root bit beside the interrupt that posts the event. -/
def Dev.rootEvent (d : Dev) (irq sticky : Fld) : Dev := (d.wr sticky 1).irq irq

/-! ### The root and its backup -/

/-- Every term of the error bound saturates (R64): ErrorBoundNow, ErrorBoundTerms and ReferenceBoundTerms. -/
def Dev.saturateBound (d : Dev) : Dev :=
  let d := if d.rd F.TIM_BOUND_NOW_BOUND = boundSat then d
    else (d.wr F.TIM_BOUND_NOW_BOUND boundSat).irq F.TIM_IRQ_STATUS_BOUND_SAT_CHANGE
  let d := d.wr F.TIM_TERM_ASYM_ASYM boundSat
  let d := d.wr F.TIM_TERM_QUANT_QUANT boundSat
  (List.range 5).foldl (fun d i => d.wr (F.REF_TERM_TERM.at [i]) boundSat) d

/-- A synthesizer loses lock (R70): LOCKED and ALIGNED fall, its outputs are gated at their next falling edge, the loss is
counted; within 1 ms of a restart AUTO_RESTART no longer applies until the next strobe. -/
def Dev.synthUnlock (d : Dev) (s : Nat) : Dev :=
  if d.on (F.CLK_SYN_STATUS_LOCKED.at [s]) then
    let soon := match d.clk.restarted.find? s with
      | some c => !d.past c 1
      | none => false
    let d := if soon then { d with clk := { d.clk with barred := d.clk.barred.put s true } } else d
    let d := d.wr (F.CLK_SYN_STATUS_LOCKED.at [s]) 0
    let d := d.wr (F.CLK_SYN_STATUS_ALIGNED.at [s]) 0
    let d := d.count (F.CLK_SYN_STATUS_UNLOCK_COUNT.at [s])
    let d := (d.outputsOf s).foldl (fun d n =>
      let d := d.wr (F.CLK_OUT_STATUS_RUNNING.at [n]) 0
      let d := d.wr (F.CLK_OUT_STATUS_GATED.at [n]) 1
      let d := { d with clk := { d.clk with waiting := d.clk.waiting.del n } }
      d.irq { F.CLK_IRQ_STATUS_OUT_GATED0 with lo := 8 + n } n) d
    d.irq { F.CLK_IRQ_STATUS_SYN_UNLOCK0 with lo := 4 + s } s
  else d

/-- The root has lost lock (R62, R64): the domains run on the backup, every synthesizer is gated, the DRAM goes into
self-refresh, the bound saturates, and SAFE_HOLD follows with cause 0x06; in SAFE_HOLD a cause that had cleared is there again. With
the backup at fault the device holds itself in internal reset (R65). XO_IN is watched whether or not the root is locked (R77). -/
def Dev.rootLost (d : Dev) (xoLost : Bool) : Dev :=
  let d := if d.alive && xoLost && d.on F.CLK_ROOT_STATUS_XO_PRESENT then
      (d.wr F.CLK_ROOT_STATUS_XO_PRESENT 0).rootEvent F.CLK_IRQ_STATUS_XO_LOST F.CLK_ROOT_STICKY_XO_LOST_SEEN
    else d
  if !d.alive || !d.on F.CLK_ROOT_STATUS_ROOT_LOCKED then d
  else
    let d := d.wr F.CLK_ROOT_STATUS_ROOT_LOCKED 0
    let d := d.rootEvent F.CLK_IRQ_STATUS_ROOT_UNLOCK F.CLK_ROOT_STICKY_ROOT_UNLOCK_SEEN
    if d.on F.CLK_ROOT_STATUS_BACKUP_FAULT then
      let d := d.enterReset 0x06 0
      { d with clk := { d.clk with heldInReset := true } }
    else
      let d := d.wr F.CLK_ROOT_STATUS_ON_BACKUP 1
      let d := d.rootEvent F.CLK_IRQ_STATUS_BACKUP_SWITCH F.CLK_ROOT_STICKY_BACKUP_SWITCH_SEEN
      let d := (List.range 4).foldl Dev.synthUnlock d
      let d := { d with clk := { d.clk with rootLost := true }, boot := { d.boot with onBackup := true, dram := false } }
      (d.saturateBound.unclearCause 0x06).safeHoldCause 0x06

/-- ROOT_LOCK_LOST (R64). -/
def execRootLockLost (xoLost : Bool) (s : State) : Host.Outcome State Fault Refusal := s.actTime (·.rootLost xoLost)

/-- ROOT_RELOCK (R65): cause 0x06 clears in SAFE_HOLD; a device held in internal reset runs R45 from step 1. Only the internal
reset that leaves SAFE_HOLD returns the domains to the root. DESIGN CHOICE (log 23). -/
def execRootRelock (s : State) : Host.Outcome State Fault Refusal :=
  s.act fun d =>
    if !d.pins.supplies then d
    else if d.clk.heldInReset then
      let d := { d with clk := { d.clk with heldInReset := false } }
      d.startBootstrap 0x06
    else if !d.alive || d.on F.CLK_ROOT_STATUS_ROOT_LOCKED then d
    else
      let d := (d.wr F.CLK_ROOT_STATUS_ROOT_LOCKED 1).wr F.CLK_ROOT_STATUS_XO_PRESENT 1
      d.clearCause 0x06

/-- BACKUP_TRIM (R63): the offset measured before the trim is reported; a backup that cannot be brought within ±200 ppm sets
BACKUP_FAULT. DESIGN CHOICE (log 40). -/
def execBackupTrim (offset : Int) (trimmed : Bool) (s : State) : Host.Outcome State Fault Refusal :=
  s.act fun d =>
    if !d.alive || !d.on F.CLK_ROOT_STATUS_ROOT_LOCKED then d
    else
      let d := d.wrS F.CLK_ROOT_STATUS_BACKUP_OFFSET offset
      if trimmed then d.wr F.CLK_ROOT_STATUS_BACKUP_FAULT 0
      else if d.on F.CLK_ROOT_STATUS_BACKUP_FAULT then d
      else
        (d.wr F.CLK_ROOT_STATUS_BACKUP_FAULT 1).rootEvent F.CLK_IRQ_STATUS_BACKUP_FAULT
          F.CLK_ROOT_STICKY_BACKUP_FAULT_SEEN

/-! ### Output synthesizers -/

/-- SYNTH_LOCK_LOST (R70). -/
def execSynthLockLost (synth : Fin 4) (s : State) : Host.Outcome State Fault Refusal :=
  s.act fun d => if d.alive then d.synthUnlock synth else d

/-- SYNTH_RELOCK (R67, R70): the synthesizer locks and holds its outputs low until its alignment instant. -/
def execSynthRelock (synth : Fin 4) (s : State) : Host.Outcome State Fault Refusal :=
  s.act fun d =>
    if !d.alive || d.on F.CLK_ROOT_STATUS_ON_BACKUP || d.on (F.CLK_SYN_STATUS_LOCKED.at [synth]) then d
    else { d.wr (F.CLK_SYN_STATUS_LOCKED.at [synth]) 1 with clk := { d.clk with locked := d.clk.locked.put synth d.time.tai } }

/-- An output waits to start on its grid, from an instant on (R69). -/
def Dev.awaitStart (d : Dev) (n : Nat) (from_ : Tai) : Dev := { d with clk := { d.clk with waiting := d.clk.waiting.put n from_ } }

/-- A synthesizer has reached an alignment instant since it locked (R67): a whole multiple of ALIGN_SEC seconds. -/
def Dev.alignDue (d : Dev) (s : Nat) : Bool :=
  match d.clk.locked.find? s with
  | some t => decide (alignCeil (d.synth s).align t ≤ d.time.tai.toSub)
  | none => false

/-- The outputs of a synthesizer that its loss gated wait for their grid. -/
def Dev.restartGated (d : Dev) (s : Nat) : Dev :=
  (d.outputsOf s).foldl (fun d n => if d.on (F.CLK_OUT_STATUS_GATED.at [n]) then d.awaitStart n d.time.tai else d) d

/-- SYNTH_ALIGNED (R67, R70): the first alignment instant after the lock is reached; outputs that wait to start may not start before
it, and gated ones wait for their grid where AUTO_RESTART is 1 and the synthesizer is not barred. -/
def execSynthAligned (synth : Fin 4) (s : State) : Host.Outcome State Fault Refusal :=
  s.act fun d =>
    if !d.alive || !d.on (F.CLK_SYN_STATUS_LOCKED.at [synth]) || !d.alignDue synth then d
    else
      let d := d.wr (F.CLK_SYN_STATUS_ALIGNED.at [synth]) 1
      let d := (d.outputsOf synth).foldl (fun d n => match d.clk.waiting.find? n with
        | some t => if t.le d.time.tai then d.awaitStart n d.time.tai else d
        | none => d) d
      if d.on (F.CLK_SYN_INT_AUTO_RESTART.at [synth]) && !(d.clk.barred.get false synth) then d.restartGated synth else d

/-- The DLLs whose set an output is in: OUT_SEL is always included (R73, R77). -/
def Dev.dllsOf (d : Dev) (n : Nat) : List Nat :=
  (List.range 2).filter (fun k => d.on (F.CLK_DLL_CFG_EN.at [k]) &&
    (bitAt (d.rd (F.CLK_DLL_CFG_SET.at [k])) n || d.rd (F.CLK_DLL_CFG_OUT_SEL.at [k]) = n))

/-- An output that waits has come to a rising edge of its grid (R69): the first from the instant since when it may start. -/
def Dev.startDue (d : Dev) (n : Nat) : Bool :=
  match d.clk.waiting.find? n with
  | some t => d.edgeIn n t d.time.tai
  | none => false

/-- The modes in which the outputs run (R54): service and standby. In every other mode their pins are driven low or left open. DEDUCED
(log 188). -/
def Dev.outService (d : Dev) : Bool := d.serving || d.standby

/-- What the entry to service and its end do to the outputs (R48, R54): the enabled ones wait for their grid, and stop when it ends.
DEDUCED (log 188). -/
def Dev.clkService (d : Dev) (before : Bool) : Dev :=
  if before == d.outService then d
  else (List.range 8).foldl (fun d n =>
    if d.outService then (if d.on (F.CLK_OUT_CFG_EN.at [n]) then d.awaitStart n d.time.tai else d)
    else
      let d := d.wr (F.CLK_OUT_STATUS_RUNNING.at [n]) 0
      { d with clk := { d.clk with waiting := d.clk.waiting.del n, moves := d.clk.moves.del n } }) d

/-- CLKOUT_START (R69): an enabled output that waits starts on its grid, with its synthesizer aligned and, under WAIT_DLL, the
DLL of its set locked. -/
def execClkoutStart (output : Fin 8) (s : State) : Host.Outcome State Fault Refusal :=
  s.act fun d =>
    let src := d.rd (F.CLK_OUT_CFG_SRC.at [output])
    let dllOk := !d.on (F.CLK_OUT_CFG_WAIT_DLL.at [output]) ||
      (d.dllsOf output).all (fun k => d.on (F.CLK_DLL_STATUS_LOCKED.at [k]))
    if d.alive && d.outService && d.startDue output && d.on (F.CLK_OUT_CFG_EN.at [output]) &&
        d.on (F.CLK_SYN_STATUS_ALIGNED.at [src]) && dllOk then
      let d := d.wr (F.CLK_OUT_STATUS_RUNNING.at [output]) 1
      let d := if d.on (F.CLK_OUT_STATUS_GATED.at [output]) then
          { d with clk := { d.clk with restarted := d.clk.restarted.put src d.time.cycles } } else d
      let d := d.wr (F.CLK_OUT_STATUS_GATED.at [output]) 0
      { d with clk := { d.clk with waiting := d.clk.waiting.del output } }
    else d

/-- The field belongs to a register of an output, `n` being its number. -/
def isOutField (n : Nat) (f : Fld) : Bool := f.blk = 1 && 0x200 ≤ f.off && f.off < 0x280 && (f.off - 0x200) / 16 = n

/-- The synthesizers that the pending values concern. -/
def Dev.pendSynths (d : Dev) : List Nat :=
  ((List.range 8).filter (fun n => d.clk.pend.any (fun r => match fieldOf r.1 with | some f => isOutField n f | none => false))).map
    (fun n => d.rd (F.CLK_OUT_CFG_SRC.at [n]))

/-- The instant at which pending values switch (R71): the first from 100 µs after the apply point on that is a whole multiple of
ALIGN_SEC of every synthesizer concerned. -/
def Dev.switchAt (d : Dev) : Nat :=
  alignCeil (d.pendSynths.foldl (fun a s => Nat.lcm a (d.synth s).align) 1) d.clk.pendFrom

/-- DIVIDER_SWITCH (R71): every pending DIV and PHASE_OFFSET takes effect together, at their instant. -/
def execDividerSwitch (s : State) : Host.Outcome State Fault Refusal :=
  s.act fun d =>
    if !d.alive || d.time.tai.toSub < d.switchAt then d
    else
      let d := d.clk.pend.foldl (fun d r => match fieldOf r.1 with | some f => d.wr f r.2 | none => d) d
      let d := (List.range 8).foldl (fun d n => d.wr (F.CLK_OUT_STATUS_PENDING_DIV.at [n]) 0) d
      { d with clk := { d.clk with pend := [] } }

/-! ### Phase steps of outputs (R72) -/

/-- A phase move reduced modulo the period into (−P/2, +P/2], in units of 1/16 ns: −Δ, with Δ in sub-nanoseconds. -/
def moveSize (delta : Int) (pnum pden : Nat) : Int :=
  let full : Int := 4096 * pnum
  let m := (-delta * pden) % full
  let m := if full < 2 * m then m - full else m
  Config.openDiv 1 m (4096 * pden)

/-- How many periods a move takes: each period changes by at most P/16. -/
def Move.periods (m : Move) : Nat := ceilDiv (m.size.natAbs * m.pden * 16) m.pnum

/-- The periods of a move that have passed: a period is pnum / pden / 16 ns, and a cycle 2.5 ns. -/
def Move.done (m : Move) (cycles : Nat) : Nat := (cycles - m.start) * 40 * m.pden / m.pnum

/-- What remains of a move. -/
def Move.rest (m : Move) (cycles : Nat) : Int :=
  let gone := m.done cycles * m.pnum / (16 * m.pden)
  if m.size.natAbs ≤ gone then 0 else if 0 ≤ m.size then m.size - gone else m.size + gone

/-- STEP_ACTIVE of an output (R72). -/
def Dev.stepActive (d : Dev) (n : Nat) : Bool :=
  match d.clk.moves.find? n with
  | some m => decide (m.done d.time.cycles < m.periods)
  | none => false

/-- A clock of period `p` begins to move to its grid after a phase step; what remains of an earlier move is added. -/
def Dev.startMove (d : Dev) (n : Nat) (p : Nat × Nat) (delta : Int) : Dev :=
  let before := match d.clk.moves.find? n with | some m => m.rest d.time.cycles | none => 0
  let m : Move := ⟨moveSize delta p.1 p.2 + before, p.1, p.2, d.time.cycles⟩
  { d with clk := { d.clk with moves := d.clk.moves.put n m } }

/-- A media clock's RATIO (R75). -/
def mclkRatio (code : Nat) : Nat := [128, 256, 384, 512, 768, 1024].getD code 0

/-- A media clock's rate fs. -/
def Dev.mclkFs (d : Dev) (g : Nat) : Nat := if d.on (F.CLK_MCLK_CFG_RATE.at [g]) then 96000 else 48000

/-- A media clock's nominal period as a fraction, in units of 1/16 ns. -/
def Dev.mclkPeriod16 (d : Dev) (g : Nat) : Nat × Nat := (16000000000, mclkRatio (d.rd (F.CLK_MCLK_CFG_RATIO.at [g])) * d.mclkFs g)

/-- A group runs locked to the frame grid: it is not buffer-steered (R76). -/
def Dev.groupLocked (d : Dev) (g : Nat) : Bool := !d.on (F.APT_GRP_CFG_STEERED.at [g])

/-- Each running output moves to its grid after a phase step of `delta` sub-nanoseconds (R72), and each media clock in locked operation
follows the frame grid at the same rate of 1/16 of a period (R76). DESIGN CHOICE (log 183). -/
def Dev.stepOutputs (d : Dev) (delta : Int) : Dev :=
  let d := (List.range 8).foldl (fun d n =>
    if d.on (F.CLK_OUT_STATUS_RUNNING.at [n]) then d.startMove n (d.period16 n) delta else d) d
  (List.range 8).foldl (fun d g =>
    if d.on (F.CLK_MCLK_STATUS_LOCKED.at [g]) && d.groupLocked g then d.startMove (8 + g) (d.mclkPeriod16 g) delta else d) d

/-! ### Delay-locked lines (R73, R74) -/

/-- The delay that brings the returned edge onto the grid, in steps of 1/64 ns: P minus the loop delay, reduced modulo P. DESIGN CHOICE (log 39). -/
def Dev.dllNeed (d : Dev) (k loop : Nat) : Nat :=
  let p := d.period16 (d.rd (F.CLK_DLL_CFG_OUT_SEL.at [k]))
  let num : Int := (-(loop * p.2 : Nat) : Int) % (4 * p.1 : Nat)
  (Config.openDiv 2 num p.2).toNat

/-- Set a DLL's fault bit and its interrupt. -/
def Dev.dllFault (d : Dev) (k : Nat) (f : Fld) : Dev :=
  if d.on (f.at [k]) then d else (d.wr (f.at [k]) 1).irq { F.CLK_IRQ_STATUS_DLL_FAULT0 with lo := 16 + k } k

/-- The measured output's nominal frequency lies within the 1 MHz to 200 MHz that a line requires (R73): a period of 5 to 1000 ns. -/
def Dev.dllMeasures (d : Dev) (k : Nat) : Bool :=
  let p := d.period16 (d.rd (F.CLK_DLL_CFG_OUT_SEL.at [k]))
  decide (80 * p.2 ≤ p.1 ∧ p.1 ≤ 16000 * p.2)

/-- DLL_LOCK (R73): the binary search ends on the needed delay, or at the end of the line with RANGE_ERR. Without feedback, or with an
output outside the line's range of frequencies, there is no acquisition. DESIGN CHOICE (log 38). -/
def execDllLock (dll : Fin 2) (loopDelay : BitVec 16) (s : State) : Host.Outcome State Fault Refusal :=
  s.act fun d =>
    if !d.alive || !d.on (F.CLK_DLL_CFG_EN.at [dll]) || d.on (F.CLK_DLL_STATUS_FB_LOST.at [dll]) || !d.dllMeasures dll then d
    else
      let need := d.dllNeed dll loopDelay.toNat
      let d := d.wr (F.CLK_DLL_LOOP_LOOP_DELAY.at [dll]) loopDelay.toNat
      if 1536 < need then
        (d.wr (F.CLK_DLL_STATUS_DELAY.at [dll]) 1536).dllFault dll F.CLK_DLL_STATUS_RANGE_ERR
      else
        let d := d.wr (F.CLK_DLL_STATUS_DELAY.at [dll]) need
        (d.wr (F.CLK_DLL_STATUS_RANGE_ERR.at [dll]) 0).wr (F.CLK_DLL_STATUS_LOCKED.at [dll]) 1

/-- DLL_TRACK (R73, R74): a locked line moves by at most one step in 1 ms toward the needed delay, or toward its end where that lies
beyond (RANGE_ERR), and reports the loop delay. -/
def execDllTrack (dll : Fin 2) (loopDelay : BitVec 16) (s : State) : Host.Outcome State Fault Refusal :=
  s.act fun d =>
    if !d.alive || !d.on (F.CLK_DLL_CFG_EN.at [dll]) || !d.on (F.CLK_DLL_STATUS_LOCKED.at [dll]) ||
        d.on (F.CLK_DLL_STATUS_FB_LOST.at [dll]) then d
    else
      let need := d.dllNeed dll loopDelay.toNat
      let have_ := d.rd (F.CLK_DLL_STATUS_DELAY.at [dll])
      let d := d.wr (F.CLK_DLL_LOOP_LOOP_DELAY.at [dll]) loopDelay.toNat
      let goal := min need 1536
      let may : Bool := match d.clk.tracked.find? dll with | some c => d.past c 1 | none => true
      let next := if !may then have_ else if have_ < goal then have_ + 1 else if goal < have_ then have_ - 1 else have_
      let d := d.wr (F.CLK_DLL_STATUS_DELAY.at [dll]) next
      let d := if next = have_ then d else { d with clk := { d.clk with tracked := d.clk.tracked.put dll d.time.cycles } }
      if 1536 < need then d.dllFault dll F.CLK_DLL_STATUS_RANGE_ERR else d.wr (F.CLK_DLL_STATUS_RANGE_ERR.at [dll]) 0

/-- DLL_FB_LOST (R73): the line holds its last delay. DESIGN CHOICE (log 38). -/
def execDllFbLost (dll : Fin 2) (s : State) : Host.Outcome State Fault Refusal :=
  s.act fun d =>
    if !d.alive || !d.on (F.CLK_DLL_CFG_EN.at [dll]) then d else d.dllFault dll F.CLK_DLL_STATUS_FB_LOST

/-- DLL_FB_RESTORED (R73): after 16 good periods tracking resumes. -/
def execDllFbRestored (dll : Fin 2) (s : State) : Host.Outcome State Fault Refusal :=
  s.act fun d =>
    if !d.alive || !d.on (F.CLK_DLL_CFG_EN.at [dll]) then d else d.wr (F.CLK_DLL_STATUS_FB_LOST.at [dll]) 0

/-! ### Media-clock synthesizers (R75, R76) -/

/-- The trim that a media-clock synthesizer uses (R75): TRIM kept within ±50 ppm; none in locked operation (R76). -/
def Dev.mclkTrim (d : Dev) (g : Nat) : Int :=
  if d.groupLocked g then 0 else clampInt (-50000000) 50000000 (d.rdS (F.CLK_MCLK_TRIM_TRIM.at [g]))

/-- A media clock's frequency (R75), in units of 2⁻¹⁶ ppt of a hertz: RATIO × fs × (1 + s + t). -/
def Dev.mclkHertz (d : Dev) (g : Nat) : Int :=
  ((mclkRatio (d.rd (F.CLK_MCLK_CFG_RATIO.at [g])) * d.mclkFs g : Nat) : Int) * ((hertz : Int) + d.ref.word + 65536 * d.mclkTrim g)

/-- ALIGNED follows the group's operation (R76): 0 while it is buffer-steered, and with LOCKED while it is locked to the grid. -/
def Dev.mclkAlign (d : Dev) (g : Nat) : Dev :=
  d.wrBit (F.CLK_MCLK_STATUS_ALIGNED.at [g]) (d.on (F.CLK_MCLK_STATUS_LOCKED.at [g]) && d.groupLocked g)

/-- MCLK_LOCK_LOST (R77). -/
def execMclkLockLost (group : Fin 8) (s : State) : Host.Outcome State Fault Refusal :=
  s.act fun d =>
    if !d.alive || !d.on (F.CLK_MCLK_STATUS_LOCKED.at [group]) then d
    else
      let d := (d.wr (F.CLK_MCLK_STATUS_LOCKED.at [group]) 0).wr (F.CLK_MCLK_STATUS_ALIGNED.at [group]) 0
      d.irq { F.CLK_IRQ_STATUS_MCLK_UNLOCK0 with lo := 18 + group } group

/-- A group's media-clock synthesizer runs: its output is enabled, or an AES3 port of the group is started (R234). -/
def Dev.mclkRuns (d : Dev) (g : Nat) : Bool :=
  d.on (F.CLK_MCLK_CFG_EN.at [g]) ||
    [2 * g, 2 * g + 1].any (fun p => d.rd (F.APT_CFG_MODE.at [p]) = 3 && d.on (F.APT_CFG_EN.at [p]))

/-- MCLK_SYNTH_LOCK (R76): LOCKED of a running synthesizer is set, and ALIGNED in locked operation. -/
def execMclkSynthLock (group : Fin 8) (s : State) : Host.Outcome State Fault Refusal :=
  s.act fun d =>
    if !d.alive || !d.mclkRuns group then d
    else
      (d.wr (F.CLK_MCLK_STATUS_LOCKED.at [group]) 1).mclkAlign group

/-- A trim written by software, which reads back as written, or by the steering loop, kept within ±50 ppm; a clamped loop value sets
TRIM_CLAMPED (R75, R76). -/
def Dev.setTrim (d : Dev) (g : Nat) (ppt : Int) (byLoop : Bool) : Dev :=
  let c := clampInt (-50000000) 50000000 ppt
  if byLoop then
    let since : Tbl Nat := if c = ppt then d.clk.clamped.del g
      else if (d.clk.clamped.find? g).isSome then d.clk.clamped else d.clk.clamped.put g d.time.cycles
    (({ d with clk := { d.clk with clamped := since } }).wrS (F.CLK_MCLK_TRIM_TRIM.at [g]) c).wrBit
      (F.CLK_MCLK_STATUS_TRIM_CLAMPED.at [g]) (c != ppt)
  else d.wrS (F.CLK_MCLK_TRIM_TRIM.at [g]) ppt

/-! ### The block's apply point (R397) -/

/-- The field is one of a synthesizer's stopped-only fields. -/
def isSynthField (s : Nat) (f : Fld) : Bool :=
  f.blk = 1 && f.so && 0x100 ≤ f.off && f.off < 0x180 && (f.off - 0x100) / 32 = s

/-- The field is DIV or PHASE_OFFSET of an output. -/
def isSwitchField (f : Fld) : Bool := f.blk = 1 && 0x200 ≤ f.off && f.off < 0x280 && (f.off % 16 = 4 || f.off % 16 = 8)

/-- A port's state is STOPPED (R225: STATE 0). -/
def Dev.portStopped (d : Dev) (p : Nat) : Bool := d.rd (F.APT_STATUS_STATE.at [p]) = 0

/-- Whether the unit a stopped-only CLK field belongs to runs: an enabled output on the synthesizer (R68), an enabled media
clock or a running port of its group (R75). -/
def Dev.clkRunning (d : Dev) (f : Fld) : Bool :=
  if f.off < 0x180 then !(d.outputsOf ((f.off - 0x100) / 32)).isEmpty
  else
    let g := (f.off - 0x400) / 16
    d.on (F.CLK_MCLK_CFG_EN.at [g]) || !d.portStopped (2 * g) || !d.portStopped (2 * g + 1)

/-- A media-clock rate and ratio the device refuses (R75): RATIO 6 and 7, and 768 or 1024 at 96 kHz. -/
def badRatio (rate ratio : Nat) : Bool := 6 ≤ ratio || (rate = 1 && 4 ≤ ratio)

/-- The settings of a synthesizer that a strobe would leave in force: a running one keeps its own (R68, R398). -/
def Dev.synthIn (d : Dev) (vals : Tbl Nat) (s : Nat) : SynthCfg :=
  if !(d.outputsOf s).isEmpty then d.synth s
  else ⟨d.proposed vals (F.CLK_SYN_INT_N.at [s]), d.proposed vals (F.CLK_SYN_NUM_NUM.at [s]),
    d.proposed vals (F.CLK_SYN_DEN_DEN.at [s]), d.proposed vals (F.CLK_SYN_INT_ALIGN_SEC.at [s])⟩

/-- Whether a strobe's values make a synthesizer invalid with the outputs it would carry (R66). DESIGN CHOICE (log 36). -/
def Dev.synthBad (d : Dev) (vals : Tbl Nat) (s : Nat) : Bool :=
  let outs := (List.range 8).filter (fun n =>
    d.proposed vals (F.CLK_OUT_CFG_EN.at [n]) = 1 && d.proposed vals (F.CLK_OUT_CFG_SRC.at [n]) = s)
  !((d.synthIn vals s).valid (outs.map (fun n => d.proposed vals (F.CLK_OUT_DIV_DIV.at [n]))))

/-- A field's value lies outside its own range (R66, R75, R77): N, NUM's and DEN's field, ALIGN_SEC, DIV, RATIO. -/
def clkBad (f : Fld) (v : Nat) : Bool :=
  if f.off < 0x100 then false
  else if f.off < 0x180 then
    (f.off % 0x20 = 0 && (f.lo = 0 && decide (v < 24 ∨ 32 < v) || f.lo = 24 && v = 0)) || (f.off % 0x20 = 8 && v = 0)
  else if f.off < 0x280 then f.off % 0x10 = 4 && decide (v < 2)
  else 0x400 ≤ f.off && f.off < 0x480 && f.off % 0x10 = 0 && f.lo = 24 && decide (6 ≤ v)

/-- PHASE_OFFSET within ±P/2 (R77) of the period that a synthesizer and a divider give. -/
def phaseFits (c : SynthCfg) (div phase : Nat) : Bool :=
  let p := c.period16 div
  decide ((sgn 32 phase).natAbs * 2 * p.2 ≤ p.1)

/-- One synthesizer's part of the check: an invalid configuration sets CFG_ERR, and neither its settings nor what its outputs would
take are applied (R66). Values that its running leaves unapplied anyway are not judged (R68). -/
def Dev.synthCheck (d : Dev) (acc : Dev × Tbl Nat × Status) (s : Nat) : Dev × Tbl Nat × Status :=
  let idle := (d.outputsOf s).isEmpty
  let mine := fun (f : Fld) => (idle && isSynthField s f) ||
    (List.range 8).any (fun n => isOutField n f && d.proposed acc.2.1 (F.CLK_OUT_CFG_SRC.at [n]) = s)
  let touched := acc.2.1.any (fun r => match fieldOf r.1 with | some f => r.2 ≠ d.rd f && mine f | none => false)
  if touched && d.synthBad acc.2.1 s then
    (acc.1.wr (F.CLK_SYN_STATUS_CFG_ERR.at [s]) 1, dropVals acc.2.1 mine, .range)
  else (acc.1.wr (F.CLK_SYN_STATUS_CFG_ERR.at [s]) 0, acc.2.1, acc.2.2)

/-- One output's part: a DIV below 2 and a PHASE_OFFSET beyond ±P/2 are not applied (R77). DESIGN CHOICE (log 184). -/
def Dev.outCheck (d : Dev) (acc : Dev × Tbl Nat × Status) (n : Nat) : Dev × Tbl Nat × Status :=
  let div := F.CLK_OUT_DIV_DIV.at [n]
  let phase := F.CLK_OUT_PHASE_PHASE_OFFSET.at [n]
  let new := fun (f : Fld) => d.proposed acc.2.1 f ≠ d.rd f
  let drop := fun (f : Fld) (acc : Dev × Tbl Nat × Status) => (acc.1, acc.2.1.del f.key, Status.orElse acc.2.2 .range)
  let acc := if new div && clkBad div (d.proposed acc.2.1 div) then drop div acc else acc
  let c := d.synthIn acc.2.1 (d.proposed acc.2.1 (F.CLK_OUT_CFG_SRC.at [n]))
  if new phase && !phaseFits c (d.proposed acc.2.1 div) (d.proposed acc.2.1 phase) then drop phase acc else acc

/-- The sets that a strobe gives the two delay lines share an output (R73). OUT_SEL, which is always of its set (R77), counts where
both lines would be enabled; the SET masks always. DESIGN CHOICE (log 185). -/
def Dev.setsShare (d : Dev) (vals : Tbl Nat) : Bool :=
  let set := fun k => d.proposed vals (F.CLK_DLL_CFG_SET.at [k])
  let full := fun k => set k ||| 2 ^ d.proposed vals (F.CLK_DLL_CFG_OUT_SEL.at [k])
  let bothOn := d.proposed vals (F.CLK_DLL_CFG_EN.at [0]) = 1 && d.proposed vals (F.CLK_DLL_CFG_EN.at [1]) = 1
  (set 0 &&& set 1) ≠ 0 || (bothOn && (full 0 &&& full 1) ≠ 0)

/-- Drop what a strobe may not apply: synthesizers made invalid with their outputs (CFG_ERR), values out of range, an output in both
DLL sets, a refused media-clock ratio with every other field of its register. DESIGN CHOICE (log 186). -/
def Dev.clkCheck (d : Dev) (vals : Tbl Nat) : Dev × Tbl Nat × Status :=
  let r := (List.range 4).foldl d.synthCheck (d, vals, .ok)
  let r := (List.range 8).foldl d.outCheck r
  let r := if d.setsShare vals then
      (r.1, dropVals r.2.1 (fun f => 0x300 ≤ f.off && f.off < 0x320), Status.orElse r.2.2 .range) else r
  (List.range 8).foldl (fun acc g =>
    if badRatio (d.proposed vals (F.CLK_MCLK_CFG_RATE.at [g])) (d.proposed vals (F.CLK_MCLK_CFG_RATIO.at [g])) then
      (acc.1, dropVals acc.2.1 (fun f => f.off = 0x400 + 16 * g), Status.orElse acc.2.2 .range)
    else acc) r

/-- DIV and PHASE_OFFSET wait for their switch instant; a second strobe replaces what waits (R71). -/
def Dev.clkPend (d : Dev) (vals : Tbl Nat) : Dev :=
  let sw := vals.filter (fun r => match fieldOf r.1 with | some f => isSwitchField f && r.2 ≠ d.rd f | none => false)
  let d := { d with clk := { d.clk with pend := sw, pendFrom := d.time.tai.addNs 100000 } }
  (List.range 8).foldl (fun d n =>
    d.wrBit (F.CLK_OUT_STATUS_PENDING_DIV.at [n])
      (sw.any (fun r => match fieldOf r.1 with | some f => isOutField n f | none => false))) d

/-- What follows from EN changes and new synthesizer settings once applied (R69, R70, R73): a delay line that EN does not keep enabled
loses LOCKED, FB_LOST and RANGE_ERR. DESIGN CHOICE (log 37). -/
def Dev.clkStarts (old d : Dev) : Dev :=
  let d := (List.range 8).foldl (fun d n =>
    let was := old.on (F.CLK_OUT_CFG_EN.at [n])
    let is := d.on (F.CLK_OUT_CFG_EN.at [n])
    if is && !was then (if d.outService then d.awaitStart n (d.time.tai.addNs 1000) else d)
    else if was && !is then
      let d := (d.wr (F.CLK_OUT_STATUS_RUNNING.at [n]) 0).wr (F.CLK_OUT_STATUS_GATED.at [n]) 0
      { d with clk := { d.clk with waiting := d.clk.waiting.del n, moves := d.clk.moves.del n } }
    else d) d
  let d := (List.range 4).foldl (fun d s =>
    if old.synth s = d.synth s then d
    else (d.wr (F.CLK_SYN_STATUS_LOCKED.at [s]) 0).wr (F.CLK_SYN_STATUS_ALIGNED.at [s]) 0) d
  (List.range 2).foldl (fun d k =>
    if d.on (F.CLK_DLL_CFG_EN.at [k]) && old.on (F.CLK_DLL_CFG_EN.at [k]) then d
    else
      let d := (d.wr (F.CLK_DLL_STATUS_LOCKED.at [k]) 0).wr (F.CLK_DLL_STATUS_FB_LOST.at [k]) 0
      d.wr (F.CLK_DLL_STATUS_RANGE_ERR.at [k]) 0) d

/-- The CLK block reaches its apply point (R397): checks, stopped-only fields, pending dividers, then what EN changes. DESIGN CHOICE (log 37). -/
def Dev.applyClk (d : Dev) (group : Nat) (vals : Tbl Nat) : Dev × Status :=
  let c := d.clkCheck vals
  let old := c.1
  let d1 := old.clkPend c.2.1
  let d1 := { d1 with clk := { d1.clk with barred := [] } }
  let rest := dropVals c.2.1 isSwitchField
  let r := d1.applyVals d1.clkRunning group rest
  let d2 := (List.range 4).foldl (fun d s =>
    d.wrBit (F.CLK_SYN_STATUS_CFG_REFUSED.at [s])
      (d.regs.held.any (fun h => match fieldOf h.1 with | some f => isSynthField s f | none => false))) r.1
  let d3 := old.clkStarts d2
  let freed := (List.range 4).filter (fun s => d.clk.barred.get false s && d3.on (F.CLK_SYN_STATUS_ALIGNED.at [s]) &&
    d3.on (F.CLK_SYN_INT_AUTO_RESTART.at [s]))
  (freed.foldl Dev.restartGated d3, Status.orElse c.2.2 (if r.2 then .stoppedOnly else .ok))

end Sys2Proof.Machine
end

