-- ==== Sys2Proof/Machine/Reference.lean ====
section
/-! DEFINITION. Machine/Reference.lean: reference slots, ranks, qualification, selection, the loop's paths, holdover and its
model, pulse outputs (R79 to R112). The loop tick itself, which also steps and sets TAI, stands in Machine/Loop.lean. -/

namespace Sys2Proof.Machine

/-! ### Slots -/

/-- A slot's hidden state. -/
def Dev.slot (d : Dev) (n : Nat) : SlotSt := d.ref.slots.get {} n

/-- Replace a slot's hidden state. -/
def Dev.setSlot (d : Dev) (n : Nat) (x : SlotSt) : Dev := { d with ref := { d.ref with slots := d.ref.slots.put n x } }

/-- A slot's state code (R111): 0 DISABLED, 1 LOST, 2 QUALIFYING, 3 QUALIFIED, 4 WAIT_RESTORE. -/
def Dev.slotState (d : Dev) (n : Nat) : Nat := d.rd (F.REF_SLOT_STATUS_STATE.at [n])

/-- Set a slot's state. -/
def Dev.setSlotState (d : Dev) (n v : Nat) : Dev := d.wr (F.REF_SLOT_STATUS_STATE.at [n]) v

/-- A slot is QUALIFIED. -/
def Dev.qualified (d : Dev) (n : Nat) : Bool := d.slotState n = 3

/-- A slot's effective rank. -/
def Dev.slotRank (d : Dev) (n : Nat) : Nat := d.rd (F.REF_SLOT_STATUS_RANK.at [n])

/-- MEAS_FREQ in ppt. -/
def Dev.measFreq (d : Dev) (n : Nat) : Int := d.rdS (F.REF_SLOT_MEAS_FREQ_MEAS_FREQ.at [n])

/-- MEAS_PHASE in 1/16 ns. -/
def Dev.measPhase (d : Dev) (n : Nat) : Int := d.rdS (F.REF_SLOT_MEAS_PHASE_MEAS_PHASE.at [n])

/-- REFIN slot with TYPE = PPS (R79). -/
def Dev.isPps (d : Dev) (n : Nat) : Bool := decide (n < 4) && d.on (F.REF_SLOT_CFG_TYPE.at [n])

/-- Slots that feed the frequency selector (R79), the free-run slot apart. -/
def Dev.freqSlot (d : Dev) (n : Nat) : Bool :=
  (decide (n < 4) && !d.isPps n) || n = 5 || (decide (6 ≤ n) && decide (n ≤ 9)) || n = 14

/-- Slots that feed the time selector (R79, R80): a PPS slot only once TAI has been set. -/
def Dev.timeSlot (d : Dev) (n : Nat) : Bool :=
  (d.isPps n && d.on F.REF_SEL_STATUS_TIME_VALID) || n = 4 || (decide (10 ≤ n) && decide (n ≤ 14))

/-- A slot whose activity comes from pulses (R88). -/
def Dev.pulseSlot (d : Dev) (n : Nat) : Bool := d.isPps n || n = 4

/-- The length of QUAL_WIN in milliseconds. -/
def Dev.qualWinMs (d : Dev) : Nat := d.rd F.REF_QUAL_CFG_QUAL_WIN * 1000

/-- The rank the ESMC quality levels advertise (R86): the option 1 SSM code, and the enhanced code where the TLV is present. PRESUMED (log 42). -/
def esmcRank (ssm : Nat) (ext : Option Nat) : Nat :=
  match ssm, ext with
  | 0x2, some 0x21 => 16
  | 0x2, some 0x20 => 24
  | 0x2, some 0x23 => 28
  | 0xB, some 0x22 => 96
  | 0x2, _ => 32
  | 0x4, _ => 64
  | 0x8, _ => 80
  | 0xB, _ => 100
  | _, _ => 255

/-- The rank a PTP master advertises (R86). -/
def ptpRank (clockClass accuracy : Nat) : Nat :=
  if clockClass = 6 then (if accuracy ≤ 0x21 then 16 else 24)
  else if clockClass = 7 ∨ clockClass = 135 then 48
  else if [52, 58, 140, 150, 160, 165, 187, 193].contains clockClass then 120
  else if clockClass = 248 then 200
  else if clockClass = 255 then 255
  else 220

/-- The partner's selected reference can be offered (R85): the Irmon link is up, and the partner is not itself in MARIONETTE, RESYNC or
ESTRANGED. -/
def Dev.partnerOffers (d : Dev) : Bool :=
  let m := d.rd F.PAIR_PARTNER_MODE
  d.on F.PAIR_STATUS_IRMON_UP && m ≠ 5 && m ≠ 6 && m ≠ 7

/-- The rank that a slot's source advertises: the free-run slot's is fixed at 250 (R85). Slots 0 to 5 advertise none of their own: they show
RANK_OVR as the receiver's status gates it. DESIGN CHOICE (log 192). -/
def Dev.advertised (d : Dev) (n : Nat) : Nat :=
  if n < 6 then (if (d.slot n).gated then 255 else d.rd (F.REF_SLOT_CFG_RANK_OVR.at [n]))
  else if n = 14 then (if d.partnerOffers then (d.slot 14).advRank else 255)
  else if n = 15 then 250
  else (d.slot n).advRank

/-- The rank a slot shows before the delays of R87: RANK_OVR in place of the advertised one under RANK_OVR_EN, but for the free-run slot. -/
def Dev.targetRank (d : Dev) (n : Nat) : Nat :=
  if 6 ≤ n && n < 15 && d.on (F.REF_SLOT_CFG_RANK_OVR_EN.at [n]) then d.rd (F.REF_SLOT_CFG_RANK_OVR.at [n])
  else d.advertised n

/-- Take an effective rank, with its sticky bit. -/
def Dev.takeRank (d : Dev) (n r : Nat) : Dev :=
  if d.slotRank n = r then d
  else (d.wr (F.REF_SLOT_STATUS_RANK.at [n]) r).sticky (F.REF_SLOT_STICKY_RANK_CHANGE_SEEN.at [n]) n

/-- What a slot carried as a QUALIFIED one ends with that: DISAGREE, and the verdict of its group (R93). -/
def Dev.unjudge (d : Dev) (n : Nat) : Dev :=
  (d.wr (F.REF_SLOT_STATUS_DISAGREE.at [n]) 0).setSlot n { d.slot n with outlier := false, disF := false, disT := false }

/-- A slot that was not LOST becomes LOST (R90): LOS_SEEN is set, and the selectors choose anew at the next tick. -/
def Dev.toLost (d : Dev) (n : Nat) : Dev :=
  let st := d.slotState n
  if st = 2 ∨ st = 3 ∨ st = 4 then
    ((d.unjudge n).setSlotState n 1).sticky (F.REF_SLOT_STICKY_LOS_SEEN.at [n]) n
  else d

/-- A slot's activity ends (R88), and with it the slot. -/
def Dev.loseSlot (d : Dev) (n : Nat) : Dev := (d.wr (F.REF_SLOT_STATUS_ACTIVITY.at [n]) 0).toLost n

/-- A change of rank at a loop tick (R87): worse at once, better after one QUAL_WIN of showing it, 255 loses the slot. -/
def Dev.rankTick (d : Dev) (n : Nat) : Dev :=
  let x := d.slot n
  let d := d.wr (F.REF_SLOT_STATUS_ADV_RANK.at [n]) (d.advertised n)
  if d.slotState n = 0 then d
  else
    let want := d.targetRank n
    let now := d.slotRank n
    if want = now then d.setSlot n { x with better := none }
    else if now < want then
      let d := (d.setSlot n { x with better := none }).takeRank n want
      if want = 255 then d.toLost n else d
    else match x.better with
      | some (r, since) =>
        if r ≠ want then d.setSlot n { x with better := some (want, d.time.cycles) }
        else if d.past since d.qualWinMs then (d.setSlot n { x with better := none }).takeRank n want
        else d
      | none => d.setSlot n { x with better := some (want, d.time.cycles) }

/-- A slot passes its frequency monitor (R89): |MEAS_FREQ| in ppt within FREQ_LIMIT in ppb. -/
def Dev.freqPasses (d : Dev) (n : Nat) : Bool :=
  decide ((d.measFreq n).natAbs ≤ 1000 * d.rd (F.REF_SLOT_FREQ_LIMIT_FREQ_LIMIT.at [n]))

/-- Start a qualification window. -/
def Dev.startWindow (d : Dev) (n : Nat) : Dev :=
  (d.setSlotState n 2).setSlot n { d.slot n with winStart := d.time.cycles, failed := false }

/-- Leave QUALIFIED for WAIT_RESTORE, and WTR starts (R90). -/
def Dev.toWaitRestore (d : Dev) (n : Nat) : Dev :=
  let d := (d.unjudge n).setSlotState n 4
  d.setSlot n { d.slot n with wtrStart := d.time.cycles, updated := false }

/-- Act on a slot's last monitor update at the loop tick (R90). -/
def Dev.slotTick (d : Dev) (n : Nat) : Dev :=
  let x := d.slot n
  let st := d.slotState n
  let d := if st = 1 ∧ d.on (F.REF_SLOT_STATUS_ACTIVITY.at [n]) ∧ d.slotRank n < 255 then d.startWindow n else d
  if !x.fresh then d
  else
    let d := d.setSlot n { d.slot n with fresh := false, updated := true }
    if d.freqPasses n then (if x.outlier ∧ st = 3 then
        (d.toWaitRestore n).sticky (F.REF_SLOT_STICKY_OUTLIER_SEEN.at [n]) n else d)
    else
      let d := d.setSlot n { d.slot n with failed := true, lastFail := some d.time.cycles }
      if st = 2 then (d.startWindow n).sticky (F.REF_SLOT_STICKY_FREQ_FAIL_SEEN.at [n]) n
      else if st = 3 then (d.toWaitRestore n).sticky (F.REF_SLOT_STICKY_FREQ_FAIL_SEEN.at [n]) n
      else d

/-- The second consecutive pulse is missing (R88): 2.001 s have passed since the last one. A slot whose activity is no pulses' is not held to it. -/
def Dev.pulsesMissing (d : Dev) (n : Nat) : Bool :=
  match (d.slot n).pulse with
  | some t => !d.pulseSlot n || (t.addNs 2001000000).le d.time.tai
  | none => true

/-- ACTIVITY_LOSS (R88, R90). -/
def execActivityLoss (slot : Fin 16) (s : State) : Host.Outcome State Fault Refusal :=
  s.act fun d =>
    if d.booted && d.pulsesMissing slot then
      let d := d.loseSlot slot
      d.setSlot slot { d.slot slot with pulse := none }
    else d

/-- QUAL_WIN_ELAPSED (R90): the window is over with every update passed. -/
def execQualWinElapsed (slot : Fin 16) (s : State) : Host.Outcome State Fault Refusal :=
  s.act fun d =>
    let x := d.slot slot
    if d.booted && d.slotState slot = 2 && !x.failed && d.past x.winStart d.qualWinMs then
      (d.setSlotState slot 3).sticky (F.REF_SLOT_STICKY_QUALIFIED_SEEN.at [slot]) slot
    else d

/-- Every update of the last QUAL_WIN passed. -/
def Dev.passedWindow (d : Dev) (n : Nat) : Bool :=
  match (d.slot n).lastFail with
  | none => true
  | some c => d.past c d.qualWinMs

/-- WTR_ELAPSED (R90): the slot is restored, or WTR starts again; with WTR = 0, once a monitor update has come. -/
def execWtrElapsed (slot : Fin 16) (s : State) : Host.Outcome State Fault Refusal :=
  s.act fun d =>
    let x := d.slot slot
    if d.booted && d.slotState slot = 4 && d.past x.wtrStart (1000 * d.rd F.REF_QUAL_CFG_WTR) &&
        (x.updated || d.rd F.REF_QUAL_CFG_WTR ≠ 0) then
      if d.passedWindow slot then d.setSlotState slot 3
      else d.setSlot slot { x with wtrStart := d.time.cycles, updated := false }
    else d

/-! ### Measured phases (R80, R81) -/

/-- Give a slot a measured phase in 1/16 ns; the register saturates (R111). -/
def Dev.setPhase (d : Dev) (n : Nat) (p : Int) : Dev :=
  (d.wrS (F.REF_SLOT_MEAS_PHASE_MEAS_PHASE.at [n]) p).setSlot n { d.slot n with offset := p }

/-- label − (timestamp − PHASE_CORR), in 1/16 ns (R80). -/
def Dev.phaseOf (d : Dev) (n label : Nat) (stamp : Tai) : Int :=
  ((label * subPerSec : Nat) : Int) / 4096 - (stamp.toSub / 4096 : Nat) + d.rdS (F.REF_SLOT_PHASE_CORR_PHASE_CORR.at [n])

/-- The UTC offset in force (R114), in seconds. -/
def Dev.utcOffset (d : Dev) : Int := sgn 16 (d.rd F.TIM_STATUS_UTC_OFFSET)

/-- The leap that governs labels: one whose second is passing, else the armed one. -/
def Dev.leapNow (d : Dev) : Option Leap := d.tim.passing.orElse (fun _ => d.tim.leap)

/-- The TAI second that a sentence's UTC second labels (R81, R116): under the offset in force; at a leap a second of 60 is
LEAP_AT, and labels from the end of the leap day on use the new offset. DESIGN CHOICE (log 50). -/
def Dev.labelTai (d : Dev) (utc : Nat) (leapSecond : Bool) : Nat :=
  match d.leapNow with
  | none => ((utc : Int) + d.utcOffset).toNat
  | some l =>
    if leapSecond then l.at_
    else if (l.at_ : Int) - min l.old l.new ≤ utc then ((utc : Int) + l.new).toNat else ((utc : Int) + l.old).toNat

/-- A labelled GNSS pulse: its phase, and the rank's gate opens (R81). DESIGN CHOICE (log 50). -/
def Dev.labelGnss (d : Dev) (label : Nat) (stamp : Tai) : Dev :=
  let d := d.setPhase 4 (d.phaseOf 4 label stamp)
  let d := d.setSlot 4 { d.slot 4 with unlabelled := 0, gated := false }
  { d with ref := { d.ref with gnss := { d.ref.gnss with labelled := true, nextLabel := none } } }

/-- REF_PULSE_EDGE (R80, R81): a pulse is timestamped; a PPS is labelled with the nearest TAI second, a GNSS pulse by its
sentences, and the third unlabelled GNSS pulse in a row closes the rank's gate. -/
def execRefPulseEdge (slot : Fin 5) (stamp : Tai) (s : State) : Host.Outcome State Fault Refusal :=
  s.act fun d =>
    if !d.booted || !d.on (F.REF_SLOT_CFG_EN.at [slot]) || !d.pulseSlot slot then d
    else
      let d := d.wr (F.REF_SLOT_STATUS_ACTIVITY.at [slot]) 1
      let d := d.setSlot slot { d.slot slot with pulse := some stamp }
      if slot.val < 4 then
        let label := stamp.sec + (if 500000000 ≤ stamp.ns then 1 else 0)
        d.setPhase slot (d.phaseOf slot label stamp)
      else
        let d := if d.ref.gnss.labelled then d
          else
            let run := (d.slot 4).unlabelled + 1
            d.setSlot 4 { d.slot 4 with unlabelled := run, gated := (d.slot 4).gated || decide (3 ≤ run) }
        let d := { d with ref := { d.ref with gnss := { d.ref.gnss with labelled := false } } }
        match d.ref.gnss.nextLabel with
        | some (label, since) =>
          if d.past since 1000 then { d with ref := { d.ref with gnss := { d.ref.gnss with nextLabel := none } } }
          else d.labelGnss label stamp
        | none => d

/-- A sentence's second is usable (R81): a second of 60 only at a scheduled leap that inserts one, within 1 s of its instant. -/
def Dev.secondOk (d : Dev) (leapSecond : Bool) : Bool :=
  !leapSecond || (match d.leapNow with
    | some l => decide (l.old < l.new) && decide (l.at_ ≤ d.time.tai.sec + 1) && decide (d.time.tai.sec ≤ l.at_ + 1)
    | none => false)

/-- NMEA_SENTENCE (R81): a valid ZDA and an RMC with status A for one second, within 1 s, label a pulse; status V puts the
rank at 255. Other sentences, and those whose checksum fails, are ignored. -/
def execNmeaSentence (sentence : Nmea) (s : State) : Host.Outcome State Fault Refusal :=
  s.act fun d =>
    if !d.booted then d
    else
      let g := d.ref.gnss
      let d := match sentence with
        | .zda utc leapSecond =>
          if d.secondOk leapSecond then
            { d with ref := { d.ref with gnss :=
              { g with zda := some (utc, d.time.cycles), zdaTai := d.labelTai utc leapSecond } } } else d
        | .rmc utc true => { d with ref := { d.ref with gnss := { g with rmc := some (utc, d.time.cycles) } } }
        | .rmc _ false => d.setSlot 4 { d.slot 4 with gated := true }
        | .ignored => d
      let g := d.ref.gnss
      match g.zda, g.rmc with
      | some (u, a), some (v, b) =>
        if u = v ∧ ¬ d.past a 1000 ∧ ¬ d.past b 1000 then
          let d := { d with ref := { d.ref with gnss := { d.ref.gnss with zda := none, rmc := none } } }
          if d.on F.REF_GNSS_CFG_LABEL then
            { d with ref := { d.ref with gnss := { d.ref.gnss with nextLabel := some (g.zdaTai, d.time.cycles) } } }
          else match (d.slot 4).pulse with
            | some stamp => if d.time.tai.le (stamp.addNs 1000000000) then d.labelGnss g.zdaTai stamp else d
            | none => d
        else d
      | _, _ => d

/-- ATOM_LOCK_LOSS (R82): the rank of slot 5 becomes 255. -/
def execAtomLockLoss (s : State) : Host.Outcome State Fault Refusal :=
  s.act fun d => if d.booted then d.setSlot 5 { d.slot 5 with gated := true } else d

/-- ATOM_LOCK_RETURN (R82): RANK_OVR shows again, and takes effect after a full qualification window (R87). -/
def execAtomLockReturn (s : State) : Host.Outcome State Fault Refusal :=
  s.act fun d => if d.booted then d.setSlot 5 { d.slot 5 with gated := false } else d

/-- An ESMC PDU gives a SyncE slot its quality level (R83, R86). PRESUMED (log 42). -/
def Dev.esmcLevel (d : Dev) (port ssm : Nat) (ext : Option Nat) : Dev :=
  d.setSlot (6 + port) { d.slot (6 + port) with advRank := esmcRank ssm ext, ssm := ssm, ext := ext }

/-- ESMC_TIMEOUT (R83): no information PDU for 5 s makes the level QL-FAILED. -/
def execEsmcTimeout (port : Fin 4) (s : State) : Host.Outcome State Fault Refusal :=
  s.act fun d => if d.booted then d.setSlot (6 + port) { d.slot (6 + port) with advRank := 255 } else d

/-! ### Consistency of the best-rank group (R92 to R94) -/

/-- Insert into a rising list. -/
def insertInt (x : Int) : List Int → List Int
  | [] => [x]
  | y :: t => if x ≤ y then x :: y :: t else y :: insertInt x t

/-- A rising list of the values. -/
def sortInts (l : List Int) : List Int := l.foldl (fun acc x => insertInt x acc) []

/-- Twice the median. DESIGN CHOICE (log 41). -/
def median2 (l : List Int) : Int :=
  let s := sortInts l
  let n := s.length
  s.getD ((n - 1) / 2) 0 + s.getD (n / 2) 0

/-- The largest pairwise difference. -/
def spreadOf (l : List Int) : Nat :=
  match l with
  | [] => 0
  | x :: t => (t.foldl max x - t.foldl min x).natAbs

/-- A group's verdict (R93): the slots that get DISAGREE and the outliers. DESIGN CHOICE (log 41). -/
def judgeGroup (vals : List (Nat × Int)) (limit : Nat) : List Nat × List Nat :=
  let xs := vals.map (·.2)
  match vals with
  | [] => ([], [])
  | [_] => ([], [])
  | [a, b] => if limit < (a.2 - b.2).natAbs then ([a.1, b.1], []) else ([], [])
  | _ =>
    let m := median2 xs
    let far := vals.filter (fun v => decide (2 * limit < (2 * v.2 - m).natAbs))
    if far.isEmpty then ([], [])
    else if 2 * (vals.length - far.length) > vals.length then ([], far.map (·.1))
    else (vals.map (·.1), [])

/-- The best-rank group of a selector: the QUALIFIED slots that share the best rank present (R92). -/
def Dev.bestGroup (d : Dev) (member : Nat → Bool) : List Nat :=
  let q := (List.range 15).filter (fun n => d.qualified n && member n && decide (d.slotRank n < 255))
  match q.map d.slotRank with
  | [] => []
  | r :: rs => let best := rs.foldl min r; q.filter (fun n => d.slotRank n = best)

/-- Whether DISAGREE stays on a slot that carries it (R93): in the group of two or more, the spread above 3/4 of the limit. -/
def keepsDisagree (grp : List Nat) (spread limit n : Nat) : Bool :=
  grp.contains n && decide (2 ≤ grp.length) && decide (3 * limit < 4 * spread)

/-- Check one selector's group: DISAGREE and outliers on its slots, and the widening's spread. -/
def Dev.checkGroup (d : Dev) (time : Bool) : Dev :=
  let member := if time then d.timeSlot else d.freqSlot
  let value := if time then d.measPhase else d.measFreq
  let limit := if time then d.rd F.REF_DIS_TIME_DIS_TIME else d.rd F.REF_DIS_FREQ_DIS_FREQ
  let grp := d.bestGroup member
  let verdict := judgeGroup (grp.map (fun n => (n, value n))) limit
  let spread := spreadOf (grp.map value)
  let d := (List.range 15).foldl (fun d n =>
    let x := d.slot n
    let had := if time then x.disT else x.disF
    let has := verdict.1.contains n || (had && keepsDisagree grp spread limit n)
    let x := if time then { x with disT := has } else { x with disF := has }
    let x := { x with outlier := x.outlier || verdict.2.contains n }
    let d := (d.setSlot n x).wrBit (F.REF_SLOT_STATUS_DISAGREE.at [n]) (x.disF || x.disT)
    if has && !had then d.sticky (F.REF_SLOT_STICKY_DISAGREE_SEEN.at [n]) n else d) d
  if time then { d with ref := { d.ref with spreadT := spread } } else { d with ref := { d.ref with spreadF := spread } }

/-- MEAS_FREQ and the freshness of one slot's monitor. -/
def Dev.monitorSlot (d : Dev) (n : Nat) (ppt : Int) : Dev :=
  if d.slotState n = 0 ∨ !d.on (F.REF_SLOT_STATUS_ACTIVITY.at [n]) then d
  else (d.wrS (F.REF_SLOT_MEAS_FREQ_MEAS_FREQ.at [n]) ppt).setSlot n { d.slot n with fresh := true }

/-- The step limit of R100 in 1/16 ns, or none. -/
def Dev.stepLimit (d : Dev) : Option Nat :=
  let l := d.rd F.REF_STEP_LIMIT_STEP_LIMIT
  if l = 0xFFFFFFFF then none else some (l + d.rd F.TIM_BOUND_NOW_BOUND)

/-- A step within the limit, or accepted once for the slot (R100). -/
def Dev.stepAllowed (d : Dev) (n : Nat) (delta : Int) : Bool :=
  !d.on F.REF_SEL_STATUS_TIME_VALID || (d.slot n).accept ||
  (match d.stepLimit with | none => true | some l => decide (delta.natAbs ≤ l))

/-- STEP_LIMIT clears when the slot's phase falls within the limit (R100). -/
def Dev.clearStepLimit (d : Dev) (n : Nat) : Dev :=
  if d.on (F.REF_SLOT_STATUS_STEP_LIMIT.at [n]) && d.stepAllowed n (d.measPhase n) then
    d.wr (F.REF_SLOT_STATUS_STEP_LIMIT.at [n]) 0 else d

/-- MONITOR_UPDATE (R89, R92 to R94): the frequency monitors update and each best-rank group is checked. The loop acts on it
at its next tick (R90). -/
def execMonitorUpdate (ppt : List Int) (s : State) : Host.Outcome State Fault Refusal :=
  s.act fun d =>
    if !d.booted then d
    else
      let d := (List.range 16).foldl (fun d n => d.monitorSlot n (ppt.getD n 0)) d
      let d := (d.checkGroup false).checkGroup true
      (List.range 15).foldl Dev.clearStepLimit d

/-! ### Selection (R91) -/

/-- The choice among QUALIFIED slots: best rank, then PRIORITY, then the current selection, then the lowest number. A current
selection in the best rank stays under REVERTIVE = 0 and while it disagrees (R93). -/
def Dev.choose (d : Dev) (cands : List Nat) (current : Option Nat) : Option Nat :=
  match cands.map d.slotRank with
  | [] => none
  | r :: rs =>
    let best := rs.foldl min r
    let grp := cands.filter (fun n => d.slotRank n = best)
    let prio := fun n => d.rd (F.REF_SLOT_CFG_PRIORITY.at [n])
    let keep := match current with
      | some c => grp.contains c &&
          (!d.on F.REF_SEL_CTL_REVERTIVE || d.on (F.REF_SLOT_STATUS_DISAGREE.at [c]))
      | none => false
    if keep then current
    else
      let top := grp.foldl (fun m n => min m (prio n)) 15
      let firsts := grp.filter (fun n => prio n = top)
      match current with
      | some c => if firsts.contains c then some c else firsts.head?
      | none => firsts.head?

/-- The slot a selector uses at present. -/
def Dev.freqNow (d : Dev) : Option Nat :=
  if d.on F.REF_SEL_STATUS_FREQ_SEL_VALID ∧ d.rd F.REF_SEL_STATUS_FREQ_SEL ≠ 15 then some (d.rd F.REF_SEL_STATUS_FREQ_SEL)
  else none

/-- The slot the time selector uses at present. -/
def Dev.timeNow (d : Dev) : Option Nat :=
  if d.on F.REF_SEL_STATUS_TIME_SEL_VALID then some (d.rd F.REF_SEL_STATUS_TIME_SEL) else none

/-- A forced slot counts only while it is QUALIFIED (R91). MARIONETTE and RESYNC force slot 14 (R85). -/
def Dev.forced (d : Dev) (time : Bool) : Option (Option Nat) :=
  let only := fun n => if d.qualified n then some n else none
  if d.mode.mode = .marionette ∨ d.mode.mode = .resync then some (only 14)
  else if time then (if d.on F.REF_SEL_CTL_FORCE_T_EN then some (only (d.rd F.REF_SEL_CTL_FORCE_T)) else none)
  else if d.on F.REF_SEL_CTL_FORCE_F_EN then some (only (d.rd F.REF_SEL_CTL_FORCE_F)) else none

/-- The candidates of a selector. -/
def Dev.candidates (d : Dev) (time : Bool) : List Nat :=
  (List.range 15).filter (fun n => d.qualified n && decide (d.slotRank n < 255) &&
    (if time then d.timeSlot n && !d.on (F.REF_SLOT_STATUS_STEP_LIMIT.at [n]) else d.freqSlot n))

/-- The frequency selector's choice. -/
def Dev.chooseFreq (d : Dev) : Option Nat :=
  match d.forced false with
  | some f => f.filter (fun n => d.freqSlot n)
  | none => d.choose (d.candidates false) d.freqNow

/-- Refuse a step (R100, R101): the candidate is excluded from time selection. -/
def Dev.refuseStep (d : Dev) (n : Nat) : Dev :=
  let d := d.wr (F.REF_SLOT_STATUS_STEP_LIMIT.at [n]) 1
  (d.sticky (F.REF_SLOT_STICKY_STEP_LIMIT_SEEN.at [n]) n).irq F.REF_IRQ_STATUS_STEP_REFUSED n

/-- The time selector's choice with the phase step it would pass, a candidate whose step is refused being excluded and the
choice made again. -/
def Dev.chooseTime : Nat → Dev → Dev × Option Nat × Option Int
  | 0, d => (d, none, none)
  | k + 1, d =>
    let pick := match d.forced true with
      | some f => f.filter (fun n => d.timeSlot n && !d.on (F.REF_SLOT_STATUS_STEP_LIMIT.at [n]))
      | none => d.choose (d.candidates true) d.timeNow
    match pick with
    | none => (d, none, none)
    | some n =>
      let holding := d.rd F.REF_SEL_STATUS_TPATH_STATE = 3
      if d.timeNow = some n ∧ ¬ holding then (d, some n, none)
      else
        let delta := d.measPhase n
        if d.stepAllowed n delta then (d, some n, some delta) else Dev.chooseTime k (d.refuseStep n)

/-! ### Bandwidths and path states (R96, R97) -/

/-- The bandwidth of a code, in mHz. -/
def bandwidth (code : Nat) : Nat :=
  [1, 2, 5, 10, 20, 50, 100, 200, 500, 1000, 10000, 100000, 400000, 1000000, 2000000, 4000000].getD code 0

/-- The frequency path's code in force: the acquisition code while it is in ACQUIRE. -/
def Dev.freqCode (d : Dev) : Nat :=
  let c := d.rd F.REF_LOOP_CFG_FBW_CODE
  if d.rd F.REF_SEL_STATUS_FPATH_STATE = 1 then max c 9 else c

/-- The time path's code in force: the acquisition code while it is in ACQUIRE. -/
def Dev.timeCode (d : Dev) : Nat :=
  let c := d.rd F.REF_LOOP_CFG_TBW_CODE
  if d.rd F.REF_SEL_STATUS_TPATH_STATE = 1 then max c 6 else c

/-- FPATH_STATE. -/
def Dev.fpath (d : Dev) : Nat := d.rd F.REF_SEL_STATUS_FPATH_STATE
/-- TPATH_STATE. -/
def Dev.tpath (d : Dev) : Nat := d.rd F.REF_SEL_STATUS_TPATH_STATE

/-- A timer of R97: since when a condition has held. -/
def runTimer (t : Option Nat) (holds : Bool) (now : Nat) : Option Nat :=
  if holds then some (t.getD now) else none

/-- A timer has run for `ms` milliseconds. -/
def Dev.ran (d : Dev) (t : Option Nat) (ms : Nat) : Bool := match t with | some c => d.past c ms | none => false

/-- Enter a frequency-path state, with LOCK_CHANGE and HO_ENTERED. -/
def Dev.setFpath (d : Dev) (v : Nat) : Dev :=
  if d.fpath = v then d
  else
    let d := (d.wr F.REF_SEL_STATUS_FPATH_STATE v).irq F.REF_IRQ_STATUS_LOCK_CHANGE
    let d := { d with ref := { d.ref with timers := { d.ref.timers with ferrSmall := none, ferrLarge := none } } }
    if v = 3 then d.irq F.REF_IRQ_STATUS_HO_ENTERED else d

/-- Enter a time-path state. -/
def Dev.setTpath (d : Dev) (v : Nat) : Dev :=
  if d.tpath = v then d
  else
    let d := (d.wr F.REF_SEL_STATUS_TPATH_STATE v).irq F.REF_IRQ_STATUS_LOCK_CHANGE
    let d := { d with ref := { d.ref with timers := { d.ref.timers with perrSmall := none, perrLarge := none } } }
    if v = 3 then d.irq F.REF_IRQ_STATUS_HO_ENTERED else if v = 2 then d.wr F.REF_HO_STATUS_HO_EXPIRED 0 else d

/-- The holdover line's start (R105): y0, moved on by D from the instant at which a frozen model stands. -/
def Dev.lineStart (d : Dev) : Int :=
  let m := d.ref.learn.model
  if d.ref.learn.frozen then
    m.y0 + Config.openDiv 3 (m.slope * 65536 * ((d.time.cycles - m.at_ : Nat) : Int)) (1000000000 * 400000000)
  else m.y0

/-- Enter frequency HOLDOVER (R105): a valid model freezes and starts its line; LOOP_MODE HOLD without one holds the present word. The
samples held are spent. DESIGN CHOICE (log 52). -/
def Dev.freezeModel (d : Dev) : Dev :=
  let l := d.ref.learn
  let now := d.time.cycles
  let valid := d.on F.REF_HO_STATUS_MODEL_VALID
  let m := if l.frozen then l.model else { l.model with at_ := now }
  { d.wr F.REF_HO_STATUS_LEARNED 0 with ref := { d.ref with learn :=
      { l with model := if valid then m else l.model, frozen := l.frozen || valid, line := if valid then d.lineStart else d.ref.word,
               lineAt := now, since := now, samples := [] } } }

/-- A change of frequency slot and a passage into or out of HOLDOVER build out (R98): the phase found is the path's zero, and its word
stands. -/
def Dev.buildOut (d : Dev) : Dev := { d with ref := { d.ref with phase := 0, pathF := { d.ref.pathF with last := 0 } } }

/-- The frequency path at a loop tick (R97), given the slots in force. LOOP_MODE HOLD forces HOLDOVER, whatever stands (R99). DESIGN CHOICE (log 52). -/
def Dev.fpathTick (d : Dev) (f t : Option Nat) : Dev :=
  let st := d.fpath
  let valid := d.on F.REF_HO_STATUS_MODEL_VALID
  let d := if st ≠ 1 && st ≠ 2 || f ≠ d.freqNow then d.buildOut else d
  if d.rd F.REF_LOOP_CFG_LOOP_MODE = 1 then (if st = 3 then d else d.freezeModel.setFpath 3)
  else match f with
  | some _ =>
    if st = 1 ∧ d.ran d.ref.timers.ferrSmall 5000 then d.setFpath 2
    else if st = 2 ∧ d.ran d.ref.timers.ferrLarge 1000 then d.setFpath 1
    else if st = 1 ∨ st = 2 then d else d.setFpath 1
  | none =>
    if t.isSome then d.setFpath 4
    else if st = 1 ∨ st = 2 ∨ st = 4 then (if valid then d.freezeModel.setFpath 3 else d.setFpath 0)
    else if st = 3 ∧ ¬ valid then d.setFpath 0
    else d

/-- Show the selections (R111). DESIGN CHOICE (log 44). -/
def Dev.showSelection (d : Dev) (f t : Option Nat) : Dev :=
  let free := decide (d.fpath = 0)
  let d := d.wr F.REF_SEL_STATUS_FREQ_SEL (f.getD 15)
  let d := d.wrBit F.REF_SEL_STATUS_FREQ_SEL_VALID (f.isSome || free)
  let d := d.wr F.REF_SEL_STATUS_FREQ_RANK (match f with | some n => d.slotRank n | none => if free then 250 else 255)
  let d := d.wr F.REF_SEL_STATUS_TIME_SEL (t.getD 0)
  let d := d.wrBit F.REF_SEL_STATUS_TIME_SEL_VALID t.isSome
  let d := d.wr F.REF_SEL_STATUS_TIME_RANK (match t with | some n => d.slotRank n | none => 255)
  (List.range 16).foldl (fun d n =>
    (d.wrBit (F.REF_SLOT_STATUS_SEL_F.at [n]) (f = some n || (n = 15 && free))).wrBit
      (F.REF_SLOT_STATUS_SEL_T.at [n]) (t = some n)) d

/-- Post a changed selection (R91). -/
def Dev.postSwitch (d : Dev) (old new : Option Nat) (irq : Fld) : Dev :=
  if old = new then d
  else
    let seen := fun (d : Dev) (o : Option Nat) => match o with
      | some n => d.sticky (F.REF_SLOT_STICKY_SELECT_CHANGE_SEEN.at [n]) n
      | none => d
    (seen (seen d old) new).irq irq (new.getD noUnit)

/-! ### The steering word (R15, R99) -/

/-- The usable range of NcoFrequencyWord: ±200 ppm. -/
def ncoLimit : Int := 13107200000000

/-- Set the steering word, clamped to its range; a clamp sets NCO_CLAMPED. DESIGN CHOICE (log 47). -/
def Dev.setWord (d : Dev) (w : Int) : Dev :=
  let c := clampInt (-ncoLimit) ncoLimit w
  let d := { d with ref := { d.ref with word := c } }
  if c = w then d else d.irq F.REF_IRQ_STATUS_NCO_CLAMPED

/-- The paths sum to the word (R96): what the time path gives stands, and the frequency path's integrator takes up the rest. -/
def Dev.reseed (d : Dev) : Dev :=
  { d with ref := { d.ref with pathF := { d.ref.pathF with word := d.ref.word - d.ref.pathT.word } } }

/-- The word on the holdover line (R105): the anchor plus D for the time since. -/
def Dev.lineWord (d : Dev) : Int :=
  let l := d.ref.learn
  if !d.on F.REF_HO_STATUS_MODEL_VALID then l.line
  else l.line + Config.openDiv 4 (l.model.slope * 65536 * ((d.time.cycles - l.lineAt : Nat) : Int)) (1000000000 * 400000000)

/-- The frequency path moves by its filter on the phase that FERR, in ppt, has summed to from its zero, in 2⁻⁶ attoseconds. DESIGN CHOICE (log 47). -/
def Dev.moveF (d : Dev) (ferr : Int) : Dev :=
  let r := d.ref
  let e := r.phase + ferr * 1000
  { d with ref := { r with phase := e, pathF := ⟨r.pathF.word + Config.loopStep true d.freqCode e r.pathF.last, e⟩ } }

/-- The time path moves by its filter on PERR, in 1/16 ns. DESIGN CHOICE (log 47). -/
def Dev.moveT (d : Dev) (perr : Int) : Dev :=
  let r := d.ref
  { d with ref := { r with pathT := ⟨r.pathT.word + Config.loopStep false d.timeCode perr r.pathT.last, perr⟩ } }

/-- The loop's write of the steering word at a tick (R96, R97, R99): the sum of the paths, each of which moves while it follows a slot; along
the line in HOLDOVER; unchanged in FREE_RUN and under MANUAL. What the clamp takes off, the frequency path's integrator gives up. -/
def Dev.steer (d : Dev) (ferr perr : Int) : Dev :=
  if d.rd F.REF_LOOP_CFG_LOOP_MODE = 2 ∨ d.fpath = 0 then d
  else if d.fpath = 3 then (d.setWord d.lineWord).reseed
  else
    let d := if d.fpath = 4 then d else d.moveF ferr
    let d := if d.tpath = 1 ∨ d.tpath = 2 then d.moveT perr else d
    (d.setWord (d.ref.pathF.word + d.ref.pathT.word)).reseed

/-- A software write of the steering word (R99): it stands, the integrator goes on from it, and in holdover it anchors the line anew. -/
def Dev.commitWord (d : Dev) (w : Int) : Dev :=
  let d := (d.setWord w).reseed
  if d.fpath = 3 ∨ d.rd F.REF_LOOP_CFG_LOOP_MODE = 1 then
    { d with ref := { d.ref with learn := { d.ref.learn with line := d.ref.word, lineAt := d.time.cycles } } }
  else d

/-- NCO_WRITE (R99): a write of REF_NCO_HI commits both halves, clamped to the range; an ODP write beyond the range is
refused. -/
def execNcoWrite (word : BitVec 48) (byHost : Bool) (s : State) : Host.Outcome State Fault Refusal :=
  s.act fun d =>
    if !d.booted then d
    else if byHost || decide (word.toInt.natAbs ≤ ncoLimit.natAbs) then d.commitWord word.toInt else d

/-! ### The holdover model and its timer (R104 to R107) -/

/-- The learning condition of R105: the frequency path LOCKED, or FOLLOW_TIME with the time path LOCKED. DESIGN CHOICE (log 53). -/
def Dev.learning (d : Dev) : Bool := d.fpath = 2 || (d.fpath = 4 && d.tpath = 2)

/-- The sums of a least-squares fit, with the last sample's second as the origin. -/
structure FitSums where
  n : Int
  sx : Int
  sy : Int
  sxx : Int
  sxy : Int
  syy : Int
  deriving DecidableEq, Repr

/-- Sum the samples. DESIGN CHOICE (log 46). -/
def fitSums (samples : List (Nat × Int)) (last : Nat) : FitSums :=
  samples.foldl (fun a p =>
    let x : Int := (p.1 : Int) - last
    ⟨a.n + 1, a.sx + x, a.sy + p.2, a.sxx + x * x, a.sxy + x * p.2, a.syy + p.2 * p.2⟩) ⟨0, 0, 0, 0, 0, 0⟩

/-- Fit a straight line (R105): y0 at the last sample, D, and three standard errors of each, with the floors. DESIGN CHOICE (log 46). -/
def Dev.fit (d : Dev) (samples : List (Nat × Int)) : Model :=
  let last := match samples.getLast? with | some p => p.1 | none => 0
  let f := fitSums samples last
  let den := f.n * f.sxx - f.sx * f.sx
  if den ≤ 0 ∨ f.n ≤ 2 then
    ⟨Config.openDiv 5 f.sy f.n.toNat, 0, d.rd F.REF_HO_FLOOR_UY_FLOOR_UY, d.rd F.REF_HO_FLOOR_UD_FLOOR_UD, d.time.cycles⟩
  else
    let a := f.sy * f.sxx - f.sx * f.sxy
    let b := f.n * f.sxy - f.sx * f.sy
    let sse := f.syy * den - a * f.sy - b * f.sxy
    let var := fun (k scale : Int) => isqrt (9 * scale * scale * k * sse / (den * den * (f.n - 2))).toNat
    let uy := ceilDiv (var f.sxx 1000) 65536
    let ud := ceilDiv (var f.n 1000000000) 65536
    ⟨Config.openDiv 5 a den.toNat, Config.openDiv 6 (b * 1000000000) (65536 * den.toNat),
      max (d.rd F.REF_HO_FLOOR_UY_FLOOR_UY) uy, max (d.rd F.REF_HO_FLOOR_UD_FLOOR_UD) ud, d.time.cycles⟩

/-- Show the model in its registers (R111). -/
def Dev.showModel (d : Dev) : Dev :=
  let m := d.ref.learn.model
  let d := d.wrS F.REF_HO_Y_Y0 (Config.openDiv 7 m.y0 65536)
  let d := d.wrS F.REF_HO_D_D m.slope
  (d.wr F.REF_HO_UY_UY (min m.uy 0xFFFFFFFF)).wr F.REF_HO_UD_UD (min m.ud 0xFFFFFFFF)

/-- MODEL_SAMPLE (R105): at a whole TAI second the mean word of a clean second is recorded, and the fit is renewed: at once
for a model that grows, from 3600 samples for one that replaces a frozen model. DESIGN CHOICE (log 53). -/
def execModelSample (s : State) : Host.Outcome State Fault Refusal :=
  s.act fun d =>
    if !d.booted then d
    else
      let l := d.ref.learn
      let fresh := { l with sum := 0, ticks := 0, clean := true }
      if l.clean && decide (0 < l.ticks) && d.learning then
        let mean := Config.openDiv 8 l.sum l.ticks
        let all := l.samples ++ [(d.time.tai.sec, mean)]
        let kept := all.drop (all.length - 86400)
        let d := { d with ref := { d.ref with learn := { fresh with samples := kept } } }
        let enough := decide (3600 ≤ kept.length)
        let d := d.wr F.REF_HO_STATUS_LEARNED (min kept.length 86400)
        let d := if enough then d.wr F.REF_HO_STATUS_MODEL_VALID 1 else d
        if enough || !l.frozen then
          { d with ref := { d.ref with learn := { d.ref.learn with model := d.fit kept,
                                                                    frozen := l.frozen && !enough } } }.showModel
        else d
      else { d with ref := { d.ref with learn := fresh } }

/-- MODEL_PERSIST (R105): every 3600 s y0 and D are kept without a commit (R364). -/
def execModelPersist (s : State) : Host.Outcome State Fault Refusal :=
  s.act fun d =>
    if !d.booted || d.pins.mramInhibit || !d.past d.ref.learn.kept 3600000 then d
    else
      let d := { d with ref := { d.ref with learn := { d.ref.learn with kept := d.time.cycles } } }
      let put := fun (t : Tbl Nat) (sub v : Nat) => t.put (objKey 0x2040 sub 0 0) v
      let objs := put (put d.odp.objs 7 (d.rd F.REF_HO_Y_Y0)) 8 (d.rd F.REF_HO_D_D)
      { d with odp := { d.odp with objs := objs } }

/-- The regime in force or that would apply (R104): 0 reference, 1 model, 2 free-run. -/
def Dev.regime (d : Dev) : Nat :=
  if d.fpath = 1 ∨ d.fpath = 2 then 0
  else if (d.fpath = 3 ∨ d.fpath = 4) ∧ d.on F.REF_HO_STATUS_MODEL_VALID then 1 else 2

/-- The frequency widening d_f in ppt (R93). -/
def Dev.widenF (d : Dev) : Nat :=
  match d.freqNow with
  | some n => if (d.slot n).disF then d.ref.spreadF else 0
  | none => 0

/-- The time widening d_t in 1/16 ns (R94). -/
def Dev.widenT (d : Dev) : Nat :=
  match d.timeNow with
  | some n => if (d.slot n).disT then d.ref.spreadT else 0
  | none => 0

/-- The regime's U_y in 0.001 ppt and U_D in 10⁻⁹ ppt/s (R104, R105). -/
def Dev.regimeTerms (d : Dev) : Nat × Nat :=
  match d.regime with
  | 0 => (d.rd (F.REF_SLOT_DRIFT_TOL_DRIFT_TOL.at [d.freqNow.getD 15]) + 1000 * d.widenF, 0)
  | 1 =>
    let m := d.ref.learn.model
    let entry := if d.fpath = 3 then d.ref.learn.since else d.time.cycles
    let since := if d.ref.learn.frozen then entry - m.at_ else 0
    (m.uy + ceilDiv (m.ud * since) (1000000 * 400000000), m.ud)
  | _ => (50000000000, 0)

/-- The growth formula's numerator (R106): H in ps times 2 × 10¹⁵. -/
def growNum (uy ud ms : Nat) : Nat := 2000000000 * uy * ms + ud * ms * ms

/-- H in bound units: ps × 16 ÷ 1000, rounded up, saturating (R7, R106). -/
def growLsb (num : Nat) : Nat := min boundSat (ceilDiv (num * 16) 2000000000000000000)

/-- The present growth's numerator. -/
def Dev.growNow (d : Dev) : Nat := d.ref.grow.base + growNum d.ref.grow.uy d.ref.grow.ud d.ref.grow.ms

/-- Start the growth on entry to time HOLDOVER. -/
def Dev.startGrowth (d : Dev) : Dev :=
  let r := d.regimeTerms
  { d with ref := { d.ref with grow := ⟨0, 0, 0, r.1, r.2⟩ } }

/-- A regime that changes in holdover keeps the growth reached and adds its own formula (R106). -/
def Dev.changeRegime (d : Dev) : Dev :=
  let r := d.regimeTerms
  let g := d.ref.grow
  if r = (g.uy, g.ud) then d
  else { d with ref := { d.ref with grow := { g with base := d.growNow, ms := 0, uy := r.1, ud := r.2 } } }

/-- Clear the growth on leaving time HOLDOVER (R108). -/
def Dev.clearGrowth (d : Dev) : Dev :=
  ({ d with ref := { d.ref with grow := {} } }.wr (F.REF_TERM_TERM.at [4]) 0 |>.wr F.REF_HO_ELAPSED_ELAPSED 0)

/-- The largest whole second `r < 2 ^ k` above `acc` at which a test still holds, found bit by bit. -/
def largestWith (ok : Nat → Bool) : Nat → Nat → Nat
  | 0, acc => acc
  | k + 1, acc => largestWith ok k (if ok (acc + 2 ^ k) then acc + 2 ^ k else acc)

/-- HoldoverRemaining (R107). -/
def Dev.remaining (d : Dev) : Nat :=
  let holding := decide (d.tpath = 3)
  let terms := d.regimeTerms
  let spec := d.rd F.REF_HO_SPEC_SPEC
  let now := d.rd F.TIM_BOUND_NOW_BOUND
  let h := if holding then growLsb d.growNow else 0
  let b0 := now - h
  if terms = (0, 0) then 0xFFFFFFFF
  else if now = boundSat then 0
  else
    let base := if holding then d.ref.grow.base else 0
    let ms := if holding then d.ref.grow.ms else 0
    let fits := fun r => decide ((base + growNum terms.1 terms.2 (ms + 1000 * r)) * 16 ≤
      (spec - b0) * 2000000000000000000 ∧ b0 ≤ spec)
    if fits 0 then largestWith fits 32 0 else 0

/-- HOLDOVER_TIMER_UPDATE (R107). -/
def execHoldoverTimerUpdate (s : State) : Host.Outcome State Fault Refusal :=
  s.act fun d =>
    if !d.booted then d
    else
      let r := d.remaining
      let d := d.wr F.REF_HO_REMAIN_REMAIN r
      let d := d.wr F.REF_HO_ELAPSED_ELAPSED (d.ref.grow.total / 1000)
      if d.tpath = 3 ∧ r = 0 ∧ ¬ d.on F.REF_HO_STATUS_HO_EXPIRED then
        (d.wr F.REF_HO_STATUS_HO_EXPIRED 1).irq F.REF_IRQ_STATUS_HO_EXPIRED
      else d

/-! ### Pulse outputs (R102, R103) -/

/-- A pulse output's hidden state. -/
def Dev.pulseSt (d : Dev) (p : Nat) : PulseSt := d.ref.pulses.get {} p

/-- Replace it. -/
def Dev.setPulse (d : Dev) (p : Nat) (x : PulseSt) : Dev := { d with ref := { d.ref with pulses := d.ref.pulses.put p x } }

/-- A pulse output's period in 1/16 ns. -/
def Dev.pulsePeriod (d : Dev) (p : Nat) : Nat := d.rd (F.REF_PULSE_CFG_PERIOD_MS.at [p]) * 16000000

/-- Reduce an offset modulo the period into (−P/2, +P/2] (R102). DESIGN CHOICE (log 49). -/
def reduceOffset (x : Int) (p : Nat) : Int :=
  let r := x % (p : Int)
  if (p : Int) < 2 * r then r - p else r

/-- The last grid instant at or before a time, displaced by an offset in 1/16 ns. DESIGN CHOICE (log 49). -/
def gridEdge (now : Tai) (period : Nat) (offset : Int) : Tai :=
  let t : Int := (now.toSub / 4096 : Nat) - offset
  Tai.ofSub ((t - t % (period : Int) + offset) * 4096).toNat

/-- A step moves no pulse: the offset of a running output takes it up (R102), and the instants kept of every output, a pending
realignment's command among them, move with the counter (R103). -/
def Dev.stepPulses (d : Dev) (delta : Int) : Dev :=
  (List.range 4).foldl (fun d p =>
    let x := d.pulseSt p
    let moved := fun (t : Tai) => t.addSub (delta * 4096)
    let offset := if d.on (F.REF_PULSE_CTL_RUNNING.at [p]) then reduceOffset (x.offset + delta) (d.pulsePeriod p) else x.offset
    d.setPulse p { offset := offset, last := x.last.map moved, realignAt := x.realignAt.map moved, enabledAt := moved x.enabledAt }) d

/-- Command a realignment of the enabled outputs in a mask (R103). -/
def Dev.realign (d : Dev) (mask : Nat) : Dev :=
  (List.range 4).foldl (fun d p =>
    if bitAt mask p && d.on (F.REF_PULSE_CFG_EN.at [p]) then
      (d.setPulse p { d.pulseSt p with realignAt := some d.time.tai }).wr (F.REF_PULSE_CTL_REALIGN_PENDING.at [p]) 1
    else d) d

/-- PULSE_REALIGN (R103). DESIGN CHOICE (log 48). -/
def execPulseRealign (mask : BitVec 4) (s : State) : Host.Outcome State Fault Refusal :=
  s.act fun d => if d.booted then d.realign mask.toNat else d

/-- The instant that a pulse emitted now would stand at: on the grid itself while a realignment waits, else displaced by PULSE_OFFSET. -/
def Dev.pulseEdge (d : Dev) (p : Nat) : Tai :=
  gridEdge d.time.tai (d.pulsePeriod p) (if (d.pulseSt p).realignAt.isSome then 0 else (d.pulseSt p).offset)

/-- A pulse's trailing edge (R102): WIDTH × 10 µs after its leading one. -/
def Dev.pulseEnd (d : Dev) (p : Nat) (edge : Tai) : Tai := edge.addNs (10000 * d.rd (F.REF_PULSE_CFG_WIDTH.at [p]))

/-- A pulse may stand at an instant (R102, R103): the first one at least 1 ms after the enabling apply point, a later one after the last;
one that realigns at least 1 ms after its command and half a period after the last. -/
def PulseSt.mayStand (x : PulseSt) (period : Nat) (edge : Tai) : Bool :=
  (match x.last with
    | none => (x.enabledAt.addNs 1000000).le edge
    | some e => if x.realignAt.isSome then (e.addSub (period / 2 * 4096 : Nat)).le edge else e.lt edge) &&
  (match x.realignAt with
    | none => true
    | some c => (c.addNs 1000000).le edge)

/-- PULSE_EMIT (R102, R103): the output emits its pulse at its instant, once TIME_VALID is 1. A pulse that realigns leaves PULSE_OFFSET 0, and
is journalled and posted. Only the modes that drive PULSE show it on the ball (R54). DESIGN CHOICE (log 48). -/
def execPulseEmit (output : Fin 4) (s : State) : Host.Outcome State Fault Refusal :=
  s.act fun d =>
    let x := d.pulseSt output
    let edge := d.pulseEdge output
    if !d.booted || !d.on (F.REF_PULSE_CFG_EN.at [output]) || !d.on F.REF_SEL_STATUS_TIME_VALID ||
        !x.mayStand (d.pulsePeriod output) edge then d
    else
      let d := d.wr (F.REF_PULSE_CTL_RUNNING.at [output]) 1
      let d := d.setPulse output { x with offset := if x.realignAt.isSome then 0 else x.offset, last := some edge, realignAt := none }
      let d := if d.serving then d.emit (.pulse output edge (d.pulseEnd output edge) (d.on (F.REF_PULSE_CFG_POLARITY.at [output])))
        else d
      if x.realignAt.isSome then
        let d := d.wr (F.REF_PULSE_CTL_REALIGN_PENDING.at [output]) 0
        (d.deviceEvent 3 (toLE 1 output)).objEvent 2 output 0x2051 0 0
      else d

/-! ### Steps accepted, history (R100, R110) -/

/-- Accept one step for a time slot excluded by STEP_LIMIT. DESIGN CHOICE (log 43). -/
def Dev.acceptStep (d : Dev) (n : Nat) : Dev :=
  if n < 5 ∨ (10 ≤ n ∧ n ≤ 14) then
    (d.setSlot n { d.slot n with accept := true }).wr (F.REF_SLOT_STATUS_STEP_LIMIT.at [n]) 0
  else d

/-- STEP_ACCEPT (R100). -/
def execStepAccept (mask : BitVec 16) (s : State) : Host.Outcome State Fault Refusal :=
  s.act fun d => if d.booted then (bitList 16 mask.toNat).foldl Dev.acceptStep d else d

/-- The sticky fields of a reference slot. -/
def refStickies : List Fld :=
  [F.REF_SLOT_STICKY_STEP_LIMIT_SEEN, F.REF_SLOT_STICKY_RANK_CHANGE_SEEN, F.REF_SLOT_STICKY_DISAGREE_SEEN,
    F.REF_SLOT_STICKY_OUTLIER_SEEN, F.REF_SLOT_STICKY_FREQ_FAIL_SEEN, F.REF_SLOT_STICKY_QUALIFIED_SEEN,
    F.REF_SLOT_STICKY_LOS_SEEN, F.REF_SLOT_STICKY_SELECT_CHANGE_SEEN]

/-- Clear the sticky history of the slots in a mask (R110). -/
def Dev.clearRefHistory (d : Dev) (mask : Nat) : Dev :=
  (bitList 16 mask).foldl (fun d n => refStickies.foldl (fun d f => d.wr (f.at [n]) 0) d) d

/-- REFERENCE_HISTORY_CLEAR (R110). -/
def execReferenceHistoryClear (mask : BitVec 16) (s : State) : Host.Outcome State Fault Refusal :=
  s.act fun d => if d.booted then d.clearRefHistory mask.toNat else d

/-! ### The block's apply point (R111) -/

/-- Whether the unit of a stopped-only REF field runs: its slot or pulse output enabled, slot 4 for the GNSS settings. -/
def Dev.refRunning (d : Dev) (f : Fld) : Bool :=
  if f.off = 0xC0 then d.on (F.REF_SLOT_CFG_EN.at [4])
  else if 0x600 ≤ f.off then d.on (F.REF_PULSE_CFG_EN.at [(f.off - 0x600) / 16])
  else d.on (F.REF_SLOT_CFG_EN.at [(f.off - 0x100) / 64])

/-- A field's value lies outside the range of its own register (R82, R111). -/
def refBad (f : Fld) (v : Nat) : Bool :=
  let out := fun (lo hi : Nat) => decide (v < lo ∨ hi < v)
  if f.off = 0xC then (if f.lo = 16 then out 0 3600 else out 1 3600)
  else if f.off = 0x18 then decide (v < 16000)
  else if f.off = 8 then f.lo = 30 && v = 3
  else if f.off = 0xC0 then f.lo = 28 && decide (6 ≤ v)
  else if f.off = 0x244 then v ≠ 5000000 && v ≠ 10000000
  else if 0x100 ≤ f.off && f.off < 0x200 && f.off % 0x40 = 4 then out 1000 100000000
  else if 0x100 ≤ f.off && f.off < 0x500 && f.off % 0x40 = 8 then out 1 200000
  else if 0x600 ≤ f.off && f.off < 0x640 && f.off % 16 = 0 then (f.lo = 16 && v = 0) || (f.lo = 0 && out 1 60000)
  else false

/-- Drop what a strobe may not apply: a value out of its range, a TBW_CODE above FBW_CODE (R96), a pulse of half its period or more (R102). -/
def Dev.refCheck (d : Dev) (vals : Tbl Nat) : Tbl Nat × Status :=
  let drop := fun (r : Tbl Nat × Status) (bad : Bool) (p : Fld → Bool) =>
    if bad then (dropVals r.1 p, Status.orElse r.2 .range) else r
  let kept := vals.filter (fun r => match fieldOf r.1 with | some f => !refBad f r.2 | none => false)
  let r := (kept, if kept.length = vals.length then Status.ok else .range)
  let r := drop r (decide (d.proposed r.1 F.REF_LOOP_CFG_FBW_CODE < d.proposed r.1 F.REF_LOOP_CFG_TBW_CODE))
    (fun f => f.off = 8 && f.lo < 8)
  (List.range 4).foldl (fun r p =>
    drop r (decide (50 * d.proposed r.1 (F.REF_PULSE_CFG_PERIOD_MS.at [p]) ≤
        d.proposed r.1 (F.REF_PULSE_CFG_WIDTH.at [p]))) (fun f => f.off = 0x600 + 16 * p)) r

/-- What EN changes bring (R87, R88, R90, R102): an enabled slot's monitors are clear, its activity among them; only what its source
says of itself stands. -/
def Dev.refStarts (old d : Dev) : Dev :=
  let d := (List.range 16).foldl (fun d n =>
    let was := old.on (F.REF_SLOT_CFG_EN.at [n])
    let is := d.on (F.REF_SLOT_CFG_EN.at [n])
    let d := if was ≠ is then d.wr (F.REF_SLOT_STATUS_ACTIVITY.at [n]) 0 else d
    if is && !was then
      let x := d.slot n
      let d := d.setSlot n { advRank := x.advRank, gated := x.gated, ssm := x.ssm, ext := x.ext }
      let d := (d.setSlotState n 1).wr (F.REF_SLOT_STATUS_RANK.at [n]) (d.targetRank n)
      (d.wr (F.REF_SLOT_MEAS_FREQ_MEAS_FREQ.at [n]) 0).wr (F.REF_SLOT_MEAS_PHASE_MEAS_PHASE.at [n]) 0
    else if was && !is then
      ((d.unjudge n).setSlotState n 0).wr (F.REF_SLOT_STATUS_RANK.at [n]) 255
    else d) d
  (List.range 4).foldl (fun d p =>
    let was := old.on (F.REF_PULSE_CFG_EN.at [p])
    let is := d.on (F.REF_PULSE_CFG_EN.at [p])
    if is && !was then d.setPulse p { enabledAt := d.time.tai }
    else if was && !is then
      ((d.setPulse p {}).wr (F.REF_PULSE_CTL_RUNNING.at [p]) 0).wr (F.REF_PULSE_CTL_REALIGN_PENDING.at [p]) 0
    else d) d

/-- The REF block reaches its apply point (R111). -/
def Dev.applyRef (d : Dev) (group : Nat) (vals : Tbl Nat) : Dev × Status :=
  let c := d.refCheck vals
  let r := d.applyVals d.refRunning group c.1
  (d.refStarts r.1, Status.orElse c.2 (if r.2 then .stoppedOnly else .ok))

end Sys2Proof.Machine
end

