-- ==== Sys2Proof/Machine/Transmit.lean ====
section
/-! DEFINITION. Machine/Transmit.lean: a network port's transmitter and the classes of its frames (R179, R180, R184, R185). -/

namespace Sys2Proof.Machine

/-- A port's hidden state; port 4 is MGT. -/
def Dev.port (d : Dev) (p : Nat) : NetPortSt := d.net.ports.get {} p

/-- Replace it. -/
def Dev.setPort (d : Dev) (p : Nat) (x : NetPortSt) : Dev := { d with net := { d.net with ports := d.net.ports.put p x } }

/-- Add to one of a port's nineteen counters, in the order of R186. -/
def Dev.netCount (d : Dev) (p c : Nat) (n : Nat := 1) : Dev :=
  if p = 4 then d.tally (F.MGT_COUNT_COUNT.at [c]) n else d.tally (F.NET_COUNT_COUNT.at [p, c]) n

/-- The transmitter is stopped by PAUSE (R180). -/
def Dev.paused (d : Dev) (p : Nat) : Bool :=
  match (d.port p).pause with
  | some (a, n) => decide (d.time.cycles * 100 < a * 100 + n)
  | none => false

/-- The relay behind a NET port: A joins NET0 and NET1, B joins NET2 and NET3 (R184). -/
def relayOf (p : Nat) : Nat := p / 2

/-- A relay is settling. -/
def Dev.settling (d : Dev) (r : Nat) : Bool :=
  if r = 0 then d.on F.NET_BYPASS_STATUS_A_SETTLING else d.on F.NET_BYPASS_STATUS_B_SETTLING

/-- A port lies behind a relay that settles: its transmitter is idle and its receiver ignored (R184). -/
def Dev.portSettles (d : Dev) (p : Nat) : Bool := decide (p < 4) && d.settling (relayOf p)

/-- A frame of the device's own of this class leaves at once: nothing stops the transmitter, and no frame of its class or a higher one
waits (R179). DESIGN CHOICE (log 74). -/
def Dev.txFree (d : Dev) (p cls : Nat) : Bool :=
  !d.paused p && !d.portSettles p && !(d.port p).txq.any (fun f => decide (cls ≤ f.cls))

/-- The traffic classes of the device's own frames (R179). -/
def clsPtpEvent : Nat := 7
/-- PTP general messages and ESMC. -/
def clsPtpGeneral : Nat := 6
/-- NTP and NTS responses. -/
def clsNtp : Nat := 5
/-- ODP. -/
def clsOdp : Nat := 4
/-- ARP, NDP, ICMP, IGMP and MLD. -/
def clsIp : Nat := 3

/-- What the device itself sends on a port, in its class (R179): it leaves at once and is counted, or waits for TX_FRAME_SELECT. -/
def Dev.send (d : Dev) (p cls : Nat) (o : Out) : Dev :=
  if d.txFree p cls then (d.emit o).netCount p 14
  else
    let x := d.port p
    d.setPort p { x with txq := x.txq ++ [⟨cls, none, o⟩] }

end Sys2Proof.Machine
end

