-- ==== Sys2Proof/Machine/TimeService.lean ====
section
/-! DEFINITION. Machine/TimeService.lean: UTC and leaps, the error bound, PTP, NTP and NTS, captures (R113 to R145). -/

namespace Sys2Proof.Machine

/-! ### UTC and leap seconds (R114 to R116) -/

/-- Put a UTC offset in force (R114): OFFSET_CHANGE is posted and the change journalled. -/
def Dev.setUtcOffset (d : Dev) (v : Int) : Dev :=
  if d.utcOffset = v then d
  else
    let d := d.wr F.TIM_STATUS_UTC_OFFSET (unsgn 16 v)
    (d.irq F.TIM_IRQ_STATUS_OFFSET_CHANGE).deviceEvent 2 (toLE 2 (unsgn 16 v))

/-- The leaps the device knows of, the oldest first: the last one done, one whose second is passing, the armed one. -/
def Dev.leaps (d : Dev) : List Leap := d.tim.lastLeap.toList ++ d.tim.passing.toList ++ d.tim.leap.toList

/-- The UTC offset by which a TAI second is labelled (R116, R132): the one before the first leap that took effect after it, the one
of an armed leap from its LEAP_AT on, else the offset in force. DESIGN CHOICE (log 65). -/
def Dev.offsetAt (d : Dev) (sec : Nat) : Int :=
  match (d.leaps.filter (·.stepped)).find? (fun l => decide (sec < l.at_)) with
  | some l => l.old
  | none => match d.tim.leap with
    | some l => if l.at_ ≤ sec then l.new else d.utcOffset
    | none => d.utcOffset

/-- The rule of R115: LEAP_AT is a whole day of UTC plus the smaller offset. -/
def leapFits (leapAt : Nat) (old new : Int) : Bool :=
  decide (((leapAt : Int) - min old new) % 86400 = 0) && decide (min old new ≤ leapAt)

/-- Whether a leap event is refused (R115): it fails the rule, lies less than 2 s ahead, or PTP would replace an armed one. -/
def Dev.leapRefused (d : Dev) (leapAt : Nat) (deletion byPtp : Bool) : Bool :=
  let old := d.utcOffset
  let new := if deletion then old - 1 else old + 1
  !leapFits leapAt old new || (⟨leapAt, 0, 0⟩ : Tai).lt (d.time.tai.addNs 2000000000) || (byPtp && d.tim.leap.isSome)

/-- Arm a leap event, or refuse it with LEAP_REFUSED (R115). A controller's event replaces an armed one; one that has taken effect goes on
to its LEAP_DONE. DEDUCED (log 62). -/
def Dev.armLeap (d : Dev) (leapAt : Nat) (deletion byPtp : Bool) : Dev × Status :=
  if d.leapRefused leapAt deletion byPtp then (d.irq F.TIM_IRQ_STATUS_LEAP_REFUSED, .range)
  else
    let old := d.utcOffset
    let l : Leap := ⟨leapAt, old, if deletion then old - 1 else old + 1, byPtp, false⟩
    let gone := match d.tim.leap with | some x => if x.stepped then some x else d.tim.passing | none => d.tim.passing
    let d := { d with tim := { d.tim with leap := some l, passing := gone } }
    let d := (d.wrRun F.TIM_LEAP_AT_LO_LO (leapAt % 2 ^ 32)).wrRun F.TIM_LEAP_AT_HI_HI (leapAt / 2 ^ 32)
    let d := d.wrRun F.TIM_LEAP_CFG_DIR (bit deletion)
    let d := (d.wr F.TIM_STATUS_LEAP_ARMED 1).wrBit F.TIM_STATUS_LEAP_DIR deletion
    let d := d.wrBit F.TIM_LEAP_CFG_SOURCE byPtp
    (d.irq F.TIM_IRQ_STATUS_LEAP_ARMED, .ok)

/-- A cancel comes too late (R115): within 1 s of LEAP_AT, or after it. -/
def Dev.cancelTooLate (d : Dev) : Bool :=
  match d.tim.leap with
  | some l => l.stepped || (⟨l.at_, 0, 0⟩ : Tai).le (d.time.tai.addNs 1000000000)
  | none => false

/-- Cancel an armed leap event, or answer TOO_LATE (R115). -/
def Dev.cancelLeap (d : Dev) : Dev × Status :=
  match d.tim.leap with
  | none => (d, .ok)
  | some _ =>
    if d.cancelTooLate then (d, .tooLate)
    else
      let d := { d with tim := { d.tim with leap := none } }
      ((d.wr F.TIM_STATUS_LEAP_ARMED 0).irq F.TIM_IRQ_STATUS_LEAP_CANCELLED, .ok)

/-- LEAP_DONE is set, journalled and posted (R116). The entry's value beyond its code is the new offset. DESIGN CHOICE (log 190). -/
def Dev.leapDone (d : Dev) (l : Leap) : Dev :=
  let d := { d with tim := { d.tim with lastLeap := some l } }
  (d.irq F.TIM_IRQ_STATUS_LEAP_DONE).deviceEvent 1 (toLE 2 (unsgn 16 l.new))

/-- A leap whose second has passed completes (R116), also where another was armed in that second. DESIGN CHOICE (log 61). -/
def Dev.finishLeap (d : Dev) : Dev :=
  let passed := fun (l : Leap) => l.stepped && decide (l.at_ + 1 ≤ d.time.tai.sec)
  let d := match d.tim.passing with
    | some l => if passed l then ({ d with tim := { d.tim with passing := none } }).leapDone l else d
    | none => d
  match d.tim.leap with
  | some l => if passed l then (({ d with tim := { d.tim with leap := none } }).wr F.TIM_STATUS_LEAP_ARMED 0).leapDone l else d
  | none => d

/-- LEAP_AT is reached (R116): UTC is derived with the new offset. Under MANUAL, MANUAL_OFFSET moves with it. -/
def Dev.stepLeap (d : Dev) : Dev :=
  match d.tim.leap with
  | some l =>
    if !l.stepped && decide (l.at_ ≤ d.time.tai.sec) then
      let d := { d with tim := { d.tim with leap := some { l with stepped := true } } }
      let d := d.wr F.TIM_STATUS_UTC_OFFSET (unsgn 16 l.new)
      let d := d.irq F.TIM_IRQ_STATUS_OFFSET_CHANGE
      if d.on F.TIM_UTC_CFG_SRC then d.wrBoth F.TIM_UTC_CFG_MANUAL_OFFSET (unsgn 16 l.new) else d
    else d
  | none => d

/-- LEAP_ARM (R115): the event a controller arms, at the TAI instant it names, which must be a whole second. -/
def execLeapArm (deletion : Bool) (leapAt : Tai) (s : State) : Host.Outcome State Fault Refusal :=
  s.act fun d =>
    if !d.booted then d
    else if leapAt.ns ≠ 0 then d.irq F.TIM_IRQ_STATUS_LEAP_REFUSED
    else (d.armLeap leapAt.sec deletion false).1

/-- LEAP_CANCEL (R115). -/
def execLeapCancel (s : State) : Host.Outcome State Fault Refusal :=
  s.act fun d => if d.booted then d.cancelLeap.1 else d

/-- LEAP_TAKES_EFFECT (R116): at LEAP_AT the offset changes; the leap completes when its second has passed. DESIGN CHOICE (log 61). -/
def execLeapTakesEffect (s : State) : Host.Outcome State Fault Refusal :=
  s.act fun d => if d.booted then d.stepLeap.finishLeap else d

/-- NTP's leap indicator (R116): 01 or 10 from LEAP_AT − 86,400 s until LEAP_AT + 1 s. DESIGN CHOICE (log 65). -/
def Dev.leapIndicator (d : Dev) : Nat :=
  match (d.tim.passing.toList ++ d.tim.leap.toList).find? (fun l => decide (l.at_ ≤ d.time.tai.sec + 86400 ∧ d.time.tai.sec ≤ l.at_)) with
  | some l => if l.old < l.new then 1 else 2
  | none => 0

/-- From TAI U + new offset on (R116), Announce carries a leap's new offset and no flag. -/
def Dev.leapGone (d : Dev) (l : Leap) : Bool := decide ((l.at_ : Int) - min l.old l.new + l.new ≤ d.time.tai.sec)

/-- What Announce shows of a leap (R116): leap61, leap59, and currentUtcOffset. -/
def Dev.announceLeap (d : Dev) : Bool × Bool × Int :=
  match (d.tim.passing.toList ++ d.tim.leap.toList).find? (fun l => !d.leapGone l) with
  | some l =>
    let near := decide (l.at_ ≤ d.time.tai.sec + 43200)
    (near && decide (l.old < l.new), near && decide (l.new < l.old), l.old)
  | none => match d.tim.leap with
    | some l => (false, false, l.new)
    | none => (false, false, d.utcOffset)

/-! ### The error bound (R109, R117, R118) -/

/-- The advertised bound of a slot. -/
def Dev.advBound (d : Dev) (n : Nat) : Nat :=
  if n < 5 then d.rd (F.REF_SLOT_ADV_BOUND_ADV_BOUND.at [n]) else d.rd (F.REF_SLOT_ADV_BOUND_RO_ADV_BOUND.at [n - 5])

/-- The drift allowance (R95, R109) in 1/16 ns, rounded up: (DRIFT_TOL + d_f) ÷ (2π × bandwidth); 0 in FOLLOW_TIME. DESIGN CHOICE (log 51). -/
def Dev.driftTerm (d : Dev) : Nat :=
  match d.freqNow with
  | none => 0
  | some f =>
    let tol := d.rd (F.REF_SLOT_DRIFT_TOL_DRIFT_TOL.at [f]) + 1000 * d.widenF
    min boundSat (ceilDiv (tol * 16 * 10 ^ 15) (1000 * 6283185307179586 * bandwidth d.timeCode))

/-- The largest |PERR| of the last second (R109), in 1/16 ns. -/
def Dev.loopTerm (d : Dev) : Nat :=
  min boundSat ((d.ref.perrs.filter (fun p => !d.past p.1 1000)).foldl (fun m p => max m p.2) 0)

/-- ASYM (R117). -/
def Dev.asymTerm (d : Dev) : Nat :=
  match d.timeNow with
  | some t =>
    if 10 ≤ t ∧ t ≤ 13 then min (d.rd (F.TIM_PTP_ASYM_ALLOW_ASYM_ALLOW.at [t - 10])) (d.rd (F.TIM_PTP_PATH_DELAY_PATH_DELAY.at [t - 10]))
    else 0
  | none => 0

/-- The bound's terms follow the time-selected slot (R109, R117). -/
def Dev.liveTerms (d : Dev) : Dev :=
  match d.timeNow with
  | none => d
  | some t =>
    let d := d.wr (F.REF_TERM_TERM.at [0]) (d.advBound t)
    let d := d.wr (F.REF_TERM_TERM.at [1]) (min boundSat d.widenT)
    let d := d.wr (F.REF_TERM_TERM.at [2]) d.loopTerm
    let d := d.wr (F.REF_TERM_TERM.at [3]) d.driftTerm
    let d := d.wr (F.REF_TERM_TERM.at [4]) 0
    d.wr F.TIM_TERM_ASYM_ASYM d.asymTerm

/-- The seven terms, in the order of the formula. -/
def Dev.terms (d : Dev) : List Nat :=
  (List.range 5).map (fun i => d.rd (F.REF_TERM_TERM.at [i])) ++ [d.rd F.TIM_TERM_ASYM_ASYM, d.rd F.TIM_TERM_QUANT_QUANT]

/-- Set ErrorBoundNow from the terms; BOUND_SAT_CHANGE is posted when it saturates or stops saturating. -/
def Dev.sumBound (d : Dev) : Dev :=
  let was := decide (d.rd F.TIM_BOUND_NOW_BOUND = boundSat)
  let d := d.wr F.TIM_BOUND_NOW_BOUND (boundSum d.terms)
  let is := decide (d.rd F.TIM_BOUND_NOW_BOUND = boundSat)
  if was = is then d else d.irq F.TIM_IRQ_STATUS_BOUND_SAT_CHANGE

/-- One evaluation of the bound (R117): saturated while TAI has not been set and after loss of the root; in time HOLDOVER the
growth is evaluated and the rest is frozen. `ms` milliseconds of growth are added first. -/
def Dev.evalBound (d : Dev) (ms : Nat) : Dev :=
  if !d.on F.REF_SEL_STATUS_TIME_VALID || d.clk.rootLost then d.saturateBound
  else
    let d := d.wr F.TIM_TERM_QUANT_QUANT 32
    if d.tpath = 3 then
      let d := d.changeRegime
      let g := d.ref.grow
      let d := { d with ref := { d.ref with grow := { g with ms := g.ms + ms, total := g.total + ms } } }
      let d := d.wr (F.REF_TERM_TERM.at [3]) 0
      (d.wr (F.REF_TERM_TERM.at [4]) (growLsb d.growNow)).sumBound
    else d.liveTerms.sumBound

/-- ERROR_BOUND_EVAL (R117). -/
def execErrorBoundEval (s : State) : Host.Outcome State Fault Refusal :=
  s.act fun d => if d.booted then d.evalBound 1 else d

/-- The served bound of a port (R118). -/
def Dev.servedBound (d : Dev) (p : Nat) : Nat :=
  boundSum [d.rd F.TIM_BOUND_NOW_BOUND, if d.on (F.TIM_PTP_CAL_CAL_DONE.at [p]) then 32 else 320]

/-- The limits of the clockAccuracy codes from 0x17 on, in 1/16 ns rounded up (R118). -/
def accuracyLimits : List Nat :=
  [1, 1, 1, 1, 2, 4, 16, 40, 160, 400, 1600, 4000, 16000, 40000, 160000, 400000, 1600000, 4000000, 16000000, 40000000,
    160000000, 400000000, 1600000000, 4000000000]

/-- The clockAccuracy that serves a bound (R118): the smallest code from 0x1D on whose limit is at least the bound. -/
def accuracyOf (bound : Nat) : Nat :=
  if bound = boundSat then 0xFE
  else match (List.range 18).find? (fun i => decide (bound ≤ accuracyLimits.getD (i + 6) 0)) with
    | some i => 0x1D + i
    | none => 0x2F

/-- The bound that a received clockAccuracy gives (R118). -/
def boundOfAccuracy (code : Nat) : Nat := if 0x17 ≤ code ∧ code ≤ 0x2E then accuracyLimits.getD (code - 0x17) 0 else boundSat

/-- NTP root dispersion of a bound (R118). -/
def rootDispersion (bound : Nat) : Nat :=
  if bound = boundSat then 0xFFFFFFFF else ceilDiv (bound * 65536) 16000000000

/-! ### PTP ports (R119 to R129) -/

/-- A port's hidden state. -/
def Dev.ptp (d : Dev) (p : Nat) : PtpPort := d.tim.ports.get {} p

/-- Replace it. -/
def Dev.setPtp (d : Dev) (p : Nat) (x : PtpPort) : Dev := { d with tim := { d.tim with ports := d.tim.ports.put p x } }

/-- The state code of a port. -/
def Dev.ptpState (d : Dev) (p : Nat) : Nat := d.rd (F.TIM_PTP_STATUS_PORT_STATE.at [p])

/-- PTP is enabled on a port. -/
def Dev.ptpEn (d : Dev) (p : Nat) : Bool := d.on (F.TIM_PTP_CFG_EN.at [p])

/-- The link of a network port is up. -/
def Dev.linkUp (d : Dev) (p : Nat) : Bool := d.on (F.NET_STATUS_LINK.at [p])

/-- PROFILE and DOMAIN of a port: what makes an instance (R121). -/
def Dev.ptpGroup (d : Dev) (p : Nat) : Nat × Nat := (d.rd (F.TIM_PTP_CFG_PROFILE.at [p]), d.rd (F.TIM_PTP_CFG_DOMAIN.at [p]))

/-- The enabled ports of a port's instance, lowest first. -/
def Dev.instancePorts (d : Dev) (p : Nat) : List Nat :=
  (List.range 4).filter (fun q => d.ptpEn q && d.ptpGroup q = d.ptpGroup p)

/-- The instance number of a port: instances count in the order of their lowest ports. DESIGN CHOICE (log 194). -/
def Dev.instanceOf (d : Dev) (p : Nat) : Nat :=
  let first := (d.instancePorts p).headD p
  ((List.range first).filter (fun q => d.ptpEn q && (d.instancePorts q).headD q = q)).length

/-- A pair whose units share side A's identity (R128). -/
def Dev.sharedIdentity (d : Dev) : Bool := d.on F.PAIR_CFG_EN && d.obj 0x2412 2 0 1 = 1

/-- The clockIdentity of a port's instance: the EUI-64 with the instance added to its last octet, side A's in a pair that shares
its identity (R121, R128). -/
def Dev.clockId (d : Dev) (p : Nat) : Nat :=
  let own := ofBE (slice Config.eui64 0 8)
  let base := if d.sharedIdentity && d.pins.pairSide then Config.partnerEui64 else own
  base / 256 * 256 + (base + d.instanceOf p) % 256

/-- PTP may speak as a master in this mode (R129). -/
def Dev.masterMode (d : Dev) : Bool := d.serving

/-- PTP runs in this mode (R129). -/
def Dev.ptpMode (d : Dev) : Bool := d.booted && d.mode.mode != .maintenance && d.mode.mode != .safeHold

/-- Set a sticky bit of a port, and the port's bit of TIM_IRQ_STATUS. -/
def Dev.ptpSticky (d : Dev) (f : Fld) (p : Nat) : Dev :=
  (d.sticky (f.at [p]) p).flag { F.TIM_IRQ_STATUS_PTP_PORT0 with lo := 12 + p }

/-- TIME_ROLE (R144): 0 none, 1 grandmaster, 2 boundary, 3 follower. -/
def Dev.showTimeRole (d : Dev) : Dev :=
  let m := (List.range 4).any (fun p => d.ptpState p = 6)
  let f := (List.range 4).any (fun p => d.ptpState p = 9)
  let r := if m && f then 2 else if m then 1 else if f then 3 else 0
  if d.rd F.TIM_STATUS_TIME_ROLE = r then d
  else (d.wr F.TIM_STATUS_TIME_ROLE r).irq F.TIM_IRQ_STATUS_ROLE_CHANGE

/-- Clear a port's filter (R122). -/
def Dev.clearFilter (d : Dev) (p : Nat) : Dev :=
  d.setPtp p { d.ptp p with offsets := [], delays := [], syncs := 0, resps := 0, waiting := none, syncDiff := none, req := none }

/-- Enter a port state; leaving SLAVE makes the port's slot LOST (R84). -/
def Dev.setPtpState (d : Dev) (p v : Nat) : Dev :=
  let old := d.ptpState p
  if old = v then d
  else
    let d := d.wr (F.TIM_PTP_STATUS_PORT_STATE.at [p]) v
    let d := if old = 9 then d.loseSlot (10 + p) else d
    let d := if v = 8 then d.clearFilter p else d
    let d := if v = 9 then d.wr (F.REF_SLOT_STATUS_ACTIVITY.at [10 + p]) 1 else d
    (d.ptpSticky F.TIM_PTP_STICKY_STATE_CHANGE_SEEN p).showTimeRole

/-- Forget a port's master in its registers. -/
def Dev.noMaster (d : Dev) (p : Nat) : Dev :=
  let d := d.setPtp p { d.ptp p with master := none }
  let d := d.wr (F.TIM_PTP_STATUS_BOUND_TLV_SEEN.at [p]) 0
  let d := (d.wr (F.TIM_PTP_STATUS_MASTER_CLASS.at [p]) 255).wr (F.TIM_PTP_STATUS_MASTER_ACCURACY.at [p]) 0xFE
  d.wr (F.TIM_PTP_STATUS_STEPS_REMOVED.at [p]) 0

/-- The lowest port of an instance, from which PRIORITY1 and PRIORITY2 are taken (R121); CascadeRank overrides PRIORITY1
(R128). -/
def Dev.priority1 (d : Dev) (p : Nat) : Nat :=
  let r := d.rd F.PAIR_CAS_CFG_RANK
  if r = 0xFFFF then d.rd (F.TIM_PTP_CFG_PRIORITY1.at [(d.instancePorts p).headD p])
  else if r = 0 then d.obj 0x2412 3 0 64 else 128 + min r 127

/-- DEGRADED_CLASS. -/
def Dev.degradedClass (d : Dev) : Nat := d.obj 0x2412 1 0 187

/-- The clockClass of the device's own data set (R124). -/
def Dev.clockClass (d : Dev) (p : Nat) : Nat :=
  if d.on (F.TIM_PTP_CFG_SLAVE_ONLY.at [p]) then 255
  else if !d.on F.REF_SEL_STATUS_TIME_VALID then 248
  else if d.tpath = 2 then (if d.rd F.REF_SEL_STATUS_TIME_RANK ≤ 48 then 6 else 248)
  else if d.tpath = 3 then (if d.on F.REF_HO_STATUS_HO_EXPIRED then d.degradedClass else 7)
  else 248

/-- timeSource (R124). -/
def Dev.timeSource (d : Dev) : Nat :=
  if d.freqNow = some 5 && d.timeNow.isNone then 0x10
  else match d.timeNow with
    | some t =>
      if t = 4 then 0x20 else if 10 ≤ t ∧ t ≤ 13 then 0x40 else if t = 14 then d.tim.partnerSource else 0x90
    | none => 0xA0

/-- BOUND_TLV_EN with an organization identifier (R125). -/
def Dev.boundTlvOn (d : Dev) : Bool := d.obj 0x2414 1 0 0 = 1 && d.obj 0x2414 2 0 0 ≠ 0

/-- The device's own data set on a port (R124). -/
def Dev.ownData (d : Dev) (p : Nat) : PtpData :=
  let l := d.announceLeap
  { sender := ⟨d.clockId p, p + 1⟩, prio1 := d.priority1 p, cls := d.clockClass p, acc := accuracyOf (d.servedBound p),
    var := 0xFFFF, prio2 := d.rd (F.TIM_PTP_CFG_PRIORITY2.at [(d.instancePorts p).headD p]), gm := d.clockId p, steps := 0,
    utc := l.2.2, utcValid := true, leap61 := l.1, leap59 := l.2.1, timeSource := d.timeSource,
    bound := if d.boundTlvOn then some (d.servedBound p) else none }

/-- Lexicographic comparison of two lists of numbers. -/
def lexLess : List Nat → List Nat → Bool
  | a :: as, b :: bs => if a < b then true else if b < a then false else lexLess as bs
  | _, _ => false

/-- Data set comparison (default BMCA): the grandmaster's data, then for one grandmaster the fewer steps and the lower sender. -/
def PtpData.better (a b : PtpData) : Bool :=
  if a.gm = b.gm then lexLess [a.steps, a.sender.clock, a.sender.port] [b.steps, b.sender.clock, b.sender.port]
  else lexLess [a.prio1, a.cls, a.acc, a.var, a.prio2, a.gm] [b.prio1, b.cls, b.acc, b.var, b.prio2, b.gm]

/-- A port's announce interval in cycles: 2 ^ LOG_ANNOUNCE seconds. -/
def Dev.announceCycles (d : Dev) (p : Nat) : Nat :=
  let l := d.rdS (F.TIM_PTP_INTV_LOG_ANNOUNCE.at [p])
  if 0 ≤ l then 400000000 * 2 ^ l.toNat else 400000000 / 2 ^ (-l).toNat

/-- A foreign master qualifies: two Announces within four announce intervals, and the last not older than the timeout. DESIGN CHOICE (log 66). -/
def Dev.foreignOk (d : Dev) (p : Nat) (f : Foreign) : Bool :=
  let i := d.announceCycles p
  let fresh := decide (d.time.cycles ≤ f.last + i * d.rd (F.TIM_PTP_INTV_ANN_TIMEOUT.at [p]))
  fresh && (match f.before with | some b => decide (f.last ≤ b + 4 * i) | none => false)

/-- The best qualified foreign master of a port. -/
def Dev.bestForeign (d : Dev) (p : Nat) : Option PtpData :=
  ((d.ptp p).foreigns.filter (d.foreignOk p)).foldl
    (fun best f => match best with
      | none => some f.data
      | some b => if f.data.better b then some f.data else some b) none

/-- The best foreign master of an instance and its port. -/
def Dev.bestOfInstance (d : Dev) (p : Nat) : Option (Nat × PtpData) :=
  (d.instancePorts p).foldl (fun best q =>
    match d.bestForeign q, best with
    | some x, none => some (q, x)
    | some x, some (r, y) => if x.better y then some (q, x) else some (r, y)
    | none, b => b) none

/-- The rank, the bound and the master registers of a port follow its master's Announce (R86, R122, R123). -/
def Dev.takeMaster (d : Dev) (p : Nat) (m : PtpData) : Dev :=
  let d := d.setPtp p { d.ptp p with master := some m }
  let d := d.wrBit (F.TIM_PTP_STATUS_BOUND_TLV_SEEN.at [p]) m.bound.isSome
  let d := (d.wr (F.TIM_PTP_STATUS_MASTER_CLASS.at [p]) m.cls).wr (F.TIM_PTP_STATUS_MASTER_ACCURACY.at [p]) m.acc
  let d := d.wr (F.TIM_PTP_STATUS_STEPS_REMOVED.at [p]) (min m.steps 255)
  let d := d.setSlot (10 + p) { d.slot (10 + p) with advRank := ptpRank m.cls m.acc }
  let hop := d.rd (F.TIM_PTP_INTV_HOP_ALLOW.at [p])
  d.wr (F.REF_SLOT_ADV_BOUND_RO_ADV_BOUND.at [5 + p])
    (match m.bound with | some b => b | none => boundSum [boundOfAccuracy m.acc, m.steps * hop])

/-- The port runs slave-only: SLAVE_ONLY, or a mode that forces it (R129). -/
def Dev.slaveOnly (d : Dev) (p : Nat) : Bool := d.on (F.TIM_PTP_CFG_SLAVE_ONLY.at [p]) || !d.masterMode

/-- Better by topology (default BMCA): for one grandmaster a path no longer than the other's, or one step shorter where the other was
received on a port whose identity lies above its sender's. -/
def PtpData.sameTree (m x : PtpData) (receiver : PtpId) : Bool :=
  m.better x && m.gm = x.gm &&
    (m.steps = x.steps || (m.steps + 1 = x.steps && lexLess [x.sender.clock, x.sender.port] [receiver.clock, receiver.port]))

/-- What the BMCA decides for a port. -/
inductive BmcaDecision where
  | master
  | slave (m : PtpData)
  | passive
  | listening
  deriving DecidableEq, Repr

/-- The BMCA decision of one port (R122): the best foreign master of the instance against the device's own data. `slave` is a port that may
not be master. -/
def Dev.bmcaDecision (d : Dev) (p : Nat) (slave : Bool) : BmcaDecision :=
  match if d.on (F.TIM_PTP_CFG_MASTER_ONLY.at [p]) then none else d.bestOfInstance p with
  | some (q, m) =>
    if !(slave || m.better (d.ownData p)) then .master
    else if q = p then .slave m
    else if slave then .listening
    else match d.bestForeign p with
      | some x => if m.sameTree x ⟨d.clockId p, p + 1⟩ then .passive else .master
      | none => .master
  | none => if slave then .listening else .master

/-- A port acts on its decision (R122): a master, a former one too, comes through PRE_MASTER, a follower through UNCALIBRATED. DEDUCED
(log 66). -/
def Dev.bmcaPort (d : Dev) (p : Nat) : Dev :=
  let st := d.ptpState p
  if st < 4 then d
  else match d.bmcaDecision p (d.slaveOnly p) with
    | .slave m =>
      let same : Bool := match (d.ptp p).master with | some x => x.sender = m.sender | none => false
      let d := d.takeMaster p m
      if (st = 8 ∨ st = 9) ∧ same then d
      else if st = 8 then d.clearFilter p
      else d.setPtpState p 8
    | .passive => (d.noMaster p).setPtpState p 7
    | .listening => if st = 4 then d else (d.noMaster p).setPtpState p 4
    | .master => if st = 5 then d else (d.noMaster p).setPtpState p 5

/-- The BMCA over every port of an instance. DESIGN CHOICE (log 66). -/
def Dev.bmca (d : Dev) (p : Nat) : Dev := (d.instancePorts p).foldl Dev.bmcaPort d

/-- A port forgets what it received; its sequenceIds and its counts of discarded messages go on. -/
def Dev.resetPtp (d : Dev) (p : Nat) : Dev :=
  let x := d.ptp p
  d.setPtp p { annSeq := x.annSeq, syncSeq := x.syncSeq, reqSeq := x.reqSeq, pdelays := x.pdelays, managements := x.managements,
               unauthentic := x.unauthentic }

/-- Bring a port's state into line with EN, the mode and its link (R122, R129). -/
def Dev.ptpRefreshPort (d : Dev) (p : Nat) : Dev :=
  if !d.ptpEn p || !d.ptpMode then (if d.ptpState p = 3 then d else ((d.resetPtp p).noMaster p).setPtpState p 3)
  else
    let d := if d.ptpState p = 3 then d.setPtpState p 1 else d
    if !d.linkUp p then (if d.ptpState p = 2 then d else ((d.resetPtp p).noMaster p).setPtpState p 2)
    else if d.ptpState p = 1 ∨ d.ptpState p = 2 then d.setPtpState p 4
    else if !d.masterMode && (d.ptpState p = 5 || d.ptpState p = 6 || d.ptpState p = 7) then d.setPtpState p 4
    else d

/-- Every port follows EN, the mode and its link; INSTANCE and CFG_CONFLICT are shown (R121). DESIGN CHOICE (log 73). -/
def Dev.ptpRefresh (d : Dev) : Dev :=
  (List.range 4).foldl (fun d p =>
    let d := d.ptpRefreshPort p
    let first := (d.instancePorts p).headD p
    let clash := d.ptpEn p &&
      (d.rd (F.TIM_PTP_CFG_PRIORITY1.at [p]) ≠ d.rd (F.TIM_PTP_CFG_PRIORITY1.at [first]) ||
        d.rd (F.TIM_PTP_CFG_PRIORITY2.at [p]) ≠ d.rd (F.TIM_PTP_CFG_PRIORITY2.at [first]))
    (d.wr (F.TIM_PTP_STATUS_INSTANCE.at [p]) (d.instanceOf p)).wrBit (F.TIM_PTP_STATUS_CFG_CONFLICT.at [p]) clash) d

/-- On a change to a serving mode the ports run the BMCA again at once (R129). DESIGN CHOICE (log 73). -/
def Dev.ptpServe (d : Dev) : Dev := if d.masterMode then (List.range 4).foldl Dev.bmcaPort d.ptpRefresh else d.ptpRefresh

/-! ### PTP messages -/

/-- A decoded PTP header (IEEE 1588-2019). -/
structure PtpHead where
  kind : Nat
  domain : Nat
  flags : Nat
  corr : Int
  id : PtpId
  seq : Nat
  deriving DecidableEq, Repr

/-- Read a header. -/
def ptpHead (m : List Byte) : PtpHead :=
  ⟨beAt m 0 1 % 16, beAt m 4 1, beAt m 6 2, sgn 64 (beAt m 8 8), ⟨beAt m 20 8, beAt m 28 2⟩, beAt m 30 2⟩

/-- The 80-bit timestamp at the start of a body. -/
def ptpStamp (m : List Byte) : Tai := ⟨beAt m 34 6, beAt m 40 4, 0⟩

/-- The TLVs of a message as (position, type, length). -/
def tlvs (m : List Byte) : Nat → Nat → List (Nat × Nat × Nat)
  | 0, _ => []
  | n + 1, i =>
    if m.length < i + 4 then []
    else
      let l := beAt m (i + 2) 2
      if m.length < i + 4 + l then [] else (i, beAt m i 2, l) :: tlvs m n (i + 4 + l)

/-- Where the TLVs of a message begin. -/
def tlvStart (kind : Nat) : Nat := if kind = 0xB then 64 else if kind = 9 then 54 else 44

/-- Annex P (R127): the last TLV is an AUTHENTICATION TLV under a key of the instance whose HMAC-SHA-256-128 holds. -/
def Dev.ptpAuthentic (d : Dev) (p : Nat) (m : List Byte) : Bool :=
  match (tlvs m 16 (tlvStart (ptpHead m).kind)).getLast? with
  | some (i, t, l) =>
    t = 0x8009 && l = 22 && (List.range 8).any (fun r =>
      d.obj 0x2413 1 r = beAt m (i + 6) 4 && d.obj 0x2413 2 r = beAt m (i + 4) 1 &&
        bitAt (d.obj 0x2413 5 r) (d.instanceOf p) && slice m (i + 10) 16 = hmac16 (toBE 32 (d.obj 0x2413 3 r)) (m.take (i + 10)))
  | none => false

/-- Accept a received message (R119, R122, R127): the port runs, the domain is its own, and Annex P holds where AUTH_REQ is
1; a message that fails is discarded, counted and shown by AUTH_FAIL_SEEN. -/
def Dev.ptpAccept (d : Dev) (p : Nat) (kind : Nat) (m : List Byte) : Dev × Bool :=
  let h := ptpHead m
  if d.ptpState p < 4 || h.kind ≠ kind || m.length < tlvStart kind || h.domain ≠ d.rd (F.TIM_PTP_CFG_DOMAIN.at [p]) ||
      h.id.clock = d.clockId p then (d, false)
  else if d.on (F.TIM_PTP_CFG_AUTH_REQ.at [p]) && !d.ptpAuthentic p m then
    ((d.setPtp p { d.ptp p with unauthentic := (d.ptp p).unauthentic + 1 }).ptpSticky F.TIM_PTP_STICKY_AUTH_FAIL_SEEN p, false)
  else
    let ours := match (d.ptp p).master with | some x => x.sender = h.id | none => false
    (if kind ≠ 1 && ours && d.qualified (10 + p) then d.islandHeard else d, true)

/-- The bound TLV of a received Announce (R125). -/
def Dev.boundTlvOf (d : Dev) (m : List Byte) : Option Nat :=
  if !d.boundTlvOn then none
  else (tlvs m 16 64).findSome? (fun t =>
    if t.2.1 = 0x4000 ∧ t.2.2 = 10 ∧ beAt m (t.1 + 4) 3 = d.obj 0x2414 2 0 ∧ beAt m (t.1 + 7) 3 = d.obj 0x2414 3 0 then
      some (beAt m (t.1 + 10) 4) else none)

/-- The data set of a received Announce. -/
def Dev.dataOf (d : Dev) (m : List Byte) : PtpData :=
  let h := ptpHead m
  { sender := h.id, prio1 := beAt m 47 1, cls := beAt m 48 1, acc := beAt m 49 1, var := beAt m 50 2, prio2 := beAt m 52 1,
    gm := beAt m 53 8, steps := beAt m 61 2, utc := sgn 16 (beAt m 44 2), utcValid := bitAt h.flags 2,
    leap61 := bitAt h.flags 0, leap59 := bitAt h.flags 1, timeSource := beAt m 63 1, bound := d.boundTlvOf m }

/-- Remember a foreign master. -/
def Dev.noteForeign (d : Dev) (p : Nat) (m : PtpData) : Dev :=
  let x := d.ptp p
  let before := match x.foreigns.find? (fun f => f.data.sender = m.sender) with | some f => some f.last | none => none
  d.setPtp p { x with foreigns := x.foreigns.filter (fun f => f.data.sender ≠ m.sender) ++ [⟨m, d.time.cycles, before⟩] }

/-- What the Announce of the time-selected PTP slot gives of UTC under AUTO (R114, R115). DEDUCED (log 62). -/
def Dev.announceUtc (d : Dev) (p : Nat) (m : PtpData) : Dev :=
  if d.on F.TIM_UTC_CFG_SRC || d.timeNow ≠ some (10 + p) then d
  else
    let armed := match d.tim.leap with | some l => !l.stepped | none => false
    if m.leap61 || m.leap59 then
      if m.utc ≠ d.utcOffset then d
      else
        let old := d.utcOffset
        let new := if m.leap59 then old - 1 else old + 1
        let utc := (d.time.tai.sec : Int) - old
        let at_ := ((utc / 86400 + 1) * 86400 + min old new).toNat
        let same : Bool := match d.tim.leap with | some l => l.at_ = at_ && l.new = new | none => false
        if same then d else (d.armLeap at_ m.leap59 true).1
    else if m.utcValid && !armed then { d with tim := { d.tim with utcNext := some m.utc } } else d

/-- PTP_ANNOUNCE_RX (R122, R123, R125, R114). -/
def execPtpAnnounceRx (port : Fin 4) (message : List Byte) (s : State) : Host.Outcome State Fault Refusal :=
  s.act fun d =>
    if !d.booted then d
    else
      let a := d.ptpAccept port 0xB message
      if !a.2 then a.1
      else
        let m := a.1.dataOf message
        let d := (a.1.noteForeign port m).bmca port
        match (d.ptp port).master with
        | some x => if x.sender = m.sender then (d.takeMaster port m).announceUtc port m else d
        | none => d

/-- INT_LAT at the present speed (R126), a value of the device that the spec does not state. DESIGN CHOICE (log 68). -/
def Dev.intLat (d : Dev) (p : Nat) (tx : Bool) : Nat :=
  ((Config.freeOf Config.Site.intLat.num [(d.rd (F.NET_STATUS_SPEED_ACTIVE.at [p]) : Nat), (bit tx : Nat)]) % 65536).toNat

/-- An ingress time (R126): detection − INT_LAT_RX − RX_CAL. -/
def Dev.ingress (d : Dev) (p : Nat) (detected : Tai) : Tai :=
  detected.addSub (-((d.intLat p false : Int) + d.rdS (F.TIM_PTP_RX_CAL_RX_CAL.at [p])) * 4096)

/-- An egress time (R126): launch + INT_LAT_TX + TX_CAL. -/
def Dev.egress (d : Dev) (p : Nat) (launch : Tai) : Tai :=
  launch.addSub (((d.intLat p true : Int) + d.rdS (F.TIM_PTP_TX_CAL_TX_CAL.at [p])) * 4096)

/-- Keep the newest `n`. -/
def lastN {α : Type} (n : Nat) (l : List α) : List α := l.drop (l.length - n)

/-- The mean path delay in 2⁻¹⁶ ns (R123): the mean of the 4 smallest of the last 16 samples. DESIGN CHOICE (log 67). -/
def PtpPort.pathDelay (x : PtpPort) : Int :=
  let small := (sortInts x.delays).take 4
  if small.isEmpty then 0 else Config.openDiv 9 small.sum small.length

/-- Whether every offset sample lies within 1 µs of the median (R122). -/
def PtpPort.settled (x : PtpPort) : Bool :=
  let m := median2 x.offsets
  x.offsets.all (fun o => decide ((2 * o - m).natAbs ≤ 2 * 1000 * 65536))

/-- Whether a port follows the sender of a message. -/
def Dev.fromMaster (d : Dev) (p : Nat) (h : PtpHead) : Bool :=
  (d.ptpState p = 8 || d.ptpState p = 9) &&
    (match (d.ptp p).master with | some m => m.sender = h.id | none => false)

/-- UNCALIBRATED ends (R122): 8 Syncs and 4 Delay_Resps, the offset samples settled. -/
def Dev.calibrated (d : Dev) (p : Nat) : Dev :=
  let x := d.ptp p
  if d.ptpState p = 8 && decide (8 ≤ x.syncs) && decide (4 ≤ x.resps) && x.settled then d.setPtpState p 9 else d

/-- The filtered offset (R123) goes to its register and, in SLAVE, with its sign turned, to the slot. -/
def Dev.showOffset (d : Dev) (p : Nat) : Dev :=
  let x := d.ptp p
  if x.offsets.isEmpty then d
  else
    let off := Config.openDiv 10 (median2 x.offsets) (2 * 4096)
    let d := d.wrS (F.TIM_PTP_OFFSET_OFFSET.at [p]) off
    if d.ptpState p = 9 then d.setPhase (10 + p) (-off) else d

/-- A Sync's times give an offset sample (R123). `diff` is ingress − origin − corrections. -/
def Dev.syncSample (d : Dev) (p : Nat) (diff : Int) : Dev :=
  let x := d.ptp p
  let off := diff - x.pathDelay - d.rdS (F.TIM_PTP_ASYM_CORR_ASYM_CORR.at [p]) * 4096
  let d := d.setPtp p { x with offsets := lastN 8 (x.offsets ++ [off]), syncs := x.syncs + 1, syncDiff := some diff,
                               waiting := none }
  (d.calibrated p).showOffset p

/-- PTP_SYNC_RX (R123): a one-step Sync gives its sample, a two-step Sync waits for its Follow_Up. -/
def execPtpSyncRx (port : Fin 4) (message : List Byte) (detected : Tai) (s : State) : Host.Outcome State Fault Refusal :=
  s.act fun d =>
    if !d.booted then d
    else
      let a := d.ptpAccept port 0 message
      let h := ptpHead message
      if !a.2 || !a.1.fromMaster port h then a.1
      else
        let t2 := a.1.ingress port detected
        if bitAt h.flags 9 then a.1.setPtp port { a.1.ptp port with waiting := some (h.seq, t2, h.corr) }
        else a.1.syncSample port ((t2.toSub : Int) - (ptpStamp message).toSub - h.corr)

/-- PTP_FOLLOW_UP_RX (R119, R123): it completes the two-step Sync of its sequenceId. -/
def execPtpFollowUpRx (port : Fin 4) (message : List Byte) (s : State) : Host.Outcome State Fault Refusal :=
  s.act fun d =>
    if !d.booted then d
    else
      let a := d.ptpAccept port 8 message
      let h := ptpHead message
      if !a.2 || !a.1.fromMaster port h then a.1
      else match (a.1.ptp port).waiting with
        | some (seq, t2, corr) =>
          if seq = h.seq then a.1.syncSample port ((t2.toSub : Int) - (ptpStamp message).toSub - corr - h.corr) else a.1
        | none => a.1

/-- PTP_DELAY_RESP_RX (R123): the answer to the last Delay_Req gives a path-delay sample. -/
def execPtpDelayRespRx (port : Fin 4) (message : List Byte) (s : State) : Host.Outcome State Fault Refusal :=
  s.act fun d =>
    if !d.booted then d
    else
      let a := d.ptpAccept port 9 message
      let h := ptpHead message
      let d := a.1
      if !a.2 || !d.fromMaster port h || beAt message 44 8 ≠ d.clockId port || beAt message 52 2 ≠ port + 1 then d
      else match (d.ptp port).req, (d.ptp port).syncDiff with
        | some (seq, t3), some diff =>
          if seq = h.seq then
            let back := ((ptpStamp message).toSub : Int) - t3.toSub - h.corr
            let x := d.ptp port
            let x := { x with delays := lastN 16 (x.delays ++ [Config.openDiv 11 (diff + back) 2]), resps := x.resps + 1,
                              req := none }
            let d := d.setPtp port x
            let d := d.wr (F.TIM_PTP_PATH_DELAY_PATH_DELAY.at [port])
              (min boundSat (Config.openDiv 12 (max 0 x.pathDelay) 4096).toNat)
            d.calibrated port
          else d
        | _, _ => d

/-! ### Sending PTP -/

/-- The flag field of the messages a port sends: twoStep, unicast, and for an Announce its data's flags. -/
def ptpFlags (twoStep unicast : Bool) (low : Nat) : Nat := bit twoStep * 512 + bit unicast * 1024 + low

/-- A PTP message: its header over a body, then its TLVs. -/
def Dev.ptpMessage (d : Dev) (p kind flags : Nat) (corr : Int) (seq : Nat) (interval : Int) (body tlv : List Byte) : List Byte :=
  let key := (List.range 8).find? (fun r => d.obj 0x2413 4 r = 1 && bitAt (d.obj 0x2413 5 r) (d.instanceOf p))
  let auth := match key with | some _ => 26 | none => 0
  let ctrl := if kind = 0 then 0 else if kind = 1 then 1 else if kind = 8 then 2 else if kind = 9 then 3 else 5
  let head := toBE 1 kind ++ toBE 1 2 ++ toBE 2 (34 + body.length + tlv.length + auth) ++
    toBE 1 (d.rd (F.TIM_PTP_CFG_DOMAIN.at [p])) ++ toBE 1 0 ++ toBE 2 flags ++ toBE 8 (unsgn 64 corr) ++ toBE 4 0 ++
    toBE 8 (d.clockId p) ++ toBE 2 (p + 1) ++ toBE 2 seq ++ toBE 1 ctrl ++ toBE 1 (unsgn 8 interval)
  let plain := head ++ body ++ tlv
  match key with
  | none => plain
  | some r =>
    let t := plain ++ toBE 2 0x8009 ++ toBE 2 22 ++ toBE 1 (d.obj 0x2413 2 r) ++ toBE 1 0 ++ toBE 4 (d.obj 0x2413 1 r)
    t ++ hmac16 (toBE 32 (d.obj 0x2413 3 r)) t

/-- The 10-byte timestamp of a body. -/
def stampBytes (t : Tai) : List Byte := toBE 6 t.sec ++ toBE 4 t.ns

/-- What CRC_TIME covers of a message: messageType, domainNumber, sourcePortIdentity and sequenceId (R309). -/
def seriesBytes (m : List Byte) : List Byte := slice m 0 1 ++ slice m 4 1 ++ slice m 20 10 ++ slice m 30 2

/-- Where a port sends its multicast messages (R119): over UDP to 224.0.1.129, in 16 bytes; over IEEE 802.3 to the 6 bytes of
01-1B-19-00-00-00. -/
def Dev.ptpDest (d : Dev) (p : Nat) : List Byte :=
  if d.on (F.TIM_PTP_CFG_TRANSPORT.at [p]) then toBE 16 (0xFFFF * 2 ^ 32 + 0xE0000181) else toBE 6 0x011B19000000

/-- A PTP message leaves in its class (R179): events before general messages. -/
def Dev.launchPtp (d : Dev) (p : Nat) (dest m : List Byte) : Dev :=
  d.send p (if (ptpHead m).kind ≤ 1 then clsPtpEvent else clsPtpGeneral) (.ptp p dest m)

/-- Send a message of a series: a standby computes it in step and does not transmit it (R128). DESIGN CHOICE (log 74). -/
def Dev.sendPtp (d : Dev) (p : Nat) (launch : Tai) (m : List Byte) : Dev :=
  let d := if d.on F.PAIR_CFG_EN then { d with tim := { d.tim with series := d.tim.series ++ [(launch, p, seriesBytes m)] } } else d
  if d.standby then d else d.launchPtp p (d.ptpDest p) m

/-- A port sends a master's messages: it is MASTER, or a standby that shares the identity computes what the active, whose port the BMCA
makes a master, sends (R128). DESIGN CHOICE (log 74). -/
def Dev.mastersOn (d : Dev) (p : Nat) : Bool :=
  (d.ptpState p = 6 && d.masterMode) ||
    (d.standby && d.sharedIdentity && d.ptpEn p && decide (4 ≤ d.ptpState p) &&
      decide (d.bmcaDecision p (d.on (F.TIM_PTP_CFG_SLAVE_ONLY.at [p])) = .master))

/-- PTP_ANNOUNCE_TX (R124, R125): no Announce while TAI has not been set. -/
def execPtpAnnounceTx (port : Fin 4) (s : State) : Host.Outcome State Fault Refusal :=
  s.act fun d =>
    if !d.booted || !d.mastersOn port || !d.on F.REF_SEL_STATUS_TIME_VALID then d
    else
      let x := d.ownData port
      let trace := decide (x.cls = 6 ∨ x.cls = 7)
      let low := bit x.leap61 + 2 * bit x.leap59 + 4 + 8 + 16 * bit trace + 32 * bit (decide (d.fpath = 2))
      let body := stampBytes ⟨0, 0, 0⟩ ++ toBE 2 (unsgn 16 x.utc) ++ toBE 1 0 ++ toBE 1 x.prio1 ++ toBE 1 x.cls ++ toBE 1 x.acc ++
        toBE 2 x.var ++ toBE 1 x.prio2 ++ toBE 8 x.gm ++ toBE 2 x.steps ++ toBE 1 x.timeSource
      let tlv := match x.bound with
        | some b => toBE 2 0x4000 ++ toBE 2 10 ++ toBE 3 (d.obj 0x2414 2 0) ++ toBE 3 (d.obj 0x2414 3 0) ++ toBE 4 b
        | none => []
      let seq := (d.ptp port).annSeq
      let m := d.ptpMessage port 0xB (ptpFlags false false low) 0 seq (d.rdS (F.TIM_PTP_INTV_LOG_ANNOUNCE.at [port])) body tlv
      (d.setPtp port { d.ptp port with annSeq := (seq + 1) % 65536 }).sendPtp port d.time.tai m

/-- PTP_SYNC_TX (R119, R126): one-step, or a Sync and its Follow_Up. -/
def execPtpSyncTx (port : Fin 4) (launch : Tai) (s : State) : Host.Outcome State Fault Refusal :=
  s.act fun d =>
    if !d.booted || !d.mastersOn port then d
    else
      let t := d.egress port launch
      let seq := (d.ptp port).syncSeq
      let lg := d.rdS (F.TIM_PTP_INTV_LOG_SYNC.at [port])
      let d := d.setPtp port { d.ptp port with syncSeq := (seq + 1) % 65536 }
      if d.on (F.TIM_PTP_CFG_ONE_STEP.at [port]) then
        d.sendPtp port launch (d.ptpMessage port 0 (ptpFlags false false 0) t.sub seq lg (stampBytes t) [])
      else
        let d := d.sendPtp port launch (d.ptpMessage port 0 (ptpFlags true false 0) 0 seq lg (stampBytes ⟨0, 0, 0⟩) [])
        d.sendPtp port launch (d.ptpMessage port 8 (ptpFlags false false 0) t.sub seq lg (stampBytes t) [])

/-- PTP_DELAY_REQ_TX (R129): a port that follows a master measures its path. -/
def execPtpDelayReqTx (port : Fin 4) (launch : Tai) (s : State) : Host.Outcome State Fault Refusal :=
  s.act fun d =>
    if !d.booted || !(d.ptpState port = 8 || d.ptpState port = 9) then d
    else
      let x := d.ptp port
      let m := d.ptpMessage port 1 (ptpFlags false false 0) 0 x.reqSeq 0x7F (stampBytes ⟨0, 0, 0⟩) []
      let d := d.setPtp port { x with req := some (x.reqSeq, d.egress port launch), reqSeq := (x.reqSeq + 1) % 65536 }
      d.launchPtp port (d.ptpDest port) m

/-- PTP_DELAY_REQ_RX (R119, R128): answered in kind, a unicast request to the address it came from; a standby computes the answers to
multicast requests. -/
def execPtpDelayReqRx (port : Fin 4) (message : List Byte) (detected : Tai) (unicast : Option (List Byte)) (s : State) :
    Host.Outcome State Fault Refusal :=
  s.act fun d =>
    if !d.booted then d
    else
      let a := d.ptpAccept port 1 message
      let d := a.1
      let h := ptpHead message
      if !a.2 || !d.mastersOn port || (unicast.isSome && d.standby) then d
      else
        let t4 := d.ingress port detected
        let body := stampBytes t4 ++ toBE 8 h.id.clock ++ toBE 2 h.id.port
        let m := d.ptpMessage port 9 (ptpFlags false unicast.isSome 0) (h.corr - t4.sub) h.seq
          (d.rdS (F.TIM_PTP_INTV_LOG_DELAY_REQ.at [port])) body []
        match unicast with
        | some source => d.launchPtp port source m
        | none => d.sendPtp port d.time.tai m

/-- PTP_MESSAGE_DISCARD (R119): Pdelay and management messages are discarded, counted and shown. -/
def execPtpMessageDiscard (port : Fin 4) (management : Bool) (s : State) : Host.Outcome State Fault Refusal :=
  s.act fun d =>
    if !d.booted || d.ptpState port < 4 then d
    else
      let x := d.ptp port
      let d := d.setPtp port (if management then { x with managements := x.managements + 1 } else { x with pdelays := x.pdelays + 1 })
      d.ptpSticky (if management then F.TIM_PTP_STICKY_MGMT_DISCARD_SEEN else F.TIM_PTP_STICKY_PDELAY_SEEN) port

/-- ANNOUNCE_RECEIPT_TIMEOUT (R122): a follower returns to LISTENING and its slot is LOST; a listening or passive port takes
its BMCA decision. -/
def execAnnounceReceiptTimeout (port : Fin 4) (s : State) : Host.Outcome State Fault Refusal :=
  s.act fun d =>
    if !d.booted then d
    else
      let st := d.ptpState port
      if st = 8 ∨ st = 9 then
        let d := d.ptpSticky F.TIM_PTP_STICKY_TIMEOUT_SEEN port
        let gone := match (d.ptp port).master with | some m => some m.sender | none => none
        let d := d.setPtp port { d.ptp port with foreigns := (d.ptp port).foreigns.filter (fun f => some f.data.sender ≠ gone) }
        (d.noMaster port).setPtpState port 4
      else if st = 4 ∨ st = 7 then d.bmcaPort port
      else d

/-- QUALIFICATION_TIMEOUT (R122): PRE_MASTER becomes MASTER in a mode that serves time. -/
def execQualificationTimeout (port : Fin 4) (s : State) : Host.Outcome State Fault Refusal :=
  s.act fun d => if d.booted && d.ptpState port = 5 && d.masterMode then d.setPtpState port 6 else d

/-! ### NTS keys (R137) -/

/-- STATE of a key row: 0 EMPTY, 1 ACCEPT, 2 ISSUE. DESIGN CHOICE (log 72). -/
def Dev.ntsState (d : Dev) (r : Nat) : Nat := d.obj 0x2500 3 r

/-- A row that waits to issue (R137): the model keeps the mark as field 6 of the row, 1 for the strobe, 2 for ACTIVATE_AT. DESIGN CHOICE (log 72). -/
def Dev.ntsWaits (d : Dev) (r : Nat) : Nat := d.obj 0x2500 6 r

/-- The issuing row. -/
def Dev.ntsIssuer (d : Dev) : Option Nat := (List.range 4).find? (fun r => d.ntsState r = 2)

/-- ACTIVATE_AT of a row lies after an instant. -/
def Dev.ntsLater (d : Dev) (r : Nat) (t : Tai) : Bool := t.lt (Tai.of80 (d.obj 0x2500 4 r))

/-- The row that issues for a request by its ingress (R137): a row that waits to issue from its ACTIVATE_AT on, and the row before the
issuing one for a request that came in before its ACTIVATE_AT. -/
def Dev.ntsIssuerAt (d : Dev) (rx : Tai) : Option Nat :=
  match (List.range 4).find? (fun r => d.ntsWaits r = 2 && d.ntsState r ≠ 0 && !d.ntsLater r rx) with
  | some r => some r
  | none => match d.ntsIssuer, d.tim.prevIssuer with
    | some r, some q => if d.ntsLater r rx && d.ntsState q ≠ 0 then some q else some r
    | i, _ => i

/-- A row becomes the issuing row, the previous one ACCEPT in the same step (R137). -/
def Dev.ntsIssue (d : Dev) (r : Nat) : Dev :=
  let d := { d with tim := { d.tim with prevIssuer := d.ntsIssuer } }
  let d := match d.ntsIssuer with | some q => d.setObj 0x2500 3 q 1 | none => d
  ((d.setObj 0x2500 3 r 2).setObj 0x2500 6 r 0).irq F.TIM_IRQ_STATUS_NTS_KEY_ROTATED

/-- NTS_KEY_ACTIVATE (R137). -/
def execNtsKeyActivate (row : Fin 4) (s : State) : Host.Outcome State Fault Refusal :=
  s.act fun d =>
    if d.booted && d.ntsWaits row = 2 && (Tai.of80 (d.obj 0x2500 4 row)).le d.time.tai then d.ntsIssue row else d

/-- Zeroise a key row. -/
def Dev.ntsClear (d : Dev) (r : Nat) : Dev := (List.range 6).foldl (fun d f => d.setObj 0x2500 (f + 1) r 0) d

/-- NTS_KEY_EXPIRE (R137). -/
def execNtsKeyExpire (row : Fin 4) (s : State) : Host.Outcome State Fault Refusal :=
  s.act fun d =>
    let at_ := d.obj 0x2500 5 row
    if d.booted && at_ ≠ 0 && d.ntsState row ≠ 0 && (Tai.of80 at_).le d.time.tai then
      let issuing := decide (d.ntsState row = 2)
      let d := (d.ntsClear row).irq F.TIM_IRQ_STATUS_NTS_KEY_EXPIRED row
      if issuing then d.irq F.TIM_IRQ_STATUS_NO_ISSUE_KEY else d
    else d

/-! ### The NTP responder (R130 to R142) -/

/-- The counters at +0x140, in the order of R144. -/
def ntpCount (n : Nat) : Fld := F.TIM_NTP_COUNT_COUNT.at [n]

/-- Units of a kind in service (R34): the nominal count less the lost and the shed. -/
def Dev.inService (d : Dev) (kind nominal : Nat) : Nat :=
  nominal - (d.cap.lost.filter (fun u => u.1 = kind)).length - d.cap.shed.get 0 kind

/-- The units of time service in service (R142). -/
def Dev.tsUnits (d : Dev) : Nat := d.inService 7 20

/-- NTP's 64-bit timestamp of a TAI instant (R132), under the offset in force at that instant (R116). -/
def Dev.ntpStamp (d : Dev) (t : Tai) : Nat :=
  let sec := (((t.sec : Int) - d.offsetAt t.sec + 2208988800) % 2 ^ 32).toNat
  sec * 2 ^ 32 + (t.ns * 65536 + t.sub) * 2 ^ 32 / (1000000000 * 65536)

/-- The extension fields of a packet as (position, type, whole length), up to the first that is malformed, and whether they reach its end. -/
def ntpFields (m : List Byte) : Nat → Nat → List (Nat × Nat × Nat) × Bool
  | 0, _ => ([], false)
  | n + 1, i =>
    if m.length = i then ([], true)
    else
      let l := beAt m (i + 2) 2
      if m.length < i + 4 then ([], false)
      else if l < 4 ∨ l % 4 ≠ 0 ∨ m.length < i + l then ([(i, beAt m i 2, l)], false)
      else
        let r := ntpFields m n (i + l)
        ((i, beAt m i 2, l) :: r.1, r.2)

/-- An entry as the table holds it (R140), with its CRC-32C. -/
def Client.bytes (c : Client) : List Byte :=
  let b := slice c.key 0 16 ++ toLE 4 c.seen ++ toLE 4 c.tokens ++ toLE 4 c.count ++ toLE 4 (c.kissed.getD 0) ++
    toLE 1 (bit c.nts + 2 * bit c.overflow) ++ List.replicate 27 0
  b ++ toLE 4 (crc32c b)

/-- The entry that 64 bytes hold, none where its CRC fails. A kiss at second 0 stands for none. DESIGN CHOICE (log 71). -/
def Client.ofBytes (b : List Byte) : Option Client :=
  if leAt b 60 4 = crc32c (slice b 0 60) then
    some { key := slice b 0 16, seen := leAt b 16 4, tokens := leAt b 20 4, count := leAt b 24 4,
           kissed := if leAt b 28 4 = 0 then none else some (leAt b 28 4), nts := bitAt (leAt b 32 1) 0, overflow := bitAt (leAt b 32 1) 1 }
  else none

/-- A client's key (R140): the IPv4 address, or the upper 64 bits of the IPv6 address, in 16 bytes. -/
def clientKey (source : List Byte) : List Byte :=
  let a := slice source 0 16
  if a.take 12 = List.replicate 10 0 ++ [0xFF, 0xFF] then a else a.take 8 ++ List.replicate 8 0

/-- The set that a client's key hashes to. The spec does not give the hash. DESIGN CHOICE (log 71). -/
def clientSet (key : List Byte) : Nat := (Config.freeOf 40 [(ofBE key : Nat)] % 524288).toNat

/-- A client's tokens after the refill (R141), in 1/256 request. -/
def Dev.refill (d : Dev) (c : Client) : Client :=
  let now := d.time.tai.sec
  let gone := (now + 2 ^ 32 - c.seen) % 2 ^ 32
  { c with tokens := min (d.rd F.TIM_NTP_BURST_BURST * 256) (c.tokens + gone * d.rd F.TIM_NTP_RATE_RATE), seen := now % 2 ^ 32,
           count := satAdd 32 c.count 1 }

/-- A new client's entry: a full burst. -/
def Dev.newClient (d : Dev) (key : List Byte) : Client :=
  { key := key, seen := d.time.tai.sec % 2 ^ 32, tokens := d.rd F.TIM_NTP_BURST_BURST * 256, count := 1 }

/-- Find or allocate a client (R141): the entry's place in the table, none for the overflow bucket. DESIGN CHOICE (log 71). -/
def Dev.findClient (d : Dev) (key : List Byte) : Dev × Option Nat × Client :=
  let ways := (List.range 4).map (fun w => clientSet key * 4 + w)
  match ways.find? (fun k => match d.tim.clients.find? k with | some c => c.key = key | none => false) with
  | some k => (d, some k, d.refill (d.tim.clients.get {} k))
  | none =>
    match ways.find? (fun k => (d.tim.clients.find? k).isNone) with
    | some k => (d, some k, d.newClient key)
    | none =>
      let age := fun k => (d.time.tai.sec + 2 ^ 32 - (d.tim.clients.get {} k).seen) % 2 ^ 32
      let oldest := ways.foldl (fun m k => if age m < age k then k else m) (clientSet key * 4)
      if d.rd F.TIM_NTP_IDLE_CLIENT_IDLE < age oldest then (d.tally (ntpCount 9), some oldest, d.newClient key)
      else (d, none, d.refill d.tim.overflow)

/-- Store a client's entry. -/
def Dev.setClient (d : Dev) (k : Option Nat) (c : Client) : Dev :=
  match k with
  | some k => { d with tim := { d.tim with clients := d.tim.clients.put k c } }
  | none => { d with tim := { d.tim with overflow := c } }

/-- What the checks of R135 find in an NTS request. -/
inductive NtsVerdict where
  | malformed
  | refused (uid : List Byte) (noIssuer : Bool)
  | good (uid : List Byte) (c2s s2c : List Byte) (placeholders : Nat) (issuer : Nat) (bound : Bool)
  deriving DecidableEq, Repr

/-- A bound extension field that asks (R134): 16 bytes, its body zero. -/
def Dev.asksBound (d : Dev) (m : List Byte) (fs : List (Nat × Nat × Nat)) : Bool :=
  d.on F.TIM_NTP_CFG_BOUND_EF_EN &&
  fs.any (fun f => f.2.1 = d.rd F.TIM_NTP_EF_BOUND_EF_TYPE && f.2.2 = 16 && (slice m (f.1 + 4) 12).all (· = 0))

/-- A cookie opens to the AEAD's two keys (R136). -/
def Dev.openCookie (d : Dev) (cookie : List Byte) : Option (List Byte × List Byte) :=
  let id := slice cookie 0 4
  match (List.range 4).find? (fun r => d.ntsState r ≠ 0 && d.obj 0x2500 1 r = ofBE id) with
  | none => none
  | some r =>
    match sivOpen (toBE 32 (d.obj 0x2500 2 r)) [id, slice cookie 4 16] (slice cookie 86 16) (slice cookie 20 66) with
    | some plain => if beAt plain 0 2 = 15 then some (slice plain 2 32, slice plain 34 32) else none
    | none => none

/-- Steps 2 to 6 of R135 for a request that came in at `rx`. -/
def Dev.ntsCheck (d : Dev) (m : List Byte) (fs : List (Nat × Nat × Nat)) (rx : Tai) : NtsVerdict :=
  let of := fun t => fs.filter (fun f => f.2.1 = t)
  match of 0x0104, of 0x0204, fs.getLast?, (of 0x0404).length with
  | [u], [c], some a, 1 =>
    let uid := slice m (u.1 + 4) (u.2.2 - 4)
    if a.2.1 ≠ 0x0404 ∨ uid.length < 32 ∨ 64 < uid.length ∨ !d.on F.TIM_NTP_CFG_NTS_EN then .malformed
    else
      let nl := beAt m (a.1 + 4) 2
      let cl := beAt m (a.1 + 6) 2
      let pad := fun n => ceilDiv n 4 * 4
      match if c.2.2 = 108 then d.openCookie (slice m (c.1 + 4) 102) else none with
      | some (c2s, s2c) =>
        if a.2.2 < 8 + pad nl + pad cl ∨ cl < 16 then .refused uid false
        else
          let ct := slice m (a.1 + 8 + pad nl) cl
          match sivOpen c2s [m.take a.1, slice m (a.1 + 8) nl] (ct.take 16) (ct.drop 16) with
          | some plain =>
            let inner := (ntpFields plain 64 0).1
            match d.ntsIssuerAt rx with
            | some r => .good uid c2s s2c (min 7 (of 0x0304).length) r (d.asksBound m fs || d.asksBound plain inner)
            | none => .refused uid true
          | none => .refused uid false
      | none => .refused uid false
  | _, _, _, _ => .malformed

/-- Mint a cookie under the issuing row (R136), with a nonce from the hardware random generator. -/
def Dev.mint (d : Dev) (row : Nat) (c2s s2c : List Byte) : List Byte × Dev :=
  let id := toBE 4 (d.obj 0x2500 1 row)
  let n := d.drawBytes .nonce 16
  let sealed := sivSeal (toBE 32 (d.obj 0x2500 2 row)) [id, n.1] (toBE 2 15 ++ c2s ++ s2c)
  (toBE 2 0x0204 ++ toBE 2 108 ++ id ++ n.1 ++ sealed.2 ++ sealed.1 ++ [0, 0], n.2)

/-- Mint `n` cookies. -/
def Dev.mints (row : Nat) (c2s s2c : List Byte) : Nat → Dev → List Byte × Dev
  | 0, d => ([], d)
  | n + 1, d =>
    let c := d.mint row c2s s2c
    let r := Dev.mints row c2s s2c n c.2
    (c.1 ++ r.1, r.2)

/-- The bound extension field of a response (R134). -/
def Dev.boundField (d : Dev) (p : Nat) : List Byte :=
  let regime := if d.tpath ≠ 3 then 0 else if d.on F.REF_HO_STATUS_HO_EXPIRED then 2 else 1
  toBE 2 (d.rd F.TIM_NTP_EF_BOUND_EF_TYPE) ++ toBE 2 16 ++ toBE 4 (d.servedBound p) ++ toBE 1 regime ++
    toBE 1 (d.timeNow.getD 0xFF) ++ List.replicate 6 0

/-- The 48-byte header of a response (R131). `kiss` is the code of a kiss-of-death. -/
def Dev.ntpHeader (d : Dev) (p : Nat) (m : List Byte) (rx tx : Tai) (kiss : Option (List Byte)) : List Byte :=
  let v := beAt m 0 1 / 8 % 8
  let expired := d.on F.REF_HO_STATUS_HO_EXPIRED
  let li := match kiss with
    | some _ => 3
    | none => if expired && !d.on F.TIM_NTP_CFG_EXPIRED_POLICY then 3 else d.leapIndicator
  let stratum := match kiss with | some _ => 0 | none => if li = 3 then 16 else 1
  let poll := (min (d.rd F.TIM_NTP_CFG_MAXPOLL : Int) (max (d.rd F.TIM_NTP_CFG_MINPOLL : Int) (sgn 8 (beAt m 2 1)))).toNat
  toBE 1 (li * 64 + v * 8 + 4) ++ toBE 1 stratum ++ toBE 1 poll ++ toBE 1 0xE3 ++ toBE 4 0 ++
    toBE 4 (rootDispersion (d.servedBound p)) ++ slice (kiss.getD d.tim.refId) 0 4 ++ toBE 8 (d.ntpStamp d.tim.refTime) ++
    slice m 40 8 ++ toBE 8 (d.ntpStamp rx) ++ toBE 8 (d.ntpStamp tx)

/-- "RATE" and "NTSN". -/
def kissRate : List Byte := [0x52, 0x41, 0x54, 0x45]
/-- The code of an NTSN kiss-of-death. -/
def kissNtsn : List Byte := [0x4E, 0x54, 0x53, 0x4E]

/-- Where a response goes: its port and its destination. -/
structure NtpTo where
  port : Port
  dest : List Byte
  p : Nat
  rx : Tai
  tx : Tai
  deriving DecidableEq, Repr

/-- The authenticated end of an NTS response (R138): the UID echoed, then the authenticator over 1 + p cookies. -/
def Dev.ntsTail (d : Dev) (head uid c2s s2c : List Byte) (n row : Nat) (extra : List Byte) : List Byte × Dev :=
  let front := head ++ toBE 2 0x0104 ++ toBE 2 (uid.length + 4) ++ uid
  let cs := Dev.mints row c2s s2c (n + 1) d
  let nonce := cs.2.drawBytes .nonce 16
  let inner := cs.1 ++ extra
  let sealed := sivSeal s2c [front, nonce.1] inner
  (front ++ toBE 2 0x0404 ++ toBE 2 (8 + 16 + 16 + inner.length) ++ toBE 2 16 ++ toBE 2 (16 + inner.length) ++ nonce.1 ++
    sealed.1 ++ sealed.2, nonce.2)

/-- A response leaves in its class (R179). -/
def Dev.sendNtp (d : Dev) (t : NtpTo) (r : List Byte) : Dev := d.send t.p clsNtp (.ntp t.port t.dest r)

/-- Serve a plain request. DESIGN CHOICE (log 74). -/
def Dev.servePlain (d : Dev) (t : NtpTo) (m : List Byte) (bound : Bool) : Dev :=
  let r := d.ntpHeader t.p m t.rx t.tx none ++ (if bound then d.boundField t.p else [])
  (d.sendNtp t r).tally (ntpCount 1)

/-- Serve an NTS request, or send its NTSN kiss (R135, R138, R139). -/
def Dev.serveNts (d : Dev) (t : NtpTo) (m : List Byte) (v : NtsVerdict) : Dev :=
  match v with
  | .malformed => d.tally (ntpCount 5)
  | .refused uid noIssuer =>
    let d := if noIssuer then d.irq F.TIM_IRQ_STATUS_NO_ISSUE_KEY else d
    let r := d.ntpHeader t.p m t.rx t.tx (some kissNtsn) ++ toBE 2 0x0104 ++ toBE 2 (uid.length + 4) ++ uid
    (d.sendNtp t r).tally (ntpCount 4)
  | .good uid c2s s2c n row bound =>
    let r := d.ntsTail (d.ntpHeader t.p m t.rx t.tx none) uid c2s s2c n row (if bound then d.boundField t.p else [])
    (r.2.sendNtp t r.1).tally (ntpCount 2)

/-- Send a RATE kiss-of-death (R141): authenticated with its cookies for an NTS request, which it must pass the checks for. -/
def Dev.sendKiss (d : Dev) (t : NtpTo) (m : List Byte) (v : Option NtsVerdict) : Dev :=
  let head := d.ntpHeader t.p m t.rx t.tx (some kissRate)
  match v with
  | none => (d.sendNtp t head).tally (ntpCount 3)
  | some (.good uid c2s s2c n row _) =>
    let r := d.ntsTail head uid c2s s2c n row []
    (r.2.sendNtp t r.1).tally (ntpCount 3)
  | some _ => d.tally (ntpCount 8)

/-- Start a new tick of the responder when the millisecond changes (R142). -/
def Dev.ntpTick (d : Dev) : Dev :=
  let now := d.time.cycles / cyclesPerMs
  if d.tim.tick = now then d else { d with tim := { d.tim with tick := now, served := 0, kisses := 0 } }

/-- What may be answered with a kiss: a plain request, or an NTS request that passes its checks, so that the kiss can be authenticated. -/
def kissable : Option NtsVerdict → Bool
  | none => true
  | some (.good _ _ _ _ _ _) => true
  | some _ => false

/-- A kiss is due to a client: none within KOD_HOLDOFF. -/
def Dev.kissDue (d : Dev) (c : Client) : Bool :=
  match c.kissed with
  | none => true
  | some k => decide (d.rd F.TIM_NTP_HOLDOFF_KOD_HOLDOFF ≤ (d.time.tai.sec + 2 ^ 32 - k) % 2 ^ 32)

/-- Rate control and service of one request (R141, R142). `v` is none for a plain request. DESIGN CHOICE (log 70). -/
def Dev.ntpServe (d : Dev) (t : NtpTo) (source m : List Byte) (v : Option NtsVerdict) (bound : Bool) : Dev :=
  let f := d.ntpTick.findClient (clientKey source)
  let d := f.1
  let c := { f.2.2 with nts := f.2.2.nts || v.isSome }
  let cost := if v.isSome then 2 else 1
  let allow := 200 * d.tsUnits
  let kissed := { c with kissed := some (d.time.tai.sec % 2 ^ 32) }
  if 256 ≤ c.tokens then
    if d.tim.served + cost ≤ allow then
      let d := d.setClient f.2.1 { c with tokens := c.tokens - 256 }
      let d := { d with tim := { d.tim with served := d.tim.served + cost } }
      match v with
      | some v => d.serveNts t m v
      | none => d.servePlain t m bound
    else if kissable v && d.kissDue c && decide ((d.tim.kisses + cost) * 10 ≤ allow) then
      let d := d.setClient f.2.1 kissed
      let d := { d with tim := { d.tim with kisses := d.tim.kisses + cost } }
      d.sendKiss t m v
    else ((d.setClient f.2.1 c).tally (ntpCount 7)).irq F.TIM_IRQ_STATUS_OVERLOAD
  else if kissable v && d.kissDue c then (d.setClient f.2.1 kissed).sendKiss t m v
  else (d.setClient f.2.1 c).tally (ntpCount 8)

/-- The responder answers (R130, R131). -/
def Dev.ntpAnswers (d : Dev) : Bool :=
  d.serving && d.on F.TIM_NTP_CFG_EN && d.on F.REF_SEL_STATUS_TIME_VALID &&
    !(d.on F.TIM_NTP_CFG_EXPIRED_POLICY && d.on F.REF_HO_STATUS_HO_EXPIRED)

/-- The TAI that a step left, on the scale before it. -/
def StepRec.before (r : StepRec) : Tai := r.tai.addSub (-(r.delta * 4096))

/-- A phase step fell between a request's ingress and its launch (R133): the ingress reads before the TAI that the step left and the launch
not before the TAI it made; a launch that reads before its ingress follows a step back. DESIGN CHOICE (log 70). -/
def Dev.stepBetween (d : Dev) (rx tx : Tai) : Bool := tx.lt rx || d.ref.log.any (fun r => rx.lt r.before && r.tai.le tx)

/-- NTP_REQUEST (R130 to R142). `source` is the client's address in 16 bytes, `packet` the UDP payload. DESIGN CHOICE (log 70). -/
def execNtpRequest (port : Fin 4) (source packet : List Byte) (detected launch : Tai) (s : State) :
    Host.Outcome State Fault Refusal :=
  s.act fun d =>
    if !d.booted then d
    else
      let d := d.tally (ntpCount 0)
      let v := beAt packet 0 1 / 8 % 8
      if !d.ntpAnswers then d
      else if packet.length < 48 ∨ beAt packet 0 1 % 8 ≠ 3 ∨ (v ≠ 3 ∧ v ≠ 4) then d.tally (ntpCount 5)
      else
        let rx := d.ingress port detected
        let t : NtpTo := ⟨portOf port, source, port, rx, d.egress port launch⟩
        if d.stepBetween rx launch then d.tally (ntpCount 6)
        else if v = 3 then
          if d.on F.TIM_NTP_CFG_V3_EN && d.on F.TIM_NTP_CFG_PLAIN_EN then d.ntpServe t source packet none false else d
        else
          let fs := ntpFields packet 512 48
          let nts := fs.1.any (fun f => [0x0104, 0x0204, 0x0304, 0x0404].contains f.2.1)
          if nts then d.ntpServe t source packet (some (if fs.2 then d.ntsCheck packet fs.1 rx else .malformed)) false
          else if d.on F.TIM_NTP_CFG_PLAIN_EN then d.ntpServe t source packet none (d.asksBound packet fs.1)
          else d

/-! ### Captures (R143) -/

/-- GPIO_CAPTURE (R143): a selected edge is posted on Q3; a second one within 1 µs is lost and counted. One sequence counts the captures of
all GPIOs. DESIGN CHOICE (log 195). -/
def execGpioCapture (gpio : Fin 16) (falling : Bool) (s : State) : Host.Outcome State Fault Refusal :=
  s.act fun d =>
    let sel := d.rd (if falling then F.TIM_CAP_CFG_FALL else F.TIM_CAP_CFG_RISE)
    if !d.booted || !bitAt sel gpio then d
    else
      let soon := match d.tim.captured.find? gpio with | some c => decide (d.time.cycles < c + 400) | none => false
      if soon then (d.count F.TIM_CAP_LOST_LOST).irq F.TIM_IRQ_STATUS_CAP_LOST gpio
      else
        let seq := d.tim.capSeq
        let item := toLE 4 (3 * 2 ^ 28 + bit falling * 2 ^ 27 + gpio * 2 ^ 16 + seq) ++ toLE 6 d.time.tai.sec ++
          toLE 4 d.time.tai.ns ++ [0, 0]
        let d := { d with tim := { d.tim with capSeq := (seq + 1) % 65536, captured := d.tim.captured.put gpio d.time.cycles } }
        d.enqueue 3 item

/-! ### The block's apply point (R120, R144) -/

/-- Whether a port's proposed settings lie outside its profile (R120, R144). -/
def Dev.ptpBad (d : Dev) (vals : Tbl Nat) (p : Nat) : Bool :=
  let v := fun (f : Fld) => d.proposed vals (f.at [p])
  let s := fun (f : Fld) => sgn 4 (v f)
  let prof := v F.TIM_PTP_CFG_PROFILE
  let ann := s F.TIM_PTP_INTV_LOG_ANNOUNCE
  let sync := s F.TIM_PTP_INTV_LOG_SYNC
  let req := s F.TIM_PTP_INTV_LOG_DELAY_REQ
  let inside := fun (x lo hi : Int) => decide (lo ≤ x ∧ x ≤ hi)
  let ok := match prof with
    | 0 => inside ann 0 4 && inside sync (-1) 1
    | 1 => inside ann 0 4 && inside sync (-4) 1
    | 2 => inside ann (-3) 1 && inside sync (-7) (-1)
    | _ => false
  !ok || !inside req sync (sync + 5) || decide (v F.TIM_PTP_INTV_ANN_TIMEOUT < 2 ∨ 10 < v F.TIM_PTP_INTV_ANN_TIMEOUT) ||
    decide (127 < v F.TIM_PTP_CFG_DOMAIN) || (v F.TIM_PTP_CFG_TRANSPORT = 0 && prof ≠ 0) ||
    (v F.TIM_PTP_CFG_SLAVE_ONLY = 1 && v F.TIM_PTP_CFG_MASTER_ONLY = 1)

/-- A strobe would leave a port it touches outside its profile: it is refused as a whole (R120). -/
def Dev.ptpRefused (d : Dev) (vals : Tbl Nat) : Bool :=
  (List.range 4).any (fun p => d.ptpBad vals p && vals.any (fun x => match fieldOf x.1 with
    | some f => f.off = 0x400 + p * 0x100 || f.off = 0x404 + p * 0x100 | none => false))

/-- Drop what a strobe may not apply: poll limits, BURST, TS_FLOOR and MANUAL_OFFSET out of range. -/
def Dev.timCheck (d : Dev) (vals : Tbl Nat) : Tbl Nat × Status :=
  let drop := fun (r : Tbl Nat × Status) (bad : Bool) (p : Fld → Bool) =>
    if bad then (dropVals r.1 p, Status.orElse r.2 .range) else r
  let r := (vals, Status.ok)
  let lo := d.proposed vals F.TIM_NTP_CFG_MINPOLL
  let hi := d.proposed vals F.TIM_NTP_CFG_MAXPOLL
  let r := drop r (decide (lo < 3 ∨ 17 < lo ∨ hi < 4 ∨ 17 < hi ∨ hi < lo)) (fun f => f.off = 0x100 && f.lo < 16)
  let r := drop r (d.proposed vals F.TIM_NTP_BURST_BURST = 0) (fun f => f.off = 0x10C)
  let r := drop r (decide (20 < d.proposed vals F.TIM_NTP_FLOOR_TS_FLOOR)) (fun f => f.off = 0x118)
  drop r (decide (255 < (sgn 16 (d.proposed vals F.TIM_UTC_CFG_MANUAL_OFFSET)).natAbs)) (fun f => f.off = 0x14 && f.lo = 0)

/-- Whether the unit of a stopped-only TIM field runs: the port's EN. -/
def Dev.timRunning (d : Dev) (f : Fld) : Bool := d.ptpEn ((f.off - 0x400) / 0x100)

/-- The actions of the block, by number: MANUAL_OFFSET written, a leap armed, an NTS row written as ISSUE. -/
def actOffset : Nat := 0
/-- A leap was armed through TIM_LEAP_CFG or LeapEvent. -/
def actLeap : Nat := 1
/-- An NTS row was written as ISSUE with no ACTIVATE_AT. -/
def actNts : Nat := 2

/-- What the strobe brings beside the values (R114, R115, R137). DESIGN CHOICE (log 63). -/
def Dev.timActs (old d : Dev) (vals : Tbl Nat) : Dev × Status :=
  let man := d.rdS F.TIM_UTC_CFG_MANUAL_OFFSET
  let toManual := d.on F.TIM_UTC_CFG_SRC && !old.on F.TIM_UTC_CFG_SRC
  let d := if hasAct vals 3 actOffset || toManual then
      { d.setUtcOffset man with tim := { (d.setUtcOffset man).tim with utcNext := none } } else d
  let r := if hasAct vals 3 actLeap && d.on F.TIM_LEAP_CFG_ARM then
      d.armLeap (d.rd F.TIM_LEAP_AT_LO_LO + 2 ^ 32 * d.rd F.TIM_LEAP_AT_HI_HI) (d.on F.TIM_LEAP_CFG_DIR) false
    else (d, .ok)
  let d := if hasAct vals 3 actNts then
      (List.range 4).foldl (fun d q => if d.ntsWaits q = 1 then d.ntsIssue q else d) r.1 else r.1
  (d, r.2)

/-- The TIM block reaches its apply point (R144). -/
def Dev.applyTim (d : Dev) (group : Nat) (vals : Tbl Nat) : Dev × Status :=
  if d.ptpRefused vals then (d, .range)
  else
    let c := d.timCheck vals
    let r := d.applyVals d.timRunning group c.1
    let a := Dev.timActs d r.1 vals
    (a.1.ptpRefresh, Status.orElse c.2 (Status.orElse a.2 (if r.2 then .stoppedOnly else .ok)))

end Sys2Proof.Machine
end

