-- ==== Sys2Proof/Machine/Network.lean ====
section
/-! DEFINITION. Machine/Network.lean: the network ports, their addresses, filters, buffers and transmitters (R163 to R187). -/

namespace Sys2Proof.Machine

/-! ### Ports -/

/-- Set a sticky bit of a NET port; MGT has none. -/
def Dev.netSticky (d : Dev) (p : Nat) (f : Fld) (more : List Byte := []) : Dev :=
  if p = 4 then d else d.sticky (f.at [p]) p more

/-- A port is enabled. -/
def Dev.portEn (d : Dev) (p : Nat) : Bool := if p = 4 then d.on F.MGT_CFG_EN else d.on (F.NET_CFG_EN.at [p])

/-- A NET port is in service (R173); MGT stays available. -/
def Dev.inServicePort (d : Dev) (p : Nat) : Bool :=
  d.booted && d.portEn p && !d.cap.lost.contains (4, p) && !d.pwr.shed.contains (.lane p) &&
    (p = 4 || (d.mode.mode != .maintenance && d.mode.mode != .safeHold && !d.on (F.NET_STATUS_SELF_TEST.at [p])))

/-- A port's station address. -/
def Dev.station (d : Dev) (p : Nat) : Nat :=
  if p = 4 then d.rd F.MGT_STATION_HI_HI * 2 ^ 32 + d.rd F.MGT_STATION_LO_LO
  else d.rd (F.NET_STATION_HI_HI.at [p]) * 2 ^ 32 + d.rd (F.NET_STATION_LO_LO.at [p])

/-- A port's service address. -/
def Dev.service (d : Dev) (p : Nat) : Nat :=
  if p = 4 then d.station 4 else d.rd (F.NET_SERVICE_HI_HI.at [p]) * 2 ^ 32 + d.rd (F.NET_SERVICE_LO_LO.at [p])

/-- MAX_FRAME of a port. -/
def Dev.maxFrame (d : Dev) (p : Nat) : Nat :=
  if p = 4 then d.rd F.MGT_CFG_MAX_FRAME else d.rd (F.NET_CFG_MAX_FRAME.at [p])

/-- SPEED of a port: 0 10GBASE-R, 1 2500BASE-X, 2 1000BASE-X, 3 SGMII; MGT runs 1000 Mb/s. -/
def Dev.portSpeed (d : Dev) (p : Nat) : Nat := if p = 4 then 3 else d.rd (F.NET_STATUS_SPEED_ACTIVE.at [p])

/-- The IPv4 station and service addresses, 0 for none. -/
def Dev.ip4 (d : Dev) (p : Nat) : Nat × Nat := (d.obj 0x4000 14 p, d.obj 0x4000 16 p)

/-- The IPv6 station and service addresses, 0 for none. -/
def Dev.ip6 (d : Dev) (p : Nat) : Nat × Nat := (d.obj 0x4000 19 p, d.obj 0x4000 20 p)

/-- The link-local address derived from the station MAC by EUI-64 (R167). -/
def Dev.linkLocal (d : Dev) (p : Nat) : Nat :=
  let m := d.station p
  let hi := (m / 2 ^ 24).xor (2 * 2 ^ 16)
  0xFE80 * 2 ^ 112 + hi * 2 ^ 40 + 0xFFFE * 2 ^ 24 + m % 2 ^ 24

/-! ### Groups (R167, R169, R203) -/

/-- A context's destination or source words as one number (R210). -/
def Dev.ctxAddr (d : Dev) (f : Fld) (c : Nat) : Nat :=
  (List.range 4).foldl (fun a j => a * 2 ^ 32 + d.rd ((f.at [j]).un c)) 0

/-- An address of a context is a multicast group. -/
def isGroup (ipv6 : Bool) (ip : Nat) : Bool := if ipv6 then ip / 2 ^ 120 = 0xFF else ip / 2 ^ 28 = 0xE

/-- The memberships of a NET port, a group (IPv6, address) with the one source it is joined for, none for any source (R191): those of
running receive contexts, and PTP's over UDP. -/
def Dev.members (d : Dev) (p : Nat) : List ((Bool × Nat) × Option Nat) :=
  let ctx := (List.range 256).flatMap (fun c =>
    let st := d.rd (F.STR_CTX_STATUS_STATE.un c)
    if st = 1 ∨ st = 2 ∨ st = 3 then
      let v6 := d.on (F.STR_CTX_CFG_IPV6.un c)
      let a := d.ctxAddr F.STR_CTX_DST_A_ADDR c
      let b := d.ctxAddr F.STR_CTX_DST_B_ADDR c
      let only := fun (f : Fld) => if d.on (F.STR_CTX_CFG_SRC_FLT_EN.un c) then some (d.ctxAddr f c) else none
      (if d.rd (F.STR_CTX_NET_PORT_A.un c) = p ∧ isGroup v6 a then [((v6, a), only F.STR_CTX_SRC_A_ADDR)] else []) ++
        (if d.on (F.STR_CTX_CFG_PAIRED.un c) ∧ d.rd (F.STR_CTX_NET_PORT_B.un c) = p ∧ isGroup v6 b then
          [((v6, b), only F.STR_CTX_SRC_B_ADDR)] else [])
    else [])
  ctx ++ (if decide (p < 4) && d.ptpState p ≥ 4 && d.on (F.TIM_PTP_CFG_TRANSPORT.at [p]) then [((false, 0xE0000181), none)] else [])

/-- The groups joined on a NET port. -/
def Dev.joined (d : Dev) (p : Nat) : List (Bool × Nat) := (d.members p).map (·.1)

/-- The MAC address of a group (R196). -/
def groupMac (g : Bool × Nat) : Nat :=
  if g.1 then 0x333300000000 + g.2 % 2 ^ 32 else 0x01005E000000 + g.2 % 2 ^ 23

/-- The groups that the device's own IP handling is always in (R167): all hosts, where queries come, and the solicited-node groups of the
port's IPv6 addresses. DEDUCED (log 178). -/
def Dev.ownGroups (d : Dev) (p : Nat) : List (Bool × Nat) :=
  [(false, 0xE0000001), (true, 0xFF02 * 2 ^ 112 + 1)] ++
    ([d.linkLocal p, (d.ip6 p).1, (d.ip6 p).2].filter (· ≠ 0)).map (fun a => (true, 0xFF02 * 2 ^ 112 + 0x1FF000000 + a % 2 ^ 24))

/-- Row 5 of R169: the destinations a port accepts, and for MAC control the address that R180's frames use. DEDUCED (log 178). -/
def Dev.acceptsMac (d : Dev) (p mac etype : Nat) : Bool :=
  mac = d.station p || mac = d.service p || mac = 2 ^ 48 - 1 || mac = 0x011B19000000 || mac = 0x0180C200000E ||
    mac = 0x0180C2000002 || (mac = 0x0180C2000001 && etype = 0x8808) || (d.joined p ++ d.ownGroups p).any (fun g => groupMac g = mac)

/-! ### Receive buffers (R175 to R177) -/

/-- The key of a receive queue. DESIGN CHOICE (log 91). -/
def rxKey (p q : Nat) : Nat := p * 16 + q

/-- BUFS of a receive queue. DESIGN CHOICE (log 91). -/
def Dev.rxBufs (d : Dev) (k : Nat) : Nat :=
  if k = 64 then d.rd F.MGT_RXQ0_CFG_BUFS else d.rd (F.NET_RXQ_CFG_BUFS.at [k / 16, k % 16])

/-- EN of a receive queue. -/
def Dev.rxEn (d : Dev) (k : Nat) : Bool :=
  if k = 64 then d.on F.MGT_RXQ0_CFG_EN else d.on (F.NET_RXQ_CFG_EN.at [k / 16, k % 16])

/-- DEST of a receive queue: the host path, or discard. -/
def Dev.rxDest (d : Dev) (k : Nat) : Bool :=
  if k = 64 then d.on F.MGT_RXQ0_CFG_DEST else d.on (F.NET_RXQ_CFG_DEST.at [k / 16, k % 16])

/-- The first buffer of a queue: the queues own the receive pool in the order of their ports and numbers. -/
def Dev.rxBase (d : Dev) (k : Nat) : Nat := ((List.range k).map d.rxBufs).sum

/-- The free buffers of a queue, in the order in which it fills them. -/
def Dev.rxFree (d : Dev) (k : Nat) : List Nat :=
  match d.net.free.find? k with
  | some l => l
  | none => (List.range (d.rxBufs k)).map (d.rxBase k + ·)

/-- Replace a queue's free buffers. -/
def Dev.setRxFree (d : Dev) (k : Nat) (l : List Nat) : Dev := { d with net := { d.net with free := d.net.free.put k l } }

/-- Hand a chain back to its queue (R177). -/
def Dev.returnChain (d : Dev) (first : Nat) : Dev :=
  match d.net.chains.find? first with
  | none => d
  | some c =>
    let d := d.setRxFree c.queue (d.rxFree c.queue ++ c.bufs)
    { d with net := { d.net with chains := d.net.chains.del first } }

/-- Post a receive item; an item that is discarded, or that an overwrite removes, returns its frame's buffers (R404). -/
def Dev.enqueueRx (d : Dev) (p : Nat) (item : List Byte) : Dev :=
  let q := 8 + p
  let x := d.que q
  let first := fun (i : List Byte) => leAt i 8 4
  let presses := d.rd (F.QUE_CFG_POLICY.at [q]) ≠ 0
  let d := if presses && x.held.isSome then d.returnChain (first item)
    else if x.items.length < queueCap q || presses then d
    else match x.items.head? with | some i => d.returnChain (first i) | none => d
  d.enqueue q item

/-- Where the byte `i` of a buffer lies in the packet memory. -/
def bufAddr (b i : Nat) : Nat := b * 2048 + i

/-- The bytes of a frame spread over its buffers. DESIGN CHOICE (log 93). -/
def bufWrites (bufs : List Nat) (bytes : List Byte) : List (Nat × Byte) :=
  bytes.zipIdx.map (fun x => (bufAddr (bufs.getD (x.2 / 2048) 0) (x.2 % 2048), x.1))

/-- The effect of a received frame: what it writes to the packet memory, and the device. -/
abbrev RxEffect := List (Nat × Byte) × Dev

/-- Store a frame in a queue and post it to the host, or lose it for want of buffers (R175 to R177). `flags` holds TRUNC, WAKE
and the wake pattern at their places. -/
def Dev.storeFrame (d : Dev) (p k : Nat) (bytes : List Byte) (wireLen flags tci : Nat) (tagged : Bool) (rx : Tai) : RxEffect :=
  let free := d.rxFree k
  let need := max 1 (ceilDiv bytes.length 2048)
  if free.isEmpty then ([], (d.netCount p 7).netSticky p F.NET_STICKY_NOBUF_SEEN)
  else if free.length < need then
    ([], ((d.netCount p 8).netCount p 9 free.length).netSticky p F.NET_STICKY_NOBUF_SEEN)
  else
    let bufs := free.take need
    let first := bufs.headD 0
    let d := d.setRxFree k (free.drop need)
    let d := { d with net := { d.net with chains := d.net.chains.put first ⟨k, bufs⟩ } }
    let head := 8 * 2 ^ 28 + k % 16 * 2 ^ 24 + flags + bit tagged * 2 ^ 18 + bytes.length % 65536
    let item := toLE 4 head ++ toLE 2 tci ++ toLE 2 need ++ toLE 4 first ++ toLE 6 rx.sec ++ toLE 4 rx.ns ++
      toLE 2 (min wireLen 65535)
    (bufWrites bufs bytes, (d.enqueueRx p item).netCount p 0)

/-! ### Sending (R178, R179) -/

/-- Pad a frame to 60 bytes without its FCS (R168). -/
def padFrame (b : List Byte) : List Byte := b ++ List.replicate (60 - b.length) 0

/-- The VLAN tag of the device's own frames, from the row of their port (R179): none where SVC_VID is 0, and none on the slow protocols, which
no bridge forwards. DESIGN CHOICE (log 179). -/
def Dev.tagOwn (d : Dev) (p : Nat) (b : List Byte) : List Byte :=
  let vid := d.rd (F.NET_VLAN_SVC_VID.at [p])
  if p = 4 ∨ vid = 0 ∨ beAt b 12 2 = 0x8809 then b
  else b.take 12 ++ toBE 2 0x8100 ++ toBE 2 (d.rd (F.NET_VLAN_SVC_PCP.at [p]) * 8192 + vid) ++ b.drop 12

/-- Queue a frame for transmission in a class: a host's as it was posted, the device's own with its tag. -/
def Dev.queueTx (d : Dev) (p cls : Nat) (bytes : List Byte) (buffer : Option Nat := none) : Dev :=
  let x := d.port p
  let bytes := if buffer.isNone then d.tagOwn p bytes else bytes
  d.setPort p { x with txq := x.txq ++ [⟨cls, buffer, .frame (portOf p) (padFrame bytes)⟩] }

/-- An Ethernet header. -/
def ethHead (dst src etype : Nat) : List Byte := toBE 6 dst ++ toBE 6 src ++ toBE 2 etype

/-- The one's-complement sum of 16-bit words. -/
def onesSum (b : List Byte) : Nat :=
  let s := ((List.range (ceilDiv b.length 2)).map (fun i => beAt b (2 * i) 2)).sum
  let s := s % 65536 + s / 65536
  s % 65536 + s / 65536

/-- The Internet checksum. -/
def inetSum (b : List Byte) : Nat := 0xFFFF - onesSum b

/-- An IPv4 packet with no options (R196's fields where the device sends its own). -/
def ip4Packet (src dst proto ttl : Nat) (body : List Byte) (opts : List Byte := []) (tos : Nat := 0) : List Byte :=
  let hl := 5 + opts.length / 4
  let head := fun sum => toBE 1 (0x40 + hl) ++ toBE 1 tos ++ toBE 2 (4 * hl + body.length) ++ toBE 2 0 ++ toBE 2 0x4000 ++
    toBE 1 ttl ++ toBE 1 proto ++ toBE 2 sum ++ toBE 4 src ++ toBE 4 dst ++ opts
  head (inetSum (head 0)) ++ body

/-- An IPv6 packet. -/
def ip6Packet (src dst next hop : Nat) (body : List Byte) (tos : Nat := 0) : List Byte :=
  toBE 4 (0x60000000 + tos * 2 ^ 20) ++ toBE 2 body.length ++ toBE 1 next ++ toBE 1 hop ++ toBE 16 src ++ toBE 16 dst ++ body

/-- An ICMPv6 body with its checksum at byte 2. -/
def icmp6 (src dst : Nat) (body : List Byte) : List Byte :=
  let z := body.take 2 ++ [0, 0] ++ body.drop 4
  let pseudo := toBE 16 src ++ toBE 16 dst ++ toBE 4 z.length ++ [0, 0, 0, 58]
  z.take 2 ++ toBE 2 (inetSum (pseudo ++ z)) ++ z.drop 4

/-- An ARP packet. -/
def arpFrame (dst src op : Nat) (sha spa tha tpa : Nat) : List Byte :=
  padFrame (ethHead dst src 0x0806 ++ toBE 2 1 ++ toBE 2 0x0800 ++ [6, 4] ++ toBE 2 op ++ toBE 6 sha ++ toBE 4 spa ++
    toBE 6 tha ++ toBE 4 tpa)

/-- A Neighbour Advertisement; `flags` are its R, S and O bits. -/
def naFrame (dst src ip dip flags : Nat) : List Byte :=
  let b := icmp6 ip dip ([136, 0, 0, 0] ++ toBE 4 (flags * 2 ^ 29) ++ toBE 16 ip ++ [2, 1] ++ toBE 6 src)
  ethHead dst src 0x86DD ++ ip6Packet ip dip 58 255 b

/-- The announcement after a unit becomes active (R166): one gratuitous ARP and one unsolicited Neighbour Advertisement for each
service address of each NET port. -/
def Dev.announceService (d : Dev) : Dev :=
  (List.range 4).foldl (fun d p =>
    if !d.inServicePort p then d
    else
      let mac := d.service p
      let v4 := (d.ip4 p).2
      let v6 := (d.ip6 p).2
      let d := if v4 = 0 then d else d.queueTx p 3 (arpFrame (2 ^ 48 - 1) mac 1 mac v4 0 v4)
      if v6 = 0 then d else d.queueTx p 3 (naFrame 0x333300000001 mac v6 (0xFF02 * 2 ^ 112 + 1) 1)) d

/-- A group record in a membership report (R167): IGMPv3 or MLDv2 with its kind and sources, or where a v2 querier is heard an IGMPv2
report or leave. DESIGN CHOICE (log 92). -/
def Dev.groupRecord (d : Dev) (p : Nat) (g : Bool × Nat) (kind : Nat) (sources : List Nat) : Dev :=
  let src := d.station p
  if g.1 then
    let all := 0xFF02 * 2 ^ 112 + 0x16
    let b := icmp6 (d.linkLocal p) all ([143, 0, 0, 0, 0, 0, 0, 1, byteOf kind, 0] ++ toBE 2 sources.length ++ toBE 16 g.2 ++
      sources.flatMap (toBE 16 ·))
    d.queueTx p 3 (ethHead (groupMac (true, all)) src 0x86DD ++ ip6Packet (d.linkLocal p) all 58 1 b)
  else
    let ra := [0x94, 0x04, 0x00, 0x00].map byteOf
    let sum := fun (b : List Byte) => b.take 2 ++ toBE 2 (inetSum b) ++ b.drop 4
    if (d.port p).igmpV2 then
      let leaves := kind = 3 ∨ kind = 6
      let dst := if leaves then 0xE0000002 else g.2
      let b := sum ([byteOf (if leaves then 0x17 else 0x16), 0, 0, 0] ++ toBE 4 g.2)
      d.queueTx p 3 (padFrame (ethHead (groupMac (false, dst)) src 0x0800 ++ ip4Packet (d.ip4 p).1 dst 2 1 b ra))
    else
      let b := sum ([0x22, 0, 0, 0, 0, 0, 0, 1].map byteOf ++ [byteOf kind, 0] ++ toBE 2 sources.length ++ toBE 4 g.2 ++ sources.flatMap (toBE 4 ·))
      d.queueTx p 3 (padFrame (ethHead 0x01005E000016 src 0x0800 ++ ip4Packet (d.ip4 p).1 0xE0000016 2 1 b ra))

/-- Join a group (R191, R203): for any source, or for one source. -/
def Dev.reportGroup (d : Dev) (p : Nat) (m : (Bool × Nat) × Option Nat) : Dev :=
  match m.2 with
  | none => d.groupRecord p m.1 4 []
  | some s => d.groupRecord p m.1 5 [s]

/-- The sources that a group is joined for on a port. -/
def Dev.sourcesOf (d : Dev) (p : Nat) (g : Bool × Nat) : List Nat := ((d.members p).filter (fun m => m.1 = g)).filterMap (·.2)

/-- Leave a group or a source of it (R203, R208), unless another context or PTP still holds it. -/
def Dev.leaveGroup (d : Dev) (p : Nat) (m : (Bool × Nat) × Option Nat) : Dev :=
  let held := d.members p
  if held.contains m || held.contains (m.1, none) then d
  else match m.2 with
    | none => d.groupRecord p m.1 3 (d.sourcesOf p m.1)
    | some s => d.groupRecord p m.1 6 [s]

/-- Report every joined group of a port, with its sources where no one takes it from any. DESIGN CHOICE (log 92). -/
def Dev.reportGroups (d : Dev) (p : Nat) : Dev :=
  (d.joined p).eraseDups.foldl (fun d g =>
    if (d.members p).contains (g, none) then d.groupRecord p g 2 [] else d.groupRecord p g 1 (d.sourcesOf p g)) d

/-! ### Reading a frame -/

/-- A frame's tag and type (R171): tagged, its PCP, its VID, the EtherType after the tag and where the payload begins. A
priority tag counts as untagged and keeps its PCP. -/
structure FrameHead where
  tagged : Bool
  pcp : Nat
  vid : Nat
  etype : Nat
  at_ : Nat
  deriving DecidableEq, Repr

/-- Read a frame's header. -/
def frameHead (b : List Byte) : FrameHead :=
  let t := beAt b 12 2
  if t = 0x8100 then
    let tci := beAt b 14 2
    ⟨tci % 4096 != 0, tci / 8192, tci % 4096, beAt b 16 2, 18⟩
  else ⟨false, 0, 0, t, 14⟩

/-- A filter row matches a frame (R171). -/
def Dev.filterMatches (d : Dev) (p r : Nat) (h : FrameHead) : Bool :=
  let f := fun (x : Fld) => d.rd (x.at [p, r])
  f F.NET_FLT_A_EN = 1 &&
    (if f F.NET_FLT_A_MATCH_UNTAGGED = 1 then !h.tagged else h.tagged && (f F.NET_FLT_A_VID_ANY = 1 || f F.NET_FLT_A_VID = h.vid)) &&
    bitAt (f F.NET_FLT_A_PCP_MASK) h.pcp && (f F.NET_FLT_B_ETYPE = 0 || f F.NET_FLT_B_ETYPE = h.etype)

/-- The queue of a frame (R171): none when a row or a disabled queue drops it. MGT has one queue and no rows. -/
def Dev.filter (d : Dev) (p : Nat) (h : FrameHead) : Option Nat :=
  let k := if p = 4 then some 64
    else match (List.range 32).find? (fun r => d.filterMatches p r h) with
      | some r => if d.on (F.NET_FLT_B_DROP.at [p, r]) then none else some (rxKey p (d.rd (F.NET_FLT_B_QUEUE.at [p, r])))
      | none => some (rxKey p (d.rd (F.NET_DEFAULT_Q_QUEUE.at [p])))
  k.filter d.rxEn

/-- A wake pattern's mask byte. -/
def Dev.wakeMask (d : Dev) (p w i : Nat) : Nat := d.rd (F.NET_WAKE_MASK_MASK.at [p, w, i / 4]) / 256 ^ (i % 4) % 256

/-- The first wake pattern that a frame matches (R174). -/
def Dev.wakeMatch (d : Dev) (p : Nat) (stored : List Byte) : Option Nat :=
  (List.range 8).find? (fun w => d.on (F.NET_WAKE_CTL_EN.at [p, w]) &&
    crc16 ((List.range 128).map (fun i => byteOf ((stored.getD i 0).toNat.land (d.wakeMask p w i)))) =
      d.rd (F.NET_WAKE_CTL_CHECK.at [p, w]))

/-- The wake check of a port out of service (R173, R174). A frame that no pattern delivers is dropped. DESIGN CHOICE (log 89). -/
def Dev.wakeCheck (d : Dev) (p : Nat) (stored : List Byte) (wireLen trunc : Nat) (h : FrameHead) (rx : Tai) : RxEffect :=
  match d.wakeMatch p stored with
  | none => ([], d.netCount p 6)
  | some w =>
    let d := (d.netCount p 12).netSticky p F.NET_STICKY_WAKE_SEEN (toLE 4 w)
    let k := rxKey p (d.rd (F.NET_DEFAULT_Q_QUEUE.at [p]))
    if d.on (F.NET_WAKE_CTL_ACTION.at [p, w]) && (trunc = 0 || d.rxDest k) then
      let tci := h.pcp * 8192 + (if h.tagged then h.vid else d.rd (F.NET_VLAN_PVID.at [p]))
      d.storeFrame p k stored wireLen (trunc * 2 ^ 23 + 2 ^ 22 + w * 2 ^ 19) tci h.tagged rx
    else ([], d.netCount p 6)

/-! ### MAC control and ESMC (R180, R183) -/

/-- A pause quantum in 1/100 datapath cycle: 51.2, 204.8 or 512 ns. -/
def quantum (speed : Nat) : Nat := if speed = 0 then 2048 else if speed = 1 then 8192 else 20480

/-- When a pause ends, in cycles, rounded up. -/
def pauseEnd (x : Nat × Nat) : Nat := x.1 + ceilDiv x.2 100

/-- What remains of a pause, in quanta. -/
def Dev.pauseLeft (d : Dev) (p : Nat) : Nat :=
  match (d.port p).pause with
  | some (a, n) => ceilDiv (a * 100 + n - d.time.cycles * 100) (quantum (d.portSpeed p))
  | none => 0

/-- TX_PAUSED_US takes the whole microseconds for which the transmitter has been stopped so far; the rest of one is kept. -/
def Dev.countPaused (d : Dev) (p : Nat) : Dev :=
  let x := d.port p
  match x.pause with
  | none => d
  | some e =>
    let us := (min d.time.cycles (pauseEnd e) - x.pausedAt) / 400
    (d.setPort p { x with pausedAt := x.pausedAt + 400 * us }).netCount p 16 us

/-- TX_PAUSED_US of every port as a reader finds it. -/
def Dev.countPauses (d : Dev) : Dev := (List.range 5).foldl Dev.countPaused d

/-- The transmitter resumes. The part of a microsecond that is left goes into the next stop. -/
def Dev.resume (d : Dev) (p : Nat) : Dev :=
  let d := d.countPaused p
  let x := d.port p
  match x.pause with
  | none => d
  | some e =>
    let d := d.setPort p { x with pause := none, pausedRest := min d.time.cycles (pauseEnd e) - x.pausedAt }
    if p = 4 then d else d.wr (F.NET_STATUS_PAUSED.at [p]) 0

/-- A PAUSE frame (R180): it starts or restarts the count, and a time of 0 resumes. -/
def Dev.pauseFrame (d : Dev) (p quanta : Nat) : Dev :=
  let d := (d.netCount p 10).netSticky p F.NET_STICKY_PAUSE_SEEN
  let heed := p = 4 || d.on (F.NET_CFG_PAUSE_RX_EN.at [p])
  if !heed then d
  else if quanta = 0 then d.resume p
  else
    let d := if d.paused p then d.countPaused p else d.resume p
    let x := d.port p
    let since := if x.pause.isSome then x.pausedAt else d.time.cycles - x.pausedRest
    let d := d.setPort p { x with pause := some (d.time.cycles, quanta * quantum (d.portSpeed p)), pausedAt := since, pausedRest := 0 }
    if p = 4 then d else d.wr (F.NET_STATUS_PAUSED.at [p]) 1

/-- An ESMC PDU (G.8264) feeds the SyncE slot of its port (R83, R183). Its payload begins at `i`. -/
def Dev.esmcFrame (d : Dev) (p : Nat) (b : List Byte) (i : Nat) : Dev :=
  let ext := if beAt b (i + 14) 1 = 2 ∧ i + 18 ≤ b.length then some (beAt b (i + 17) 1) else none
  let d := d.esmcLevel p (beAt b (i + 13) 1 % 16) ext
  if d.rd (F.NET_STATUS_SPEED_ACTIVE.at [p]) % 2 = 0 then d.wr (F.REF_SLOT_STATUS_ACTIVITY.at [6 + p]) 1 else d

/-- The quality level a port transmits (R83), as the SSM code and the extended code: that of a selected SyncE slot as it was received, else the
one of the smallest rank that is not below the selected rank. -/
def Dev.esmcTx (d : Dev) (p : Nat) : Nat × Nat :=
  let synce := match d.freqNow with | some n => if 6 ≤ n ∧ n ≤ 9 then some n else none | none => none
  if d.freqNow = some (6 + p) then (0xF, 0xFF)
  else if d.fpath = 3 ∨ d.fpath = 0 then (0xB, 0xFF)
  else match synce with
  | some n => ((d.slot n).ssm, (d.slot n).ext.getD 0xFF)
  | none =>
    let r := d.rd F.REF_SEL_STATUS_FREQ_RANK
    match [(16, 2, 0x21), (24, 2, 0x20), (28, 2, 0x23), (32, 2, 0xFF), (64, 4, 0xFF), (80, 8, 0xFF), (96, 0xB, 0x22),
        (100, 0xB, 0xFF)].find? (fun x => decide (r ≤ x.1)) with
    | some x => (x.2.1, x.2.2)
    | none => (0xF, 0xFF)

/-- An ESMC PDU with its QL TLV and its extended QL TLV. -/
def esmcPdu (src ssm ext clock : Nat) (event : Bool) : List Byte :=
  ethHead 0x0180C2000002 src 0x8809 ++ [0x0A, 0x00, 0x19, 0xA7, 0x00, 0x01].map byteOf ++ toBE 1 (0x10 + 8 * bit event) ++
    toBE 3 0 ++ [1, 0, 4] ++ toBE 1 ssm ++ [2, 0, 0x14] ++ toBE 1 ext ++ toBE 8 clock ++ [0, 1, 0] ++ List.replicate 5 0

/-- ESMC_TX (R183): `event` for the PDU of a changed level. -/
def execEsmcTx (port : Fin 4) (event : Bool) (s : State) : Host.Outcome State Fault Refusal :=
  s.act fun d =>
    if !d.inServicePort port || !d.on (F.NET_CFG_ESMC_TX_EN.at [port]) then d
    else
      let q := d.esmcTx port
      d.queueTx port clsPtpGeneral (esmcPdu (d.station port) q.1 q.2 (ofBE (slice Config.eui64 0 8)) event)

/-! ### IP handling of the device itself (R167) -/

/-- The device answers for an IPv4 address: its station address, or its service address while it serves (R166). -/
def Dev.owns4 (d : Dev) (p ip : Nat) : Bool := ip ≠ 0 && (ip = (d.ip4 p).1 || (ip = (d.ip4 p).2 && d.serving))

/-- The device answers for an IPv6 address. -/
def Dev.owns6 (d : Dev) (p ip : Nat) : Bool :=
  ip ≠ 0 && (ip = d.linkLocal p || ip = (d.ip6 p).1 || (ip = (d.ip6 p).2 && d.serving))

/-- The MAC address that goes with an owned IPv4 address. -/
def Dev.macOf4 (d : Dev) (p ip : Nat) : Nat := if ip = (d.ip4 p).2 && ip ≠ (d.ip4 p).1 then d.service p else d.station p

/-- The MAC address that goes with an owned IPv6 address. -/
def Dev.macOf6 (d : Dev) (p ip : Nat) : Nat := if ip = (d.ip6 p).2 && ip ≠ (d.ip6 p).1 then d.service p else d.station p

/-- Remember a neighbour. -/
def Dev.learn (d : Dev) (p ip mac : Nat) : Dev :=
  let x := d.port p
  d.setPort p { x with neighbours := (ip, mac) :: x.neighbours.filter (fun n => n.1 ≠ ip) }

/-- One more echo in this second, at most 100 (R167). -/
def Dev.echoAllowed (d : Dev) (p : Nat) : Dev × Bool :=
  let x := d.port p
  let now := d.time.cycles / 400000000
  let n := if x.echoSec = now then x.echoes else 0
  (d.setPort p { x with echoSec := now, echoes := n + 1 }, decide (n < 100))

/-- ARP on a port. -/
def Dev.arpIn (d : Dev) (p : Nat) (b : List Byte) (i : Nat) : Dev :=
  let op := beAt b (i + 6) 2
  let sha := beAt b (i + 8) 6
  let spa := beAt b (i + 14) 4
  let tpa := beAt b (i + 24) 4
  if op = 2 then d.learn p spa sha
  else if op = 1 && d.owns4 p tpa then
    let mac := d.macOf4 p tpa
    d.queueTx p 3 (arpFrame sha mac 2 mac tpa sha spa)
  else d

/-- IPv4 faults that discard a frame (R167): a fragment, a bad header checksum, a non-zero UDP checksum that fails. -/
def ip4Bad (b : List Byte) (i : Nat) : Bool :=
  let hl := beAt b i 1 % 16 * 4
  let len := beAt b (i + 2) 2
  let udp := slice b (i + hl) (len - hl)
  let pseudo := slice b (i + 12) 8 ++ [0, 17] ++ toBE 2 udp.length
  decide (beAt b (i + 6) 2 % 16384 ≠ 0) || onesSum (slice b i hl) ≠ 0xFFFF ||
    (beAt b (i + 9) 1 = 17 && beAt udp 6 2 ≠ 0 && onesSum (pseudo ++ udp) ≠ 0xFFFF)

/-- IPv6 faults: a UDP checksum that fails. -/
def ip6Bad (b : List Byte) (i : Nat) : Bool :=
  let len := beAt b (i + 4) 2
  let udp := slice b (i + 40) len
  let pseudo := slice b (i + 8) 32 ++ toBE 4 len ++ [0, 0, 0, 17]
  beAt b (i + 6) 1 = 17 && beAt udp 6 2 ≠ 0 && onesSum (pseudo ++ udp) ≠ 0xFFFF

/-- ICMP echo and IGMP queries over IPv4. -/
def Dev.ip4In (d : Dev) (p : Nat) (b : List Byte) (i : Nat) : Dev :=
  let hl := beAt b i 1 % 16 * 4
  let proto := beAt b (i + 9) 1
  let src := beAt b (i + 12) 4
  let dst := beAt b (i + 16) 4
  let body := slice b (i + hl) (beAt b (i + 2) 2 - hl)
  if proto = 1 && beAt body 0 1 = 8 && d.owns4 p dst then
    let e := d.echoAllowed p
    if e.2 then
      let r := [0, 0, 0, 0].map byteOf ++ body.drop 4
      let r := r.take 2 ++ toBE 2 (inetSum r) ++ r.drop 4
      e.1.queueTx p 3 (padFrame (ethHead (beAt b 6 6) (d.macOf4 p dst) 0x0800 ++ ip4Packet dst src 1 64 r))
    else e.1
  else if proto = 2 && beAt body 0 1 = 0x11 then
    let d := d.setPort p { d.port p with igmpV2 := decide (body.length < 12) }
    d.reportGroups p
  else d

/-- ICMPv6 on a port: echo, neighbour solicitation and advertisement, listener queries. -/
def Dev.ip6In (d : Dev) (p : Nat) (b : List Byte) (i : Nat) : Dev :=
  let src := beAt b (i + 8) 16
  let dst := beAt b (i + 24) 16
  let body := slice b (i + 40) (beAt b (i + 4) 2)
  if beAt b (i + 6) 1 ≠ 58 then d
  else
    let t := beAt body 0 1
    if t = 128 && d.owns6 p dst then
      let e := d.echoAllowed p
      if e.2 then
        e.1.queueTx p 3 (ethHead (beAt b 6 6) (d.macOf6 p dst) 0x86DD ++
          ip6Packet dst src 58 64 (icmp6 dst src ([129, 0, 0, 0].map byteOf ++ body.drop 4)))
      else e.1
    else if t = 135 && d.owns6 p (beAt body 8 16) then
      let ip := beAt body 8 16
      d.queueTx p 3 (naFrame (beAt b 6 6) (d.macOf6 p ip) ip src 3)
    else if t = 136 then d.learn p (beAt body 8 16) (beAt body 26 6)
    else if t = 130 then d.reportGroups p
    else d

/-! ### The classifier (R172) -/

/-- A UDP frame's IP version, IP destination and destination port, and where its payload begins. -/
structure UdpHead where
  v6 : Bool
  ip : Nat
  port : Nat
  at_ : Nat
  deriving DecidableEq, Repr

/-- Read them, where the frame is UDP. -/
def udpOf (b : List Byte) (h : FrameHead) : Option UdpHead :=
  let hl := beAt b h.at_ 1 % 16 * 4
  if h.etype = 0x0800 ∧ beAt b (h.at_ + 9) 1 = 17 then
    some ⟨false, beAt b (h.at_ + 16) 4, beAt b (h.at_ + hl + 2) 2, h.at_ + hl + 8⟩
  else if h.etype = 0x86DD ∧ beAt b (h.at_ + 6) 1 = 17 then some ⟨true, beAt b (h.at_ + 24) 16, beAt b (h.at_ + 42) 2, h.at_ + 48⟩
  else none

/-- A frame lies in a stream's or a service's VLAN (R171): an untagged frame, and a VID of 0 in a row, stand for PVID. MGT has no VLANs.
DEDUCED (log 90). -/
def Dev.inVlan (d : Dev) (p vid row : Nat) : Bool :=
  let pvid := d.rd (F.NET_VLAN_PVID.at [p])
  p = 4 || (if vid = 0 then pvid else vid) = (if row = 0 then pvid else row)

/-- The copies of enabled receive contexts that a UDP destination in a VLAN belongs to (R172, R204). -/
def Dev.mediaCopies (d : Dev) (p vid : Nat) (v6 : Bool) (ip port : Nat) : List (Nat × Bool) :=
  (List.range 256).flatMap (fun c =>
    let st := d.rd (F.STR_CTX_STATUS_STATE.un c)
    if (st = 1 ∨ st = 2 ∨ st = 3) ∧ d.on (F.STR_CTX_CFG_IPV6.un c) = v6 then
      (if d.rd (F.STR_CTX_NET_PORT_A.un c) = p ∧ d.ctxAddr F.STR_CTX_DST_A_ADDR c = ip ∧ d.rd (F.STR_CTX_UDP_UDP_A.un c) = port ∧
          d.inVlan p vid (d.rd (F.STR_CTX_VLAN_VID_A.un c)) then [(c, false)] else []) ++
        (if d.on (F.STR_CTX_CFG_PAIRED.un c) ∧ d.rd (F.STR_CTX_NET_PORT_B.un c) = p ∧
          d.ctxAddr F.STR_CTX_DST_B_ADDR c = ip ∧ d.rd (F.STR_CTX_UDP_UDP_B.un c) = port ∧
          d.inVlan p vid (d.rd (F.STR_CTX_VLAN_VID_B.un c)) then [(c, true)] else [])
    else [])

/-- A frame that an engine takes (R172): PTP in the port's domain and transport, NTP to a service address, ODP to a station or service
address, each in the service's VLAN, and media of a context. What the engine does with it is that engine's own command, which frees
the buffers. DESIGN CHOICE (log 90). -/
def Dev.takenByEngine (d : Dev) (p : Nat) (b : List Byte) (h : FrameHead) : Bool :=
  let service := fun (u : UdpHead) => u.ip ≠ 0 && u.ip = (if u.v6 then (d.ip6 p).2 else (d.ip4 p).2)
  let station := fun (u : UdpHead) => u.ip ≠ 0 && (if u.v6 then u.ip = d.linkLocal p || u.ip = (d.ip6 p).1 else u.ip = (d.ip4 p).1)
  let vid := if h.tagged then h.vid else 0
  let vlan := d.inVlan p vid (d.rd (F.NET_VLAN_SVC_VID.at [p]))
  let udp := d.on (F.TIM_PTP_CFG_TRANSPORT.at [p])
  let ptp := fun (i : Nat) => decide (p < 4) && vlan && decide (4 ≤ d.ptpState p) && beAt b (i + 4) 1 = d.rd (F.TIM_PTP_CFG_DOMAIN.at [p])
  match udpOf b h with
  | some u =>
    (u.port = 49731 && vlan && (station u || service u)) ||
    (decide (p < 4) && ((!u.v6 && udp && (u.port = 319 || u.port = 320) && ptp u.at_) || (u.port = 123 && vlan && service u) ||
      !(d.mediaCopies p vid u.v6 u.ip u.port).isEmpty))
  | none => h.etype = 0x88F7 && !udp && ptp h.at_

/-- What MGT's own IP handling takes (R165): ICMP echo, and neighbour discovery; a NET port takes all of ICMP, IGMP and MLD (R172). -/
def mgtKeeps (v6 : Bool) (kind proto : Nat) : Bool :=
  if v6 then kind = 128 || kind = 135 || kind = 136 else proto = 1 && kind = 8

/-- Rows 8 to 10 of R169 for a frame that is not control: filter, buffers, classifier. DESIGN CHOICE (log 90). -/
def Dev.deliver (d : Dev) (p : Nat) (stored : List Byte) (wireLen : Nat) (trunc : Bool) (h : FrameHead) (rx : Tai) : RxEffect :=
  match d.filter p h with
  | none => ([], d.netCount p 5)
  | some k =>
    let pvid := if p = 4 then 0 else d.rd (F.NET_VLAN_PVID.at [p])
    let tci := h.pcp * 8192 + (if h.tagged then h.vid else pvid)
    let short := fun (d : Dev) =>
      let free := d.rxFree k
      if free.isEmpty then some ((d.netCount p 7).netSticky p F.NET_STICKY_NOBUF_SEEN)
      else if free.length * 2048 < stored.length then
        some (((d.netCount p 8).netCount p 9 free.length).netSticky p F.NET_STICKY_NOBUF_SEEN)
      else none
    match short d with
    | some d => ([], d)
    | none =>
      if trunc then (if d.rxDest k then d.storeFrame p k stored wireLen (2 ^ 23) tci h.tagged rx else ([], d.netCount p 0))
      else if (h.etype = 0x0800 && ip4Bad stored h.at_) || (h.etype = 0x86DD && ip6Bad stored h.at_) then ([], d.netCount p 13)
      else if d.takenByEngine p stored h then ([], d.netCount p 0)
      else if h.etype = 0x0806 then ([], (d.arpIn p stored h.at_).netCount p 0)
      else if h.etype = 0x0800 && (beAt stored (h.at_ + 9) 1 = 1 || beAt stored (h.at_ + 9) 1 = 2) &&
          (p ≠ 4 || mgtKeeps false (beAt stored (h.at_ + beAt stored h.at_ 1 % 16 * 4) 1) (beAt stored (h.at_ + 9) 1)) then
        ([], (d.ip4In p stored h.at_).netCount p 0)
      else if h.etype = 0x86DD && beAt stored (h.at_ + 6) 1 = 58 &&
          (p ≠ 4 || mgtKeeps true (beAt stored (h.at_ + 40) 1) 58) then ([], (d.ip6In p stored h.at_).netCount p 0)
      else if d.rxDest k then d.storeFrame p k stored wireLen 0 tci h.tagged rx
      else ([], d.netCount p 0)

/-- A NET port's receiver and link are heard from BOOTSTRAP on (R54, R173), but while a relay settles (R184). DESIGN CHOICE (log 180). -/
def Dev.hears (d : Dev) (p : Nat) : Bool :=
  d.portEn p && !d.portSettles p && (d.booted || (decide (p < 4) && d.alive && d.mode.mode = .bootstrap && !d.pins.testEn))

/-- A received frame is decided in the order of R169. `frame` is the frame without its FCS. DESIGN CHOICE (log 89). -/
def Dev.frameIn (d : Dev) (p : Nat) (frame : List Byte) (fcsOk : Bool) (detected : Tai) : RxEffect :=
  let len := frame.length + 4
  let rx := if p = 4 then detected else d.ingress p detected
  if !d.hears p then ([], d)
  else if len ≤ 63 then ([], d.netCount p 1)
  else if !fcsOk then ([], d.netCount p 2)
  else
    let trunc := decide (d.maxFrame p < len)
    let stored := frame.take (d.maxFrame p - 4)
    let d := if trunc then (d.netCount p 3).netSticky p F.NET_STICKY_TRUNC_SEEN else d
    let h := frameHead stored
    if !d.inServicePort p then d.wakeCheck p stored len (bit trunc) h rx
    else if !d.acceptsMac p (beAt stored 0 6) h.etype then ([], d.netCount p 4)
    else if h.etype = 0x8808 then
      if beAt stored h.at_ 2 = 1 then ([], (d.pauseFrame p (beAt stored (h.at_ + 2) 2)).netCount p 0)
      else ([], d.netCount p 11)
    else if decide (p < 4) && h.etype = 0x8809 && beAt stored h.at_ 1 = 0x0A then
      ([], (if trunc then d else d.esmcFrame p stored h.at_).netCount p 0)
    else d.deliver p stored len trunc h rx

/-- FRAME_RX (R169). -/
def execFrameRx (port : Port) (frame : List Byte) (fcsOk : Bool) (detected : Tai) (s : State) :
    Host.Outcome State Fault Refusal :=
  s.actMem fun _ d => d.frameIn port.num frame fcsOk detected

/-- PAUSE_EXPIRY (R180). -/
def execPauseExpiry (port : Port) (s : State) : Host.Outcome State Fault Refusal :=
  s.act fun d =>
    if d.booted && (d.port port.num).pause.isSome && !d.paused port.num then d.resume port.num else d

/-! ### The transmitter (R179, R181) -/

/-- The link of a port is up. -/
def Dev.portLink (d : Dev) (p : Nat) : Bool := if p = 4 then d.on F.MGT_STATUS_LINK else d.linkUp p

/-- The transmitter of a port may start a frame. -/
def Dev.mayTransmit (d : Dev) (p : Nat) : Bool :=
  d.inServicePort p && d.portLink p && !d.paused p && !d.portSettles p

/-- The earliest launch-timed packet whose instant has come. -/
def dueMedia (now : Tai) (l : List MediaTx) : Option MediaTx :=
  (l.filter (fun m => m.launch.le now)).foldl
    (fun best m => match best with
      | none => some m
      | some b => if m.launch.lt b.launch then some m else some b) none

/-- The first frame of the highest class. -/
def nextFrame (l : List TxFrame) : Option TxFrame :=
  let top := l.foldl (fun m f => max m f.cls) 0
  l.find? (fun f => f.cls = top)

/-- TX_FRAME_SELECT (R179): the frame is sent, and a host's buffer frees itself. A media packet that is past its lateness
limit is not started. -/
def execTxFrameSelect (port : Port) (s : State) : Host.Outcome State Fault Refusal :=
  s.act fun d =>
    let p := port.num
    let x := d.port p
    if !d.mayTransmit p then d
    else
      let tol : Nat := if p = 4 then 0 else d.rd (F.NET_LATE_TOL_LATE_TOL.at [p])
      let ok := x.media.filter (fun m => d.time.tai.le (m.launch.addNs tol))
      match dueMedia d.time.tai ok with
      | some m =>
        let d := d.setPort p { x with media := x.media.erase m }
        (d.emit (.media m.ctx m.copyB m.frame)).netCount p 14
      | none =>
        match nextFrame x.txq with
        | none => d
        | some f =>
          let d := d.setPort p { x with txq := x.txq.erase f }
          let d := match f.buffer with
            | some b => { d with net := { d.net with txAlloc := d.net.txAlloc.filter (· ≠ b) } }
            | none => d
          (d.emit f.out).netCount p 14

/-- TX_LATE_DROP (R181): packets that have not started by launch + LATE_TOL are discarded at that instant. -/
def execTxLateDrop (port : Fin 4) (s : State) : Host.Outcome State Fault Refusal :=
  s.act fun d =>
    let x := d.port port
    let tol : Nat := d.rd (F.NET_LATE_TOL_LATE_TOL.at [port])
    let late := x.media.filter (fun m => (m.launch.addNs tol).le d.time.tai)
    if !d.booted || late.isEmpty then d
    else
      let d := d.setPort port { x with media := x.media.filter (fun m => !((m.launch.addNs tol).le d.time.tai)) }
      (d.netCount port 15 late.length).netSticky port F.NET_STICKY_LATE_DROP_SEEN

/-! ### The host path (R177, R178) -/

/-- Take a free transmit buffer for the host; none is free when all 512 are held. DESIGN CHOICE (log 94). -/
def Dev.txAlloc (d : Dev) : Nat × Dev :=
  match ((List.range 512).map (· + 1536)).find? (fun b => !d.net.txAlloc.contains b) with
  | some b => (b, { d with net := { d.net with txAlloc := d.net.txAlloc ++ [b] } })
  | none => (0xFFFFFFFF, d)

/-- NET_TX_ALLOC (R178): the read's answer goes to the host. -/
def execNetTxAlloc (s : State) : Host.Outcome State Fault Refusal :=
  s.act fun d =>
    if !d.booted then d
    else
      let r := d.txAlloc
      r.2.emit (.hostWords [BitVec.ofNat 32 r.1])

/-- A transmit buffer belongs to the host and is not waiting to be sent. DESIGN CHOICE (log 93). -/
def Dev.hostBuffer (d : Dev) (b : Nat) : Bool :=
  d.net.txAlloc.contains b && !(List.range 5).any (fun p => (d.port p).txq.any (fun f => f.buffer = some b))

/-- Queue a host frame, or refuse it with RANGE in NET_TX_RESULT (R178). -/
def Dev.txPost (m : Mem) (d : Dev) (p cls buffer len : Nat) : Dev :=
  let show_ := fun (d : Dev) (st : Status) =>
    if p = 4 then d.wr F.MGT_TX_RESULT_STATUS st.code else d.wr (F.NET_TX_RESULT_STATUS.at [p]) st.code
  if decide (len < 14 ∨ 2044 < len ∨ d.maxFrame p - 4 < len) || !d.hostBuffer buffer then show_ d .range
  else
    let bytes := (List.range len).map (fun i => m.read (bufAddr buffer i))
    show_ (d.queueTx p cls bytes (some buffer)) .ok

/-- NET_TX_POST (R178). -/
def execNetTxPost (port : Port) (cls : Fin 8) (buffer length : BitVec 11) (s : State) : Host.Outcome State Fault Refusal :=
  s.actMem fun m d => ([], if d.booted then Dev.txPost m d port.num cls buffer.toNat length.toNat else d)

/-- NET_RX_RETURN (R177). -/
def execNetRxReturn (first : BitVec 11) (s : State) : Host.Outcome State Fault Refusal :=
  s.act fun d => if d.booted then d.returnChain first.toNat else d

/-- The buffer after one in its chain, 0xFFFF at its end (R177). -/
def Dev.bufNext (d : Dev) (b : Nat) : Nat :=
  match d.net.chains.findSome? (fun c => (c.2.bufs.findIdx? (· = b)).map (fun i => c.2.bufs.getD (i + 1) 0xFFFF)) with
  | some n => n
  | none => 0xFFFF

/-! ### Links (R164, R165) -/

/-- A NET port's link goes down (R164, R88, R122). -/
def Dev.linkDown (d : Dev) (p : Nat) : Dev :=
  if !d.linkUp p then d
  else
    let d := (d.wr (F.NET_STATUS_LINK.at [p]) 0).wr (F.NET_STATUS_PCS_LOCK.at [p]) 0
    let d := d.wr (F.NET_STATUS_AN_DONE.at [p]) 0
    let d := (d.netCount p 18).netSticky p F.NET_STICKY_LINK_CHANGE_SEEN
    let d := (d.esmcLevel p 0 none).loseSlot (6 + p)
    d.ptpRefresh

/-- LINK_DOWN (R164): the PCS lost lock or synchronisation, or reports hi_ber. -/
def execLinkDown (port : Fin 4) (s : State) : Host.Outcome State Fault Refusal :=
  s.act fun d =>
    if !d.hears port then d
    else ((d.netCount port 17).netSticky port F.NET_STICKY_PCS_ERR_SEEN).linkDown port

/-- LINK_UP (R164): 10 ms of link OK, and negotiation has completed where AN_EN is 1. -/
def execLinkUp (port : Fin 4) (s : State) : Host.Outcome State Fault Refusal :=
  s.act fun d =>
    if !d.hears port || d.linkUp port then d
    else
      let sp := d.rd (F.NET_CFG_SPEED.at [port])
      let d := (d.wr (F.NET_STATUS_LINK.at [port]) 1).wr (F.NET_STATUS_PCS_LOCK.at [port]) 1
      let d := d.wr (F.NET_STATUS_SPEED_ACTIVE.at [port]) sp
      let d := d.wrBit (F.NET_STATUS_AN_DONE.at [port]) (d.on (F.NET_CFG_AN_EN.at [port]) && decide (2 ≤ sp))
      let d := d.netSticky port F.NET_STICKY_LINK_CHANGE_SEEN
      let d := if sp % 2 = 0 then d.wr (F.REF_SLOT_STATUS_ACTIVITY.at [6 + port]) 1 else d
      d.ptpRefresh

/-- PHY_POLL (R165): clause 22 register 1 of PHY_ADDR gives the link in bit 2. -/
def execPhyPoll (status : BitVec 16) (s : State) : Host.Outcome State Fault Refusal :=
  s.act fun d =>
    if !d.alive || !d.on F.MGT_CFG_EN || !d.on F.MGT_CFG_PHY_POLL_EN then d
    else
      let up := bitAt status.toNat 2
      let was := d.on F.MGT_STATUS_LINK
      let d := d.wrBit F.MGT_STATUS_LINK up
      if was && !up then d.netCount 4 18 else d

/-- GO starts one MDIO frame; while it reads 1 no other starts (R165). -/
def Dev.mdio (d : Dev) (clause45 : Bool) (op phy reg data : Nat) : Dev :=
  if d.on F.MGT_MDIO_CMD_GO then d
  else
    let d := (d.wr F.MGT_MDIO_CMD_GO 1).wrBit F.MGT_MDIO_CMD_CLAUSE45 clause45
    let d := (d.wr F.MGT_MDIO_CMD_OP op).wr F.MGT_MDIO_CMD_PHYAD phy
    let d := (d.wr F.MGT_MDIO_CMD_REGAD reg).wr F.MGT_MDIO_DATA_DATA data
    let d := { d with net := { d.net with mdioRead := decide (2 ≤ op) } }
    d.emit (.mdio clause45 op phy reg data)

/-- MDIO_COMMAND (R165). DESIGN CHOICE (log 95). -/
def execMdioCommand (clause45 : Bool) (op : Fin 4) (phy reg : BitVec 5) (data : BitVec 16) (s : State) :
    Host.Outcome State Fault Refusal :=
  s.act fun d => if d.alive && !d.pins.testEn then d.mdio clause45 op phy.toNat reg.toNat data.toNat else d

/-! ### Ring bypass (R184) -/

/-- Whether a relay's pin is driven low in the present mode (R54), FORCE apart. -/
def Dev.bypassLow (d : Dev) : Bool := d.mode.mode = .commission || d.mode.mode.svc || d.mode.mode.stby

/-- Bring the relays in line with the mode and FORCE; a change starts the settling of its two ports. -/
def Dev.bypass (d : Dev) : Dev :=
  let one := fun (d : Dev) (r : Nat) (force on settle : Fld) =>
    let want := d.bypassLow && !d.on force
    if d.on on = want then d
    else
      let d := (d.wrBit on want).wr settle 1
      { d with net := { d.net with settle := d.net.settle.put r d.time.cycles } }
  let d := one d 0 F.NET_BYPASS_CTL_FORCE_A F.NET_BYPASS_STATUS_A_ENERGISED F.NET_BYPASS_STATUS_A_SETTLING
  one d 1 F.NET_BYPASS_CTL_FORCE_B F.NET_BYPASS_STATUS_B_ENERGISED F.NET_BYPASS_STATUS_B_SETTLING

/-- BYPASS_SETTLE_EXPIRY (R184). -/
def execBypassSettleExpiry (relayB : Bool) (s : State) : Host.Outcome State Fault Refusal :=
  s.act fun d =>
    let r := bit relayB
    let since := d.net.settle.get 0 r
    if d.booted && d.settling r && d.past since (d.rd F.NET_BYPASS_CTL_SETTLE_MS) then
      d.wr (if relayB then F.NET_BYPASS_STATUS_B_SETTLING else F.NET_BYPASS_STATUS_A_SETTLING) 0
    else d

/-! ### The block's apply point (R182) -/

/-- The port a NET field belongs to: 4 for MGT's page, none for the bypass page. -/
def netFieldPort (f : Fld) : Option Nat :=
  if 0x4000 ≤ f.off ∧ f.off < 0x4400 ∨ 0x6800 ≤ f.off ∧ f.off < 0x7000 then some 4
  else if f.off < 0x400 then none else some (f.off / 0x4000)

/-- Whether the unit of a stopped-only NET field runs: its port's EN. -/
def Dev.netRunning (d : Dev) (f : Fld) : Bool :=
  match netFieldPort f with | some p => d.portEn p | none => false

/-- A queue's BUFS as a strobe leaves it: a running port's stays (R175). -/
def Dev.bufsAfter (d : Dev) (vals : Tbl Nat) (k : Nat) : Nat :=
  let f := if k = 64 then F.MGT_RXQ0_CFG_BUFS else F.NET_RXQ_CFG_BUFS.at [k / 16, k % 16]
  if d.netRunning f then d.rd f else d.proposed vals f

/-- A strobe that NET refuses as a whole with RANGE (R175, R186): a MAX_FRAME outside 1518 to 9600, or queues that would own more buffers
than the receive pool has. -/
def Dev.netRefused (d : Dev) (vals : Tbl Nat) : Bool :=
  vals.any (fun r => match fieldOf r.1 with
    | some f => f.blk = 5 && (f.off % 0x4000 = 0x400 || f.off = 0x4000) && f.lo = 0 && decide (r.2 < 1518 ∨ 9600 < r.2)
    | none => false) ||
  decide (1536 < ((List.range 65).map (d.bufsAfter vals)).sum)

/-- Drop what a strobe may not apply: LATE_TOL, SETTLE_MS and VID out of range. -/
def Dev.netCheck (d : Dev) (vals : Tbl Nat) : Tbl Nat × Status :=
  let bad := fun (f : Fld) (v : Nat) =>
    let o := f.off % 0x4000
    (o = 0x424 && decide (1000000 < v)) || (f.off = 0 && f.lo = 0 && decide (v < 1 ∨ 100 < v)) ||
    (decide (0x600 ≤ o ∧ o < 0x700) && o % 8 = 0 && f.lo = 0 && decide (4094 < v))
  let isBad := fun (r : Nat × Nat) => match fieldOf r.1 with | some f => decide (r.2 ≠ d.rd f) && bad f r.2 | none => false
  (vals.filter (fun r => !isBad r), if vals.any isBad then .range else .ok)

/-- Queues whose BUFS changed take their buffers anew, the lowest that no other queue owns or has filled; the others keep what they own, and
chains held for the host of a changed queue are forgotten. DESIGN CHOICE (log 91). -/
def Dev.layRx (old d : Dev) : Dev :=
  let changed := (List.range 65).filter (fun k => old.rxBufs k ≠ d.rxBufs k)
  if changed.isEmpty then d
  else
    let others := (List.range 65).filter (fun k => !changed.contains k)
    let held := d.net.chains.filter (fun c => !changed.contains c.2.queue)
    let free := others.map (fun k => (k, old.rxFree k))
    let owned := free.flatMap (·.2) ++ held.flatMap (·.2.bufs)
    let pool := (List.range 1536).filter (fun b => !owned.contains b)
    let r := changed.foldl (fun (a : Tbl (List Nat) × List Nat) k => (a.1.put k (a.2.take (d.rxBufs k)), a.2.drop (d.rxBufs k)))
      (free.foldl (fun t x => t.put x.1 x.2) [], pool)
    { d with net := { d.net with free := r.1, chains := held } }

/-- The NET block reaches its apply point (R182). -/
def Dev.applyNet (d : Dev) (group : Nat) (vals : Tbl Nat) : Dev × Status :=
  let c := d.netCheck vals
  let r := d.applyVals d.netRunning group c.1
  let d1 := d.layRx r.1
  let d1 := (List.range 4).foldl (fun x p => if d.portEn p && !x.portEn p then x.linkDown p else x) d1
  (d1.bypass, Status.orElse c.2 (if r.2 then .stoppedOnly else .ok))

end Sys2Proof.Machine
end

