-- ==== Sys2Proof/Machine/Admission.lean ====
section
/-! DEFINITION. Machine/Admission.lean: the matrix rate, the frame index, what is in service (R31 to R34) and the budget
scheduler's admission of work (R329, R334). -/

namespace Sys2Proof.Machine

/-! ### The rate and the grid (R17, R241) -/

/-- The matrix rate in Hz. -/
def Dev.fs (d : Dev) : Nat := if d.on F.MTX_RATE_RATE_NOW then 96000 else 48000

/-- The matrix runs at 96 kHz. -/
def Dev.is96 (d : Dev) : Bool := d.on F.MTX_RATE_RATE_NOW

/-- The grid index at or before a time (R17). -/
def Dev.indexAt (d : Dev) (t : Tai) : Nat := t.toSub * d.fs / subPerSec

/-- The grid index nearest to a time, halves rounded up. -/
def Dev.indexNear (d : Dev) (t : Tai) : Nat := (2 * t.toSub * d.fs + subPerSec) / (2 * subPerSec)

/-- The instant of a grid boundary, its sub-nanoseconds rounded down. -/
def Dev.gridAt (d : Dev) (k : Nat) : Tai := Tai.ofSub (k * subPerSec / d.fs)

/-! ### What is in service (R31 to R34) -/

/-- A unit is lost to fault. -/
def Dev.isLost (d : Dev) (kind unit : Nat) : Bool := d.cap.lost.contains (kind, unit)

/-- The units of a kind lost to fault. -/
def Dev.lostOf (d : Dev) (kind : Nat) : List Nat := (d.cap.lost.filter (·.1 = kind)).map (·.2)

/-- The slice a spare stands in for, when it stands in for one lost. -/
def spareFor (spare : Nat × Nat) : Option Nat := if spare.1 = 1 then some spare.2 else none

/-- A matrix slice serves its rows: it is not lost, or the spare stands in for it. -/
def Dev.mtxServes (d : Dev) (i : Nat) : Bool := !d.isLost 2 i || spareFor d.cap.mtxSpare = some i

/-- A stream slice serves its contexts. -/
def Dev.strServes (d : Dev) (i : Nat) : Bool := !d.isLost 3 i || spareFor d.cap.strSpare = some i

/-- A unit is shed. -/
def Dev.isShed (d : Dev) (u : ShedUnit) : Bool := d.pwr.shed.contains u

/-! ### Classes and admission (R329, R334) -/

/-- The classes of work (R329). -/
inductive WorkClass where
  | s | a | t | b
  deriving DecidableEq, Repr

/-- The predicted cost of `n` units of a row of R333, in mW, scaled by SCALE. -/
def Dev.cost (d : Dev) (k n : Nat) : Nat := n * d.rd (F.PWR_COEF_COEF.at [k]) * d.rd F.PWR_SCALE_SCALE / 1024

/-- The headroom of this tick (R334). DESIGN CHOICE (log 124). -/
def Dev.headroom (d : Dev) : Int :=
  (d.rd F.PWR_CAP_NOW_CAP : Int) - d.rd F.PWR_MARGIN_MARGIN - d.rd F.PWR_MEAS_P - d.pwr.admitted

/-- Whether class B work is refused while on battery (R338). -/
def Dev.bBarred (d : Dev) : Bool := d.on F.PWR_STATUS_ON_BATTERY && !d.on F.PWR_POLICY_B_ON_BATTERY

/-- Ask for admission (R334): class S always has it; the others when their cost fits the headroom. Counts what was decided. DESIGN CHOICE (log 124). -/
def Dev.allot (d : Dev) (c : WorkClass) (cost : Nat) : Bool × Dev :=
  let ok := c = .s || d.follows || (decide ((cost : Int) ≤ d.headroom) && !(c = .b && d.bBarred))
  if ok then (true, { d.tally (F.PWR_COUNT_COUNT.at [0]) with pwr := { d.pwr with admitted := d.pwr.admitted + cost } })
  else if c = .a then (false, d.tally (F.PWR_COUNT_COUNT.at [2]))
  else (false, d.tally (F.PWR_COUNT_COUNT.at [1]))

/-- The record of a budget decision (R306, type 0x05): unit kind as in R34 (9 voice, 10 tone, 11 row, 12 recorder, 13 bank), index, class,
action (0 refused, 1 shed, 2 restored, 3 admitted). -/
def Dev.noteBudget (d : Dev) (kind index : Nat) (c : WorkClass) (action : Nat) : Dev :=
  let code := match c with | .s => 0 | .a => 1 | .t => 2 | .b => 3
  d.note ([5, byteOf kind] ++ toBE 2 index ++ [byteOf code, byteOf action])

/-! ### Samples (R197, R244) -/

/-- Saturate to Q1.31. -/
def sat31 (v : Int) : Int := clampInt (-(2 ^ 31)) (2 ^ 31 - 1) v

/-- Round a value with `frac` bits beyond Q1.31 to nearest, ties toward +∞. -/
def roundUp (v : Int) (frac : Nat) : Int := (v + 2 ^ frac / 2) / 2 ^ frac

/-- A Q1.31 sample as a word of `bits` bits (R197): 16 and 24 round and saturate, 32 goes unchanged. -/
def toWord (bits : Nat) (v : Int) : Nat :=
  if bits = 32 then unsgn 32 v
  else unsgn bits (clampInt (-(2 ^ (bits - 1))) (2 ^ (bits - 1) - 1) (roundUp v (32 - bits)))

/-- A word of `bits` bits as a Q1.31 sample: it fills the top bits (R197). -/
def ofWord (bits w : Nat) : Int := sgn bits w * 2 ^ (32 - bits)

/-- A sample scaled by a gain of 1/256 steps; the rounding is left open. -/
def scale256 (g : Nat) (v : Int) : Int := if g = 256 then v else Config.openDiv 13 (v * g) 256

/-- An attenuation of `x` tenths of a dB as a fraction of `2 ^ bits`: the largest `r` with `r ≤ 2 ^ bits × 10 ^ (-x / 200)`. -/
def gainOf (bits x : Nat) : Nat :=
  (List.range (bits + 1)).foldl (fun r i =>
    let c := r + 2 ^ (bits - i)
    if c ^ 200 * 10 ^ x ≤ 2 ^ (bits * 200) then c else r) 0

/-- The same, its inexact value rounded as left open. -/
def gainOpen (bits x : Nat) : Nat :=
  let r := gainOf bits x
  if r ^ 200 * 10 ^ x = 2 ^ (bits * 200) then r else r + bit (Config.roundsUp 14 x bits)

end Sys2Proof.Machine
end

