-- ==== Sys2Proof/Machine/SelfTest.lean ====
section
/-! DEFINITION. Machine/SelfTest.lean: self-test instances, their results and their signatures, and service before test (R282 to
R287, R296). -/

namespace Sys2Proof.Machine

/-- The tests of R282: id, first result row, instances. -/
def testTable : List (Nat × Nat × Nat) :=
  [(1, 0, 1), (2, 1, 1), (3, 2, 4), (4, 6, 8), (5, 14, 16), (6, 30, 5), (7, 35, 5), (8, 40, 1), (9, 41, 16), (10, 57, 9),
    (11, 66, 9), (12, 75, 1), (13, 76, 1)]

/-- The result row of an instance; none where the test has no such instance. -/
def testRow (id inst : Nat) : Option Nat :=
  (testTable.find? (fun t => t.1 = id && decide (inst < t.2.2))).map (fun t => t.2.1 + inst)

/-- The test and the instance of a result row. -/
def testOf (row : Nat) : Nat × Nat :=
  match testTable.find? (fun t => decide (t.2.1 ≤ row ∧ row < t.2.1 + t.2.2)) with
  | some t => (t.1, row - t.2.1)
  | none => (0, 0)

/-- The parameter of the plan that sets a test's length: LOOP_MS for SERDES, the reserve's size for DRAM_PATTERN. -/
def Dev.testParam (d : Dev) (row : Nat) : Nat :=
  let plan := match d.sup.vigil with | some v => v.plan.getD 4 100 | none => d.obj 0x7010 5 0 100
  if 30 ≤ row ∧ row < 35 then plan
  else if row = 40 then d.boot.fitted - 1024 - d.boot.library - d.boot.recorder else 0

/-- A test's signature (R283): the observation stream, the cycle count, the completion word when the program ended. -/
def testSig (stream : List Byte) (cycles : Nat) (complete : Bool) : Nat :=
  crc32c (stream ++ toLE 8 cycles ++ (if complete then toLE 4 0x56474C44 else []))

/-- The expected signature of a row (R283). -/
def Dev.testExpect (d : Dev) (row : Nat) : Nat :=
  let p := d.testParam row
  testSig (Config.selfTestStream row p) (Config.selfTestCycles row p) true

/-- Post a Q6 item (R287). -/
def Dev.q6 (d : Dev) (id inst : Nat) (r : TestResult) : Dev :=
  d.enqueue 6 (toLE 4 (6 * 2 ^ 28 + r.result * 2 ^ 24 + id * 2 ^ 16 + inst * 2 ^ 8 + r.cause) ++ toLE 4 r.sig ++ toLE 4 r.expect ++
    toLE 8 r.cycles ++ toLE 6 r.tai.sec ++ toLE 2 r.measured ++ toLE 4 r.run)

/-- Set or clear the mark of a block under test: SELF_TEST of a port or a NET port, the spare held for rotation (R31). -/
def Dev.testHold (d : Dev) (row : Nat) (on : Bool) : Dev :=
  let t := testOf row
  if t.1 = 6 then (if t.2 < 4 then d.wrBit (F.NET_STATUS_SELF_TEST.at [t.2]) on else d)
  else if t.1 = 9 then d.wrBit (F.APT_STATUS_SELF_TEST.at [t.2]) on
  else if t.1 = 10 then
    if d.cap.mtxSpare.1 = 0 || d.cap.mtxSpare.1 = 3 then
      { d with cap := { d.cap with mtxSpare := if on then (3, t.2) else (0, 0) } }
    else d
  else if t.1 = 11 then
    if d.cap.strSpare.1 = 0 || d.cap.strSpare.1 = 3 then
      { d with cap := { d.cap with strSpare := if on then (3, t.2) else (0, 0) } }
    else d
  else d

/-- Record a result, post its item and raise its flag (R284, R286, R287). -/
def Dev.putResult (d : Dev) (row : Nat) (r : TestResult) : Dev :=
  let t := testOf row
  let d := { d with sup := { d.sup with results := d.sup.results.put row r } }
  let d := d.q6 t.1 t.2 r
  let d := match d.sup.vigil with
    | some v =>
      let v := { v with counts := (List.range 5).map (fun i => v.counts.getD i 0 + (if i = r.result then 1 else 0)) }
      { d with sup := { d.sup with vigil := some v } }
    | none => d
  if r.result = 1 then d.irq F.SUP_IRQ_STATUS_ST_FAIL row
  else if r.result = 2 then d.irq F.SUP_IRQ_STATUS_ST_INCOMPLETE row else d

/-- The run number shown with a result: 0 outside a Vigil. -/
def Dev.testRun (d : Dev) : Nat := if d.sup.vigil.isSome then d.sup.run else 0

/-- Control cycles that a test has run. -/
def Dev.testCycles (d : Dev) (t : Testing) : Nat := (d.time.cycles - t.start) / 2

/-- The instance in progress is cut (R285): its block is restored, and its signature, which lacks the completion word, is a free
value other than the expected one. DESIGN CHOICE (log 115). -/
def Dev.cutTest (d : Dev) (result cause : Nat) : Dev :=
  match d.sup.testing with
  | none => d
  | some t =>
    let e := d.testExpect t.row
    let r := d.draw .selfTest
    let sig := r.1 % 2 ^ 32
    let sig := if sig = e then (sig + 1) % 2 ^ 32 else sig
    let d := r.2.testHold t.row false
    let d := { d with sup := { d.sup with testing := none } }
    d.putResult t.row ⟨result, cause, sig, e, d.testCycles t, 0, d.time.tai, d.testRun⟩

/-- A service request aims at a row's block (R296): the test on it ends ABORTED_FOR_SERVICE. -/
def Dev.serviceRow (d : Dev) (row : Nat) : Dev :=
  match d.sup.testing with
  | some t => if t.row = row then d.cutTest 3 4 else d
  | none => d

/-- A service request aims at an audio port (R227). -/
def Dev.servicePort (d : Dev) (p : Nat) : Dev := d.serviceRow (41 + p)

/-- A field belongs to the block of a test row (R296); `vals` are the values that a strobe changes. -/
def Dev.rowField (d : Dev) (vals : Tbl Nat) (row : Nat) (f : Fld) : Bool :=
  let t := testOf row
  let n := t.2
  let window := fun (base size : Nat) => decide (base + n * size ≤ f.off ∧ f.off < base + (n + 1) * size)
  let src := fun (o : Nat) => d.proposed vals (F.CLK_OUT_CFG_SRC.at [o])
  match t.1 with
  | 3 => f.blk = 1 && (window 0x100 0x20 || (0x200 ≤ f.off && f.off < 0x280 && src ((f.off - 0x200) / 16) = n) ||
      (0x300 ≤ f.off && f.off < 0x320 && src (d.proposed vals (F.CLK_DLL_CFG_OUT_SEL.at [(f.off - 0x300) / 16])) = n))
  | 4 => f.blk = 1 && window 0x400 0x10
  | 5 => f.blk = 2 && window 0x100 0x40
  | 6 => f.blk = 5 && n < 4 && window 0 0x4000 && 0x400 ≤ f.off % 0x4000
  | 9 => f.blk = 7 && window 0 0x800 && decide (f.off % 0x800 < 0x700)
  | _ => false

/-- A strobe that enables or reconfigures a block under test ends the test first (R296). DESIGN CHOICE (log 118). -/
def Dev.serviceStrobe (d : Dev) (vals : Tbl Nat) : Dev :=
  match d.sup.testing with
  | none => d
  | some t =>
    if vals.any (fun r => match fieldOf r.1 with | some f => r.2 ≠ d.rd f && d.rowField vals t.row f | none => false) then d.serviceRow t.row
    else d

/-- A start or an ODP write that aims at a block under test ends the test (R296): these fields are the block's. -/
def Dev.serviceFields (d : Dev) (fs : List Fld) : Dev :=
  match d.sup.testing with
  | none => d
  | some t => if fs.any (d.rowField [] t.row) then d.serviceRow t.row else d

/-- A stream context that is to start uses its ports (R296). -/
def Dev.serviceLanes (d : Dev) (ports : List Nat) : Dev := ports.foldl (fun d p => d.serviceRow (30 + p)) d

/-- The spare is needed for a higher use (R31): the test that holds it ends. -/
def Dev.releaseSpare (d : Dev) (matrix : Bool) : Dev :=
  match d.sup.testing with
  | some t =>
    let id := (testOf t.row).1
    if (matrix && id = 10) || (!matrix && id = 11) then d.cutTest 3 5 else d
  | none => d

end Sys2Proof.Machine
end

