-- ==== Sys2Proof/Machine/Streams.lean ====
section
/-! DEFINITION. Machine/Streams.lean: media stream contexts (R188 to R211): admission, packets in and out, presentation,
redundant copies, concealment. -/

namespace Sys2Proof.Machine

/-! ### A context's settings -/

/-- A context's state beyond its registers. -/
def Dev.ctx (d : Dev) (c : Nat) : CtxSt := d.str.get {} c

/-- Replace it. -/
def Dev.setCtx (d : Dev) (c : Nat) (x : CtxSt) : Dev := { d with str := d.str.put c x }

/-- A field of a context. -/
def Dev.cf (d : Dev) (f : Fld) (c : Nat) : Nat := d.rd (f.un c)

/-- STATE: 0 DISABLED, 1 WAITING, 2 RUNNING, 3 LOST, 4 SENDING. -/
def Dev.ctxState (d : Dev) (c : Nat) : Nat := d.cf F.STR_CTX_STATUS_STATE c

/-- The context runs, or waits for the boundary at which it starts. -/
def Dev.ctxRuns (d : Dev) (c : Nat) : Bool := d.ctxState c != 0 || (d.ctx c).starting

/-- The contexts that run. -/
def Dev.ctxRunning (d : Dev) : List Nat := (List.range 256).filter d.ctxRuns

/-- Samples per packet of a packet time (R191). -/
def packetSamples (fs ptime : Nat) : Nat := fs / [8000, 4000, 3000, 1000, 250].getD ptime 1000

/-- Samples per packet of a context. -/
def Dev.ctxN (d : Dev) (c : Nat) : Nat := packetSamples d.fs (d.cf F.STR_CTX_CFG_PTIME c)

/-- Bytes per sample of a FORMAT: L16, L24, L32. -/
def formatBytes (f : Nat) : Nat := f + 2

/-- CHANNELS. -/
def Dev.ctxCh (d : Dev) (c : Nat) : Nat := d.cf F.STR_CTX_CFG_CHANNELS c

/-- The context transmits. -/
def Dev.ctxTx (d : Dev) (c : Nat) : Bool := d.cf F.STR_CTX_CFG_DIR c = 1

/-- The context has two copies. -/
def Dev.ctxPaired (d : Dev) (c : Nat) : Bool := d.cf F.STR_CTX_CFG_PAIRED c = 1

/-- The ports that a context uses. -/
def Dev.ctxPorts (d : Dev) (c : Nat) : List Nat :=
  d.cf F.STR_CTX_NET_PORT_A c :: (if d.ctxPaired c then [d.cf F.STR_CTX_NET_PORT_B c] else [])

/-- Ring positions of a copy (R201). -/
def Dev.ringD (d : Dev) : Nat := if d.is96 then 1920 else 960

/-- A context's class (R208). -/
def Dev.ctxClass (d : Dev) (c : Nat) : WorkClass := if d.cf F.STR_CTX_CFG_CLASS_S c = 1 then .s else .a

/-- The multicast memberships of a receive context: port, group and the source it is filtered for (R191). -/
def Dev.ctxGroups (d : Dev) (c : Nat) : List (Nat × ((Bool × Nat) × Option Nat)) :=
  let only := fun (f : Fld) => if d.cf F.STR_CTX_CFG_SRC_FLT_EN c = 1 then some (d.ctxAddr f c) else none
  let v6 := d.cf F.STR_CTX_CFG_IPV6 c = 1
  let a := d.ctxAddr F.STR_CTX_DST_A_ADDR c
  let b := d.ctxAddr F.STR_CTX_DST_B_ADDR c
  (if isGroup v6 a then [(d.cf F.STR_CTX_NET_PORT_A c, ((decide v6, a), only F.STR_CTX_SRC_A_ADDR))] else []) ++
    (if d.ctxPaired c && isGroup v6 b then [(d.cf F.STR_CTX_NET_PORT_B c, ((decide v6, b), only F.STR_CTX_SRC_B_ADDR))] else [])

/-! ### Admission (R189, R190) -/

/-- The slice that serves a context: the one it was placed on, or its own. -/
def Dev.ctxSlice (d : Dev) (c : Nat) : Option Nat :=
  match (d.ctx c).place.filter d.strServes with
  | some i => some i
  | none => if d.strServes (c / 32) then some (c / 32) else none

/-- The contexts that need a position: those that run, but for one that has been told to stop. -/
def Dev.ctxPlaced (d : Dev) : List Nat := d.ctxRunning.filter (fun c => !(d.ctx c).stopReq && (d.ctx c).fading.isNone)

/-- A slice serves and has a position for context c. -/
def Dev.strRoom (d : Dev) (c i : Nat) : Bool :=
  d.strServes i && decide ((d.ctxPlaced.filter (fun b => d.ctxSlice b = some i && b ≠ c)).length < 32)

/-- A slice with a free position for context c, its own first (R190). -/
def Dev.freeSlice (d : Dev) (c : Nat) : Option Nat :=
  if d.strRoom c (c / 32) then some (c / 32) else (List.range 8).find? (d.strRoom c)

/-- The packet rate of a context in packets per second, each copy counted. -/
def Dev.ctxRate (d : Dev) (c : Nat) : Nat := d.fs / d.ctxN c * (d.ctxPorts c).length

/-- Two channel ranges overlap. -/
def overlaps (a n b m : Nat) : Bool := decide (a < b + m ∧ b < a + n)

/-- The limits of R189 on a context that is to start, its budget apart; and R208's and R209's own refusals. -/
def Dev.ctxLimits (d : Dev) (c : Nat) : Status :=
  let rs := d.ctxRunning.filter (· ≠ c)
  let same := rs.filter (fun r => d.ctxTx r = d.ctxTx c)
  let chs := ((c :: same).map d.ctxCh).sum
  let cap := if d.is96 then 512 else 1024
  let paired := ((c :: same).filter d.ctxPaired).length
  let rate := ((c :: same).map d.ctxRate).sum
  let base := d.cf F.STR_CTX_MAP_CHAN_BASE c
  let n := d.ctxN c
  let bytes := d.ctxCh c * n * formatBytes (d.cf F.STR_CTX_CFG_FORMAT c)
  let extra := if d.cf F.STR_CTX_CFG_IPV6 c = 1 then 82 else 62
  let l := d.cf F.STR_CTX_MAP_LINK_OFFSET c
  let lo := if d.is96 then 24 else 12
  let hi := if d.is96 then 1920 else 960
  if d.ctxCh c = 0 then .range
  else if d.ctxPaired c && d.cf F.STR_CTX_NET_PORT_A c = d.cf F.STR_CTX_NET_PORT_B c then .range
  else if cap < chs then .capacity
  else if cap < base + d.ctxCh c then .range
  else if !d.ctxTx c && same.any (fun r => overlaps base (d.ctxCh c) (d.cf F.STR_CTX_MAP_CHAN_BASE r) (d.ctxCh r)) then .range
  else if 128 < paired then .capacity
  else if 2048000 < rate then .capacity
  else if (d.ctxPorts c).any (fun p => decide (d.maxFrame p < bytes + extra)) then .range
  else if l < lo || hi < l || l < n + 2 then .range
  else if d.on F.PAIR_CFG_EN && !d.ctxTx c && (d.ctxGroups c).length < (d.ctxPorts c).length then .range
  else if (d.freeSlice c).isNone then .capacity
  else .ok

/-- Record a context's status (R210). -/
def Dev.ctxResult (d : Dev) (c : Nat) (s : Status) : Dev := d.wr (F.STR_CTX_RESULT_RESULT.un c) s.code

/-- A start of a context is asked for (R200, R203, R208): admitted, it takes effect at the next frame boundary. Where audio is
not computed, EN stands and the context starts on entry to service (R209). A stop still waiting for its boundary is taken back; one in
progress ends first. DESIGN CHOICE (log 199). -/
def Dev.ctxStart (d : Dev) (c : Nat) : Dev × Status :=
  if d.ctxRuns c then
    let x := d.ctx c
    (if x.stopReq then (d.setCtx c { x with stopReq := false }).wrRun (F.STR_CTX_CFG_EN.un c) 1
     else if x.fading.isSome || x.endK.isSome then (d.setCtx c { x with restart := true }).wrRun (F.STR_CTX_CFG_EN.un c) 1
     else d, .ok)
  else
    let d := d.serviceLanes (d.ctxPorts c)
    let st := d.ctxLimits c
    if st ≠ .ok then
      let d := if st = .capacity then d.irq F.STR_IRQ_STATUS_CAPACITY c else d
      (d.ctxResult c st, st)
    else if !d.audioRuns then (d.wrRun (F.STR_CTX_CFG_EN.un c) 1, .ok)
    else
      let a := d.allot (d.ctxClass c) (d.cost 3 1)
      if !a.1 then ((a.2.ctxResult c .budget).noteBudget 0 c .a 0, .budget)
      else
        let d := a.2
        let place := (d.freeSlice c).filter (· ≠ c / 32)
        let d := d.setCtx c { starting := true, place := place }
        ((d.wrRun (F.STR_CTX_CFG_EN.un c) 1).ctxResult c .ok, .ok)

/-- A stop of a context is asked for (R200, R203): it takes effect at the next frame boundary. -/
def Dev.ctxStop (d : Dev) (c : Nat) : Dev :=
  let d := d.wrRun (F.STR_CTX_CFG_EN.un c) 0
  let x := d.ctx c
  if x.starting then d.setCtx c { x with starting := false }
  else if d.ctxState c = 0 then d
  else if x.fading.isSome || x.endK.isSome then d.setCtx c { x with restart := false }
  else d.setCtx c { x with stopReq := true }

/-- A context ends: DISABLED, its groups left. -/
def Dev.ctxEnd (d : Dev) (c : Nat) : Dev :=
  let gs := if d.ctxTx c then [] else d.ctxGroups c
  let d := (d.wr (F.STR_CTX_STATUS_STATE.un c) 0).wr (F.STR_CTX_STATUS_DEGRADED.un c) 0
  let d := (d.wr (F.STR_CTX_STATUS_COPY_A_OK.un c) 0).wr (F.STR_CTX_STATUS_COPY_B_OK.un c) 0
  let d := { d with str := d.str.del c }
  gs.foldl (fun d g => d.leaveGroup g.1 g.2) d

/-- A stop is complete: the context ends, and starts again where that was asked for meanwhile. -/
def Dev.ctxStopped (d : Dev) (c : Nat) : Dev := if (d.ctx c).restart then ((d.ctxEnd c).ctxStart c).1 else d.ctxEnd c

/-- A context stops for a lost position or the budget, with the 32-sample ramp (R33, R190, R335): its row reports the status. -/
def Dev.ctxDrop (d : Dev) (c : Nat) (s : Status) : Dev :=
  let x := d.ctx c
  let d := if x.starting then d.setCtx c { x with starting := false } else if d.ctxState c = 0 then d else
    d.setCtx c { x with stopReq := true }
  let d := if s = .capacity then d.irq F.STR_IRQ_STATUS_CAPACITY c else d
  d.ctxResult c s

/-! ### Unicast destinations (R196) -/

/-- The next hop of an IPv4 destination on a port: the gateway for one outside the service subnet. DESIGN CHOICE (log 92). -/
def Dev.nextHop (d : Dev) (p ip : Nat) : Nat :=
  let shift := 32 - d.obj 0x4000 17 p
  let gw := d.obj 0x4000 18 p
  if gw ≠ 0 && (d.ip4 p).2 / 2 ^ shift ≠ ip / 2 ^ shift then gw else ip

/-- The destination of a transmit copy: its port and address. -/
def Dev.ctxDest (d : Dev) (c : Nat) (copyB : Bool) : Nat × Nat :=
  if copyB then (d.cf F.STR_CTX_NET_PORT_B c, d.ctxAddr F.STR_CTX_DST_B_ADDR c)
  else (d.cf F.STR_CTX_NET_PORT_A c, d.ctxAddr F.STR_CTX_DST_A_ADDR c)

/-- The MAC address a transmit copy goes to: the group's, or the resolved neighbour's. -/
def Dev.ctxMac (d : Dev) (c : Nat) (copyB : Bool) : Option Nat :=
  let v6 := d.cf F.STR_CTX_CFG_IPV6 c = 1
  let t := d.ctxDest c copyB
  if isGroup v6 t.2 then some (groupMac (decide v6, t.2))
  else
    let hop := if v6 then t.2 else d.nextHop t.1 t.2
    ((d.port t.1).neighbours.find? (fun n => n.1 = hop)).map (·.2)

/-- A Neighbour Solicitation for an address. -/
def nsFrame (src ip from_ : Nat) : List Byte :=
  let dip := 0xFF02 * 2 ^ 112 + 0x1FF000000 + ip % 2 ^ 24
  let b := icmp6 from_ dip ([135, 0, 0, 0, 0, 0, 0, 0] ++ toBE 16 ip ++ [1, 1] ++ toBE 6 src)
  ethHead (groupMac (true, dip)) src 0x86DD ++ ip6Packet from_ dip 58 255 b

/-- Ask for the MAC address of a unicast destination. -/
def Dev.resolve (d : Dev) (c : Nat) (copyB : Bool) : Dev :=
  let v6 := d.cf F.STR_CTX_CFG_IPV6 c = 1
  let t := d.ctxDest c copyB
  if isGroup v6 t.2 || t.2 = 0 || !d.inServicePort t.1 then d
  else
    let mac := d.station t.1
    if v6 then d.queueTx t.1 3 (nsFrame mac t.2 (d.linkLocal t.1))
    else d.queueTx t.1 3 (arpFrame (2 ^ 48 - 1) mac 1 mac (d.ip4 t.1).1 0 (d.nextHop t.1 t.2))

/-- ARP_REFRESH (R196): a running transmit copy's unicast destination is resolved anew, every 60 s. -/
def execArpRefresh (context : Fin 256) (copyB : Bool) (s : State) : Host.Outcome State Fault Refusal :=
  s.act fun d =>
    if d.booted && d.ctxState context = 4 && (!copyB || d.ctxPaired context) then d.resolve context copyB else d

/-! ### Frame boundary (R200, R203) -/

/-- A context's start takes effect at frame boundary k. -/
def Dev.ctxBegin (d : Dev) (c k : Nat) : Dev :=
  let x : CtxSt := { place := (d.ctx c).place }
  if d.ctxTx c then
    let n := d.ctxN c
    let d := d.setCtx c { x with nextK := ceilDiv k n * n }
    let d := d.wr (F.STR_CTX_STATUS_STATE.un c) 4
    (if d.ctxPaired c then [false, true] else [false]).foldl (fun d b => if (d.ctxMac c b).isNone then d.resolve c b else d) d
  else
    let d := d.setCtx c x
    let d := (d.wr (F.STR_CTX_STATUS_STATE.un c) 1).wr (F.STR_CTX_STATUS_G_NOW.un c) 0
    (d.ctxGroups c).foldl (fun d g => d.reportGroup g.1 g.2) d

/-- A stop takes effect at frame boundary k: a receive context fades, a transmit context ends with the packet that holds the
index before. -/
def Dev.ctxHalt (d : Dev) (c k : Nat) : Dev :=
  let x := d.ctx c
  let x := { x with stopReq := false }
  if d.ctxTx c then
    let n := d.ctxN c
    let e := ceilDiv k n * n
    if e ≤ x.nextK then d.ctxEnd c else d.setCtx c { x with endK := some e }
  else d.setCtx c { x with fading := some 32 }

/-- Starts and stops at frame boundary k. -/
def Dev.strBoundary (d : Dev) (k : Nat) : Dev :=
  (d.str.map (·.1)).foldl (fun d c =>
    let x := d.ctx c
    if x.starting then d.ctxBegin c k else if x.stopReq then d.ctxHalt c k else d) d

/-! ### Presentation (R204, R206, R207) -/

/-- The samples a ring holds for a position. -/
def ringAt (ring : Tbl (Nat × List Int)) (size q : Nat) : Option (List Int) :=
  match ring.find? (q % size) with
  | some (k, v) => if k = q then some v else none
  | none => none

/-- The context's contribution is zero in this frame, for the spare is taking its slice over from one that failed (R32). -/
def Dev.ctxGap (d : Dev) (c : Nat) : Bool := 0 < d.cap.strGap && d.cap.strSpare.1 = 1 && d.ctxSlice c = some d.cap.strSpare.2

/-- What a receive context presents in frame k, by matrix input: its value, and whether it is neither missing nor concealed. Its
gain ramps stand in a frame that the spare replaces by zero (R32). -/
def Dev.ctxPresent (d : Dev) (c k : Nat) : Dev × List (Nat × Int × Bool) :=
  let x := d.ctx c
  let l := d.cf F.STR_CTX_MAP_LINK_OFFSET c
  let q := k - l
  let n := d.ctxCh c
  let again := match x.presented with | some p => decide (q ≤ p) | none => false
  let a := if k < l || again then none else ringAt x.ringA d.ringD q
  let b := if k < l || again || !d.ctxPaired c then none else ringAt x.ringB d.ringD q
  let got := match a with | some v => some v | none => b
  let d := if a.isNone && b.isSome then d.tally (F.STR_CTX_FROM_B_COUNT.un c) else d
  let g0 := d.cf F.STR_CTX_STATUS_G_NOW c
  let gap := d.ctxGap c
  let g := if gap then g0 else if got.isNone || x.fading.isSome then g0 - 8 else min 256 (g0 + 1)
  let zero := List.replicate n (0 : Int)
  let value := got.getD (x.hist.getD 31 zero)
  let out := value.map (scale256 g)
  let x := { x with hist := value :: x.hist.take 31, presented := if again || k < l then x.presented else some q }
  let d := d.wr (F.STR_CTX_STATUS_G_NOW.un c) g
  let d := if g < 256 then d.tally (F.STR_CTX_CONCEAL_COUNT.un c) else d
  let base := d.cf F.STR_CTX_MAP_CHAN_BASE c
  let ins := (List.range n).map (fun i =>
    if gap then (base + i, 0, false) else (base + i, out.getD i 0, decide (g = 256) && got.isSome))
  match x.fading with
  | some f => if gap then (d.setCtx c x, ins) else if f ≤ 1 then ((d.setCtx c x).ctxStopped c, ins) else (d.setCtx c { x with fading := some (f - 1) }, ins)
  | none => (d.setCtx c x, ins)

/-- Every receive context's inputs of frame k. -/
def Dev.strGather (d : Dev) (k : Nat) : Dev × List (Nat × Int × Bool) :=
  (d.str.map (·.1)).foldl (fun acc c =>
    let st := acc.1.ctxState c
    if st = 1 || st = 2 || st = 3 then
      let r := acc.1.ctxPresent c k
      (r.1, acc.2 ++ r.2)
    else acc) (d, [])

/-- The samples of index k reach the transmit contexts (R194, R195): an index of a packet already sent is discarded. The frame
is the last of a take-over's zeros when their count ends (R32). -/
def Dev.strTake (d0 : Dev) (k : Nat) (out : Frame) : Dev :=
  let d := { d0 with cap := { d0.cap with strGap := d0.cap.strGap - 1 } }
  (d.str.map (·.1)).foldl (fun d c =>
    let x := d.ctx c
    let ended := match x.endK with | some e => decide (e ≤ k) | none => false
    if d.ctxState c ≠ 4 || ended || k < x.nextK then d
    else
      let base := d.cf F.STR_CTX_MAP_CHAN_BASE c
      let v := (List.range (d.ctxCh c)).map (fun i => if d0.ctxGap c then 0 else out.get 0 (base + i))
      d.setCtx c { x with tx := x.tx.put k v, top := some k }) d

/-! ### Transmit (R196, R199) -/

/-- The RTP packet that holds indices k to k + n − 1 (R196). An index the exchange skipped is sent as zeros (R195). -/
def Dev.rtpPacket (d : Dev) (c k : Nat) : List Byte :=
  let n := d.ctxN c
  let bytes := formatBytes (d.cf F.STR_CTX_CFG_FORMAT c)
  let zero := List.replicate (d.ctxCh c) (0 : Int)
  let x := d.ctx c
  toBE 1 0x80 ++ toBE 1 (d.cf F.STR_CTX_NET_PT c) ++ toBE 2 ((k / n + d.cf F.STR_CTX_SEQ_SEQ_BASE c) % 65536) ++
    toBE 4 ((k + d.cf F.STR_CTX_RTP_OFFSET_RTP_OFFSET c) % 2 ^ 32) ++ toBE 4 (d.cf F.STR_CTX_SSRC_SSRC c) ++
    (List.range n).flatMap (fun i => (x.tx.get zero (k + i)).flatMap (fun v => toBE bytes (toWord (8 * bytes) v)))

/-- The frame of a copy (R196), without FCS. -/
def Dev.mediaFrame (d : Dev) (c : Nat) (copyB : Bool) (mac : Nat) (rtp : List Byte) : List Byte :=
  let t := d.ctxDest c copyB
  let v6 := d.cf F.STR_CTX_CFG_IPV6 c = 1
  let vid := if copyB then d.cf F.STR_CTX_VLAN_VID_B c else d.cf F.STR_CTX_VLAN_VID_A c
  let dport := if copyB then d.cf F.STR_CTX_UDP_UDP_B c else d.cf F.STR_CTX_UDP_UDP_A c
  let ttl := d.cf F.STR_CTX_NET_TTL c
  let tos := d.cf F.STR_CTX_NET_DSCP c * 4
  let udp := fun sum => toBE 2 (d.cf F.STR_CTX_SPORT_SPORT c) ++ toBE 2 dport ++ toBE 2 (8 + rtp.length) ++ toBE 2 sum ++ rtp
  let src6 := (d.ip6 t.1).2
  let sum6 := inetSum (toBE 16 src6 ++ toBE 16 t.2 ++ toBE 4 (8 + rtp.length) ++ [0, 0, 0, 17] ++ udp 0)
  let ip := if v6 then ip6Packet src6 t.2 17 ttl (udp (if sum6 = 0 then 0xFFFF else sum6)) tos
    else ip4Packet (d.ip4 t.1).2 t.2 17 ttl (udp 0) [] tos
  let etype := if v6 then 0x86DD else 0x0800
  let tag := if vid = 0 then [] else toBE 2 0x8100 ++ toBE 2 (d.cf F.STR_CTX_VLAN_PCP c * 8192 + vid)
  toBE 6 mac ++ toBE 6 (d.service t.1) ++ tag ++ toBE 2 etype ++ ip

/-- One of the eight counters of a copy. -/
def copyCount (copyB : Bool) (i c : Nat) : Fld :=
  if copyB then (F.STR_CTX_COUNT_B_COUNT.at [i]).un c else (F.STR_CTX_COUNT_A_COUNT.at [i]).un c

/-- One copy of a packet goes to its port's launch queue; a destination not yet resolved discards it. -/
def Dev.launchCopy (d : Dev) (c : Nat) (copyB : Bool) (launch : Tai) (rtp : List Byte) : Dev :=
  match d.ctxMac c copyB with
  | none => d.tally (copyCount copyB 7 c)
  | some mac =>
    let p := (d.ctxDest c copyB).1
    let x := d.port p
    let m : MediaTx := ⟨launch, c, copyB, d.mediaFrame c copyB mac rtp⟩
    (d.setPort p { x with media := x.media ++ [m] }).tally (copyCount copyB 0 c)

/-- The launch instant of the packet that ends before index `e`: grid(e) + 4 µs (R199), or now where a forward jump skipped some of its
indices and that instant has gone (R195). DESIGN CHOICE (log 200). -/
def Dev.launchAt (d : Dev) (c k e : Nat) : Tai :=
  let t := (d.gridAt e).addNs 4000
  if k < (d.ctx c).jumpTo && t.lt d.time.tai then d.time.tai else t

/-- MEDIA_PACKET_LAUNCH (R199, R209): the packet at the context's next boundary is complete when its last index has been taken. A
unit that does not serve builds it for its digests and sends nothing. -/
def execMediaPacketLaunch (context : Fin 256) (s : State) : Host.Outcome State Fault Refusal :=
  s.act fun d =>
    let x := d.ctx context
    let n := d.ctxN context
    let k := x.nextK
    let full := match x.top with | some t => decide (k + n ≤ t + 1) | none => false
    if !d.booted || d.ctxState context ≠ 4 || !full then d
    else
      let rtp := d.rtpPacket context k
      let launch := d.launchAt context k (k + n)
      let d := d.wr (F.STR_CTX_TS_LAST_TS.un context) (k + d.cf F.STR_CTX_RTP_OFFSET_RTP_OFFSET context)
      let ms := launch.toSub / (1000000 * 65536)
      let d := if d.on F.PAIR_CFG_EN then { d with dig := { d.dig with packets := d.dig.packets ++ [(ms, context.val, rtp)] } } else d
      let d := if !d.serving then d
        else
          let d := d.launchCopy context false launch rtp
          if d.ctxPaired context then d.launchCopy context true launch rtp else d
      let x := { x with nextK := k + n, tx := x.tx.filter (fun r => decide (k + n ≤ r.1)) }
      let d := d.setCtx context x
      match x.endK with
      | some e => if e ≤ k + n then d.ctxStopped context else d
      | none => d

/-! ### Receive (R193, R198, R201) -/

/-- A parsed RTP packet: version, payload type, sequence number, timestamp, SSRC and the payload with padding, CSRC list and
extension removed. -/
structure Rtp where
  version : Nat
  pt : Nat
  seq : Nat
  ts : Nat
  ssrc : Nat
  payload : List Byte
  deriving DecidableEq, Repr

/-- Read an RTP packet; a header that does not fit leaves no payload. -/
def Rtp.parse (b : List Byte) : Rtp :=
  let b0 := beAt b 0 1
  let head := 12 + 4 * (b0 % 16)
  let head := if bitAt b0 4 then head + 4 + 4 * beAt b (head + 2) 2 else head
  let pad := if bitAt b0 5 then beAt b (b.length - 1) 1 else 0
  ⟨b0 / 64, beAt b 1 1 % 128, beAt b 2 2, beAt b 4 4, beAt b 8 4, (b.drop head).take (b.length - head - pad)⟩

/-- The index congruent to a timestamp that lies nearest to `near`, ties going to the larger (R193). -/
def placeIndex (near : Int) (ts : Nat) : Int :=
  let e := ((ts : Int) - near) % 2 ^ 32
  near + (if e ≤ 2 ^ 31 then e else e - 2 ^ 32)

/-- The samples of a payload: `m` positions of `ch` channels (R197). -/
def payloadSamples (bytes ch m : Nat) (p : List Byte) : List (List Int) :=
  (List.range m).map (fun i => (List.range ch).map (fun j => ofWord (8 * bytes) (beAt p ((i * ch + j) * bytes) bytes)))

/-- Write samples into a ring from index k on. -/
def ringWrite (ring : Tbl (Nat × List Int)) (size : Nat) (k : Nat) (v : List (List Int)) : Tbl (Nat × List Int) :=
  ((List.range v.length).zip v).foldl (fun r x => r.put ((k + x.1) % size) (k + x.1, x.2)) ring

/-- A copy counts an event and marks it: the counter, the sticky bit with its event, the block's interrupt bit. -/
def Dev.copyEvent (d : Dev) (c : Nat) (copyB : Bool) (i : Nat) (sticky irq : Fld) : Dev :=
  ((d.tally (copyCount copyB i c)).flag irq).sticky (sticky.un c) c

/-- A copy's field of two. -/
def pick {α : Type} (copyB : Bool) (a b : α) : α := if copyB then b else a

/-- A valid packet has come (R203, R205). -/
def Dev.ctxValid (d : Dev) (c : Nat) (copyB : Bool) : Dev :=
  let x := d.ctx c
  let now := d.time.cycles
  let x := if copyB then { x with heardB := some now } else { x with heardA := some now }
  let d := d.setCtx c x
  let d := d.wr ((pick copyB F.STR_CTX_STATUS_COPY_A_OK F.STR_CTX_STATUS_COPY_B_OK).un c) 1
  let d := if d.cf F.STR_CTX_STATUS_COPY_A_OK c = 1 ∧ d.cf F.STR_CTX_STATUS_COPY_B_OK c = 1 then
      d.wr (F.STR_CTX_STATUS_DEGRADED.un c) 0 else d
  let st := d.ctxState c
  let d := if st = 1 ∨ st = 3 then d.wr (F.STR_CTX_STATUS_STATE.un c) 2 else d
  let d := if st = 3 then d.objEvent 6 c 0x4801 0 c else d
  d.islandHeard

/-- The source filter lets a sender through. -/
def Dev.sourceOk (d : Dev) (c : Nat) (copyB : Bool) (source : Nat) : Bool :=
  d.cf F.STR_CTX_CFG_SRC_FLT_EN c = 0 ||
    source = d.ctxAddr (pick copyB F.STR_CTX_SRC_A_ADDR F.STR_CTX_SRC_B_ADDR) c

/-- Tests 3 and 4 of R198: the SSRC a copy follows and its sequence. DEDUCED (log 97). -/
def Dev.trackSsrc (d : Dev) (c : Nat) (copyB : Bool) (r : Rtp) : Dev :=
  let f := (pick copyB F.STR_CTX_SSRC_A_SSRC F.STR_CTX_SSRC_B_SSRC).un c
  let x := d.ctx c
  let latched := pick copyB x.latchedA x.latchedB
  let put := fun (x : CtxSt) (s : Option Nat) =>
    if copyB then { x with seqB := s, latchedB := true } else { x with seqA := s, latchedA := true }
  let change := latched && d.cf F.STR_CTX_CFG_SSRC_FLT_EN c = 0 && d.rd f ≠ r.ssrc
  let d := if change then d.copyEvent c copyB 6 F.STR_CTX_STICKY_SSRC_CHANGE_SEEN F.STR_IRQ_STATUS_SSRC_CHANGE else d
  let last := if change then none else pick copyB x.seqA x.seqB
  let d := d.wr f r.ssrc
  match last with
  | none => d.setCtx c (put x (some r.seq))
  | some s =>
    let gap := (r.seq + 65536 - (s + 1) % 65536) % 65536
    if gap = 0 then d.setCtx c (put x (some r.seq))
    else if gap ≤ 32767 then (d.setCtx c (put x (some r.seq))).tally (copyCount copyB 4 c) gap
    else d

/-- A media packet reaches a copy of a receive context (R198). -/
def Dev.mediaIn (d : Dev) (c : Nat) (copyB : Bool) (rtp : List Byte) (ingress : Tai) : Dev :=
  let r := Rtp.parse rtp
  let ch := d.ctxCh c
  let bytes := formatBytes (d.cf F.STR_CTX_CFG_FORMAT c)
  let m := r.payload.length / (ch * bytes)
  let most := if d.is96 then 384 else 192
  let bad := fun (d : Dev) => d.copyEvent c copyB 5 F.STR_CTX_STICKY_FORMAT_ERR_SEEN F.STR_IRQ_STATUS_FORMAT_ERR
  if r.version ≠ 2 || r.pt ≠ d.cf F.STR_CTX_NET_PT c ||
      (d.cf F.STR_CTX_CFG_SSRC_FLT_EN c = 1 && r.ssrc ≠ d.cf F.STR_CTX_SSRC_SSRC c) then bad d
  else if r.payload.length ≠ m * ch * bytes || m = 0 || most < m then bad d
  else
    let d := d.trackSsrc c copyB r
    let l : Int := d.cf F.STR_CTX_MAP_LINK_OFFSET c
    let f : Int := d.indexAt ingress
    let k := placeIndex (f - l) (r.ts + 2 ^ 32 - d.cf F.STR_CTX_RTP_OFFSET_RTP_OFFSET c)
    let margin := ((k + l - 1) * subPerSec / d.fs - ingress.toSub + 32768) / 65536
    let old := sgn 32 (d.cf F.STR_CTX_MARGIN_MIN_MARGIN c)
    let d := if margin < old then d.wrS (F.STR_CTX_MARGIN_MIN_MARGIN.un c) margin else d
    if k < f - l + 2 || k < 0 then d.copyEvent c copyB 1 F.STR_CTX_STICKY_LATE_SEEN F.STR_IRQ_STATUS_LATE_EARLY
    else if f - l + 1 + d.ringD ≤ k + m - 1 then d.copyEvent c copyB 2 F.STR_CTX_STICKY_EARLY_SEEN F.STR_IRQ_STATUS_LATE_EARLY
    else
      let x := d.ctx c
      let ring := pick copyB x.ringA x.ringB
      let k := k.toNat
      if (List.range m).any (fun i => (ringAt ring d.ringD (k + i)).isSome) then d.tally (copyCount copyB 3 c)
      else
        let ring := ringWrite ring d.ringD k (payloadSamples bytes ch m r.payload)
        let d := d.setCtx c (if copyB then { x with ringB := ring } else { x with ringA := ring })
        let d := d.wr (F.STR_CTX_TS_LAST_TS.un c) r.ts
        (d.tally (copyCount copyB 0 c)).ctxValid c copyB

/-- The copies that a packet is for (R204): those of its destination, UDP port and VLAN whose source filter lets it through; where some
have its payload type, those. DESIGN CHOICE (log 201). -/
def Dev.mediaFor (d : Dev) (p vid : Nat) (flow : MediaFlow) (pt : Nat) : List (Nat × Bool) :=
  let l := (d.mediaCopies p vid flow.v6 flow.dest flow.udp).filter (fun x => d.sourceOk x.1 x.2 flow.source)
  let m := l.filter (fun x => d.cf F.STR_CTX_NET_PT x.1 = pt)
  if m.isEmpty then l else m

/-- MEDIA_PACKET_RX (R198): a media frame in a VLAN (0 untagged) of a NET port, from `source` to `dest` and its UDP port; `detected` is the
arrival that R126 corrects. -/
def execMediaPacketRx (port : Fin 4) (vid : Nat) (flow : MediaFlow) (rtp : List Byte) (detected : Tai) (s : State) :
    Host.Outcome State Fault Refusal :=
  s.act fun d =>
    let ingress := d.ingress port detected
    if d.inServicePort port then
      (d.mediaFor port vid flow (Rtp.parse rtp).pt).foldl (fun d x => d.mediaIn x.1 x.2 rtp ingress) d
    else d

/-! ### Timeouts (R203, R205) -/

/-- TIMEOUT_MS has passed since an instant, or nothing was heard at all. -/
def Dev.ctxSilent (d : Dev) (c : Nat) (since : Option Nat) : Bool :=
  match since with
  | some t => d.past t (d.cf F.STR_CTX_SEQ_TIMEOUT_MS c)
  | none => true

/-- STREAM_TIMEOUT (R203): RUNNING without a valid packet on either copy for TIMEOUT_MS. -/
def execStreamTimeout (context : Fin 256) (s : State) : Host.Outcome State Fault Refusal :=
  s.act fun d =>
    let x := d.ctx context
    if d.booted && d.ctxState context = 2 && d.ctxSilent context x.heardA && d.ctxSilent context x.heardB then
      let d := d.wr (F.STR_CTX_STATUS_STATE.un context) 3
      (d.flag F.STR_IRQ_STATUS_LOST).sticky (F.STR_CTX_STICKY_LOST_SEEN.un context) context
    else d

/-- COPY_TIMEOUT (R205). -/
def execCopyTimeout (context : Fin 256) (copyB : Bool) (s : State) : Host.Outcome State Fault Refusal :=
  s.act fun d =>
    let x := d.ctx context
    let f := (pick copyB F.STR_CTX_STATUS_COPY_A_OK F.STR_CTX_STATUS_COPY_B_OK).un context
    if d.booted && d.on f && d.ctxSilent context (pick copyB x.heardA x.heardB) then
      let d := d.wr f 0
      if d.ctxState context = 2 && d.ctxPaired context then
        let d := d.wr (F.STR_CTX_STATUS_DEGRADED.un context) 1
        (d.flag F.STR_IRQ_STATUS_COPY_LOST).sticky (F.STR_CTX_STICKY_COPY_LOST_SEEN.un context) context
      else d
    else d

/-- Clear a context's history (R211). -/
def Dev.streamHistoryClear (d : Dev) (c : Nat) : Dev :=
  let d := [F.STR_CTX_STICKY_STEP_JUMP_SEEN, F.STR_CTX_STICKY_COPY_LOST_SEEN, F.STR_CTX_STICKY_SSRC_CHANGE_SEEN,
    F.STR_CTX_STICKY_FORMAT_ERR_SEEN, F.STR_CTX_STICKY_EARLY_SEEN, F.STR_CTX_STICKY_LATE_SEEN,
    F.STR_CTX_STICKY_LOST_SEEN].foldl (fun d f => d.wr (f.un c) 0) d
  d.wr (F.STR_CTX_MARGIN_MIN_MARGIN.un c) 0x7FFFFFFF

/-- STREAM_HISTORY_CLEAR (R211). -/
def execStreamHistoryClear (context : Fin 256) (s : State) : Host.Outcome State Fault Refusal :=
  s.act fun d => if d.booted then d.streamHistoryClear context else d

/-! ### Steps and modes (R195, R209) -/

/-- The index of the exchange jumps (R195): every receive context's gain falls to 0, a transmit context notes how far a forward jump
went, and the jump is recorded. -/
def Dev.strJump (d : Dev) (m : Int) : Dev :=
  let d := (d.str.map (·.1)).foldl (fun d c =>
    if d.ctxState c = 0 then d
    else
      let d := if !d.ctxTx c then d.wr (F.STR_CTX_STATUS_G_NOW.un c) 0
        else if 0 < m then d.setCtx c { d.ctx c with jumpTo := d.indexNear d.time.tai } else d
      d.sticky (F.STR_CTX_STICKY_STEP_JUMP_SEEN.un c) c) d
  d.flag F.STR_IRQ_STATUS_STEP_JUMP

/-- Packets that wait for their launch go on by the step, for the grid moves under them (R195). DESIGN CHOICE (log 200). -/
def Dev.mediaMoved (d : Dev) (sub : Int) : Dev :=
  (List.range 4).foldl (fun d p =>
    d.setPort p { d.port p with media := (d.port p).media.map (fun m => { m with launch := m.launch.addSub sub }) }) d

/-- On entry to a mode that computes audio, every enabled context starts (R209). -/
def Dev.strStartAll (d : Dev) : Dev :=
  (List.range 256).foldl (fun d c => if d.cf F.STR_CTX_CFG_EN c = 1 && !d.ctxRuns c then (d.ctxStart c).1 else d) d

/-- On entry to a mode without audio, every context is stopped (R209): a transmit context ends with its packet boundary. -/
def Dev.strStopAll (d : Dev) : Dev := (d.str.map (·.1)).foldl (fun d c => d.ctxEnd c) d

/-! ### The block's apply point (R208) -/

/-- A captured value that no strobe may apply (R210). -/
def strBad (f : Fld) (v : Nat) : Bool :=
  (f.off = 0x200 && ((f.lo = 28 && v = 3) || (f.lo = 25 && decide (5 ≤ v)) || (f.lo = 0 && decide (64 < v)))) ||
  (f.off = 0x208 && ((f.lo = 21 && decide (v < 96)) || (f.lo = 0 && v = 0))) ||
  (f.off = 0x220 && f.lo = 16 && decide (v < 10 ∨ 10000 < v))

/-- A receive context of a pair that names a unicast destination, or while it runs none (R209). -/
def Dev.ctxUnicast (d : Dev) (c : Nat) : Bool :=
  let v6 := d.cf F.STR_CTX_CFG_IPV6 c = 1
  let bad := fun (a : Nat) => !isGroup v6 a && (a != 0 || d.ctxRuns c)
  d.on F.PAIR_CFG_EN && !d.ctxTx c &&
    (bad (d.ctxAddr F.STR_CTX_DST_A_ADDR c) || (d.ctxPaired c && bad (d.ctxAddr F.STR_CTX_DST_B_ADDR c)))

/-- One context reaches its apply point: settings, then its start or stop; a running receive context joins the new group before
it leaves the old. -/
def Dev.applyCtx (d : Dev) (group c : Nat) (vals : Tbl Nat) : Dev × Status :=
  let isEn := fun (f : Fld) => f.off = 0x200 && f.lo = 31
  let bad := vals.any (fun r => match fieldOf r.1 with | some f => strBad f r.2 | none => false)
  let vals := vals.filter (fun r => match fieldOf r.1 with | some f => !strBad f r.2 | none => false)
  let en := Tbl.get vals (d.cf F.STR_CTX_CFG_EN c) (F.STR_CTX_CFG_EN.un c).key
  let before := if !d.ctxTx c && d.ctxState c ≠ 0 then d.ctxGroups c else []
  let isDst := fun (f : Fld) => decide (0x230 ≤ f.off ∧ f.off < 0x250)
  let put := fun (v : Tbl Nat) => d.applyVals (fun _ => d.ctxRuns c) group (dropVals v isEn)
  let alone := (put vals).1.ctxUnicast c
  let r := put (if alone then dropVals vals isDst else vals)
  let bad := bad || alone
  let d := r.1
  let after := if before.isEmpty then [] else d.ctxGroups c
  let d := (after.filter (fun g => !before.contains g)).foldl (fun d g => d.reportGroup g.1 g.2) d
  let d := (before.filter (fun g => !after.contains g)).foldl (fun d g => d.leaveGroup g.1 g.2) d
  let st : Status := if bad then .range else if r.2 then .stoppedOnly else .ok
  let e := if en = 1 && d.cf F.STR_CTX_CFG_EN c = 0 then d.ctxStart c
    else if en = 0 && d.cf F.STR_CTX_CFG_EN c = 1 then (d.ctxStop c, .ok) else (d, .ok)
  let st := Status.orElse st e.2
  (e.1.ctxResult c st, st)

/-- The STR block's captured values, context by context in ascending order. -/
def Dev.applyStr (d : Dev) (group : Nat) (vals : Tbl Nat) : Dev × Status :=
  let unitOf := fun (r : Nat × Nat) => match fieldOf r.1 with | some f => f.unit | none => 256
  let units := (List.range 256).filter (fun c => vals.any (fun r => unitOf r = c))
  units.foldl (fun acc c =>
    let r := acc.1.applyCtx group c (vals.filter (fun r => unitOf r = c))
    (r.1, Status.orElse acc.2 r.2)) (d, .ok)

end Sys2Proof.Machine
end

