-- ==== Sys2Proof/Machine/AudioPorts.lean ====
section
/-! DEFINITION. Machine/AudioPorts.lean: serial audio and AES3 ports (R212 to R239): frames in and out, settling and anchoring,
rings, slips, starts and stops, layout epochs, slot status, the port groups' media clock. -/

namespace Sys2Proof.Machine

/-! ### A port's settings -/

/-- A port's state beyond its registers. -/
def Dev.apo (d : Dev) (p : Nat) : PortSt := d.apt.get {} p

/-- Replace it. -/
def Dev.setApo (d : Dev) (p : Nat) (x : PortSt) : Dev := { d with apt := d.apt.put p x }

/-- A field of a port. -/
def Dev.pf (d : Dev) (f : Fld) (p : Nat) : Nat := d.rd (f.at [p])

/-- STATE: 0 STOPPED, 1 SETTLING, 2 RUNNING, 3 STOPPING. -/
def Dev.aptState (d : Dev) (p : Nat) : Nat := d.pf F.APT_STATUS_STATE p

/-- The port runs, or waits for the boundary at which it starts. -/
def Dev.aptRuns (d : Dev) (p : Nat) : Bool := d.aptState p != 0 || (d.apo p).startReq

/-- The port is an AES3 port. -/
def Dev.isAes (d : Dev) (p : Nat) : Bool := d.pf F.APT_CFG_MODE p = 3

/-- The port carries slot status: DATA, or AES3 (R231, R233). -/
def Dev.slotStatus (d : Dev) (p : Nat) : Bool := d.isAes p || d.pf F.APT_CFG_DATA p = 1

/-- Bits of WIDTH or WORD. -/
def widthBits (v : Nat) : Nat := 16 + 8 * v

/-- Set a sticky bit of a port and post its event. -/
def Dev.aptSticky (d : Dev) (f : Fld) (p : Nat) (more : List Byte := []) : Dev := d.sticky (f.at [p]) p more

/-- Count in one of a port's fourteen counters. DESIGN CHOICE (log 102). -/
def Dev.aptCount (d : Dev) (p i : Nat) (n : Nat := 1) : Dev := d.tally (F.APT_COUNT_COUNT.at [p, i]) n

/-- Change a port's STATE. -/
def Dev.setAptState (d : Dev) (p st : Nat) : Dev :=
  if d.aptState p = st then d
  else (d.wr (F.APT_STATUS_STATE.at [p]) st).aptSticky F.APT_STICKY_STATE_CHANGE_SEEN p

/-- A shift of a port as a signed number. -/
def Dev.shift (d : Dev) (f : Fld) (p : Nat) : Int := sgn 16 (d.pf f p)

/-- Move a shift, modulo 2¹⁶. -/
def Dev.addShift (d : Dev) (f : Fld) (p : Nat) (n : Int) : Dev := d.wr (f.at [p]) (unsgn 16 (d.shift f p + n))

/-- The layout of an epoch in a direction. -/
def PortDir.layout (x : PortDir) (e : Nat) : Layout := x.layouts.get ⟨0, 0⟩ e

/-- The slots of a mask, in slot order (R229). -/
def maskSlots (m : Nat) : List Nat := bitList 32 m

/-! ### Limits (R213) -/

/-- The limits of R213 that a port's own settings must keep, with what R212 asks of slot status; `get` gives the settings. -/
def Dev.aptShape (d : Dev) (p : Nat) (get : Fld → Nat) : Status :=
  let slots := get F.APT_CFG_SLOTS
  let width := widthBits (get F.APT_CFG_WIDTH)
  let mode := get F.APT_CFG_MODE
  let rx := popCount 32 (get F.APT_RX_MASK_MASK)
  let tx := popCount 32 (get F.APT_TX_MASK_MASK)
  let most := if d.is96 then 16 else 32
  let chs := if d.is96 then 256 else 512
  if mode ≠ 3 && 49152000 < slots * width * d.fs then .range
  else if most < rx || most < tx then .range
  else if chs < get F.APT_MAP_RX_BASE + rx || chs < get F.APT_MAP_TX_BASE + tx then .range
  else if width < widthBits (get F.APT_CFG_WORD) then .range
  else if (mode = 3 && 4 ≤ p) || (mode ≠ 2 && slots ≠ 2) || slots < 2 || 32 < slots then .range
  else if get F.APT_CFG_DATA = 1 && width ≠ 32 && mode ≠ 3 then .range
  else .ok

/-- The limits of R213 on a port that is to start or to run with the given settings, its budget apart. -/
def Dev.aptLimits (d : Dev) (p : Nat) (get : Fld → Nat) : Status :=
  let others := (List.range 16).filter (fun q => q ≠ p && d.aptRuns q)
  let rx := popCount 32 (get F.APT_RX_MASK_MASK)
  if d.aptShape p get ≠ .ok then d.aptShape p get
  else if others.any (fun q => overlaps (get F.APT_MAP_RX_BASE) rx (d.pf F.APT_MAP_RX_BASE q) (popCount 32 (d.pf F.APT_RX_MASK_MASK q))) then .range
  else if d.rd (F.CLK_MCLK_CFG_RATE.at [p / 2]) ≠ bit d.is96 then .range
  else if d.isLost 6 p then .capacity
  else .ok

/-- The limits under the port's own settings. -/
def Dev.aptLimitsNow (d : Dev) (p : Nat) : Status := d.aptLimits p (fun f => d.pf f p)

/-! ### Starts and stops (R225 to R227) -/

/-- A port's class. -/
def Dev.aptClass (d : Dev) (p : Nat) : WorkClass := if d.pf F.APT_CFG_CLASS_S p = 1 then .s else .a

/-- Record a port's status. -/
def Dev.aptResult (d : Dev) (p : Nat) (s : Status) : Dev := d.wr (F.APT_RESULT_RESULT.at [p]) s.code

/-- A start of a port is asked for: admitted, it takes effect at the next frame boundary; where audio is not computed, EN stands and the
port starts on entry to service (R236). A port held by a self-test is released first (R227). -/
def Dev.aptStart (d : Dev) (p : Nat) : Dev × Status :=
  let x := d.apo p
  if (d.aptState p = 1 || d.aptState p = 2) && x.stopReq then (d.setApo p { x with stopReq := false }, .ok)
  else if d.aptState p = 1 || d.aptState p = 2 || x.startReq then (d, .ok)
  else
    let d := if d.audioRuns then d.servicePort p else d
    let st := d.aptLimitsNow p
    if st ≠ .ok then (d.aptResult p st, st)
    else if !d.audioRuns then (d.wrRun (F.APT_CFG_EN.at [p]) 1, .ok)
    else
      let a := d.allot (d.aptClass p) (d.cost 7 1)
      if !a.1 then ((a.2.aptResult p .budget).noteBudget 6 p .a 0, .budget)
      else
        let d := a.2.setApo p { a.2.apo p with startReq := true, stopReq := false }
        ((d.wrRun (F.APT_CFG_EN.at [p]) 1).aptResult p .ok, .ok)

/-- A stop of a port is asked for; it takes effect at the next frame boundary. -/
def Dev.aptStop (d : Dev) (p : Nat) : Dev :=
  let d := d.wrRun (F.APT_CFG_EN.at [p]) 0
  let x := d.apo p
  if x.startReq then d.setApo p { x with startReq := false }
  else if d.aptState p = 1 || d.aptState p = 2 then d.setApo p { x with stopReq := true }
  else d

/-- A port stops for a fault or the budget (R227): with its fade and DOUT released at once; its row reports the status. -/
def Dev.aptDrop (d : Dev) (p : Nat) (s : Status) : Dev :=
  let x := d.apo p
  let d := if x.startReq then d.setApo p { x with startReq := false }
    else if d.aptState p = 0 then d else d.setApo p { x with stopReq := true, release := true }
  d.aptResult p s

/-- What a stopped port keeps: its clock's settling and numbering. -/
def PortSt.idle (x : PortSt) : PortSt :=
  { valid := x.valid, invalid := x.invalid, frame := x.frame, txFrame := x.txFrame, lastSlip := x.lastSlip,
    clampSince := x.clampSince, csBits := x.csBits, sinceB := x.sinceB, pend := x.pend, edge := x.edge }

/-- A port is STOPPED: its rings are empty, its numbering goes on. -/
def Dev.aptIdle (d : Dev) (p : Nat) : Dev := (d.setApo p (d.apo p).idle).setAptState p 0

/-- The layout in force for a direction at a start. -/
def startDir (x : PortDir) (epoch : Nat) (l : Layout) : PortDir := { layouts := Tbl.put [] epoch l, ramps := [], g := 0, relayout := x.relayout }

/-- A new epoch for a direction whose layout changed. -/
def Dev.bumpEpoch (d : Dev) (f : Fld) (p : Nat) (changed : Bool) : Dev :=
  if changed then d.wr (f.at [p]) ((d.pf f p + 1) % 256) else d

/-- A start takes effect at position k (R225, R226). -/
def Dev.aptBegin (d : Dev) (p k : Nat) : Dev :=
  let x := d.apo p
  let d := (d.bumpEpoch F.APT_STATUS_RX_EPOCH p x.rx.relayout).bumpEpoch F.APT_STATUS_TX_EPOCH p x.tx.relayout
  let settled := d.pf F.APT_STATUS_SETTLED p = 1
  let rxl : Layout := ⟨d.pf F.APT_RX_MASK_MASK p, d.pf F.APT_MAP_RX_BASE p⟩
  let txl : Layout := ⟨d.pf F.APT_TX_MASK_MASK p, d.pf F.APT_MAP_TX_BASE p⟩
  let rx := { startDir x.rx (d.pf F.APT_STATUS_RX_EPOCH p) rxl with relayout := false }
  let tx := { startDir x.tx (d.pf F.APT_STATUS_TX_EPOCH p) txl with relayout := false }
  let next := x.frame.map (fun f => (f + d.shift F.APT_SHIFT_RX_SHIFT p).toNat)
  let x := { x.idle with rx := rx, tx := tx, rxNext := next, gathered := none,
                         start := if settled then some k else none,
                         txStart := if settled || d.isAes p then some k else none }
  (d.setApo p x).setAptState p (if settled then 2 else 1)

/-- A stop takes effect at position k. -/
def Dev.aptHalt (d : Dev) (p k : Nat) : Dev :=
  let x := d.apo p
  if d.aptState p = 1 then d.aptIdle p
  else (d.setApo p { x with stopReq := false, stop := some k, stopFrames := 0 }).setAptState p 3

/-- Starts and stops at frame boundary k: all ports act on the same position (R226). -/
def Dev.aptBoundary (d : Dev) (k : Nat) : Dev :=
  (d.apt.map (·.1)).foldl (fun d p =>
    let x := d.apo p
    if x.startReq then d.aptBegin p k else if x.stopReq then d.aptHalt p k else d) d

/-! ### Presentation (R220) -/

/-- A position carries data to be presented in a direction. -/
def carried (start stop : Option Nat) (q : Nat) : Bool :=
  (match start with | some s => decide (s ≤ q) | none => false) && (match stop with | some s => decide (q < s) | none => true)

/-- The entry of a position, where it is written and not missing. -/
def PortDir.entry (x : PortDir) (start stop : Option Nat) (q : Int) : Option RingEntry :=
  if q < 0 || !carried start stop q.toNat then none
  else (x.ring.find? q.toNat).filter (fun e => !e.missing)

/-- How many of a list's first entries are present. -/
def runLength : List (Option RingEntry) → Nat
  | some _ :: t => runLength t + 1
  | _ => 0

/-- One entry of a sequence with its look-ahead (R220): the new gain state and the gain it presents with. -/
def presentGain (g : Nat) (ahead : List (Option RingEntry)) : Nat × Nat :=
  let n := runLength ahead
  if n = 0 then (0, 0)
  else
    let g := min 256 (g + 1)
    (g, min g (8 * n))

/-- The gain of a channel that ramps in under a new layout (R230). -/
def PortDir.rampGain (x : PortDir) (slot q : Nat) : Nat :=
  match x.ramps.find? slot with
  | some s => if q < s then 256 else min 256 (q - s + 1)
  | none => 256

/-- The sample in a ring word: all of it, or bits 31:8 of a slot word (R219). -/
def wordSample (status : Bool) (w : Nat) : Int := sgn 32 (if status then w / 256 * 256 else w)

/-- What a port presents to the exchange in frame k, by matrix input, and whether it is neither missing nor concealed (R218). -/
def Dev.aptPresent (d : Dev) (p k : Nat) : Dev × List (Nat × Int × Bool) :=
  let x := d.apo p
  if k < 64 then (d, [])
  else
    let q := k - 64
    let again := match x.gathered with | some g => decide (q < g) | none => false
    let ahead := (List.range 32).map (fun i => if again then none else x.rx.entry x.start x.stop (q + i : Nat))
    let r := presentGain x.rx.g ahead
    let written := match x.rxNext with | some n => n - q | none => 0
    let rx := { x.rx with g := r.1, fillSum := x.rx.fillSum + min 128 written, fillCount := x.rx.fillCount + 1,
                          ring := x.rx.ring.filter (fun e => decide (q < e.1)) }
    let d := if r.2 < 256 then d.aptCount p 10 else d
    let d := d.setApo p { x with rx := rx, gathered := some (q + 1) }
    match ahead.headD none with
    | none =>
      let l := x.rx.layout (d.pf F.APT_STATUS_RX_EPOCH p)
      (d, (List.range (popCount 32 l.mask)).map (fun i => (1024 + l.base + i, 0, false)))
    | some e =>
      let l := x.rx.layout e.epoch
      let slots := maskSlots l.mask
      (d, ((List.range slots.length).zip slots).map (fun s =>
        let g := min r.2 (x.rx.rampGain s.2 q)
        (1024 + l.base + s.1, scale256 g (wordSample (d.slotStatus p) (e.words.getD s.1 0)), decide (g = 256))))

/-- Every port's inputs of frame k; a port whose clock was lost presents what its ring still holds, and fades (R220, R225). -/
def Dev.aptGather (d : Dev) (k : Nat) : Dev × List (Nat × Int × Bool) :=
  (d.apt.map (·.1)).foldl (fun acc p =>
    if acc.1.aptState p ≠ 0 && (acc.1.apo p).start.isSome then
      let r := acc.1.aptPresent p k
      (r.1, acc.2 ++ r.2)
    else acc) (d, [])

/-- The samples of index k reach the ports' transmit rings (R218); an index taken before is discarded (R235). DESIGN CHOICE (log 99). -/
def Dev.aptTake (d : Dev) (k : Nat) (out : Frame) : Dev :=
  (d.apt.map (·.1)).foldl (fun d p =>
    let x := d.apo p
    if d.aptState p = 0 then d
    else
      let e := d.pf F.APT_STATUS_TX_EPOCH p
      let l := x.tx.layout e
      let ws := (List.range (popCount 32 l.mask)).map (fun i => unsgn 32 (out.get 0 (1024 + l.base + i)))
      let ring := Tbl.put (x.tx.ring.filter (fun r => decide (k < r.1 + 128))) k ⟨e, false, ws⟩
      d.setApo p { x with tx := { x.tx with ring := ring } }) d

/-! ### Playing (R214, R217, R232) -/

/-- The position a port frame plays (R217, R221): none in the silent frames of a slip. -/
def playPosition (shift : Int) (slip : Option (Nat × Bool)) (frame : Nat) : Option Int :=
  let q : Int := frame - 64 + shift
  match slip with
  | none => some q
  | some (at_, inserts) =>
    if frame < at_ then some q
    else if inserts then (if frame < at_ + 24 then none else some (q - 24))
    else if frame = at_ then none else some (q + 24)

/-- A channel-status byte's bits, sent bit 0 first; the AES3 CRCC over bytes 0 to 22 (R232). DEDUCED (log 103). -/
def crcc (bytes : List Nat) : Nat :=
  (bytes.take 23).foldl (fun c b => (List.range 8).foldl (fun (c : Nat) i =>
    if (c.xor (b / 2 ^ i)) % 2 = 1 then (c / 2).xor 0xB8 else c / 2) c) 0xFF

/-- The 24 channel-status bytes of six registers. -/
def Dev.csBytes (d : Dev) (f : Fld) (p : Nat) : List Nat :=
  (List.range 24).map (fun i => d.rd (f.at [p, i / 4]) / 256 ^ (i % 4) % 256)

/-- The C bit of a slot at a position (R232). -/
def Dev.csBit (d : Dev) (p slot q : Nat) : Nat :=
  let b := d.csBytes (if slot % 2 = 0 then F.APT_CS_TX_A_BYTES else F.APT_CS_TX_B_BYTES) p
  let b := if d.pf F.APT_SS_CFG_CRCC_EN p = 1 then b.take 23 ++ [crcc b] else b
  bit (bitAt (b.getD (q % 192 / 8) 0) (q % 8))

/-- A slot's word on DOUT for a sample (R212, R231, R232). -/
def Dev.slotWord (d : Dev) (p slot q : Nat) (missing : Bool) (v : Int) : Nat :=
  if d.slotStatus p then
    toWord 24 v * 256 + bit (missing || d.pf F.APT_SS_CFG_V_TX p = 1) * 128 + d.csBit p slot q * 32 + bit (q % 192 = 0) * 16
  else
    let word := widthBits (d.pf F.APT_CFG_WORD p)
    toWord word v * 2 ^ (widthBits (d.pf F.APT_CFG_WIDTH p) - word)

/-- DOUT slot by slot (R214): the words of the mask's slots; every other slot is high-impedance, or driven to 0 with TRISTATE = 0. -/
def Dev.doutFrame (d : Dev) (p mask : Nat) (word : Nat → Nat) : List (Option Nat) :=
  (List.range (d.pf F.APT_CFG_SLOTS p)).map (fun s =>
    if bitAt mask s then some (word s) else if d.pf F.APT_CFG_TRISTATE p = 1 then none else some 0)

/-- One port frame on DOUT (R214, R220): the slots of TX_MASK are driven while the unit serves; the digests fold them always. -/
def Dev.playFrame (d : Dev) (p frame : Nat) : Dev :=
  let x := d.apo p
  let shift := d.shift F.APT_SHIFT_TX_SHIFT p
  let entryAt := fun (i : Nat) => match playPosition shift x.slip (frame + i) with
    | none => none
    | some q => if (match x.played with | some h => decide (q ≤ h) | none => false) then none
        else x.tx.entry x.txStart x.stop q
  let ahead := (List.range 32).map entryAt
  let r := presentGain x.tx.g ahead
  let here := playPosition shift x.slip frame
  let q := (here.getD 0).toNat
  let l := x.tx.layout (d.pf F.APT_STATUS_TX_EPOCH p)
  let e := ahead.headD none
  let word := fun (slot : Nat) => match e with
    | none => d.slotWord p slot q true 0
    | some e =>
      let old := x.tx.layout e.epoch
      match (maskSlots old.mask).idxOf? slot with
      | none => d.slotWord p slot q false 0
      | some i => d.slotWord p slot q false (scale256 (min r.2 (x.tx.rampGain slot q)) (sgn 32 (e.words.getD i 0)))
  let words := (maskSlots l.mask).map word
  let fill := match here, d.mtx.last with | some q, some k => ((k : Int) - q).toNat | _, _ => 0
  let stopped := match x.stop, here with | some s, some q => decide ((s : Int) ≤ q) | _, _ => false
  let d := if r.2 < 256 then d.aptCount p 10 else d
  let tx := { x.tx with g := r.1, fillSum := x.tx.fillSum + min 128 fill, fillCount := x.tx.fillCount + 1 }
  let played := match e, here with | some _, some q => some q.toNat | _, _ => x.played
  let done := match x.slip with
    | some (a, ins) => if ins then decide (a + 24 ≤ frame + 1) else decide (a ≤ frame)
    | none => false
  let d := if done then
      match x.slip with
      | some (_, ins) => d.addShift F.APT_SHIFT_TX_SHIFT p (if ins then -24 else 24)
      | none => d
    else d
  let d := d.setApo p { x with tx := tx, played := played, slip := if done then none else x.slip,
                               stopFrames := x.stopFrames + bit stopped }
  let d := if d.on F.PAIR_CFG_EN then { d with dig := { d.dig with audio := d.dig.audio ++ [(p, frame, words)] } } else d
  let d := if d.drives then d.emit (.audio p (d.doutFrame p l.mask word)) else d
  if x.release && stopped then d.aptIdle p else d

/-! ### Received frames (R215 to R221, R232) -/

/-- The record of a port event (R306, type 0x04): the port, what happened (1 anchor, 2 and 3 a receive slip of an empty and a full
ring, 4 and 5 a transmit slip, 6 and 7 a receive and transmit epoch, 8 the clock lost), a position and a phase. -/
def Dev.notePort (d : Dev) (p what pos : Nat) (phase : Int := 0) : Dev :=
  d.note ([4, byteOf p, byteOf what, 0] ++ toBE 6 pos ++ toBE 4 (unsgn 32 phase))

/-- A receive slip (R221): positions are marked missing from the next to be written, frames are discarded. -/
def Dev.slipRx (d : Dev) (p : Nat) (low : Bool) : Dev :=
  let x := d.apo p
  match x.rxNext with
  | none => d
  | some q =>
    let e := d.pf F.APT_STATUS_RX_EPOCH p
    let n := if low then 24 else 1
    let ring := (List.range n).foldl (fun (r : Tbl RingEntry) i => r.put (q + i) ⟨e, true, []⟩) x.rx.ring
    let d := d.setApo p { x with rx := { x.rx with ring := ring }, rxNext := some (q + n),
                                 discard := if low then x.discard else 25, lastSlip := some d.time.cycles }
    let d := d.addShift F.APT_SHIFT_RX_SHIFT p (if low then 24 else -24)
    let d := d.notePort p (if low then 2 else 3) 0
    ((d.aptCount p (if low then 3 else 4)).aptCount p 7 n).aptSticky F.APT_STICKY_SLIP_SEEN p

/-- A transmit slip (R221), 32 positions ahead. -/
def Dev.slipTx (d : Dev) (p : Nat) (low : Bool) : Dev :=
  let x := d.apo p
  let now := if d.isAes p then x.txFrame else x.frame
  match now with
  | none => d
  | some f =>
    let d := d.setApo p { x with slip := some (f + 33, low), lastSlip := some d.time.cycles }
    let d := (d.aptCount p (if low then 5 else 6)).aptCount p 8 (if low then 24 else 1)
    let d := if low then d else d.aptCount p 9 25
    (d.notePort p (if low then 4 else 5) f).aptSticky F.APT_STICKY_SLIP_SEEN p

/-- A slip, or a clamp held for a second, raises NOT_FOLLOWING (R224): what raised it goes with the alarm. -/
def Dev.notFollowing (d : Dev) (p cause : Nat) : Dev :=
  if d.pf F.APT_STATUS_NOT_FOLLOWING p = 1 then d
  else (d.wr (F.APT_STATUS_NOT_FOLLOWING.at [p]) 1).aptSticky F.APT_STICKY_NOT_FOLLOWING_SEEN p (toLE 4 cause)

/-- The 32-bit words a frame's masked slots put into the ring: the sample at the top, or the slot word (R219). -/
def Dev.ringWords (d : Dev) (p mask : Nat) (slots : List Nat) : List Nat :=
  let width := widthBits (d.pf F.APT_CFG_WIDTH p)
  let word := widthBits (d.pf F.APT_CFG_WORD p)
  (maskSlots mask).map (fun s =>
    let v := slots.getD s 0
    if d.slotStatus p then v % 2 ^ 32 else v % 2 ^ width / 2 ^ (width - word) * 2 ^ (32 - word))

/-- The frame that ended is written at its position (R217, R218), or discarded by a slip. DESIGN CHOICE (log 104). -/
def Dev.writeFrame (d : Dev) (p frame : Nat) (ok : Bool) (slots : List Nat) : Dev :=
  let x := d.apo p
  let q := ((frame : Int) + d.shift F.APT_SHIFT_RX_SHIFT p).toNat
  let full := match x.gathered with | some g => decide (g + 128 ≤ q) | none => false
  let d := if full && x.discard = 0 && !d.follows then (d.slipRx p false).notFollowing p 2 else d
  let x := d.apo p
  if 0 < x.discard then (d.setApo p { x with discard := x.discard - 1 }).aptCount p 9
  else
    let e := d.pf F.APT_STATUS_RX_EPOCH p
    let l := x.rx.layout e
    let ring := x.rx.ring.put q ⟨e, !ok, if ok then d.ringWords p l.mask slots else []⟩
    let d := if ok then d else d.aptCount p 7
    d.setApo p { x with rx := { x.rx with ring := ring }, rxNext := some (q + 1) }

/-- The status bits of a valid frame (R232): V, block synchronisation and channel status. DESIGN CHOICE (log 104). -/
def Dev.statusIn (d : Dev) (p : Nat) (slots : List Nat) : Dev :=
  if !d.slotStatus p then d
  else
    let vs := ((maskSlots (d.pf F.APT_RX_MASK_MASK p)).filter (fun s => bitAt (slots.getD s 0) 7)).length
    let d := if vs = 0 then d else d.aptCount p 11 vs
    let b := bitAt (slots.getD 0 0) 4
    let c := bitAt (slots.getD (d.pf F.APT_SS_CFG_CS_RX_SLOT p) 0) 5
    let x := d.apo p
    let err := fun (d : Dev) => (d.aptCount p 12).aptSticky F.APT_STICKY_BLOCK_ERR_SEEN p
    let latch := fun (d : Dev) (bits : List Bool) =>
      let bytes := (List.range 24).map (fun i => ((List.range 8).map (fun j => bit (bits.getD (8 * i + j) false) * 2 ^ j)).sum)
      let d := (List.range 6).foldl (fun d j =>
        d.wr (F.APT_CS_RX_BYTES.at [p, j]) (((List.range 4).map (fun i => bytes.getD (4 * j + i) 0 * 256 ^ i)).sum)) d
      let d := d.aptSticky F.APT_STICKY_CS_NEW_SEEN p
      if d.pf F.APT_SS_CFG_CRCC_EN p = 1 && crcc bytes ≠ bytes.getD 23 0 then
        (d.aptCount p 13).aptSticky F.APT_STICKY_CS_CRC_ERR_SEEN p
      else d
    if b then
      let d := match x.sinceB with | some n => if n = 192 then d else err d | none => d
      d.setApo p { d.apo p with sinceB := some 1, csBits := [c] }
    else
      match x.sinceB with
      | none => d
      | some n =>
        if n = 192 then (err d).setApo p { d.apo p with sinceB := none, csBits := [] }
        else
          let bits := x.csBits ++ [c]
          let d := d.setApo p { x with sinceB := some (n + 1), csBits := bits }
          if n + 1 = 192 then latch d bits else d

/-- What the loss of its clock does to a port that runs (R225): RUNNING returns to STARTING, STOPPING ends. -/
def Dev.clockOut (d : Dev) (p : Nat) : Dev :=
  let x := d.apo p
  let d := d.notePort p 8 0
  if d.aptState p = 2 then (d.setApo p { x with txStart := if d.isAes p then x.txStart else none }).setAptState p 1
  else if d.aptState p = 3 then d.aptIdle p
  else d

/-- The clock of a port is lost (R215, R225); a standby leaves the change of state to the active (R237). -/
def Dev.clockLost (d : Dev) (p : Nat) : Dev :=
  let d := (d.wr (F.APT_STATUS_SETTLED.at [p]) 0).wr (F.APT_STATUS_CLK_VALID.at [p]) 0
  let d := (d.aptCount p 2).aptSticky F.APT_STICKY_CLOCK_LOSS_SEEN p
  let x := d.apo p
  let d := d.setApo p { x with valid := 0, frame := none, discard := 0, slip := (if d.isAes p then x.slip else none), sinceB := none, csBits := [],
                                 told := none, edge := none }
  if d.follows then d else d.clockOut p

/-- FS_PHASE of a frame (R217). -/
def Dev.fsPhase (d : Dev) (frame : Nat) (edge : Tai) : Int := ((edge.toSub : Int) - frame * subPerSec / d.fs) / 65536

/-- A port anchors (R217): the frame that begins at the edge takes the number f; both shifts are 0. -/
def Dev.anchorAs (d : Dev) (p f : Nat) (edge : Tai) : Dev :=
  let ph := d.fsPhase f edge
  let d := (d.wr (F.APT_SHIFT_RX_SHIFT.at [p]) 0).wr (F.APT_SHIFT_TX_SHIFT.at [p]) 0
  let d := d.wrS (F.APT_FS_PHASE_FS_PHASE.at [p]) ph
  let d := d.wrBit (F.APT_STATUS_PHASE_AMBIG.at [p]) (decide (9 * 1000000000 ≤ 20 * ph.natAbs * d.fs))
  let x := d.apo p
  let d := d.setApo p { x with frame := some f, rxNext := some f, told := none, afresh := 0 }
  let d := d.notePort p 1 f ph
  let st := d.aptState p
  if st = 1 || (x.afresh ≠ 0 && 2 ≤ st) then
    let d := d.setApo p { d.apo p with start := some (f + 1), txStart := if d.isAes p then x.txStart else some (f + 1) }
    if st = 1 then d.setAptState p 2 else d
  else d

/-- The edge of the frame in progress, by its number and FS_PHASE. -/
def Dev.lastEdge (d : Dev) (p : Nat) : Tai := (d.gridAt ((d.apo p).frame.getD 0)).addNs (d.rdS (F.APT_FS_PHASE_FS_PHASE.at [p]))

/-- A port anchors by its own edge (R217). -/
def Dev.anchor (d : Dev) (p : Nat) (edge : Tai) : Dev := d.anchorAs p (d.indexNear edge) edge

/-- A standby anchors as the active did (R237): it counts the frames between the edge the active told and its own. DESIGN CHOICE (log 133). -/
def Dev.anchorTold (d : Dev) (p : Nat) (edge : Tai) : Dev :=
  match (d.apo p).told with
  | some (f, t) =>
    let n := ((edge.toSub : Int) - t.toSub) * d.fs
    d.anchorAs p ((f : Int) + roundDiv n subPerSec).toNat edge
  | none => d

/-- A new layout of a direction takes effect at a port frame (R230): the epoch increments and the channels that moved ramp in. -/
def relay (x : PortDir) (old new : Nat) (l : Layout) (from_ : Nat) : PortDir :=
  let was := x.layout old
  let chan := fun (l : Layout) (s : Nat) => (maskSlots l.mask).idxOf? s |>.map (fun i => l.base + i)
  let moved := (maskSlots l.mask).filter (fun s => chan was s ≠ chan l s)
  { x with layouts := x.layouts.put new l, relayout := false,
           ramps := moved.foldl (fun t s => t.put s from_) (x.ramps.filter (fun r => !moved.contains r.1)) }

/-- The receive direction takes its new layout from position q. -/
def Dev.relayRx (d : Dev) (p q : Nat) : Dev :=
  let x := d.apo p
  let e := d.pf F.APT_STATUS_RX_EPOCH p
  let n := (e + 1) % 256
  let rx := relay x.rx e n ⟨d.pf F.APT_RX_MASK_MASK p, d.pf F.APT_MAP_RX_BASE p⟩ q
  ((d.setApo p { x with rx := rx }).wr (F.APT_STATUS_RX_EPOCH.at [p]) n).notePort p 6 q

/-- The transmit direction takes its new layout from position q. -/
def Dev.relayTx (d : Dev) (p q : Nat) : Dev :=
  let x := d.apo p
  let e := d.pf F.APT_STATUS_TX_EPOCH p
  let n := (e + 1) % 256
  let tx := relay x.tx e n ⟨d.pf F.APT_TX_MASK_MASK p, d.pf F.APT_MAP_TX_BASE p⟩ q
  ((d.setApo p { x with tx := tx }).wr (F.APT_STATUS_TX_EPOCH.at [p]) n).notePort p 7 q

/-- Both directions' new layouts at the start of a port frame; a standby waits for the active's (R237). -/
def Dev.relayout (d : Dev) (p frame : Nat) : Dev :=
  if d.follows then d
  else
    let d := if (d.apo p).rx.relayout then d.relayRx p ((frame : Int) + d.shift F.APT_SHIFT_RX_SHIFT p).toNat else d
    if (d.apo p).tx.relayout then d.relayTx p (match d.mtx.last with | some k => k + 1 | none => 0) else d

/-- The period of a frame lies within ±2 % of 1 ÷ fs (R215); `period` is in 2⁻¹⁶ ns. -/
def Dev.periodOk (d : Dev) (period : Nat) : Bool :=
  decide (98 * subPerSec ≤ 100 * period * d.fs ∧ 100 * period * d.fs ≤ 102 * subPerSec)

/-- The receive side at an FS edge: the frame that ended is checked, counted and written, and the next one numbered. -/
def Dev.rxEdge (d : Dev) (p : Nat) (edge : Tai) (period bclks : Nat) (good : Bool) (slots : List Nat) : Dev :=
  let want := d.pf F.APT_CFG_SLOTS p * widthBits (d.pf F.APT_CFG_WIDTH p)
  let ok := d.periodOk period && (if d.isAes p then good else bclks = want)
  let d := d.aptCount p 0
  let d := d.wrBit (F.APT_STATUS_CLK_VALID.at [p]) ok
  let d := if ok then d else (d.aptCount p 1).aptSticky F.APT_STICKY_FRAME_ERR_SEEN p
  let x := d.apo p
  let x := { x with valid := if ok then x.valid + 1 else 0, invalid := if ok then 0 else x.invalid + 1 }
  let d := d.setApo p x
  if 2 ≤ x.invalid then (if d.pf F.APT_STATUS_CLK_VALID p = 0 && x.invalid = 2 then d.clockLost p else d)
  else
    let d := match x.frame with
      | none => d
      | some f =>
        let d := if ok then d.statusIn p slots else d
        let d := if d.aptState p = 2 || d.aptState p = 3 then d.writeFrame p f ok slots else d
        let d := d.wrS (F.APT_FS_PHASE_FS_PHASE.at [p]) (d.fsPhase (f + 1) edge)
        d.setApo p { d.apo p with frame := some (f + 1) }
    if d.pf F.APT_STATUS_SETTLED p = 0 && d.pf F.APT_SETTLE_SETTLE p ≤ x.valid then
      let d := (d.wr (F.APT_STATUS_SETTLED.at [p]) 1).aptSticky F.APT_STICKY_SETTLED_SEEN p
      if d.follows then d.anchorTold p edge else d.anchor p edge
    else if d.pf F.APT_STATUS_SETTLED p = 1 && (d.apo p).frame.isNone then
      if d.follows then d.anchorTold p edge else if (d.apo p).afresh = 2 then d.anchor p edge else d
    else d

/-- The transmit side at the start of a port frame. DESIGN CHOICE (log 102). -/
def Dev.txEdge (d : Dev) (p : Nat) (frame : Option Nat) : Dev :=
  match frame with
  | some f => if 2 ≤ d.aptState p || (d.isAes p && d.aptState p = 1) then (d.relayout p f).playFrame p f else d.relayout p f
  | none => if d.aptState p ≠ 0 && d.drives then d.emit (.audio p (d.doutFrame p (d.pf F.APT_TX_MASK_MASK p) (fun _ => 0))) else d

/-- The AES3 transmitter's next frame (R234): settled as soon as its synthesizer is locked, numbered from its own edge. -/
def Dev.aesTxEdge (d : Dev) (p : Nat) (edge : Tai) : Dev :=
  let x := d.apo p
  if !d.on (F.CLK_MCLK_STATUS_LOCKED.at [p / 2]) then d.setApo p { x with txFrame := none }
  else
    let f := match x.txFrame with | some f => f + 1 | none => d.indexNear edge
    (d.setApo p { x with txFrame := some f }).txEdge p (some f)

/-- An FS active edge has come. -/
def Dev.edgeSeen (d : Dev) (p : Nat) : Dev := d.setApo p { d.apo p with edge := some d.time.cycles }

/-- Datapath cycles in two nominal frame periods, rounded up (R215). -/
def Dev.twoFrames (d : Dev) : Nat := ceilDiv (2 * 1000 * cyclesPerMs) d.fs

/-- PORT_FRAME (R215 to R218): an FS active edge at `edge` ends one port frame, of `period` (2⁻¹⁶ ns) and `bclks` BCLK cycles with the
slots it carried, and begins the next. An AES3 port's receiver and transmitter have frames of their own (R234). -/
def execPortFrame (port : Fin 16) (part : PortPart) (edge : Tai) (period bclks : Nat) (good : Bool) (slots : List (BitVec 32))
    (s : State) : Host.Outcome State Fault Refusal :=
  s.act fun d =>
    if !d.booted then d
    else if d.isAes port then
      match part with
      | .transmitter => d.aesTxEdge port edge
      | _ => (d.edgeSeen port).rxEdge port edge period bclks good (slots.map (·.toNat))
    else
      let d := (d.edgeSeen port).rxEdge port edge period bclks good (slots.map (·.toNat))
      d.txEdge port (d.apo port).frame

/-- PORT_CLOCK_LOSS (R215): no FS active edge for two nominal frame periods; a clock that is lost is not lost again. -/
def execPortClockLoss (port : Fin 16) (s : State) : Host.Outcome State Fault Refusal :=
  s.act fun d =>
    match (d.apo port).edge with
    | some t => if d.booted && decide (t + d.twoFrames ≤ d.time.cycles) then d.clockLost port else d
    | none => d

/-! ### Audio blocks (R221, R223) -/

/-- The mean fill of a direction over the block, and the sums cleared. -/
def PortDir.mean (x : PortDir) : Option Nat :=
  if x.fillCount = 0 then none else some (Config.openDiv 15 x.fillSum x.fillCount).toNat

/-- The slips of a running port at a block boundary (R221). -/
def Dev.blockSlips (d : Dev) (p : Nat) : Dev :=
  let x := d.apo p
  let below := fun (y : PortDir) => decide (0 < y.fillCount ∧ y.fillSum < 40 * y.fillCount)
  let above := fun (y : PortDir) => decide (0 < y.fillCount ∧ 88 * y.fillCount < y.fillSum)
  let d := match x.rx.mean with | some m => d.wr (F.APT_FILL_RX_FILL.at [p]) m | none => d
  let d := match x.tx.mean with | some m => d.wr (F.APT_FILL_TX_FILL.at [p]) m | none => d
  let d := d.setApo p { x with rx := { x.rx with fillSum := 0, fillCount := 0 }, tx := { x.tx with fillSum := 0, fillCount := 0 } }
  if d.aptState p ≠ 2 || d.follows then d
  else
    let d := if x.discard = 0 && below x.rx then (d.slipRx p true).notFollowing p 1
      else if x.discard = 0 && above x.rx then (d.slipRx p false).notFollowing p 2 else d
    if x.slip.isNone && below x.tx then (d.slipTx p true).notFollowing p 3
    else if x.slip.isNone && above x.tx then (d.slipTx p false).notFollowing p 4 else d

/-- The steering loop of a group (R223): it writes TRIM, a value the spec leaves to the loop, kept within ±50 ppm. -/
def Dev.steerGroup (d : Dev) (g : Nat) : Dev :=
  let p := 2 * g + d.rd (F.APT_GRP_CFG_STEER_PORT.at [g])
  if d.on (F.APT_GRP_CFG_STEERED.at [g]) && d.aptState p = 2 then
    let r := d.drawIn .trim (-100000000) 100000000
    let d := r.2.setTrim g r.1 true
    if d.on (F.CLK_MCLK_STATUS_TRIM_CLAMPED.at [g]) then d else d.wr (F.APT_GRP_STATUS_CLAMP_1S.at [g]) 0
  else d

/-- Values that waited for a block boundary: channel status and STEERED, which ALIGNED of the group's media clock follows (R76). -/
def Dev.blockPending (d : Dev) (p : Nat) : Dev :=
  let x := d.apo p
  let d := x.pend.foldl (fun d r => match fieldOf r.1 with | some f => d.wr f r.2 | none => d) d
  if x.pend.isEmpty then d else (d.setApo p { x with pend := [] }).mclkAlign (p / 2)

/-- AUDIO_BLOCK_BOUNDARY (R217, R221, R223, R228). -/
def execAudioBlockBoundary (s : State) : Host.Outcome State Fault Refusal :=
  s.act fun d =>
    if !d.booted then d
    else
      let d := (List.range 16).foldl (fun d p => (d.blockPending p).blockSlips p) d
      let d := (List.range 16).foldl (fun d p =>
        let x := d.apo p
        let d := if x.afresh = 1 then d.setApo p { x with afresh := 2 } else d
        if d.aptState p = 0 && d.pf F.APT_STATUS_SETTLED p = 1 && !d.follows && x.frame.isSome then
          d.anchor p (d.lastEdge p)
        else d) d
      (List.range 8).foldl (fun d g => d.steerGroup g) d

/-- TRIM_CLAMP_HOLD (R224): TRIM_CLAMPED has stayed 1 for 1 s. -/
def execTrimClampHold (group : Fin 8) (s : State) : Host.Outcome State Fault Refusal :=
  s.act fun d =>
    let held : Bool := match d.clk.clamped.find? group with | some t => d.past t 1000 | none => false
    if !d.booted || !d.on (F.CLK_MCLK_STATUS_TRIM_CLAMPED.at [group]) || !held then d
    else
      let d := d.wr (F.APT_GRP_STATUS_CLAMP_1S.at [group]) 1
      [2 * group.val, 2 * group.val + 1].foldl (fun d p =>
        (d.setApo p { d.apo p with clampSince := some d.time.cycles }).notFollowing p 5) d

/-- NOT_FOLLOWING_CLEAR (R224): 60 s have passed with neither a slip nor a clamp. -/
def execNotFollowingClear (port : Fin 16) (s : State) : Host.Outcome State Fault Refusal :=
  s.act fun d =>
    let x := d.apo port
    let old := fun (t : Option Nat) => match t with | some c => d.past c 60000 | none => true
    if d.booted && old x.lastSlip && old x.clampSince && !d.on (F.CLK_MCLK_STATUS_TRIM_CLAMPED.at [port.val / 2]) then
      let d := d.wr (F.APT_GRP_STATUS_CLAMP_1S.at [port.val / 2]) 0
      d.wr (F.APT_STATUS_NOT_FOLLOWING.at [port]) 0
    else d

/-- PORT_STOP_RELEASE (R225): SETTLE port frames after the stop have been played; DOUT releases. -/
def execPortStopRelease (port : Fin 16) (s : State) : Host.Outcome State Fault Refusal :=
  s.act fun d =>
    if d.booted && d.aptState port = 3 && decide (d.pf F.APT_SETTLE_SETTLE port ≤ (d.apo port).stopFrames) then d.aptIdle port else d

/-- AUDIO_PORT_HISTORY_CLEAR (R239). -/
def Dev.portHistoryClear (d : Dev) (p : Nat) : Dev :=
  [F.APT_STICKY_STEP_JUMP_SEEN, F.APT_STICKY_CS_CRC_ERR_SEEN, F.APT_STICKY_BLOCK_ERR_SEEN, F.APT_STICKY_CS_NEW_SEEN,
    F.APT_STICKY_NOT_FOLLOWING_SEEN, F.APT_STICKY_SLIP_SEEN, F.APT_STICKY_FRAME_ERR_SEEN, F.APT_STICKY_CLOCK_LOSS_SEEN,
    F.APT_STICKY_SETTLED_SEEN, F.APT_STICKY_STATE_CHANGE_SEEN].foldl (fun d f => d.wr (f.at [p]) 0) d

/-- AUDIO_PORT_HISTORY_CLEAR (R239). -/
def execAudioPortHistoryClear (port : Fin 16) (s : State) : Host.Outcome State Fault Refusal :=
  s.act fun d => if d.booted then d.portHistoryClear port else d

/-! ### Steps and modes (R235, R236) -/

/-- The numbering of every anchored port frame jumps by m with the grid (R235). -/
def Dev.aptJump (d : Dev) (m : Int) : Dev :=
  (d.apt.map (·.1)).foldl (fun d p =>
    let x := d.apo p
    let mv := fun (f : Option Nat) => f.map (fun n => ((n : Int) + m).toNat)
    let d := d.setApo p { x with frame := mv x.frame, txFrame := mv x.txFrame, rxNext := mv x.rxNext,
                                 slip := x.slip.map (fun s => (((s.1 : Int) + m).toNat, s.2)),
                                 rx := { x.rx with g := 0 }, tx := { x.tx with g := 0 } }
    if d.aptState p = 0 then d else d.aptSticky F.APT_STICKY_STEP_JUMP_SEEN p) d

/-- On entry to a mode that computes audio, every enabled port starts at the boundary of the change (R236). -/
def Dev.aptStartAll (d : Dev) : Dev :=
  (List.range 16).foldl (fun d p => if d.pf F.APT_CFG_EN p = 1 && d.aptState p = 0 then (d.aptStart p).1 else d) d

/-- On entry to a mode without audio, every port is stopped and DOUT releases (R236). -/
def Dev.aptStopAll (d : Dev) : Dev :=
  (List.range 16).foldl (fun d p => if d.aptRuns p then d.aptIdle p else d) d

/-! ### The block's apply point (R228, R230) -/

/-- The port a field belongs to; 16 for the block's own registers. -/
def aptPortOf (f : Fld) : Nat := if f.off % 0x800 < 0x700 then f.off / 0x800 else 16

/-- A captured value that no strobe may apply (R238). -/
def aptBad (f : Fld) (v : Nat) : Bool :=
  let o := f.off % 0x800
  (o = 0 && ((f.lo = 21 && v = 3) || (f.lo = 19 && v = 3) || (f.lo = 0 && decide (v < 2 ∨ 32 < v)))) ||
    (o = 0x10 && decide (v < 48 ∨ 48000 < v))

/-- A field of masks and bases. -/
def isMapField (f : Fld) : Bool := let o := f.off % 0x800; o = 4 || o = 8 || o = 12

/-- A field that a limit of R213 judges: masks and bases, MODE, DATA, WIDTH, WORD and SLOTS. -/
def isShapeField (f : Fld) : Bool := isMapField f || (f.off % 0x800 = 0 && [29, 28, 21, 19, 0].contains f.lo)

/-- A field that waits for an audio block boundary: channel status to send. -/
def isCsField (f : Fld) : Bool := let o := f.off % 0x800; decide (0x40 ≤ o ∧ o < 0x78)

/-- One port reaches its apply point. Values that would break a limit of R213 are refused as one: none of the fields that the limits
judge applies, and no start. DESIGN CHOICE (log 202). -/
def Dev.applyPort (d : Dev) (group p : Nat) (vals : Tbl Nat) : Dev × Status :=
  let named := fun (q : Fld → Bool) (r : Nat × Nat) => match fieldOf r.1 with | some f => q f | none => false
  let bad := vals.any (fun r => match fieldOf r.1 with | some f => aptBad f r.2 | none => false)
  let vals : Tbl Nat := vals.filter (fun r => match fieldOf r.1 with | some f => !aptBad f r.2 | none => false)
  let en := Tbl.get vals (d.pf F.APT_CFG_EN p) (F.APT_CFG_EN.at [p]).key
  let prop := fun (f : Fld) => d.proposed vals (f.at [p])
  let seen := fun (f : Fld) => if f.so && d.aptRuns p then d.pf f p else prop f
  let limit := if !vals.any (named isShapeField) then .ok else if d.aptRuns p then d.aptLimits p seen else d.aptShape p seen
  let vals : Tbl Nat := if limit = .ok then vals else dropVals vals isShapeField
  let en := if limit = .ok then en else d.pf F.APT_CFG_EN p
  let cs := vals.filter (fun r => named isCsField r && r.2 ≠ (match fieldOf r.1 with | some f => d.rd f | none => 0))
  let touched := fun (offs : List Nat) => vals.any (fun r => match fieldOf r.1 with
    | some f => offs.contains (f.off % 0x800) && r.2 ≠ d.rd f | none => false)
  let rxNew := touched [4] || prop F.APT_MAP_RX_BASE ≠ d.pf F.APT_MAP_RX_BASE p
  let txNew := touched [8] || prop F.APT_MAP_TX_BASE ≠ d.pf F.APT_MAP_TX_BASE p
  let d := if en ≠ d.pf F.APT_CFG_EN p || rxNew || txNew then d.servicePort p else d
  let r := d.applyVals (fun _ => d.aptRuns p) group (dropVals vals (fun f => isCsField f || (f.off % 0x800 = 0 && f.lo = 31)))
  let d := r.1
  let x := d.apo p
  let d := if cs.isEmpty && !rxNew && !txNew then d
    else d.setApo p { x with pend := cs.foldl (fun (t : Tbl Nat) r => t.put r.1 r.2) x.pend,
                             rx := { x.rx with relayout := x.rx.relayout || rxNew },
                             tx := { x.tx with relayout := x.tx.relayout || txNew } }
  let st : Status := if bad then .range else if limit ≠ .ok then limit else if r.2 then .stoppedOnly else .ok
  let e := if en = 1 && d.pf F.APT_CFG_EN p = 0 then d.aptStart p
    else if en = 0 && d.pf F.APT_CFG_EN p = 1 then (d.aptStop p, .ok) else (d, .ok)
  let st := Status.orElse st e.2
  (e.1.aptResult p st, st)

/-- The APT block's captured values: port by port, then the groups, whose STEERED waits for an audio block boundary (R223). -/
def Dev.applyApt (d : Dev) (group : Nat) (vals : Tbl Nat) : Dev × Status :=
  let of := fun (p : Nat) (r : Nat × Nat) => match fieldOf r.1 with | some f => aptPortOf f = p | none => false
  let r := ((List.range 16).filter (fun p => vals.any (of p))).foldl (fun acc p =>
    let r := acc.1.applyPort group p (vals.filter (of p))
    (r.1, Status.orElse acc.2 r.2)) (d, Status.ok)
  let grp : Tbl Nat := vals.filter (of 16)
  let later := fun (f : Fld) => f.lo = 31
  let d := (r.1.applyVals (fun _ => false) group (dropVals grp later)).1
  let d := (List.range 8).foldl (fun d g =>
    let mine := grp.filter (fun r => match fieldOf r.1 with
      | some f => f.off = 0x740 + 4 * g && later f && r.2 ≠ d.rd f | none => false)
    if mine.isEmpty then d
    else
      let x := d.apo (2 * g)
      d.setApo (2 * g) { x with pend := mine.foldl (fun t r => t.put r.1 r.2) x.pend }) d
  (d, r.2)

end Sys2Proof.Machine
end

