-- ==== Sys2Proof/Machine/Matrix.lean ====
section
/-! DEFINITION. Machine/Matrix.lean: the path pilot and the correlators' inputs (R271 to R276), crosspoints, zones, claims and
ducking, delay lines (R240 to R254). -/

namespace Sys2Proof.Machine

/-! ### Zones and life-safety levels (R248, R251) -/

/-- A field of a zone. -/
def Dev.zf (d : Dev) (f : Fld) (z : Nat) : Nat := d.rd (f.un z)

/-- Level L of zone z is a life-safety level (R251). -/
def Dev.levelSafe (d : Dev) (z l : Nat) : Bool := decide (d.zf F.MTX_ZN_CFG_SAFETY_FLOOR z ≤ l)

/-- Zone z is a life-safety zone. -/
def Dev.zoneSafe (d : Dev) (z : Nat) : Bool := decide (d.zf F.MTX_ZN_CFG_SAFETY_FLOOR z ≤ 7)

/-- A zone output that the rate makes usable (R240). -/
def Dev.usableZone (d : Dev) (z : Nat) : Bool :=
  if d.is96 then decide (z < 512 ∨ (1024 ≤ z ∧ z < 1280)) else decide (z < 1536)

/-- A matrix input that the rate makes usable (R240). -/
def Dev.usableInput (d : Dev) (i : Nat) : Bool :=
  if d.is96 then decide (i < 512 ∨ (1024 ≤ i ∧ i < 1280) ∨ (1536 ≤ i ∧ i < 1616)) else decide (i < 1616)

/-- The zones of a zone set (R252). -/
def Dev.zoneSet (d : Dev) (n : Nat) : List Nat :=
  (List.range 48).flatMap (fun w => (bitList 32 (d.rd ((F.MTX_ZS_MAP_MAP.at [w]).un n))).map (· + 32 * w))

/-- A zone's state beyond its registers. -/
def Dev.zone (d : Dev) (z : Nat) : ZoneSt := d.mtx.zones.get {} z

/-- Replace it; a zone in its first state is not listed. -/
def Dev.setZone (d : Dev) (z : Nat) (x : ZoneSt) : Dev :=
  { d with mtx := { d.mtx with zones := if x = {} then d.mtx.zones.del z else d.mtx.zones.put z x } }

/-! ### Pilot (R271 to R273) -/

/-- One step of the 21-bit register of x²¹ + x¹⁹ + 1: stages 21 and 19 feed stage 1. DESIGN CHOICE (log 107). -/
def mlsStep (r : Nat) : Nat := r * 2 % 2 ^ 21 + bit (bitAt r 20 != bitAt r 18)

/-- The sequence's output bit at an index: stage 21, all stages being ones at index 0. DESIGN CHOICE (log 107). -/
def mlsBit (i : Nat) : Bool := bitAt (Nat.iterate mlsStep (i % (2 ^ 21 - 1)) (2 ^ 21 - 1)) 20

/-- The pilot's amplitude (R272): 10 ^ (level ÷ 20) of full scale, rounded. -/
def pilotAmplitude (level : Int) : Nat := (gainOf 32 (-level).toNat + 1) / 2

/-- The sequence bit of a zone's path at a position, as ±1. -/
def Dev.pilotSign (d : Dev) (z k : Nat) : Int := if mlsBit (k + d.zf F.SUP_PATH_SHIFT_SHIFT z) then 1 else -1

/-- The band that PILOT_SWEEP plays on a path (R293), if it sweeps it. -/
def Dev.sweepBand (d : Dev) (z : Nat) : Option Nat :=
  d.sup.corrs.findSome? (fun r => if r.2.path = z then r.2.band else none)

/-- The level of a swept band, in 0.1 dB (R293). -/
def Dev.sweepLevel (d : Dev) (z : Nat) : Int :=
  let boost := match d.sup.vigil with | some v => v.plan.getD 6 10 | none => d.obj 0x7010 7 0 10
  min (d.rdS (F.SUP_PATH_LEVEL_PILOT_LEVEL.un z) + 10 * (boost : Int)) (-800)

/-- The pilot added to a zone output at a position (R272, R273); SAFE_HOLD injects none. A swept band's signal is the filtered
sequence, whose filter the spec does not give: a free value. DESIGN CHOICE (log 106). -/
def Dev.pilotAt (d : Dev) (z k : Nat) : Int :=
  if !d.on F.SUP_CFG_INJECT_EN || d.zf F.SUP_PATH_CFG_EN z = 0 || decide (d.mode.mode = .safeHold) then 0
  else match d.sweepBand z with
    | some b => Config.freeOf 20 [z, b, k, d.sweepLevel z] % 2 ^ 31
    | none => d.pilotSign z k * pilotAmplitude (d.rdS (F.SUP_PATH_LEVEL_PILOT_LEVEL.un z))

/-! ### Correlators' inputs (R275) -/

/-- The quiet gate's largest magnitude: none admits everything. -/
def Dev.gateOf (d : Dev) (z : Nat) : Option Nat :=
  let g := d.rdS (F.SUP_PATH_LEVEL_GATE.un z)
  if 0 ≤ g then none else some (gainOf 31 (-g).toNat)

/-- A correlator takes the sense input and the zone's output of position k; at the end of a gate block the quiet positions whose
sense is clean are admitted. -/
def Corr.feed (x : Corr) (gate : Option Nat) (block k : Nat) (sense : Option Int) (out : Int) : Corr :=
  let x := { x with xs := x.xs.put k sense, block := x.block ++ [(k, out)] }
  if (k + 1) % block ≠ 0 then x
  else
    let quiet := match gate with
      | none => true
      | some g => x.block.all (fun b => decide (b.2.natAbs ≤ g))
    let new := if quiet then (x.block.map (·.1)).filter (fun q => (x.xs.get none q).isSome) else []
    { x with block := [], adm := (x.adm ++ new).take x.want }

/-- Every correlator takes position k. -/
def Dev.feedCorrs (d : Dev) (k : Nat) (ins : Tbl (Int × Bool)) (outs : Frame) : Dev :=
  if !d.on F.SUP_CFG_CORR_EN then d
  else
    let block := if d.is96 then 96 else 48
    let corrs := d.sup.corrs.map (fun r =>
      let s := ins.get (0, true) (d.zf F.SUP_PATH_CFG_SENSE r.2.path)
      (r.1, r.2.feed (d.gateOf r.2.path) block k (if s.2 then some s.1 else none) (outs.get 0 r.2.path)))
    { d with sup := { d.sup with corrs := corrs } }

/-! ### Crosspoints (R243 to R247) -/

/-- A field of a crosspoint row. -/
def Dev.xf (d : Dev) (f : Fld) (r : Nat) : Nat := d.rd (f.un r)

/-- A row is class S (R247). DESIGN CHOICE (log 112). -/
def Dev.rowSafe (d : Dev) (r : Nat) : Bool := d.levelSafe (d.xf F.MTX_XP_CFG_OUTPUT r) (d.xf F.MTX_XP_CFG_LEVEL r)

/-- A row's gain now, in 43 fraction bits. -/
def XpSt.gain43 (x : XpSt) : Int :=
  if x.steps ≤ x.done then x.to43 else x.from43 + Config.openDiv 16 ((x.to43 - x.from43) * x.done) x.steps

/-- A row's gain now as GAIN_NOW shows it, in Q5.27. -/
def XpSt.gain (x : XpSt) : Int := x.gain43 / 2 ^ 16

/-- A row that is not IDLE. -/
def Dev.xp (d : Dev) (r : Nat) : Option XpSt := d.mtx.xps.find? r

/-- Replace a row's state. -/
def Dev.setXp (d : Dev) (r : Nat) (x : XpSt) : Dev := { d with mtx := { d.mtx with xps := d.mtx.xps.put r x } }

/-- A row's STATE: 0 IDLE, 1 RAMPING, 2 STEADY, 3 CAPACITY. -/
def Dev.rowState (d : Dev) (r : Nat) : Nat :=
  if d.mtx.unplaced.contains r then 3
  else match d.xp r with
    | none => 0
    | some x => if x.done < x.steps then 1 else 2

/-- Ramp steps of a time in ms. -/
def Dev.rampSteps (d : Dev) (ms : Nat) : Nat := max 1 (ms * d.fs / 1000)

/-- A ramp to a target in Q5.27 begins at the next boundary from the row's present gain (R245). DESIGN CHOICE (log 101). -/
def Dev.rampRow (d : Dev) (r : Nat) (target : Int) (steps : Nat) (release : Bool := false) : Dev :=
  let x := d.xp r
  let now := match x with | some x => x.gain43 | none => 0
  d.setXp r ⟨now, target * 2 ^ 16, steps, 0, release, x.bind (·.place)⟩

/-- The slice that serves a row. -/
def Dev.rowSlice (d : Dev) (r : Nat) : Nat :=
  match (d.xp r).bind (·.place) with
  | some i => i
  | none => r / 4096

/-- Rows that a slice serves. -/
def Dev.sliceRows (d : Dev) (i : Nat) : List Nat := (d.mtx.xps.map (·.1)).filter (fun r => d.rowSlice r = i)

/-- A row ramps out for want of a position (R33). -/
def Dev.rowEnding (d : Dev) (r : Nat) : Bool := d.mtx.unplaced.contains r

/-- A slice serves and has a crosspoint position for row r; a row that ramps out for want of one holds none. -/
def Dev.mtxRoom (d : Dev) (r i : Nat) : Bool :=
  let cap := if d.is96 then 2048 else 4096
  d.mtxServes i && decide (((d.sliceRows i).filter (fun q => !d.rowEnding q && q ≠ r)).length < cap)

/-- A slice with a free crosspoint position for row r. -/
def Dev.freeMtxSlice (d : Dev) (r : Nat) : Option Nat := (List.range 8).find? (d.mtxRoom r)

/-- MTX_RESULT of a crosspoint row (key r) or a zone (key 32768 + z): kept until the next strobe, and shown where it is the one
selected (R268). DESIGN CHOICE (log 203). -/
def Dev.mtxResult (d : Dev) (key : Nat) (st : Status) : Dev :=
  let d := { d with mtx := { d.mtx with results := d.mtx.results.put key st.code } }
  if key = d.rd F.MTX_XP_SEL_SEL ∨ key = 32768 + d.rd F.MTX_ZN_SEL_SEL then d.wr F.MTX_RESULT_RESULT st.code else d

/-- A row without a position reports CAPACITY. -/
def Dev.rowLacks (d : Dev) (r : Nat) : Dev :=
  ({ d with mtx := { d.mtx with unplaced := d.mtx.unplaced ++ [r] } }.mtxResult r .capacity).irq F.MTX_IRQ_STATUS_CAPACITY r

/-- A row starts (R245): it is placed, on the slice that serves it wherever that has room, and ramps from 0, or from where it still
stands, to GAIN; a row without a position reports CAPACITY. -/
def Dev.rowStart (d : Dev) (r : Nat) : Dev × Status :=
  let d := { d with mtx := { d.mtx with unplaced := d.mtx.unplaced.filter (· ≠ r) }, pwr := { d.pwr with shed := d.pwr.shed.erase (.row r) } }
  let go := fun (d : Dev) => d.rampRow r (d.rdS (F.MTX_XP_GAIN_GAIN.un r)) (d.rampSteps (d.xf F.MTX_XP_RAMP_RAMP_MS r))
  if d.mtxRoom r (d.rowSlice r) then (go d, .ok)
  else match d.freeMtxSlice r with
    | some i =>
      let d := go d
      (match d.xp r with | some x => d.setXp r { x with place := some i } | none => d, .ok)
    | none => (d.rowLacks r, .capacity)

/-- A row stops: it ramps to 0 over RAMP_MS and becomes IDLE. -/
def Dev.rowStop (d : Dev) (r steps : Nat) : Dev :=
  let d := { d with mtx := { d.mtx with unplaced := d.mtx.unplaced.filter (· ≠ r) } }
  if (d.xp r).isSome then d.rampRow r 0 steps true else d

/-- A row is stopped for capacity or the budget: its contribution ramps out over 32 samples (R33, R247, R335). -/
def Dev.rowDrop (d : Dev) (r : Nat) (lost : Bool) : Dev :=
  let d := d.rowStop r 32
  if lost then d.rowLacks r else d

/-- GAIN_RAMP (R246, R147): GAIN takes the target, and an enabled row ramps to it over its own time. -/
def Dev.gainRamp (d : Dev) (r : Nat) (target : Int) (ms : Nat) : Dev :=
  let d := d.wrRun (F.MTX_XP_GAIN_GAIN.un r) (unsgn 32 target)
  if d.xf F.MTX_XP_CFG_EN r = 1 && (d.xp r).isSome && !d.rowEnding r && !d.isShed (.row r) then d.rampRow r target (d.rampSteps ms) else d

/-! ### The mix (R244) -/

/-- Saturate to the accumulator's 56 bits. -/
def sat56 (v : Int) : Int := clampInt (-(2 ^ 55)) (2 ^ 55 - 1) v

/-- A contribution to a zone's level: the zone, the level, the product in 42 fraction bits. -/
structure Part where
  zone : Nat
  level : Nat
  value : Int
  deriving DecidableEq, Repr

/-- A Q1.31 sample times a Q5.27 gain, truncated toward −∞ to 42 fraction bits. -/
def product42 (sample gain : Int) : Int := sample * gain / 2 ^ 16

/-- The rows' contribution is zero in this frame, for the spare is taking the slice over from one that failed (R32). -/
def Dev.rowGap (d : Dev) (r : Nat) : Bool := 0 < d.cap.mtxGap && d.cap.mtxSpare = (1, d.rowSlice r)

/-- Each running row moves one step of its ramp and contributes; a row whose release ends becomes IDLE. A row whose slice the spare
is taking over contributes nothing, and its ramp stands (R32). DESIGN CHOICE (log 108). -/
def Dev.rowsStep (d0 : Dev) (ins : Tbl (Int × Bool)) : Dev × List Part :=
  let d := { d0 with cap := { d0.cap with mtxGap := d0.cap.mtxGap - 1 } }
  (d.mtx.xps.filter (fun r => !d0.rowGap r.1)).foldl (fun acc r =>
    let x := { r.2 with done := min r.2.steps (r.2.done + 1) }
    let v := product42 (ins.get (0, true) (acc.1.xf F.MTX_XP_CFG_INPUT r.1)).1 x.gain
    let part : Part := ⟨acc.1.xf F.MTX_XP_CFG_OUTPUT r.1, acc.1.xf F.MTX_XP_CFG_LEVEL r.1, v⟩
    let d := if x.release && x.steps ≤ x.done then
        { acc.1 with mtx := { acc.1.mtx with xps := acc.1.mtx.xps.del r.1 } }
      else acc.1.setXp r.1 x
    (d, acc.2 ++ [part])) (d, [])

/-- A level's sum. -/
def levelSum (parts : List Part) (z l : Nat) : Int :=
  (parts.filter (fun p => p.zone = z && p.level = l)).foldl (fun a p => sat56 (a + p.value)) 0

/-! ### Claims and ducking (R249, R250) -/

/-- The rows that the budget has shed (R335). -/
def Dev.shedRows (d : Dev) : List Nat := d.pwr.shed.filterMap (fun u => match u with | .row r => some r | _ => none)

/-- The levels that crosspoint rows claim, as (zone, level): every enabled row's, also of one that capacity or the budget stopped. -/
def Dev.rowClaims (d : Dev) : List (Nat × Nat) :=
  ((d.mtx.xps.map (·.1) ++ d.mtx.unplaced ++ d.shedRows).filter (fun r => d.xf F.MTX_XP_CFG_EN r = 1 && d.xf F.MTX_XP_CFG_CLAIM r = 1)).map
    (fun r => (d.xf F.MTX_XP_CFG_OUTPUT r, d.xf F.MTX_XP_CFG_LEVEL r))

/-- The highest active level of a zone. -/
def Dev.zoneH (d : Dev) (z : Nat) : Option Nat :=
  ((List.range 8).filter (bitAt (d.zf F.MTX_ZN_STATUS_ACTIVE z))).getLast?

/-- A zone's active levels at position k: claimed ones, and those whose hang has not ended. -/
def Dev.claimZone (d : Dev) (z k : Nat) (claimed : List Nat) : Dev :=
  let hang := d.zf F.MTX_ZN_CFG_HANG_MS z
  let old := d.zf F.MTX_ZN_STATUS_ACTIVE z
  (List.range 8).foldl (fun d l =>
    let x := d.zone z
    let a := d.zf F.MTX_ZN_STATUS_ACTIVE z
    if claimed.contains l then (d.wr (F.MTX_ZN_STATUS_ACTIVE.un z) (setBit a l true)).setZone z { x with ended := x.ended.del l }
    else if !bitAt old l then d
    else if hang = 0 then d.wr (F.MTX_ZN_STATUS_ACTIVE.un z) (setBit a l false)
    else if (x.ended.find? l).isNone then d.setZone z { x with ended := x.ended.put l k }
    else d) d

/-- ZONE_HANG_EXPIRY (R249): HANG_MS have passed since the level's last claim ended. -/
def execZoneHangExpiry (zone : Fin 1536) (level : Fin 8) (s : State) : Host.Outcome State Fault Refusal :=
  s.act fun d =>
    let x := d.zone zone
    match x.ended.find? level, d.mtx.last with
    | some e, some k =>
      if d.booted && decide (e + d.zf F.MTX_ZN_CFG_HANG_MS zone * d.fs / 1000 ≤ k + 1) then
        let a := d.zf F.MTX_ZN_STATUS_ACTIVE zone
        (d.wr (F.MTX_ZN_STATUS_ACTIVE.un zone) (setBit a level false)).setZone zone { x with ended := x.ended.del level }
      else d
    | _, _ => d

/-- A level's target in 24 fraction bits (R250). -/
def Dev.duckTarget (d : Dev) (z l : Nat) : Nat :=
  match d.zoneH z with
  | none => 2 ^ 24
  | some h =>
    if h ≤ l then 2 ^ 24
    else
      let x := d.rd ((F.MTX_ZN_DUCK_DUCK.at [l]).un z)
      if x = 0xFFFF then 0 else gainOpen 24 x

/-- A duck gain's next value (R250): fixed steps, stopping exactly at the target. DESIGN CHOICE (log 101). -/
def Dev.duckStep (d : Dev) (z now target : Nat) : Nat :=
  if target < now then
    let n := d.zf F.MTX_ZN_RAMP_ATTACK_MS z * d.fs
    max target (now - (Config.openDiv 17 (2 ^ 24 * 1000) n).toNat)
  else
    let n := d.zf F.MTX_ZN_RAMP_RELEASE_MS z * d.fs
    min target (now + (Config.openDiv 17 (2 ^ 24 * 1000) n).toNat)

/-- The mixed value of a zone at a position, before delay and pilot, and whether it saturates: each level scaled by its duck gain,
then every duck gain moves. -/
def Dev.mixZone (d : Dev) (z : Nat) (parts : List Part) : Dev × Int × Bool :=
  let mine := parts.filter (fun p => p.zone = z)
  let dn := fun (l : Nat) => d.rd ((F.MTX_ZN_DNOW_D.at [l]).un z)
  let total := (List.range 8).foldl (fun a l =>
    let s := levelSum mine z l
    sat56 (a + (if dn l = 2 ^ 24 then s else Config.openDiv 18 (s * dn l) (2 ^ 24)))) 0
  let v := roundUp total 11
  let d := (List.range 8).foldl (fun d l =>
    let now := d.rd ((F.MTX_ZN_DNOW_D.at [l]).un z)
    let target := d.duckTarget z l
    if now = target then d else d.wr ((F.MTX_ZN_DNOW_D.at [l]).un z) (d.duckStep z now target)) d
  (d, sat31 v, decide (v ≠ sat31 v))

/-! ### Delay lines (R253) -/

/-- The delay line of a zone at position k (R253): a change fades the old delay out over 32 samples and the new one in over 256;
a position that is not held plays as silence, one lost to the DRAM fades as a lost packet does (R30). -/
def ZoneSt.play (x : ZoneSt) (delay k : Nat) (v : Int) : ZoneSt × Int :=
  let keep := max x.delay delay
  let x := if keep = 0 && x.change.isNone then x
    else { x with line := (Tbl.put (x.line.filter (fun r => decide (k ≤ r.1 + keep))) k (some v)) }
  let read := fun (dl : Nat) => if dl = 0 then some (some v) else if k < dl then none else x.line.find? (k - dl)
  match x.change with
  | some s =>
    if k < s + 32 then
      let old := match read x.delay with | some (some w) => w | _ => 0
      (x, Config.openDiv 19 (old * (32 - (k - s + 1) : Nat)) 32)
    else
      let x := { x with delay := delay, change := none, g := 0 }
      match read delay with
      | some (some w) => ({ x with g := 1, hist := w :: x.hist.take 31 }, scale256 1 w)
      | _ => (x, 0)
  | none =>
    match read x.delay with
    | some (some w) =>
      let g := min 256 (x.g + 1)
      ({ x with g := g, hist := if x.delay = 0 then [] else w :: x.hist.take 31,
                line := if x.delay = 0 then [] else x.line }, scale256 g w)
    | some none =>
      let g := x.g - 8
      let w := x.hist.getD 31 0
      ({ x with g := g, hist := w :: x.hist.take 31 }, scale256 g w)
    | none => ({ x with g := 0 }, 0)

/-- A zone's output after its delay line. -/
def Dev.delayZone (d : Dev) (z k : Nat) (v : Int) : Dev × Int :=
  let r := (d.zone z).play (d.zf F.MTX_ZN_DELAY_DELAY z) k v
  (d.setZone z r.1, r.2)

/-- A position clipped (R244). -/
def Dev.clip (d : Dev) (z : Nat) : Dev :=
  ((d.tally (F.MTX_ZN_CLIP_CLIP.un z)).tally F.MTX_CLIP_TOTAL_COUNT).irq F.MTX_IRQ_STATUS_CLIP z

/-- Every usable zone at position k: its outputs before and after the pilot. -/
def Dev.zonesStep (d : Dev) (k : Nat) (parts : List Part) (claims : List (Nat × Nat)) : Dev × Frame × Frame :=
  ((List.range 1536).filter d.usableZone).foldl (fun acc z =>
    let d := acc.1.claimZone z k ((claims.filter (fun c => c.1 = z)).map (·.2))
    let m := d.mixZone z parts
    let dl := m.1.delayZone z k m.2.1
    let w := dl.2 + dl.1.pilotAt z k
    let d := if m.2.2 || w ≠ sat31 w then dl.1.clip z else dl.1
    let put := fun (t : Frame) (v : Int) => if v = 0 then t else t.put z v
    (d, put acc.2.1 dl.2, put acc.2.2 (sat31 w))) (d, [], [])

/-! ### The block's apply point (R246, R253) -/

/-- A captured value of a crosspoint row, a zone or a zone set out of its range. -/
def mtxBad (f : Fld) (v : Nat) : Bool :=
  (f.off = 0x10C && decide (v < 1 ∨ 10000 < v)) || (f.off = 0x104 && f.lo = 16 && decide (1615 < v)) ||
  (f.off = 0x104 && f.lo = 0 && decide (1535 < v)) ||
  (f.off = 0x204 && ((f.lo = 28 && decide (8 < v)) || (f.lo = 0 && decide (10000 < v)))) ||
  (f.off = 0x208 && decide (v < 1 ∨ 10000 < v)) ||
  (decide (0x210 ≤ f.off ∧ f.off < 0x230) && decide (1000 < v) && v ≠ 0xFFFF)

/-- Zones with a delay. -/
def Dev.delayedZones (d : Dev) : List Nat := (List.range 1536).filter (fun z => d.zf F.MTX_ZN_DELAY_DELAY z ≠ 0)

/-- One crosspoint row reaches its apply point. -/
def Dev.applyRow (d : Dev) (group r : Nat) (vals : Tbl Nat) : Dev × Status :=
  let isEn := fun (f : Fld) => f.off = 0x104 && f.lo = 31
  let prop := fun (f : Fld) => d.proposed vals (f.un r)
  let en := prop F.MTX_XP_CFG_EN
  let idle := decide (d.rowState r = 0)
  let input := if idle then prop F.MTX_XP_CFG_INPUT else d.xf F.MTX_XP_CFG_INPUT r
  let output := if idle then prop F.MTX_XP_CFG_OUTPUT else d.xf F.MTX_XP_CFG_OUTPUT r
  let outside := en = 1 && (!d.usableInput input || !d.usableZone output || (d.is96 && decide (2048 ≤ r % 4096)))
  if outside then (d, .range)
  else
    let was := d.xf F.MTX_XP_CFG_EN r
    let gain := d.xf F.MTX_XP_GAIN_GAIN r
    let a := d.applyVals (fun _ => !idle) group (dropVals vals isEn)
    let d := a.1.wr (F.MTX_XP_CFG_EN.un r) en
    let st : Status := if a.2 then .stoppedOnly else .ok
    if !d.audioRuns then (d, st)
    else if en = 1 && was = 0 then
      let e := d.rowStart r
      (e.1, Status.orElse st e.2)
    else if en = 0 && was = 1 then (d.rowStop r (d.rampSteps (d.xf F.MTX_XP_RAMP_RAMP_MS r)), st)
    else if en = 1 && gain ≠ d.xf F.MTX_XP_GAIN_GAIN r && !idle && !d.rowEnding r && !d.isShed (.row r) then
      (d.rampRow r (d.rdS (F.MTX_XP_GAIN_GAIN.un r)) (d.rampSteps (d.xf F.MTX_XP_RAMP_RAMP_MS r)), st)
    else (d, st)

/-- One zone reaches its apply point: a new delay fades over from the next position; at most 1024 zones, 512 at 96 kHz, may have
one (R253). -/
def Dev.applyZone (d : Dev) (group z : Nat) (vals : Tbl Nat) : Dev × Status :=
  let new := d.proposed vals (F.MTX_ZN_DELAY_DELAY.un z)
  let old := d.zf F.MTX_ZN_DELAY_DELAY z
  let most := if d.is96 then 192000 else 96000
  let count := ((d.delayedZones.filter (· ≠ z)).length) + bit (new ≠ 0)
  let st : Status := if new = old then .ok else if most < new then .range
    else if (if d.is96 then 512 else 1024) < count then .capacity else .ok
  let vals := if st = .ok then vals else dropVals vals (fun f => f.off = 0x20C)
  let d := (d.applyVals (fun _ => false) group vals).1
  if st = .ok && new ≠ old then
    let k := match d.mtx.last with | some k => k + 1 | none => 0
    let x := d.zone z
    (d.setZone z { x with change := some k, line := if x.delay = 0 then [] else x.line }, st)
  else (d, st)

/-- The MTX block reaches its apply point: zones and zone sets, then crosspoint rows, in ascending order. -/
def Dev.applyMtx (d : Dev) (group : Nat) (vals : Tbl Nat) : Dev × Status :=
  let of := fun (lo hi : Nat) (r : Nat × Nat) => match fieldOf r.1 with
    | some f => decide (lo ≤ f.off ∧ f.off < hi) | none => false
  let unitOf := fun (r : Nat × Nat) => match fieldOf r.1 with | some f => f.unit | none => 0
  let badOnes := vals.filter (fun r => match fieldOf r.1 with | some f => r.2 ≠ d.rd f && mtxBad f r.2 | none => false)
  let vals : Tbl Nat := vals.filter (fun r => match fieldOf r.1 with | some f => r.2 = d.rd f || !mtxBad f r.2 | none => false)
  let zones := vals.filter (of 0x200 0x300)
  let rows := vals.filter (of 0x100 0x200)
  let units := fun (l : List (Nat × Nat)) => (l.map unitOf).dedup
  let wrong := fun (lo hi u : Nat) => badOnes.any (fun r => of lo hi r && unitOf r = u)
  let bads := fun (lo hi : Nat) => units (badOnes.filter (of lo hi))
  let d := { d with mtx := { d.mtx with results := [] } }.wr F.MTX_RESULT_RESULT 0
  let r := (units zones ++ (bads 0x200 0x300).filter (fun z => !(units zones).contains z)).foldl (fun acc z =>
    let r := acc.1.applyZone group z (zones.filter (fun r => unitOf r = z))
    let st := Status.orElse (if wrong 0x200 0x300 z then .range else .ok) r.2
    (r.1.mtxResult (32768 + z) st, Status.orElse acc.2 st)) (d, Status.ok)
  let d := (r.1.applyVals (fun _ => false) group (vals.filter (of 0x300 0x400))).1
  let r := (units rows ++ (bads 0x100 0x200).filter (fun x => !(units rows).contains x)).foldl (fun acc x =>
    let r := acc.1.applyRow group x (rows.filter (fun r => unitOf r = x))
    let st := Status.orElse (if wrong 0x100 0x200 x then .range else .ok) r.2
    (r.1.mtxResult x st, Status.orElse acc.2 st)) (d, r.2)
  (r.1, r.2)

/-! ### Modes (R267) -/

/-- The zones' delay lines start empty, each with its delay (R253). -/
def Dev.linesStart (d : Dev) : Dev :=
  d.delayedZones.foldl (fun d z => d.setZone z { delay := d.zf F.MTX_ZN_DELAY_DELAY z }) { d with mtx := { d.mtx with zones := [] } }

/-- Every enabled crosspoint ramps from 0 to GAIN from the entry boundary; a row that the rate leaves outside reports CAPACITY (R241). -/
def Dev.mtxStartAll (d : Dev) : Dev :=
  let d := { d with mtx := { d.mtx with xps := [], unplaced := [] } }.linesStart
  (List.range 32768).foldl (fun d r => if d.xf F.MTX_XP_CFG_EN r = 1 then
    (if d.is96 && (decide (2048 ≤ r % 4096) || !d.usableInput (d.xf F.MTX_XP_CFG_INPUT r) || !d.usableZone (d.xf F.MTX_XP_CFG_OUTPUT r)) then
      d.rowLacks r
    else (d.rowStart r).1) else d) d

/-- The mix stops: gains read 0, the pipeline and the lines are empty. -/
def Dev.mtxStopAll (d : Dev) : Dev :=
  let d := { d with mtx := { d.mtx with xps := [], unplaced := [], zones := [], pipe1 := [], pipe2 := [] } }
  (List.range 1536).foldl (fun d z =>
    if d.zf F.MTX_ZN_STATUS_ACTIVE z = 0 then d else d.wr (F.MTX_ZN_STATUS_ACTIVE.un z) 0) d

end Sys2Proof.Machine
end

