-- ==== Sys2Proof/Machine/Library.lean ====
section
/-! DEFINITION. Machine/Library.lean: tones, the message library, playback voices and the rewind recorder (R255 to R270). -/

namespace Sys2Proof.Machine

/-- Replace the library's state. -/
def Dev.setLib (d : Dev) (x : LibSt) : Dev := { d with lib := x }

/-- Count in one of the block's six counters: PLAYS, PREEMPTED, NOT_RESIDENT, MARK_OVERRUN, MARKS_INVALIDATED, BAD_MESSAGES. -/
def Dev.libCount (d : Dev) (i : Nat) : Dev := d.tally (F.LIB_COUNT_COUNT.at [i])

/-! ### Messages (R257 to R259) -/

/-- The message id of an index row. -/
def Message.id (m : Message) : Nat := leAt m.entry 0 4
/-- LENGTH in samples. -/
def Message.length (m : Message) : Nat := leAt m.entry 4 4
/-- ESSENTIAL. -/
def Message.essential (m : Message) : Bool := bitAt (leAt m.entry 8 1) 0
/-- RATE: 96 kHz. -/
def Message.is96 (m : Message) : Bool := bitAt (leAt m.entry 8 1) 1
/-- GAIN, Q5.27. -/
def Message.gain (m : Message) : Int := sgn 32 (leAt m.entry 12 4)
/-- AUDIO_CRC. -/
def Message.audioCrc (m : Message) : Nat := leAt m.entry 16 4
/-- The 64 KiB granules a message takes. -/
def Message.granules (m : Message) : Nat := ceilDiv (3 * m.length) 65536

/-- The row as the device shows it (R257): its own flags, its granules, its CRC. DESIGN CHOICE (log 119). -/
def Message.shown (m : Message) : List Byte :=
  let flags := leAt m.entry 8 1 % 4 + 4 * bit m.dram.isSome + 8 * bit m.nand.isSome + 16 * bit m.bad + 32 * bit m.noRoom
  let body := m.entry.take 8 ++ toLE 1 flags ++ slice m.entry 9 11 ++ toLE 4 m.granules ++ slice m.entry 24 36
  body ++ toLE 4 (crc32c body)

/-- A message of an id, with its row. -/
def Dev.findMsg (d : Dev) (id : Nat) : Option (Nat × Message) := List.find? (fun r => r.2.id = id) d.lib.msgs

/-- Replace a message. -/
def Dev.setMsg (d : Dev) (row : Nat) (m : Message) : Dev := d.setLib { d.lib with msgs := d.lib.msgs.put row m }

/-- Whether the library has no NAND (R44: BOOT_SEL 0b01). DESIGN CHOICE (log 110). -/
def Dev.noNand (d : Dev) : Bool := d.rd F.GCTL_BOOT_STATUS_BOOT_SEL = 1

/-- Granules taken in DRAM, from the write of the index row on (R258). -/
def Dev.dramUsed (d : Dev) : Nat := ((d.lib.msgs.filter (fun m => !m.2.noRoom)).map (fun m => m.2.granules)).sum

/-- Granules taken in NAND. -/
def Dev.nandUsed (d : Dev) : Nat := if d.noNand then 0 else (d.lib.msgs.map (fun m => m.2.granules)).sum

/-- A voice plays a message. -/
def Dev.plays (d : Dev) (id : Nat) : Bool := d.lib.voices.any (fun v => v.2.source = .message id)

/-- A write of an index row (R257, R258): an id of 0 deletes; a new message takes granules in DRAM and NAND. -/
def Dev.indexWrite (d : Dev) (row : Nat) (entry : List Byte) : Dev × Status :=
  let m : Message := { entry := slice entry 0 64 }
  let old := d.lib.msgs.find? row
  let others := d.lib.msgs.filter (fun r => r.1 ≠ row)
  let busy := match old with | some o => d.plays o.id | none => false
  if m.id = 0 then
    if busy then (d, .busy)
    else (d.setLib { d.lib with msgs := d.lib.msgs.del row, order := d.lib.order.filter (· ≠ row) }, .ok)
  else if m.id = 0xFFFFFFFF || m.length = 0 || leAt entry 60 4 ≠ crc32c (slice entry 0 60) then (d, .range)
  else if others.any (fun r => r.2.id = m.id) then (d, .range)
  else if busy then (d, .busy)
  else
    let held := fun (l : List (Nat × Message)) => (l.map (fun r => r.2.granules)).sum + m.granules
    if d.boot.library * 16 < held (others.filter (fun r => !r.2.noRoom)) || (!d.noNand && Config.nandGranules < held others) then (d, .capacity)
    else (d.setLib { d.lib with msgs := d.lib.msgs.put row m, order := d.lib.order.filter (· ≠ row) }, .ok)

/-- LIBRARY_INDEX_WRITE (R257). -/
def execLibraryIndexWrite (row : Fin 15360) (entry : List Byte) (s : State) : Host.Outcome State Fault Refusal :=
  s.act fun d => if d.booted then (d.indexWrite row entry).1 else d

/-- The modes in which uploads are accepted (R258). -/
def Dev.uploadMode (d : Dev) : Bool :=
  match d.mode.mode with
  | .commission | .solo | .active | .vigil | .lantern | .maintenance => true
  | _ => d.follows

/-- An upload has ended (R258): a match makes the message resident; a mismatch frees the row. -/
def Dev.upload (d : Dev) (row : Nat) (audio : List Byte) : Dev × Status :=
  match d.lib.msgs.find? row with
  | none => (d, .noObject)
  | some m =>
    if audio.length = 3 * m.length ∧ crc32c audio = m.audioCrc then
      (d.setMsg row { m with dram := some audio, bad := false }, .ok)
    else (d.setLib { d.lib with msgs := d.lib.msgs.del row }, .range)

/-- Class B work of the library may take a granule now (R334). -/
def Dev.libMayLoad (d : Dev) : Bool := decide (0 ≤ d.headroom) && !d.bBarred && !d.isShed .library

/-- A message became BAD (R259). -/
def Dev.msgBad (d : Dev) (row : Nat) (m : Message) : Dev :=
  let d := d.setMsg row { m with bad := true, dram := none }
  let d := d.note ([9, 0] ++ toBE 2 row)
  (d.libCount 5).irq F.LIB_IRQ_STATUS_BAD_MESSAGE row (toLE 4 m.id)

/-- One message is read from NAND and checked (R49, R259). -/
def Dev.loadMsg (d : Dev) (row : Nat) (readOk : Bool) : Dev :=
  let d := d.setLib { d.lib with order := d.lib.order.filter (· ≠ row) }
  match d.lib.msgs.find? row with
  | none => d
  | some m => match m.nand with
    | none => d
    | some a => if m.noRoom || m.dram.isSome then d
      else if readOk && crc32c a = m.audioCrc then d.setMsg row { m with dram := some a, bad := false }
      else d.msgBad row m

/-- LIBRARY_PERSIST_COMPLETE (R258): a resident message has been written to NAND as class B work, which the budget lets run. -/
def execLibraryPersistComplete (row : Fin 15360) (s : State) : Host.Outcome State Fault Refusal :=
  s.act fun d =>
    match d.lib.msgs.find? row with
    | none => d
    | some m => if d.booted && !d.noNand && m.dram.isSome && d.libMayLoad then d.setMsg row { m with nand := m.dram } else d

/-- After a layout (R28, R259): in reverse index order, messages whose granules no longer fit set NO_ROOM; the rest loads anew. -/
def Dev.libRoom (d : Dev) : Dev :=
  let msgs := d.lib.msgs.map (fun r => (r.1, { r.2 with noRoom := false }))
  let r := msgs.foldl (fun (acc : Tbl Message × Nat) r =>
    let n := acc.2 + r.2.granules
    if n ≤ d.boot.library * 16 then (acc.1 ++ [r], n) else (acc.1 ++ [(r.1, { r.2 with noRoom := true, dram := none })], n)) ([], 0)
  d.setLib { d.lib with msgs := r.1 }

/-- The rows that still load, in index order. -/
def Dev.libOrder (d : Dev) : List Nat :=
  (d.lib.msgs.filter (fun r => r.2.dram.isNone && r.2.nand.isSome && !r.2.noRoom && !r.2.bad)).map (·.1)

/-! ### Voices (R260 to R262) -/

/-- A voice. -/
def Dev.voice (d : Dev) (v : Nat) : Option Voice := d.lib.voices.find? v

/-- The message id a voice shows. -/
def Voice.msg (x : Voice) : Nat := match x.source with | .message m => m | .rewind _ _ _ => 0

/-- A voice ends with a reason code (R262). -/
def Dev.voiceEnd (d : Dev) (v reason : Nat) : Dev :=
  match d.voice v with
  | none => d
  | some x =>
    let d := d.setLib { d.lib with voices := d.lib.voices.del v }
    d.irq F.LIB_IRQ_STATUS_VOICE_END v (toLE 4 x.msg ++ toLE 1 reason)

/-- A voice fades over 32 samples and ends with a reason. A stop that meets the last 32 samples of a message lets it end; one that meets
a fade takes back the play that was to follow. -/
def Dev.voiceFade (d : Dev) (v reason : Nat) (next : Option Play := none) : Dev :=
  match d.voice v with
  | none => d
  | some x =>
    let left := match x.source with
      | .message m => match d.findMsg m with | some r => r.2.length - x.pos | none => 0
      | .rewind _ _ n => if n = 0 then 33 else n - x.pos
    if x.fade.isSome then
      d.setLib { d.lib with voices := d.lib.voices.put v { x with next := if reason = 1 then none else next.orElse (fun _ => x.next) } }
    else if reason = 1 ∧ left ≤ 32 then d
    else d.setLib { d.lib with voices := d.lib.voices.put v { x with fade := some (32, reason), next := next } }

/-- A voice is taken by a play that waits. -/
def Dev.reserved (d : Dev) (v : Nat) : Bool := d.lib.plays.any (fun p => p.voice = v && p.mark.isNone)

/-- The voice that VOICE = 0xFF takes (R261): the lowest idle one, or the one to pre-empt. -/
def Dev.anyVoice (d : Dev) (level : Nat) (classS : Bool) : Option Nat :=
  match (List.range 64).find? (fun v => (d.voice v).isNone && !d.reserved v) with
  | some v => some v
  | none =>
    let cands := d.lib.voices.filter (fun r => decide (r.2.level < level) && (classS || !r.2.classS) && !d.reserved r.1)
    cands.foldl (fun best r =>
      match best with
      | none => some r
      | some b => if r.2.level < b.2.level || (r.2.level = b.2.level && decide (r.2.start < b.2.start)) then some r else some b) none
      |>.map (·.1)

/-- A class S play has the voice: it plays on it or follows its fade. -/
def Dev.voiceSafe (d : Dev) (v : Nat) : Bool :=
  match d.voice v with
  | some x => x.classS || (match x.next with | some p => p.classS | none => false)
  | none => false

/-- The voice a play takes, or why it takes none: a class S play that has the voice or waits for it keeps it from another class.
DESIGN CHOICE (log 204). -/
def Dev.takeVoice (d : Dev) (voice level : Nat) (classS : Bool) : Nat × Status :=
  if voice = 255 then
    match d.anyVoice level classS with
    | some v => (v, .ok)
    | none => (255, .capacity)
  else if !classS && (d.voiceSafe voice || d.lib.plays.any (fun p => p.voice = voice && p.mark.isNone && p.classS)) then
    (255, .accessDenied)
  else (voice, .ok)

/-- Why a message cannot play now: unknown or BAD, another rate, no room, not resident. DEDUCED (log 109). -/
def Dev.msgStatus (d : Dev) (id : Nat) : Status :=
  match d.findMsg id with
  | none => .noObject
  | some r =>
    if r.2.bad then .noObject else if r.2.is96 ≠ d.is96 then .range else if r.2.noRoom then .capacity
    else if r.2.dram.isNone then .busy else .ok

/-- A play's arguments and class (R251, R252, R260). -/
def Dev.playArgs (d : Dev) (p : Play) : Status :=
  let zones := d.zoneSet p.zoneSet
  if !d.audioRuns then .mode
  else if 8 ≤ p.level || (64 ≤ p.voice && p.voice ≠ 255) || 256 ≤ p.zoneSet || !zones.any d.usableZone then .range
  else .ok

/-- A life-safety level in a zone of the set is claimed by a play that is not class S. -/
def Dev.claimRefused (d : Dev) (p : Play) : Bool := !p.classS && (d.zoneSet p.zoneSet).any (fun z => d.levelSafe z p.level)

/-- A play is asked for (R260): its checks in order, then its voice; accepted, it waits for its boundary. Answers the voice. DEDUCED (log 109). -/
def Dev.playRequest (d : Dev) (p : Play) : Dev × Status × Nat :=
  let st := d.playArgs p
  let st := if st ≠ .ok then st else match p.source with
    | .message m => (match d.msgStatus m with | .noObject => .noObject | .range => .range | _ => .ok)
    | .rewind _ _ _ => .ok
  if st ≠ .ok then (d, st, 255)
  else if d.claimRefused p then
    ((d.tally F.MTX_CLAIM_REFUSED_COUNT).irq F.MTX_IRQ_STATUS_CLAIM_REFUSED p.zoneSet, .accessDenied, 255)
  else
    let st := match p.source with | .message m => d.msgStatus m | .rewind _ _ _ => .ok
    if st = .busy then
      let row := match p.source with | .message m => (d.findMsg m).map (·.1) | _ => none
      let d := match row with
        | some r => d.setLib { d.lib with order := if d.lib.order.contains r then r :: d.lib.order.filter (· ≠ r) else d.lib.order }
        | none => d
      (d.libCount 2, .busy, 255)
    else if st ≠ .ok then (d, st, 255)
    else
      let a := d.allot (if p.classS then .s else .a) (d.cost 9 1)
      if !a.1 then (a.2, .budget, 255)
      else
        let d := a.2
        match p.mark with
        | some _ => (d.setLib { d.lib with plays := d.lib.plays ++ [p] }, .ok, p.voice)
        | none =>
          let t := d.takeVoice p.voice p.level p.classS
          if t.2 ≠ .ok then (d, t.2, 255)
          else (d.setLib { d.lib with plays := d.lib.plays ++ [{ p with voice := t.1 }] }, .ok, t.1)

/-- A row's message has become resident: the Lantern triggers that waited for it start (R58). DESIGN CHOICE (log 33). -/
def Dev.startAwaited (d : Dev) (row : Nat) : Dev :=
  match d.lib.msgs.find? row with
  | none => d
  | some m =>
    if m.dram.isNone then d
    else
      let mine := d.lib.waiting.filter (fun w => w.2.source = .message m.id)
      let d := d.setLib { d.lib with waiting := d.lib.waiting.filter (fun w => w.2.source ≠ .message m.id) }
      mine.foldl (fun d w =>
        let r := d.playRequest { w.2 with due := d.time.cycles }
        if r.2.1 = .ok then
          let c := d.contacts.get {} w.1
          let d := { r.1 with contacts := d.contacts.put w.1 { c with voice := some r.2.2 } }
          d.deviceEvent 6 (toLE 1 w.1 ++ toLE 4 m.id)
        else r.1) d

/-- LIBRARY_LOAD_COMPLETE (R49, R259): the message at the head of the load order has been read from NAND; `readOk` says whether its
ECC could correct the read. A Lantern trigger that waited for it starts. -/
def execLibraryLoadComplete (row : Fin 15360) (readOk : Bool) (s : State) : Host.Outcome State Fault Refusal :=
  s.act fun d =>
    if !d.booted || d.lib.order.head? ≠ some row.val || !d.libMayLoad then d
    else
      let d := d.loadMsg row readOk
      let d := if d.lib.order.isEmpty then d.wr F.GCTL_BOOT_STATUS_LIB_BG_DONE 1 else d
      d.startAwaited row

/-- A play begins on its voice at position s. -/
def Dev.voiceBegin (d : Dev) (p : Play) (s : Nat) : Dev :=
  let x : Voice := { source := p.source, level := p.level, zoneSet := p.zoneSet, zones := d.zoneSet p.zoneSet,
                     classS := p.classS, start := s, pos := 0 }
  let d := d.setLib { d.lib with voices := d.lib.voices.put p.voice x }
  let d := d.libCount 0
  if p.origin = 1 || p.origin = 3 then d.objEvent 9 p.voice 0x6022 0 p.voice x.msg else d

/-- A play reaches its boundary (R261): a busy voice fades first. A voice that a class S play has taken meanwhile is not replaced by one
of another class. DESIGN CHOICE (log 204). -/
def Dev.voiceStart (d : Dev) (p : Play) (s : Nat) : Dev :=
  if d.voiceSafe p.voice && !p.classS && !d.follows then d
  else
  let d := match p.source with
    | .message m => d.note ([3, byteOf p.voice, byteOf (p.level + bit p.classS * 128), 0] ++ toBE 2 p.zoneSet ++ toBE 4 m ++ toBE 6 s)
    | .rewind _ _ _ => d
  if (d.voice p.voice).isSome then (d.voiceFade p.voice 2 (some p)).libCount 1 else d.voiceBegin p s

/-- A rewind is decided at its boundary (R266). Answers its status and the play that begins. -/
def Dev.rewindAt (d : Dev) (p : Play) (mark : Nat) : Status × Option Play :=
  match d.lib.marks.find? mark, p.source with
  | some m, .rewind _ c n =>
    if m.state = 1 then
      let t := d.takeVoice p.voice p.level p.classS
      if t.2 = .ok then (.ok, some { p with source := .rewind m.position c n, voice := t.1 }) else (t.2, none)
    else if m.state = 2 then (.markOverrun, none) else (.noObject, none)
  | _, _ => (.noObject, none)

/-- Plays whose boundary is this one; a standby takes the choice of voice from the active's token, with the answers that rewinds waited for (reply, status, voice). -/
def Dev.libStarts (d : Dev) (k : Nat) : Dev × List (Play × Status × Nat) :=
  let due := d.lib.plays.filter (fun p => decide (p.due ≤ d.time.cycles))
  let d := d.setLib { d.lib with plays := d.lib.plays.filter (fun p => decide (d.time.cycles < p.due)) }
  due.foldl (fun acc p =>
    match p.mark with
    | none => (if d.follows then acc.1 else acc.1.voiceStart p k, acc.2)
    | some m =>
      let r := acc.1.rewindAt p m
      let d := if r.1 = .markOverrun then acc.1.libCount 3 else acc.1
      match r.2 with
      | some q => (d.voiceStart q k, acc.2 ++ [(p, r.1, q.voice)])
      | none => (d, acc.2 ++ [(p, r.1, 255)])) (d, [])

/-- What a voice plays at its position: the sample, its gain in Q5.27, how many samples are left (none: no end in sight), and the
reason of an end. DESIGN CHOICE (log 108). -/
def Dev.voiceSample (d : Dev) (x : Voice) : Int × Int × Option Nat :=
  match x.source with
  | .message id =>
    match d.findMsg id with
    | none => (0, 0, some 0)
    | some r => (sgn 24 (leAt (r.2.dram.getD r.2.stale) (3 * x.pos) 3) * 256, r.2.gain, some (r.2.length - x.pos))
  | .rewind pos c n =>
    let at_ := pos + x.pos
    let v := (d.lib.recd.ring.get [] at_).getD c 0 * 256
    let left := if n = 0 then none else some (n - x.pos)
    let left := if d.lib.recd.running then left
      else some (match left with | some l => min l (d.lib.recd.w - at_) | none => d.lib.recd.w - at_)
    (v, 2 ^ 27, left)

/-- One voice at position k: its matrix input, its contributions and its claims. -/
def Dev.voiceStep (d : Dev) (v k : Nat) (x : Voice) : Dev × Int × List Part :=
  let s := d.voiceSample x
  if s.2.2 = some 0 && x.fade.isNone then (d.voiceEnd v 0, 0, [])
  else
    let rewindEnds := match x.source with
      | .rewind pos _ _ =>
        let l := d.lib.recd.w - (pos + x.pos)
        if !d.lib.recd.running && l ≤ 32 then some l else none
      | .message _ => none
    let n := match x.fade, rewindEnds with | some f, _ => some f.1 | none, some l => some l | none, none => none
    let sample := match n with | some n => Config.openDiv 22 (s.1 * (n - 1 : Nat)) 32 | none => s.1
    let p42 := product42 sample s.2.1
    let parts := x.zones.map (fun z => (⟨z, x.level, p42⟩ : Part))
    let y := { x with pos := x.pos + 1, fade := x.fade.map (fun f => (f.1 - 1, f.2)) }
    let d := d.setLib { d.lib with voices := d.lib.voices.put v y }
    let ended := match x.fade with
      | some f => if f.1 ≤ 1 then some f.2 else none
      | none => if s.2.2 = some 1 then some 0 else none
    let d := match ended with
      | some r =>
        let d := d.voiceEnd v r
        (match x.next with | some p => d.voiceBegin p (k + 1) | none => d)
      | none => d
    (d, sat31 (roundUp p42 11), parts)

/-- Every voice at position k: matrix inputs, contributions; a voice claims its level in every zone of its set. -/
def Dev.voicesStep (d : Dev) (k : Nat) : Dev × List (Nat × Int × Bool) × List Part :=
  d.lib.voices.foldl (fun acc r =>
    let s := acc.1.voiceStep r.1 k r.2
    (s.1, acc.2.1 ++ [(1536 + r.1, s.2.1, true)], acc.2.2 ++ s.2.2)) (d, [], [])

/-- Stop the voices of a bitmap (R261): a class S voice needs SAFETY. -/
def Dev.voiceStop (d : Dev) (map : Nat) (safety : Bool) : Dev × Status :=
  let vs := (bitList 64 map).filter (fun v => (d.voice v).isSome)
  if !safety && vs.any (fun v => match d.voice v with | some x => x.classS | none => false) then (d, .accessDenied)
  else (vs.foldl (fun d v => d.voiceFade v 1) d, .ok)

/-! ### Tones (R255, R256) -/

/-- A field of a tone generator. -/
def Dev.tf (d : Dev) (f : Fld) (t : Nat) : Nat := d.rd (f.at [t])

/-- A generator is class S while a class S crosspoint takes its input (R256). -/
def Dev.toneSafe (d : Dev) (t : Nat) : Bool :=
  d.mtx.xps.any (fun r => d.xf F.MTX_XP_CFG_INPUT r.1 = 1600 + t && d.rowSafe r.1)

/-- The tone's value n samples after its start. It is a function of the fields and of n alone (R256); the spec gives neither the
sine's rounding nor how the LFSR makes samples, so the value is free within LEVEL, and 0 in the silence of the cadence. DESIGN CHOICE (log 106). -/
def Dev.toneValue (d : Dev) (t n : Nat) (x : ToneSt) (stop : Int) : Int :=
  let ms := fun (v : Nat) => v * d.fs / 1000
  let on := ms (d.tf F.LIB_TONE_CADENCE_ON_MS t)
  let off := ms (d.tf F.LIB_TONE_CADENCE_OFF_MS t)
  let edge := ms (d.tf F.LIB_TONE_CFG_EDGE_MS t)
  if off ≠ 0 && on + edge ≤ n % (on + off) then 0
  else
    let a : Int := gainOf 31 (min (d.tf F.LIB_TONE_LEVEL_LEVEL t) (if x.levelDone = 0 then 1200 else x.levelFrom))
    let wave := d.tf F.LIB_TONE_CFG_WAVE t
    let v := Config.freeOf 21 [wave, d.tf F.LIB_TONE_F1_F1 t, d.tf F.LIB_TONE_F2_F2 t, d.tf F.LIB_TONE_LEVEL_LEVEL t, x.levelFrom,
      x.levelDone, on, off, edge, d.tf F.LIB_TONE_PERIOD_PERIOD_MS t, if 3 ≤ wave then t else 0, n, stop]
    clampInt (-a) a v

/-- Every tone at position k: starts and stops at the boundary, then its matrix input. -/
def Dev.tonesStep (d : Dev) (k : Nat) : Dev × List (Nat × Int × Bool) :=
  d.lib.tones.foldl (fun acc r =>
    let d := acc.1
    let t := r.1
    let x := r.2
    let x := if x.start.isNone then { x with start := some k } else x
    let x := if x.stopReq && x.stop.isNone then { x with stop := some k } else x
    let edge := d.tf F.LIB_TONE_CFG_EDGE_MS t * d.fs / 1000
    let ended := match x.stop with | some s => decide (s + edge ≤ k) | none => false
    if ended then (d.setLib { d.lib with tones := d.lib.tones.del t }, acc.2)
    else
      let n := k - x.start.getD k
      let v := d.toneValue t n x (match x.stop with | some s => (k - s : Nat) | none => -1)
      let x := { x with levelDone := x.levelDone - 1 }
      (d.setLib { d.lib with tones := d.lib.tones.put t x }, acc.2 ++ [(1600 + t, v, true)])) (d, [])

/-- A tone starts at the next frame boundary, anew where it is ramping out: what it plays depends on k − s alone (R256). -/
def Dev.toneStart (d : Dev) (t : Nat) : Dev :=
  if (match d.lib.tones.find? t with | some x => !x.stopReq | none => false) then d
  else d.setLib { d.lib with tones := d.lib.tones.put t { levelFrom := d.tf F.LIB_TONE_LEVEL_LEVEL t } }

/-- A tone stops at the next frame boundary: it ramps out over EDGE_MS. -/
def Dev.toneStop (d : Dev) (t : Nat) : Dev :=
  match d.lib.tones.find? t with
  | some x => d.setLib { d.lib with tones := d.lib.tones.put t { x with stopReq := true } }
  | none => d

/-! ### Recorder (R263 to R265) -/

/-- The positions the ring holds. -/
def Dev.recP (d : Dev) : Nat := d.boot.recorder * 1048576 / 192

/-- The oldest position held. -/
def Dev.recOldest (d : Dev) : Nat := max d.lib.recd.oldest (d.lib.recd.w - d.recP)

/-- Marks that a test picks become INVALID, each with its event (R265). -/
def Dev.spoilMarks (d : Dev) (p : Nat → Bool) : Dev :=
  d.lib.marks.foldl (fun d r =>
    if r.2.state = 1 && p r.2.position then
      let d := d.setLib { d.lib with marks := d.lib.marks.put r.1 { r.2 with state := 2 } }
      (d.libCount 4).irq F.LIB_IRQ_STATUS_MARK_INVALID r.1
    else d) d

/-- The recorder's conditions (R264) but for the budget. -/
def Dev.recWanted (d : Dev) : Bool := d.on F.LIB_REC_CFG_REC_EN && d.audioRuns && !d.isShed .recorder && decide (0 < d.recP)

/-- The recorder starts or stops at boundary k; deferred by the budget, it tries again in the next tick (R334). A rewind that plays when
it starts fades out. -/
def Dev.recBoundary (d : Dev) (k : Nat) : Dev :=
  let r := d.lib.recd
  if d.recWanted && !r.running && r.tried = some d.pwr.ticks then d
  else if d.recWanted && !r.running then
    let a := d.allot .b (d.cost 10 1)
    if !a.1 then a.2.setLib { a.2.lib with recd := { r with tried := some d.pwr.ticks } }
    else
      let d := a.2.setLib { a.2.lib with recd := { r with running := true, w := k, oldest := k, tried := none } }
      let d := d.spoilMarks (fun _ => true)
      let d := d.lib.voices.foldl (fun d v =>
        match v.2.source with | .rewind _ _ _ => d.voiceFade v.1 5 | .message _ => d) d
      d.irq F.LIB_IRQ_STATUS_REC_CHANGE
  else if !d.recWanted && r.running then
    (d.setLib { d.lib with recd := { r with running := false } }).irq F.LIB_IRQ_STATUS_REC_CHANGE
  else d

/-- Position k is recorded from the inputs and the zone outputs before the pilot. -/
def Dev.recStep (d : Dev) (k : Nat) (ins : Tbl (Int × Bool)) (outs : Frame) : Dev :=
  let r := d.lib.recd
  if !r.running then d
  else
    let tap := fun (c : Nat) =>
      let src := d.rd (F.LIB_REC_TAP_SRC.at [c])
      if !d.on (F.LIB_REC_TAP_EN.at [c]) then 0
      else sgn 24 (toWord 24 (if 0x8000 ≤ src then outs.get 0 (src - 0x8000) else (ins.get (0, true) src).1))
    let p := d.recP
    let ring := Tbl.put (r.ring.filter (fun e => decide (k < e.1 + p))) k ((List.range 64).map tap)
    (d.setLib { d.lib with recd := { r with w := k + 1, ring := ring } }).spoilMarks (fun m => decide (m + p ≤ k))

/-- Set a mark (R265). -/
def Dev.markSet (d : Dev) (row position label session : Nat) : Dev × Status :=
  let w := d.lib.recd.w
  let pos := if position = 0 then w - 1 else position
  if pos < d.recOldest || w ≤ pos then (d, .range)
  else (d.setLib { d.lib with marks := d.lib.marks.put row ⟨1, pos, label, session⟩ }, .ok)

/-! ### Commands (R261, R265) -/

/-- VOICE_STOP (R261): the voices of a bitmap, with SAFETY or without. -/
def execVoiceStop (voices : BitVec 64) (safety : Bool) (s : State) : Host.Outcome State Fault Refusal :=
  s.act fun d => if d.booted then (d.voiceStop voices.toNat safety).1 else d

/-- RECORDER_MARK_SET (R265). -/
def execRecorderMarkSet (row : Fin 256) (position : BitVec 64) (label : BitVec 32) (session : BitVec 32) (s : State) :
    Host.Outcome State Fault Refusal :=
  s.act fun d => if d.booted then (d.markSet row position.toNat label.toNat session.toNat).1 else d

/-- A play's boundary: the first at least 1 ms after acceptance (R260). -/
def Dev.playDue (d : Dev) : Nat := d.time.cycles + cyclesPerMs

/-- LIBRARY_PLAY (R260): a play of a message by a session, class S from a SAFETY session. -/
def execLibraryPlay (message : BitVec 32) (voice level : BitVec 8) (zoneSet : BitVec 16) (safety : Bool) (s : State) :
    Host.Outcome State Fault Refusal :=
  s.act fun d =>
    if d.booted then
      (d.playRequest { source := .message message.toNat, voice := voice.toNat, level := level.toNat,
                       zoneSet := zoneSet.toNat, classS := safety, origin := 4, due := d.playDue }).1
    else d

/-- RECORDER_REWIND (R266): its outcome is decided at its boundary. -/
def execRecorderRewind (mark : Fin 256) (channel voice level : BitVec 8) (zoneSet : BitVec 16) (length : BitVec 32)
    (safety : Bool) (s : State) : Host.Outcome State Fault Refusal :=
  s.act fun d =>
    if d.booted && decide (channel.toNat < 64) then
      (d.playRequest { source := .rewind 0 channel.toNat length.toNat, voice := voice.toNat, level := level.toNat,
                       zoneSet := zoneSet.toNat, classS := safety, origin := 4, due := d.playDue, mark := some mark.val }).1
    else d

/-! ### The block's apply point (R255, R256) -/

/-- A captured value of the block out of its range. DESIGN CHOICE (log 166). -/
def libBad (f : Fld) (v : Nat) : Bool :=
  let o := (f.off - 0x200) % 0x20
  let tone := decide (0x200 ≤ f.off ∧ f.off < 0x400)
  (decide (0x500 ≤ f.off ∧ f.off < 0x600) && f.lo = 0 && !(decide (v < 1616) || decide (0x8000 ≤ v ∧ v < 0x8000 + 1536))) ||
  tone && ((o = 0 && ((f.lo = 28 && decide (4 < v)) || (f.lo = 0 && decide (v < 1 ∨ 100 < v)))) ||
    ((o = 4 || o = 8) && decide (v < 2000 ∨ 2000000 < v)) || (o = 12 && decide (1200 < v)) ||
    (o = 16 && decide (60000 < v)) || (o = 20 && decide (v < 1 ∨ 60000 < v)))

/-- The generator a field belongs to. -/
def toneOf (f : Fld) : Nat := (f.off - 0x200) / 0x20

/-- One generator's captured values. -/
def Dev.applyTone (d : Dev) (group t : Nat) (vals : Tbl Nat) : Dev × Status :=
  let prop := fun (f : Fld) => d.proposed vals (f.at [t])
  let isEn := fun (f : Fld) => (f.off - 0x200) % 0x20 = 0 && f.lo = 31
  if prop F.LIB_TONE_CADENCE_OFF_MS ≠ 0 && prop F.LIB_TONE_CADENCE_ON_MS = 0 then (d, .range)
  else
    let runs := (d.lib.tones.find? t).isSome
    let was := d.tf F.LIB_TONE_CFG_EN t
    let level := d.tf F.LIB_TONE_LEVEL_LEVEL t
    let a := d.applyVals (fun _ => runs) group (dropVals vals isEn)
    let d := a.1.wr (F.LIB_TONE_CFG_EN.at [t]) (prop F.LIB_TONE_CFG_EN)
    let edge := max 1 (d.tf F.LIB_TONE_CFG_EDGE_MS t * d.fs / 1000)
    let d := if runs && level ≠ d.tf F.LIB_TONE_LEVEL_LEVEL t then
        d.setLib { d.lib with tones := d.lib.tones.put t { d.lib.tones.get {} t with levelFrom := level, levelDone := edge } }
      else d
    let en := d.tf F.LIB_TONE_CFG_EN t
    let st : Status := if a.2 then .stoppedOnly else .ok
    if en = 1 && was = 0 && d.audioRuns then
      if d.toneSafe t then (d.toneStart t, st)
      else
        let r := d.allot .a (d.cost 9 1)
        if r.1 then (r.2.toneStart t, st) else (r.2.wr (F.LIB_TONE_CFG_EN.at [t]) 0, Status.orElse st .budget)
    else if en = 0 && was = 1 then (d.toneStop t, st) else (d, st)

/-- The LIB block reaches its apply point: the recorder and its taps, then the generators. -/
def Dev.applyLib (d : Dev) (group : Nat) (vals : Tbl Nat) : Dev × Status :=
  let tone := fun (r : Nat × Nat) => match fieldOf r.1 with | some f => decide (0x200 ≤ f.off ∧ f.off < 0x400) | none => false
  let bad := vals.any (fun r => match fieldOf r.1 with | some f => libBad f r.2 | none => false)
  let vals : Tbl Nat := vals.filter (fun r => match fieldOf r.1 with | some f => !libBad f r.2 | none => false)
  let tapFar := fun (f : Fld) =>
    let c := (f.off - 0x500) / 4
    let s := d.proposed vals (F.LIB_REC_TAP_SRC.at [c])
    decide (0x500 ≤ f.off ∧ f.off < 0x600) && d.proposed vals (F.LIB_REC_TAP_EN.at [c]) = 1 &&
      !(if 0x8000 ≤ s then d.usableZone (s - 0x8000) else d.usableInput s)
  let bad := bad || vals.any (fun r => match fieldOf r.1 with | some f => tapFar f | none => false)
  let vals : Tbl Nat := dropVals vals tapFar
  let d := (d.applyVals (fun _ => false) group (vals.filter (fun r => !tone r))).1
  let tones := vals.filter tone
  ((List.range 16).filter (fun t => tones.any (fun r => match fieldOf r.1 with | some f => toneOf f = t | none => false))).foldl
    (fun acc t =>
      let r := acc.1.applyTone group t (tones.filter (fun r => match fieldOf r.1 with | some f => toneOf f = t | none => false))
      (r.1, Status.orElse acc.2 r.2)) (d, if bad then .range else .ok)

/-! ### Modes (R267) -/

/-- Every enabled tone starts at the boundary of the mode change. -/
def Dev.libStartAll (d : Dev) : Dev :=
  (List.range 16).foldl (fun d t => if d.tf F.LIB_TONE_CFG_EN t = 1 then d.toneStart t else d) d

/-- Voices, tones and the recorder are stopped; a rewind that waits is decided at the next boundary. -/
def Dev.libStopAll (d : Dev) : Dev :=
  let d := d.lib.voices.foldl (fun d v => d.voiceEnd v.1 1) d
  let d := if d.lib.recd.running then
      (d.setLib { d.lib with recd := { d.lib.recd with running := false } }).irq F.LIB_IRQ_STATUS_REC_CHANGE else d
  d.setLib { d.lib with tones := [], plays := d.lib.plays.filter (fun p => p.mark.isSome), waiting := [] }

end Sys2Proof.Machine
end

