-- ==== Sys2Proof/Machine/Capacity.lean ====
section
/-! DEFINITION. Machine/Capacity.lean: units lost to fault, spares and the re-placement of their work (R31 to R35). -/

namespace Sys2Proof.Machine

/-- A capacity count changed (R34). -/
def Dev.capEvent (d : Dev) (kind unit : Nat) : Dev := d.irq F.GCTL_IRQ_STATUS_CAPACITY_CHANGE unit (toLE 1 kind)

/-- Class S work alone does not fit (R33). -/
def Dev.capAlarm (d : Dev) (kind : Nat) : Dev := d.irq F.GCTL_IRQ_STATUS_CAPACITY_ALARM kind

/-- Stable sort by a key. -/
def sortOn {α : Type} (key : α → Nat) (l : List α) : List α :=
  l.foldr (fun x acc => (acc.takeWhile (fun y => decide (key y < key x))) ++ x :: acc.dropWhile (fun y => decide (key y < key x))) []

/-! ### Matrix slices -/

/-- Running rows in class order (R247): class S by ascending zone, then class A by ascending row. -/
def Dev.rowOrder (d : Dev) : List Nat :=
  let rows := d.mtx.xps.map (·.1)
  sortOn (fun r => d.xf F.MTX_XP_CFG_OUTPUT r) (rows.filter d.rowSafe) ++ rows.filter (fun r => !d.rowSafe r)

/-- What of some running work a number of positions keeps, and what must stop (R33): class S first, in its order, then the rest, of which
what keeps its unit goes before what would move. -/
def keepWork (total : Nat) (safe home : Nat → Bool) (order : List Nat) : List Nat × List Nat :=
  let rest := order.filter (fun n => !safe n)
  let ranked := order.filter safe ++ rest.filter home ++ rest.filter (fun n => !home n)
  (ranked.take total, ranked.drop total)

/-- Re-place the rows after a loss (R33): as many as fit in class order keep running; those whose slice is gone move. Rows that ramp out
need no position. -/
def Dev.placeRows (d : Dev) : Dev :=
  let cap := if d.is96 then 2048 else 4096
  let total := ((List.range 8).filter d.mtxServes).length * cap
  let k := keepWork total d.rowSafe (fun r => d.mtxServes (d.rowSlice r)) (d.rowOrder.filter (fun r => !d.rowEnding r))
  let d := if k.2.any d.rowSafe then d.capAlarm 2 else d
  let d := k.2.foldl (fun d r => d.rowDrop r true) d
  k.1.foldl (fun d r =>
    if d.mtxServes (d.rowSlice r) then d
    else match d.xp r, d.freeMtxSlice r with
      | some x, some i => (d.setXp r { x with place := some i }).note ([6, 1] ++ toBE 2 r ++ [byteOf i])
      | _, _ => d) d

/-! ### Stream slices -/

/-- Re-place the contexts after a loss (R33, R190); those that stop need no position. DESIGN CHOICE (log 98). -/
def Dev.placeCtxs (d : Dev) : Dev :=
  let total := ((List.range 8).filter d.strServes).length * 32
  let k := keepWork total (fun c => d.ctxClass c == .s) (fun c => (d.ctxSlice c).isSome) d.ctxPlaced
  let d := if k.2.any (fun c => d.ctxClass c == .s) then d.capAlarm 3 else d
  let d := k.2.foldl (fun d c => d.ctxDrop c .capacity) d
  k.1.foldl (fun d c =>
    if (d.ctxSlice c).isSome then d
    else match d.freeSlice c with
      | some i => (d.setCtx c { d.ctx c with place := some i }).note ([6, 0] ++ toBE 2 c ++ [byteOf i])
      | none => d) d

/-- How many units run on a slice. -/
def Dev.sliceLoad (d : Dev) (s : Nat × Nat) : Nat :=
  if s.1 = 1 then (d.ctxRunning.filter (fun c => d.ctxSlice c = some s.2)).length
  else ((d.sliceRows s.2).filter (fun r => match d.xp r with | some x => !x.release | none => false)).length

/-! ### The capacity that shedding takes (R34) -/

/-- A shed unit is still wanted: what its master has stopped or disabled since is no longer shed. -/
def Dev.stillShed (d : Dev) (u : ShedUnit) : Bool :=
  match u with
  | .context c => d.audioRuns && d.cf F.STR_CTX_CFG_EN c = 1
  | .port p => d.audioRuns && d.pf F.APT_CFG_EN p = 1 && !d.isLost 6 p
  | .row r => d.audioRuns && d.xf F.MTX_XP_CFG_EN r = 1
  | .tone t => d.audioRuns && d.tf F.LIB_TONE_CFG_EN t = 1
  | .recorder => d.on F.LIB_REC_CFG_REC_EN
  | .bank b => !d.isLost 5 b
  | .lane n => !d.isLost 4 n
  | .resync => d.rd F.PAIR_PARTNER_MODE = 6
  | _ => true

/-- The counts of shed units by kind of R34: those whose unit is not lost. A slice in service whose work was shed and which serves none is
powered down. -/
def Dev.shedCounts (d : Dev) : Tbl Nat :=
  let n := fun (p : ShedUnit → Bool) => ((d.pwr.shed.filter d.stillShed).filter p).length
  let empty := fun (k : Nat) (mine : ShedUnit → Option Nat) =>
    ((List.range 8).filter (fun i => (if k = 1 then d.strServes i else d.mtxServes i) && d.sliceLoad (k, i) = 0 && d.pwr.shed.any (fun u => mine u = some i))).length
  let counts := [(0, n (fun u => match u with | .context c => (d.ctxSlice c).isSome | _ => false)),
    (1, n (fun u => match u with | .row r => d.mtxServes (d.rowSlice r) | _ => false)),
    (2, empty 2 (fun u => match u with | .row r => some (d.rowSlice r) | _ => none)),
    (3, empty 1 (fun u => match u with | .context c => some (c / 32) | _ => none)),
    (4, n (fun u => match u with | .lane _ => true | _ => false)),
    (5, 16 * n (fun u => match u with | .bank _ => true | _ => false)),
    (6, n (fun u => match u with | .port _ => true | _ => false)),
    (7, n (fun u => match u with | .timeUnit => true | _ => false))]
  counts.filter (fun r => r.2 ≠ 0)

/-! ### The counts (R34, R35) -/

/-- Matrix slices in service: those that are not lost, and one that the spare stands in for; a slice without a running row may be
powered down when its rows were shed (R335). -/
def Dev.mtxInService (d : Dev) : Nat := ((List.range 8).filter d.mtxServes).length - d.cap.shed.get 0 2

/-- Stream slices in service. -/
def Dev.strInService (d : Dev) : Nat := ((List.range 8).filter d.strServes).length - d.cap.shed.get 0 3

/-- The in-service and lost counts of a capacity object, by subindex 1 to 8 (R34). -/
def Dev.capCount (d : Dev) (sub : Nat) : Nat × Nat :=
  let shed := fun (k : Nat) => d.cap.shed.get 0 k
  let lost := fun (k : Nat) => (d.lostOf k).length
  let gone := fun (serves : Nat → Bool) => ((List.range 8).filter (fun i => !serves i)).length
  match sub with
  | 1 => (256 - 32 * gone d.strServes - shed 0, 32 * gone d.strServes)
  | 2 => (32768 / (1 + bit d.is96) - 4096 / (1 + bit d.is96) * gone d.mtxServes - shed 1,
          4096 / (1 + bit d.is96) * gone d.mtxServes)
  | 3 => (d.mtxInService, lost 2)
  | 4 => (d.strInService, lost 3)
  | 5 => (4 - lost 4 - shed 4, lost 4)
  | 6 => (128 - 16 * lost 5 - shed 5, 16 * lost 5)
  | 7 => (16 - lost 6 - shed 6, lost 6)
  | 8 => (20 - lost 7 - shed 7, lost 7)
  | _ => (0, 0)

/-- What R34 posts when counts change from those of `old`: one event for each kind whose in-service or lost count is another. -/
def Dev.capEvents (d old : Dev) (kind unit : Nat) : Dev :=
  (List.range 8).foldl (fun a k =>
    if old.capCount (k + 1) = d.capCount (k + 1) then a else a.capEvent k (if k = kind then unit else noUnit)) d

/-! ### Losses -/

/-- The spare's new use when slice `n` fails (R31): it takes over unless it stands in for another, or is lost. Two slices that fail
in one audio frame leave it to the lower index. -/
def spareTakes (lost8 : Bool) (spare : Nat × Nat) (sameFrame : Bool) (n : Nat) : Bool :=
  !lost8 && (spare.1 ≠ 1 || (sameFrame && decide (n < spare.2)))

/-- How many frames of a failed slice's contribution the spare replaces by zero: at most two, and R32 does not say which number.
DESIGN CHOICE (log 98). -/
def Dev.takeOverGap (d : Dev) : Nat × Dev :=
  let r := d.draw .takeOver
  (if d.mtx.last.isSome then r.1 % 3 else 0, r.2)

/-- A matrix slice, 8 being the spare, is lost. -/
def Dev.loseMtx (d : Dev) (n : Nat) : Dev :=
  let frame := some (d.indexAt d.time.tai)
  let same := d.cap.mtxAt = frame
  let d := if n = 8 then { d with cap := { d.cap with mtxSpare := (0, 0), mtxGap := 0 } }
    else if spareTakes (d.isLost 2 8) d.cap.mtxSpare same n then
      let g := (d.releaseSpare true).takeOverGap
      { g.2 with cap := { g.2.cap with mtxSpare := (1, n), mtxAt := frame, mtxGap := g.1 } }
    else d
  d.placeRows.irq F.MTX_IRQ_STATUS_SLICE_CHANGE n

/-- A stream slice, 8 being the spare, is lost. -/
def Dev.loseStr (d : Dev) (n : Nat) : Dev :=
  let frame := some (d.indexAt d.time.tai)
  let same := d.cap.strAt = frame
  let d := if n = 8 then { d with cap := { d.cap with strSpare := (0, 0), strGap := 0 } }
    else if spareTakes (d.isLost 3 8) d.cap.strSpare same n then
      let g := (d.releaseSpare false).takeOverGap
      { g.2 with cap := { g.2.cap with strSpare := (1, n), strAt := frame, strGap := g.1 } }
    else d
  d.placeCtxs

/-- A test on a block that faults ends INCOMPLETE with cause 12 (R284). -/
def Dev.faultRow (d : Dev) (row : Nat) : Dev :=
  match d.sup.testing with
  | some t => if t.row = row then d.cutTest 2 12 else d
  | none => d

/-- The kind code of a unit, as `CapSt` counts them. -/
def Unit33.kind : Unit33 → Nat
  | .matrixSlice _ => 2 | .streamSlice _ => 3 | .lane _ => 4 | .bank _ => 5 | .port _ => 6 | .timeUnit _ => 7 | .irmon => 8

/-- Its number. -/
def Unit33.number : Unit33 → Nat
  | .matrixSlice n => n | .streamSlice n => n | .lane n => n | .bank n => n | .port n => n | .timeUnit n => n | .irmon => 0

/-- A unit fails in service (R33). Work that loses its unit moves or stops in class order; the loss shows in the capacity objects. -/
def Dev.loseUnit (d : Dev) (u : Unit33) : Dev :=
  if d.isLost u.kind u.number then d
  else
    let old := d
    let d := match u with
      | .matrixSlice n => d.faultRow (57 + n)
      | .streamSlice n => d.faultRow (66 + n)
      | .lane n => d.faultRow (30 + n)
      | .irmon => d.faultRow 34
      | .port n => d.faultRow (41 + n)
      | _ => d
    let d := { d with cap := { d.cap with lost := d.cap.lost ++ [(u.kind, u.number)] } }
    let d := match u with
      | .matrixSlice n => d.loseMtx n
      | .streamSlice n => d.loseStr n
      | .lane n => d.linkDown n
      | .port n => d.aptDrop n .capacity
      | .bank n => { d with sup := { d.sup with corrs := d.sup.corrs.filter (fun r => r.1 / 16 ≠ n.val) } }
      | .timeUnit _ => d
      | .irmon => d.wr F.PAIR_STATUS_IRMON_UP 0
    Dev.capEvents { d with cap := { d.cap with shed := d.shedCounts } } old u.kind u.number

/-! ### The word of counts (R35) -/

/-- GCTL_CAPACITY (R35). -/
def Dev.gctlCapacity (d : Dev) (f : Fld) : Nat :=
  if !d.booted then 0
  else match f.lo with
    | 28 => (d.capCount 3).1
    | 27 => bit (!d.isLost 2 8 && d.cap.mtxSpare.1 = 0)
    | 23 => (d.capCount 4).1
    | 22 => bit (!d.isLost 3 8 && d.cap.strSpare.1 = 0)
    | 19 => (d.capCount 5).1
    | 18 => bit (!d.isLost 8 0)
    | 10 => (d.capCount 6).1
    | 5 => (d.capCount 7).1
    | _ => (d.capCount 8).1

end Sys2Proof.Machine
end

