-- ==== Sys2Proof/Machine/Supervision.lean ====
section
/-! DEFINITION. Machine/Supervision.lean: path measurements and alarms, the correlators' schedule (R276 to R281), self-tests and Vigil
(R282 to R297). -/

namespace Sys2Proof.Machine

/-- Replace the supervision state. -/
def Dev.setSup (d : Dev) (x : SupSt) : Dev := { d with sup := x }

/-- Count in INTEGRATIONS, ALARMS_RAISED, NOT_DETECTED, NO_QUIET, RESTARTS. -/
def Dev.supCount (d : Dev) (i : Nat) : Dev := d.tally (F.SUP_COUNT_COUNT.at [i])

/-! ### Logarithms -/

/-- `10 ^ n ≤ (num / den) ^ k`. -/
def logLe (k num den : Nat) (n : Int) : Bool :=
  if 0 ≤ n then decide (10 ^ n.toNat * den ^ k ≤ num ^ k) else decide (den ^ k ≤ num ^ k * 10 ^ (-n).toNat)

/-- The largest `n` in −2¹⁶ to 2¹⁷ with `10 ^ n ≤ (num / den) ^ k`: `k` times the decimal logarithm, rounded down. -/
def logFloor (k num den : Nat) : Int :=
  if num = 0 ∨ den = 0 then -(2 ^ 16)
  else (List.range 18).foldl (fun (r : Int) i =>
    let c := r + 2 ^ (17 - i)
    if logLe k num den c then c else r) (-(2 ^ 16))

/-- The same, an inexact value rounded as the spec leaves it. DESIGN CHOICE (log 8, 120). -/
def logOpen (site k num den : Nat) : Int :=
  let n := logFloor k num den
  if logLe k den num (-n) then n else n + bit (Config.roundsUp site (num : Int) den)

/-! ### The correlators' schedule (R279) -/

/-- The path has a sense return and is enabled. -/
def Dev.pathOn (d : Dev) (z : Nat) : Bool := d.zf F.SUP_PATH_CFG_EN z = 1 && d.zf F.SUP_PATH_CFG_SENSE z ≠ 0xFFFF

/-- Enabled paths in order: class S by ascending zone, then the others. -/
def Dev.pathOrder (d : Dev) : List Nat :=
  let on := (List.range 1536).filter d.pathOn
  on.filter d.zoneSafe ++ on.filter (fun z => !d.zoneSafe z)

/-- Correlators that are neither lost nor shed. -/
def Dev.corrUsable (d : Dev) (i : Nat) : Bool := !d.isLost 5 (i / 16) && !d.isShed (.bank (i / 16))

/-- A path is held by a correlator. -/
def Dev.pathHeld (d : Dev) (z : Nat) : Bool := d.sup.corrs.any (fun r => r.2.path = z)

/-- A sweep is in progress (R293). -/
def Dev.sweeping (d : Dev) : Bool := match d.sup.testing with | some t => t.row = 75 | none => false

/-- SWEEP_S of the plan. -/
def Dev.sweepS (d : Dev) : Nat :=
  match d.sup.vigil with | some v => v.plan.getD 7 20 | none => d.obj 0x7010 8 0 20

/-- A correlator takes a path and begins to integrate. -/
def Dev.corrBegin (d : Dev) (i z : Nat) : Dev :=
  let search := d.zf F.SUP_PATH_CFG_LAG_SEARCH z = 1
  let secs := if d.sweeping then d.sweepS else if search then d.rd F.SUP_CFG_SEARCH_S else d.zf F.SUP_PATH_INT_INT_S z
  let c : Corr := { path := z, began := d.time.cycles, lagBase := d.zf F.SUP_PATH_LAG_LAG_BASE z, want := secs * d.fs,
                    band := if d.sweeping then some 0 else none }
  let d := match d.sup.lastVisit.find? z with
    | some t => if d.zf F.SUP_PATH_CFG_PIN z = 1 then d else d.wr F.SUP_REVISIT_REVISIT ((d.time.cycles - t) / 400000000)
    | none => d
  let d := d.setSup { d.sup with corrs := d.sup.corrs.put i c, lastVisit := d.sup.lastVisit.put z d.time.cycles }
  let d := d.wr (F.SUP_PATH_STATUS_STATE.un z) (if d.sweeping then 4 else if search then 3 else 2)
  d.wr (F.SUP_PATH_STATUS_CORRELATOR.un z) i

/-- A path asks for a correlator's time: class S always has it, class B when the budget admits it. What is deferred in a tick is
asked for again in the next (R334). -/
def Dev.corrAdmit (d : Dev) (z : Nat) : Bool × Dev :=
  if !d.zoneSafe z && d.sup.deferredAt = some d.pwr.ticks then (false, d)
  else
    let a := d.allot (if d.zoneSafe z then .s else .b) (d.cost 8 1 / 16)
    if a.1 then a else (false, a.2.setSup { a.2.sup with deferredAt := some d.pwr.ticks })

/-- The next shared path in the order, after the one last taken, that no correlator holds. -/
def Dev.nextPath (d : Dev) : Option Nat :=
  let shared := d.pathOrder.filter (fun z => d.zf F.SUP_PATH_CFG_PIN z = 0)
  let after := match shared.idxOf? (d.sup.nextShared - 1) with
    | some i => if d.sup.nextShared = 0 then shared else shared.drop (i + 1) ++ shared.take (i + 1)
    | none => shared
  after.find? (fun z => !d.pathHeld z && !(d.sweeping && d.sup.swept.contains z))

/-- One free correlator takes a path: a pinned one that none holds, else the next shared one. -/
def Dev.corrTake (d : Dev) (i : Nat) : Dev :=
  if !d.corrUsable i || (d.sup.corrs.find? i).isSome then d
  else
    let pinned := (d.pathOrder.filter (fun z => d.zf F.SUP_PATH_CFG_PIN z = 1)).find? (fun z =>
      !d.pathHeld z && !(d.sweeping && d.sup.swept.contains z))
    match pinned with
    | some z =>
      let a := d.corrAdmit z
      if a.1 then a.2.corrBegin i z else a.2
    | none => match d.nextPath with
      | none => d
      | some z =>
        let a := d.corrAdmit z
        if a.1 then (a.2.setSup { a.2.sup with nextShared := z + 1 }).corrBegin i z else a.2

/-- Correlators of shared paths that give way at once to pinned paths that hold none (R279, R33): the last of the order first. -/
def Dev.pinnedRoom (d : Dev) : Dev :=
  let pin := fun (z : Nat) => d.zf F.SUP_PATH_CFG_PIN z = 1
  let want := (d.pathOrder.filter (fun z => pin z && !d.pathHeld z && !(d.sweeping && d.sup.swept.contains z))).length
  let free := ((List.range 128).filter (fun i => d.corrUsable i && (d.sup.corrs.find? i).isNone)).length
  let gone := (d.pathOrder.filter (fun z => !pin z && d.pathHeld z)).reverse.take (want - free)
  let d := gone.foldl (fun d z => d.wr (F.SUP_PATH_STATUS_STATE.un z) 1) d
  d.setSup { d.sup with corrs := d.sup.corrs.filter (fun r => !gone.contains r.2.path) }

/-- Free every correlator that may not go on and give the free ones their paths. -/
def Dev.schedule (d : Dev) : Dev :=
  let run := d.audioRuns && d.on F.SUP_CFG_CORR_EN
  let keep := d.sup.corrs.filter (fun r => run && d.corrUsable r.1 && d.pathOn r.2.path)
  let d := (d.sup.corrs.filter (fun r => !keep.contains r)).foldl (fun d r =>
    d.wr (F.SUP_PATH_STATUS_STATE.un r.2.path) (if d.pathOn r.2.path then 1 else 0)) d
  let d := d.setSup { d.sup with corrs := keep }
  if run then (List.range 128).foldl (fun d i => d.corrTake i) d.pinnedRoom else d

/-- A path's integration restarts (R274, R275). -/
def Dev.corrRestart (d : Dev) (z : Nat) : Dev :=
  match List.find? (fun r => r.2.path = z) d.sup.corrs with
  | none => d
  | some r => (d.corrBegin r.1 z).supCount 4

/-- An index jump restarts every integration (R275). -/
def Dev.supJump (d : Dev) : Dev := d.sup.corrs.foldl (fun d r => d.corrRestart r.2.path) d

/-! ### Measurement (R276, R277) -/

/-- What an integration measured: M, the peak's lag and sum, the delay in 1/16 sample, the gain, noise and SNR, and whether the SNR
reaches 20 and 50 dB. -/
structure Measure where
  m : Nat
  lag : Nat
  c : Int
  delay : Nat
  gain : Int
  noise : Int
  snr : Int
  detected : Bool
  accurate : Bool
  deriving DecidableEq, Repr

/-- The sum C(τ) over the admitted positions. -/
def Corr.sum (x : Corr) (sign : Nat → Int) (tau : Nat) : Int :=
  (x.adm.map (fun k => ((x.xs.get none (k + tau)).getD 0) * sign k)).sum

/-- The derived quantities of an integration. DESIGN CHOICE (log 120). -/
def Corr.measure (x : Corr) (sign : Nat → Int) (amp : Nat) : Measure :=
  let cs := (List.range 384).map (fun j => x.sum sign (x.lagBase + j))
  let m := x.adm.length
  let e : Int := (x.adm.map (fun k => let v := (x.xs.get none k).getD 0; v * v)).sum
  let peak := (List.range 384).foldl (fun b j => if (cs.getD b 0).natAbs < (cs.getD j 0).natAbs then j else b) 0
  let at_ := fun (j : Nat) => ((cs.getD j 0).natAbs : Int)
  let curve := 2 * at_ peak - at_ (peak - 1) - at_ (peak + 1)
  let shift := if peak = 0 ∨ peak = 383 ∨ curve ≤ 0 then 0
    else Config.openDiv 23 (8 * (at_ (peak + 1) - at_ (peak - 1))) curve.toNat
  let c := cs.getD peak 0
  let rest := (List.range 384).filter (fun j => decide (peak + 4 < j ∨ j + 4 < peak))
  let sq : Nat := (rest.map (fun j => (cs.getD j 0).natAbs ^ 2)).sum
  let num := c.natAbs ^ 2 * rest.length
  let noiseNum := (e * m - c * c).toNat
  { m := m, lag := x.lagBase + peak, c := c
    delay := (((x.lagBase + peak : Nat) : Int) * 16 + shift).toNat
    gain := clampInt (-32767) 32767 (logOpen 24 2000 c.natAbs (amp * m))
    noise := clampInt (-32768) 32767 (logOpen 25 1000 noiseNum (m * m * 2 ^ 62))
    snr := clampInt 0 65535 (if sq = 0 then 65535 else logOpen 26 1000 num sq)
    detected := decide (100 * sq ≤ num ∧ c ≠ 0), accurate := decide (100000 * sq ≤ num ∧ c ≠ 0) }

/-- The outcome of an integration (R277). -/
def Dev.outcome (d : Dev) (z : Nat) (r : Measure) : Nat :=
  let ref := d.rdS (F.SUP_PATH_REF_GAIN_REF_GAIN.un z)
  let learned := d.zf F.SUP_PATH_REF_GAIN_REF_GAIN z ≠ 0x8000
  let tol : Int := d.zf F.SUP_PATH_REF_GAIN_GAIN_TOL z
  let moved := ((r.delay : Int) - d.zf F.SUP_PATH_REF_DELAY_REF_DELAY z).natAbs
  if !r.detected then 6
  else if r.c < 0 then 3
  else if learned && r.gain < ref - tol then 1
  else if learned && ref + tol < r.gain then 2
  else if learned && 16 * d.zf F.SUP_PATH_REF_DELAY_DELAY_TOL z < moved then 4
  else if d.rdS (F.SUP_PATH_NOISE_MAX_NOISE_MAX.un z) < r.noise then 5
  else 0

/-- Post a Q5 item (R281). -/
def Dev.q5 (d : Dev) (z corr outcome band flags state : Nat) (delay : Nat) (gain noise snr : Int) (m : Nat) : Dev :=
  d.enqueue 5 (toLE 4 (5 * 2 ^ 28 + outcome * 2 ^ 24 + band * 2 ^ 20 + flags * 2 ^ 16 + z) ++
    toLE 2 (d.zf F.SUP_PATH_CFG_SENSE z) ++ toLE 1 corr ++ toLE 1 state ++ toLE 4 delay ++ toLE 2 (unsgn 16 gain) ++
    toLE 2 (unsgn 16 noise) ++ toLE 2 snr.toNat ++ toLE 2 0 ++ toLE 4 m ++ toLE 6 d.time.tai.sec ++ toLE 2 0)

/-- A path's alarm machine. -/
def Dev.path (d : Dev) (z : Nat) : PathSt := d.sup.paths.get {} z

/-- Replace it. -/
def Dev.setPath (d : Dev) (z : Nat) (x : PathSt) : Dev := d.setSup { d.sup with paths := d.sup.paths.put z x }

/-- An outcome drives the alarm machine (R280). Answers the ALARM and CLEAR flags and the state after. DESIGN CHOICE (log 205). -/
def Dev.alarmStep (d : Dev) (z outcome : Nat) : Dev × Bool × Bool × Nat :=
  let x := d.path z
  let need := d.zf F.SUP_PATH_CFG_FAULT_COUNT z
  let alarm := d.zf F.SUP_PATH_STATUS_ALARM z = 1
  if !x.watching then (d, false, false, 0)
  else if !alarm then
    if outcome = 0 then (d.setPath z { x with faults := 0 }, false, false, 1)
    else if x.faults + 1 < need then (d.setPath z { x with faults := x.faults + 1 }, false, false, 1)
    else
      let d := d.setPath z { x with faults := 0, oks := 0 }
      (((d.wr (F.SUP_PATH_STATUS_ALARM.un z) 1).supCount 1).irq F.SUP_IRQ_STATUS_ALARM z, true, false, 2)
  else if outcome ≠ 0 then (d, false, false, 2)
  else if x.oks + 1 < need then (d.setPath z { x with oks := x.oks + 1 }, false, false, 2)
  else
    let d := d.setPath z { x with faults := 0, oks := 0 }
    ((d.wr (F.SUP_PATH_STATUS_ALARM.un z) 0).irq F.SUP_IRQ_STATUS_ALARM_CLEAR z, false, true, 1)

/-- The correlator of an integration that ended is free, and takes its next path: a pinned path keeps its own. -/
def Dev.corrDone (d : Dev) (i : Nat) (x : Corr) : Dev :=
  let d := d.wr (F.SUP_PATH_STATUS_STATE.un x.path) (if d.pathOn x.path then 1 else 0)
  let d := d.setSup { d.sup with corrs := d.sup.corrs.del i, lastVisit := d.sup.lastVisit.put x.path d.time.cycles,
                                 swept := if x.band.isSome then d.sup.swept ++ [x.path] else d.sup.swept }
  d.corrTake i

/-- LAG_BASE after an integration (R278). -/
def Dev.lagStep (d : Dev) (z : Nat) (lagBase : Nat) (r : Measure) : Dev :=
  let search := d.zf F.SUP_PATH_CFG_LAG_SEARCH z = 1
  let lag := F.SUP_PATH_LAG_LAG_BASE.un z
  let centre := fun (d : Dev) => d.wrRun lag (r.lag - 192)
  if search then
    if r.detected then (centre d).wrRun (F.SUP_PATH_CFG_LAG_SEARCH.un z) 0
    else d.wrRun lag (if 191616 < lagBase + 384 then 0 else lagBase + 384)
  else if r.lag < lagBase + 16 || lagBase + 384 ≤ r.lag + 16 then centre d
  else d

/-- An integration of a path ends with an outcome (R277 to R281). -/
def Dev.corrOutcome (d : Dev) (i : Nat) (x : Corr) (outcome : Nat) (r : Measure) : Dev :=
  let z := x.path
  let d := d.supCount 0
  let d := if outcome = 6 then d.supCount 2 else if outcome = 7 then d.supCount 3 else d
  let inv := r.c < 0
  let d := if outcome = 7 then d.wr (F.SUP_PATH_STATUS_OUTCOME.un z) 7
    else
      let d := (d.wr (F.SUP_PATH_STATUS_OUTCOME.un z) outcome).wrBit (F.SUP_PATH_STATUS_ACCURATE.un z) r.accurate
      let d := d.wrBit (F.SUP_PATH_STATUS_POLARITY_INV.un z) inv
      let d := (d.wrS (F.SUP_PATH_GAIN_GAIN.un z) r.gain).wrS (F.SUP_PATH_GAIN_NOISE.un z) r.noise
      (d.wr (F.SUP_PATH_DELAY_DELAY.un z) r.delay).wr (F.SUP_PATH_SNR_SNR.un z) r.snr.toNat
  let a := d.alarmStep z outcome
  let d := a.1.setPath z { a.1.path z with result := some d.time.tai }
  let flags := 8 * bit (r.accurate && outcome ≠ 7) + 4 * bit (inv && outcome ≠ 7) + 2 * bit a.2.1 + bit a.2.2.1
  let d := d.q5 z i outcome 15 flags a.2.2.2 r.delay r.gain r.noise r.snr r.m
  let d := if d.zf F.SUP_PATH_STATUS_LEARN_PENDING z = 1 && r.accurate && outcome ≠ 7 then
      let d := d.wrRun (F.SUP_PATH_REF_GAIN_REF_GAIN.un z) (unsgn 16 r.gain)
      (d.wrRun (F.SUP_PATH_REF_DELAY_REF_DELAY.un z) r.delay).wr (F.SUP_PATH_STATUS_LEARN_PENDING.un z) 0
    else d
  let d := if outcome = 7 then d else d.lagStep z x.lagBase r
  d.corrDone i x

/-- A band of a sweep ends (R293): its measurement, whose filtered sequence the spec does not give, is free; the next band follows. -/
def Dev.bandEnd (d : Dev) (i : Nat) (x : Corr) (band : Nat) : Dev :=
  let g := d.drawIn .band (-32768) 32767
  let n := g.2.drawIn .band (-32768) 32767
  let s := n.2.drawIn .band 0 65535
  let l := s.2.drawIn .band (16 * x.lagBase) (16 * (x.lagBase + 383))
  let d := l.2
  let ok := decide (2000 ≤ s.1)
  let z := x.path
  let st := if !(d.path z).watching then 0 else if d.zf F.SUP_PATH_STATUS_ALARM z = 1 then 2 else 1
  let d := d.q5 z i (if ok then 0 else 6) band (8 * bit (decide (5000 ≤ s.1))) st l.1.toNat g.1 n.1 s.1 x.adm.length
  let d := if ok then d else d.setSup { d.sup with missed := d.sup.missed + 1 }
  if 8 ≤ band then d.corrDone i x
  else d.setSup { d.sup with corrs := d.sup.corrs.put i { x with band := some (band + 1), began := d.time.cycles, xs := [], block := [], adm := [] } }

/-- PILOT_INTEGRATION_END (R275 to R279, R293): the correlator has admitted its M positions; a swept band ends after SWEEP_S. -/
def execPilotIntegrationEnd (correlator : Fin 128) (s : State) : Host.Outcome State Fault Refusal :=
  s.act fun d =>
    match d.sup.corrs.find? correlator with
    | none => d
    | some x =>
      match x.band with
      | some b => if !d.booted || !d.past x.began (1000 * d.sweepS) then d else d.bandEnd correlator x b
      | none =>
        if !d.booted || x.adm.length < x.want then d
        else
          let r := x.measure (d.pilotSign x.path) (pilotAmplitude (d.rdS (F.SUP_PATH_LEVEL_PILOT_LEVEL.un x.path)))
          d.corrOutcome correlator x (d.outcome x.path r) r

/-- PILOT_NO_QUIET_TIMEOUT (R275): 10 × INT_S seconds have passed before M positions were admitted. -/
def execPilotNoQuietTimeout (correlator : Fin 128) (s : State) : Host.Outcome State Fault Refusal :=
  s.act fun d =>
    match d.sup.corrs.find? correlator with
    | none => d
    | some x =>
      if !d.booted || x.want ≤ x.adm.length || x.band.isSome || !d.past x.began (10000 * d.zf F.SUP_PATH_INT_INT_S x.path) then d
      else d.corrOutcome correlator x 7 ⟨x.adm.length, 0, 0, 0, 0, 0, 0, false, false⟩

/-- A learn is asked for (R277). -/
def Dev.pilotLearn (d : Dev) (z : Nat) : Dev := d.wr (F.SUP_PATH_STATUS_LEARN_PENDING.un z) 1

/-- PILOT_LEARN (R277). -/
def execPilotLearn (zone : Fin 1536) (s : State) : Host.Outcome State Fault Refusal :=
  s.act fun d => if d.booted then d.pilotLearn zone else d

/-! ### Tests (R282, R290, R292) -/

/-- A field of the plan: the run's own, or the object's outside a Vigil. The fields are STEP_MASK, WINDOW_MIN, NET_MASK, APT_MASK,
LOOP_MS, DDR_MARGIN_MIN, SWEEP_BOOST, SWEEP_S. -/
def planDefaults : List Nat := [0x3FFE, 240, 0, 0xFFFF, 100, 8, 10, 20]

/-- The plan as the object holds it. -/
def Dev.planNow (d : Dev) : List Nat := (List.range 8).map (fun i => d.obj 0x7010 (i + 1) 0 (planDefaults.getD i 0))

/-- The plan in force. -/
def Dev.plan (d : Dev) : List Nat := match d.sup.vigil with | some v => v.plan | none => d.planNow

/-- A NET port's lane may be looped back (R290). -/
def Dev.laneFree (d : Dev) (p : Nat) : Bool :=
  let other := fun (c : Nat) => if d.cf F.STR_CTX_NET_PORT_A c = p then d.cf F.STR_CTX_NET_PORT_B c else d.cf F.STR_CTX_NET_PORT_A c
  (d.ctxRunning.filter (fun c => (d.ctxPorts c).contains p)).all (fun c =>
    d.ctxPaired c && d.inServicePort (other c) && d.linkUp (other c)) &&
  !(d.freqNow = some (6 + p)) && !(d.timeNow = some (10 + p)) && !d.odp.sessions.any (fun s => s.port.num = p)

/-- The "Runs on" condition of a row (R282, R290, R292, R297). -/
def Dev.mayTest (d : Dev) (row : Nat) : Bool :=
  let t := testOf row
  let n := t.2
  let maint := d.mode.mode = .maintenance
  let plan := d.plan
  if t.1 = 6 then
    if n = 4 then bitAt (plan.getD 2 0) 4 && (maint || !d.on F.PAIR_CFG_EN) else bitAt (plan.getD 2 0) n && (maint || d.laneFree n)
  else if maint then true
  else match t.1 with
    | 2 => d.on F.CLK_ROOT_STATUS_ROOT_LOCKED
    | 3 => (d.outputsOf n).isEmpty && (List.range 2).all (fun k => !d.on (F.CLK_DLL_CFG_EN.at [k]) ||
        d.rd (F.CLK_OUT_CFG_SRC.at [d.rd (F.CLK_DLL_CFG_OUT_SEL.at [k])]) ≠ n)
    | 4 => !d.on (F.CLK_MCLK_CFG_EN.at [n]) && d.aptState (2 * n) = 0 && d.aptState (2 * n + 1) = 0
    | 5 => !d.on (F.REF_SLOT_CFG_EN.at [n])
    | 9 => d.aptState n = 0 && d.pf F.APT_CFG_EN n = 0 && bitAt (plan.getD 3 0) n
    | 10 => d.cap.mtxSpare.1 = 0 && !d.isLost 2 8 && !d.isLost 2 n
    | 11 => d.cap.strSpare.1 = 0 && !d.isLost 3 8 && !d.isLost 3 n
    | 13 => d.on F.PAIR_CFG_EN && d.rd F.PAIR_PARTNER_MODE = 5
    | _ => true

/-- A result with no run behind it. -/
def Dev.skipTest (d : Dev) (row result cause : Nat) : Dev :=
  d.putResult row ⟨result, cause, 0, d.testExpect row, 0, 0, d.time.tai, d.testRun⟩

/-- An instance starts; the drill asks for the flag DRILL in the next token (R321). -/
def Dev.beginTest (d : Dev) (row : Nat) (alone : Bool) : Dev :=
  let d := d.testHold row true
  let d := d.setSup { d.sup with testing := some ⟨row, d.time.cycles, alone⟩ }
  let d := if 30 ≤ row && row < 34 then d.linkDown (row - 30) else d
  if row = 75 then
    let d := d.setSup { d.sup with swept := [], missed := 0, corrs := [] }
    d.schedule
  else if row = 76 then { d with pair := { d.pair with drill := 1, flags := setBit d.pair.flags 2 true } }
  else d

/-- The run ends: the summary item is posted and the device returns to the mode of entry (R287, R289). -/
def Dev.endVigil (d : Dev) (result : Option (Nat × Nat)) (leave : Bool) : Dev :=
  let d := match result with | some (r, c) => d.cutTest r c | none => d
  match d.sup.vigil with
  | none => d
  | some v =>
    let worst := ([1, 2, 3, 4].find? (fun r => decide (0 < v.counts.getD r 0))).getD 0
    let d := d.setSup { d.sup with vigil := none, lastEntry := v.entry, lastEnd := d.time.tai, lastCounts := v.counts, summary := worst }
    let d := d.q6 0 0 ⟨worst, 0, 0, 0, 0, 0, d.time.tai, d.sup.run⟩
    let d := d.irq F.SUP_IRQ_STATUS_VIGIL_END
    if leave then d.arises d.mode.origin 0x10 else d

/-- A Vigil starts (R288): the plan is read once and the run counted. -/
def Dev.startVigil (d : Dev) : Dev :=
  let plan := d.planNow
  let rows := (testTable.filter (fun t => bitAt (plan.getD 0 0) t.1)).flatMap (fun t => (List.range t.2.2).map (· + t.2.1))
  d.setSup { d.sup with run := d.sup.run + 1, vigil := some ⟨plan, d.time.cycles, d.time.tai, rows, [], none⟩ }

/-- The next instance of the run leaves the list. -/
def Dev.nextTodo (d : Dev) : Dev :=
  match d.sup.vigil with
  | some v => d.setSup { d.sup with vigil := some { v with todo := v.todo.drop 1, waiting := none } }
  | none => d

/-- The run is over once nothing is left to do. -/
def Dev.vigilDone (d : Dev) : Dev :=
  match d.sup.vigil with
  | some v => if v.todo.isEmpty && d.sup.testing.isNone then d.endVigil none true else d
  | none => d

/-- The next step of the run is not run; the active tells its standby where it is one that both units take in step (R295): action 4 with
cause 6, 0 with cause 7. DESIGN CHOICE (log 205). -/
def Dev.passStep (d : Dev) (row : Nat) (started : Bool) : Dev :=
  let d := if row = 75 || row = 76 then d.noteBudget 14 row .b (if started then 0 else 4) else d
  ((d.nextTodo).skipTest row (if started then 4 else 3) (if started then 7 else 6)).vigilDone

/-- A standby's run leaves a step to come, with a result. -/
def Dev.leaveStep (d : Dev) (row result cause : Nat) : Dev :=
  match d.sup.vigil with
  | some v =>
    if v.todo.contains row then
      ((d.setSup { d.sup with vigil := some { v with todo := v.todo.filter (· ≠ row) } }).skipTest row result cause).vigilDone
    else d
  | none => d

/-- The active has run the drill: it is no step of the standby's any more (R321). -/
def Dev.drillTaken (d : Dev) : Dev :=
  match d.sup.vigil with
  | some v => d.setSup { d.sup with vigil := some { v with todo := v.todo.filter (· ≠ 76) } }
  | none => d

/-- Steps that a standby in VIGIL leaves to the active (R295). -/
def Dev.activeStep (d : Dev) (row : Nat) : Bool := (row = 75 || row = 76) && d.roleMode = .marionette

/-- SELF_TEST_START (R289): the next instance asks for class B admission at its start. -/
def execSelfTestStart (s : State) : Host.Outcome State Fault Refusal :=
  s.act fun d =>
    match d.sup.vigil with
    | none => d
    | some v => match v.todo with
      | [] => d.vigilDone
      | row :: _ =>
        if d.mode.mode ≠ .vigil || d.sup.testing.isSome || d.activeStep row then d
        else if !d.mayTest row then d.passStep row false
        else if d.bBarred then d.passStep row true
        else
          let a := d.allot .b (d.cost 11 1)
          if a.1 then
            ((if row = 75 then a.2.noteBudget 14 row .b 3 else a.2).nextTodo).beginTest row false
          else
            let v := { v with waiting := some (v.waiting.getD d.time.cycles) }
            a.2.setSup { a.2.sup with vigil := some v }

/-- The active's sweep begins on its standby too (R295): what the standby still tests is cut, and its list goes on after the sweep.
DESIGN CHOICE (log 205). -/
def Dev.followSweep (d : Dev) : Dev :=
  match d.sup.vigil with
  | none => d
  | some v =>
    let d := d.cutTest 3 4
    let v := match d.sup.vigil with | some w => w | none => v
    ((d.setSup { d.sup with vigil := some { v with todo := v.todo.filter (fun r => decide (75 < r)), waiting := none } }).beginTest 75 false)

/-- VIGIL_ADMISSION_TIMEOUT (R289): the admission has been deferred for more than 60 s. -/
def execVigilAdmissionTimeout (s : State) : Host.Outcome State Fault Refusal :=
  s.act fun d =>
    match d.sup.vigil with
    | none => d
    | some v => match v.todo, v.waiting with
      | row :: _, some t => if d.past t 60000 then d.passStep row true else d
      | _, _ => d

/-- A sweep has served every path that it takes (R293). -/
def Dev.sweepDone (d : Dev) : Bool := d.pathOrder.all (fun z => d.sup.swept.contains z)

/-- SELF_TEST_END (R283 to R285); a sweep ends once every path has been served. A slice whose hand-back reads differently counts as failed,
and the spare keeps its work without a gap (R292). DESIGN CHOICE (log 205). -/
def execSelfTestEnd (outcome : TestEnd) (s : State) : Host.Outcome State Fault Refusal :=
  s.act fun d =>
    match d.sup.testing with
    | none => d
    | some t =>
      match outcome with
      | .faulted => (d.cutTest 2 12).vigilDone
      | .completed stream verdictsOk measured restoreOk reinitOk =>
        if t.row = 75 && !d.sweepDone then d
        else
        let e := d.testExpect t.row
        let cyc := Config.selfTestCycles t.row (d.testParam t.row)
        let sig := testSig stream cyc true
        let same : Bool := if t.row = 75 then d.sup.missed = 0 else if t.row = 76 then verdictsOk && d.pair.drill = 0 else sig = e
        let r : Nat × Nat := if !restoreOk then (1, 3) else if same then (0, 0)
          else (1, if 75 ≤ t.row || !verdictsOk then 1 else 2)
        let d := if t.row = 76 && !same then (d.sticky F.PAIR_STICKY_DRILL_FAIL_SEEN noUnit).irq F.PAIR_IRQ_STATUS_DRILL_FAIL else d
        let meas := if t.row = 75 then min d.sup.missed 65535 else measured.toNat
        let id := testOf t.row
        let d := d.testHold t.row false
        let d := d.setSup { d.sup with testing := none, corrs := if t.row = 75 then [] else d.sup.corrs }
        let d := if t.row = 75 then d.schedule else d
        let d := d.putResult t.row ⟨r.1, r.2, sig, e, cyc, meas, d.time.tai, d.testRun⟩
        let handBack := r = (1, 2) && (id.1 = 10 || id.1 = 11) && decide (id.2 < 8)
        let broken := (!restoreOk && !reinitOk) || handBack
        let unit : Option Unit33 :=
          if h : id.1 = 9 ∧ id.2 < 16 then some (.port ⟨id.2, h.2⟩)
          else if h : id.1 = 10 ∧ id.2 < 9 then some (.matrixSlice ⟨id.2, h.2⟩)
          else if h : id.1 = 11 ∧ id.2 < 9 then some (.streamSlice ⟨id.2, h.2⟩)
          else if h : id.1 = 6 ∧ id.2 < 4 then some (.lane ⟨id.2, h.2⟩)
          else if id.1 = 6 then some .irmon else none
        let cap := d.cap
        let d := match unit with | some u => if broken then d.loseUnit u else d | none => d
        let d := if handBack then { d with cap := { d.cap with mtxGap := cap.mtxGap, strGap := cap.strGap } } else d
        d.vigilDone

/-- VIGIL_WINDOW_END (R289): WINDOW_MIN has elapsed. -/
def execVigilWindowEnd (s : State) : Host.Outcome State Fault Refusal :=
  s.act fun d =>
    match d.sup.vigil with
    | none => d
    | some v =>
      if d.mode.mode ≠ .vigil || !d.past v.began (v.plan.getD 1 240 * 60000) then d
      else
        let d := d.cutTest 2 9
        let d := v.todo.foldl (fun d row => d.skipTest row 4 9) d
        d.endVigil none true

/-- VIGIL_ABORT (R294). DESIGN CHOICE (log 115). -/
def Dev.vigilAbort (d : Dev) : Dev := if d.mode.mode = .vigil then d.endVigil (some (3, 11)) true else d

/-- VIGIL_ABORT (R294). -/
def execVigilAbort (s : State) : Host.Outcome State Fault Refusal := s.act fun d => if d.booted then d.vigilAbort else d

/-- SelfTestRun (R297): one named instance, only in MAINTENANCE and only one at a time. -/
def Dev.selfTestRun (d : Dev) (test inst : Nat) : Dev × Status :=
  match testRow test inst with
  | none => (d, .range)
  | some row =>
    if d.mode.mode ≠ .maintenance then (d, .mode)
    else if d.sup.testing.isSome then (d, .busy)
    else if !d.mayTest row then (d.skipTest row 3 6, .ok)
    else (d.beginTest row true, .ok)

/-- PairDrill and PAIR_CMD DRILL (R321): without a partner in MARIONETTE the drill ends ABORTED_FOR_SERVICE with cause 6. DESIGN CHOICE (log 117). -/
def Dev.pairDrill (d : Dev) : Dev × Status :=
  if d.sup.testing.isSome then (d, .busy)
  else if d.roleMode ≠ .active || !d.mayTest 76 then (d.skipTest 76 3 6, .ok)
  else (d.beginTest 76 true, .ok)

/-- SELF_TEST_RUN (R297). -/
def execSelfTestRun (test inst : BitVec 8) (s : State) : Host.Outcome State Fault Refusal :=
  s.act fun d => if d.booted then (d.selfTestRun test.toNat inst.toNat).1 else d

/-! ### The fault of a unit (R33) -/

/-- UNIT_LOST_TO_FAULT (R33): the correlators are reassigned after the loss. -/
def execUnitLostToFault (unit : Unit33) (s : State) : Host.Outcome State Fault Refusal :=
  s.act fun d => if d.booted then (d.loseUnit unit).schedule else d

/-! ### The block's apply point (R274) -/

/-- A captured value of the block out of its range. -/
def supBad (f : Fld) (v : Nat) : Bool :=
  let s := sgn f.w v
  (f.off = 0 && f.lo = 0 && decide (v < 1 ∨ 60 < v)) ||
  (f.off = 0x104 && ((f.lo = 16 && decide (v < 1 ∨ 16 < v)) || (f.lo = 0 && decide (1535 < v) && v ≠ 0xFFFF))) ||
  (f.off = 0x108 && ((f.lo = 16 && decide (s < -1200 ∨ -800 < s)) || (f.lo = 0 && decide (s < -1200 ∨ 0 < s)))) ||
  (f.off = 0x10C && decide (2 ^ 21 - 2 < v)) || (f.off = 0x110 && decide (191616 < v)) ||
  (f.off = 0x114 && decide (v < 1 ∨ 600 < v)) || (f.off = 0x118 && f.lo = 0 && decide (v < 10 ∨ 2000 < v)) ||
  (f.off = 0x11C && f.lo = 22 && decide (1000 < v))

/-- A field whose change restarts no integration: the limits. -/
def isLimitField (f : Fld) : Bool :=
  (f.off = 0x118 && f.lo = 0) || (f.off = 0x11C && f.lo = 22) || f.off = 0x120 || (f.off = 0x104 && f.lo = 16)

/-- The SUP block reaches its apply point. -/
def Dev.applySup (d : Dev) (group : Nat) (vals : Tbl Nat) : Dev × Status :=
  let bad := vals.any (fun r => match fieldOf r.1 with | some f => r.2 ≠ d.rd f && supBad f r.2 | none => false)
  let vals : Tbl Nat := vals.filter (fun r => match fieldOf r.1 with | some f => r.2 = d.rd f || !supBad f r.2 | none => false)
  let isPin := fun (f : Fld) => f.off = 0x104 && f.lo = 30
  let pins := (List.range 1536).filter (fun z => d.proposed vals (F.SUP_PATH_CFG_PIN.un z) = 1)
  let tooMany := decide (64 < pins.length)
  let vals : Tbl Nat := if tooMany then dropVals vals isPin else vals
  let outside := fun (z : Nat) =>
    let s := d.proposed vals (F.SUP_PATH_CFG_SENSE.un z)
    d.proposed vals (F.SUP_PATH_CFG_EN.un z) = 1 && (!d.usableZone z || (s ≠ 0xFFFF && !d.usableInput s))
  let isUse := fun (f : Fld) => f.off = 0x104 && (f.lo = 31 || f.lo = 0) && outside f.unit
  let far := vals.any (fun r => match fieldOf r.1 with | some f => r.2 ≠ d.rd f && isUse f | none => false)
  let vals : Tbl Nat := dropVals vals isUse
  let changed := (vals.filter (fun r => match fieldOf r.1 with
    | some f => decide (0x100 ≤ f.off) && !isLimitField f && r.2 ≠ d.rd f | none => false)).map
      (fun r => match fieldOf r.1 with | some f => f.unit | none => 0)
  let before := fun (z : Nat) => d.pathOn z
  let d1 := (d.applyVals (fun _ => false) group vals).1
  let d2 := changed.dedup.foldl (fun d z =>
    let on := d.pathOn z
    let d := if on && !before z then (d.setPath z { watching := true }).wr (F.SUP_PATH_STATUS_STATE.un z) 1
      else if !on && before z then
        ((d.setPath z { d.path z with watching := false }).wr (F.SUP_PATH_STATUS_ALARM.un z) 0).wr (F.SUP_PATH_STATUS_STATE.un z) 0
      else d
    d.corrRestart z) d1
  let d := d2.schedule
  let st : Status := if bad || far then .range else if tooMany then .capacity else .ok
  (d.wr F.SUP_RESULT_RESULT st.code, st)

end Sys2Proof.Machine
end

