-- ==== Sys2Proof/Machine/Budget.lean ====
section
/-! DEFINITION. Machine/Budget.lean: the power and heat budget scheduler (chapter 13): inputs, caps, shedding, restoring, the
battery, the thermal record and the critical limits. Admission itself is in Machine/Admission.lean. -/

namespace Sys2Proof.Machine

/-- The budget counters and the dictionary counters beside them: 0 ADMITTED to 5 THERM_STEPS (R340). -/
def Dev.pwrCount (d : Dev) (i : Nat) : Dev := d.tally (F.PWR_COUNT_COUNT.at [i])

/-- Replace the scheduler's own state. -/
def Dev.setPwr (d : Dev) (x : PwrSt) : Dev := { d with pwr := x }

/-! ### Classes of what runs -/

/-- The step of R335 at which a unit is shed: 1 B, 2 T, 3 A. -/
def ShedUnit.step : ShedUnit → Nat
  | .vigil | .resync | .recorder | .bank _ | .library | .scrub => 1
  | .timeUnit => 2
  | _ => 3

/-- Voices of class A that play, highest first. -/
def Dev.aVoices (d : Dev) : List Nat := ((d.lib.voices.filter (fun v => !v.2.classS && v.2.fade.isNone)).map (·.1)).reverse

/-- Tones of class A that run, highest first. -/
def Dev.aTones (d : Dev) : List Nat := ((d.lib.tones.filter (fun t => !d.toneSafe t.1 && !t.2.stopReq)).map (·.1)).reverse

/-- Contexts of class A that run, highest first. -/
def Dev.aCtxs (d : Dev) : List Nat := (d.ctxRunning.filter (fun c => d.ctxClass c != .s && !(d.ctx c).stopReq)).reverse

/-- Ports of class A that run, highest first. -/
def Dev.aPorts (d : Dev) : List Nat :=
  (((List.range 16).filter (fun p => d.aptRuns p && d.aptClass p != .s && !(d.apo p).stopReq))).reverse

/-- Crosspoint rows of class A that are not on their way to IDLE, highest first. -/
def Dev.aRows (d : Dev) : List Nat := ((d.mtx.xps.filter (fun r => !r.2.release && !d.rowSafe r.1)).map (·.1)).reverse

/-- Correlator banks in service that hold no path of a life-safety zone, highest first. -/
def Dev.bBanks (d : Dev) : List Nat :=
  ((List.range 8).filter (fun b => !d.isLost 5 b && !d.isShed (.bank b) &&
    (d.sup.corrs.all (fun r => r.1 / 16 ≠ b || !d.zoneSafe r.2.path)))).reverse

/-- A NET lane may be powered down (R335): LANE_SHED allows it, and it carries no running context, no selected reference slot and no
session. -/
def Dev.laneSheddable (d : Dev) (n : Nat) : Bool :=
  bitAt (d.rd F.PWR_POLICY_LANE_SHED) n && !d.isLost 4 n && !d.isShed (.lane n) &&
    (d.ctxRunning.all (fun c => !(d.ctxPorts c).contains n)) &&
    !(d.freqNow = some (6 + n)) && !(d.timeNow = some (10 + n)) && d.odp.sessions.all (fun x => x.port.num ≠ n)

/-- One unit, if a condition holds. -/
def unitIf (b : Bool) (u : ShedUnit) : List ShedUnit := if b then [u] else []

/-- Everything that may be shed, in the order of R335. The lanes follow the contexts whose end frees them. DESIGN CHOICE (log 126). -/
def Dev.shedOrder (d : Dev) : List ShedUnit :=
  let vs := d.aVoices
  let ts := d.aTones
  let both := (List.range 64).reverse.flatMap (fun n => unitIf (vs.contains n) (ShedUnit.voice n) ++ unitIf (ts.contains n) (ShedUnit.tone n))
  let parts : List (List ShedUnit) := [
    unitIf (d.sup.testing.isSome && d.sup.vigil.isSome) ShedUnit.vigil,
    unitIf (d.mode.mode = .active && d.rd F.PAIR_PARTNER_MODE = 6 && !d.isShed .resync) ShedUnit.resync,
    unitIf d.lib.recd.running ShedUnit.recorder,
    d.bBanks.map ShedUnit.bank,
    unitIf (!d.lib.order.isEmpty && !d.isShed .library) ShedUnit.library,
    unitIf (!d.isShed .scrub) ShedUnit.scrub,
    List.replicate (d.tsUnits - d.rd F.TIM_NTP_FLOOR_TS_FLOOR) ShedUnit.timeUnit,
    both,
    d.aCtxs.map ShedUnit.context,
    ((List.range 4).filter d.laneSheddable).map ShedUnit.lane,
    d.aPorts.map ShedUnit.port,
    d.aRows.map ShedUnit.row]
  parts.flatten

/-! ### Predictions (R333) -/

/-- The cost of a unit without the slice it may leave empty. -/
def Dev.unitCost (d : Dev) (u : ShedUnit) : Nat :=
  match u with
  | .vigil | .resync => d.cost 11 1
  | .recorder => d.cost 10 1
  | .bank _ => d.cost 8 1
  | .library | .scrub => 0
  | .timeUnit => d.cost 6 1
  | .voice _ | .tone _ => d.cost 9 1
  | .context _ => d.cost 3 1
  | .port _ => d.cost 7 1
  | .row _ => 0
  | .lane _ => d.cost 4 1

/-- The slice that a unit runs on: 1 and a stream slice, 2 and a matrix slice. -/
def Dev.unitSlice (d : Dev) (u : ShedUnit) : Option (Nat × Nat) :=
  match u with
  | .context c => some (1, (d.ctxSlice c).getD (c / 32))
  | .row r => some (2, d.rowSlice r)
  | _ => none

/-- The fewest units, in order, whose predicted saving reaches `want`: a slice left without work adds its own (R335). DESIGN CHOICE (log 126). -/
def Dev.pickShed (d : Dev) : List ShedUnit → Int → List (Nat × Nat) → List ShedUnit
  | [], _, _ => []
  | u :: us, want, gone =>
    if want ≤ 0 then []
    else
      let s := d.unitSlice u
      let gone := match s with | some x => x :: gone | none => gone
      let empties := match s with | some x => decide (d.sliceLoad x ≤ (gone.filter (· = x)).length) | none => false
      let slice := match s with | some x => if empties then d.cost (3 - x.1) 1 else 0 | none => 0
      u :: d.pickShed us (want - (d.unitCost u + slice : Nat)) gone

/-- The sum of the unscaled coefficients of everything powered and running (R333). -/
def Dev.predicted (d : Dev) : Nat :=
  let k := fun (i : Nat) => d.rd (F.PWR_COEF_COEF.at [i])
  k 0 + k 1 * d.mtxInService + k 2 * d.strInService + k 3 * d.ctxRunning.length + k 4 * (d.capCount 5).1 +
    (if d.on F.PAIR_CFG_EN && !d.isLost 8 0 then k 5 else 0) + k 6 * d.tsUnits +
    k 7 * ((List.range 16).filter d.aptRuns).length + k 8 * ((d.capCount 6).1 / 16) +
    k 9 * (d.lib.voices.length + d.lib.tones.length) + k 10 * bit d.lib.recd.running +
    k 11 * (bit (d.sup.testing.isSome && d.sup.vigil.isSome) + bit (d.mode.mode = .active && d.rd F.PAIR_PARTNER_MODE = 6))

/-- The predicted power of class S work: its crosspoints' and contexts' slices, contexts, ports, voices, tones and the banks of its
pilot paths. DESIGN CHOICE (log 125). -/
def Dev.safePower (d : Dev) : Nat :=
  let rows := (d.mtx.xps.map (·.1)).filter d.rowSafe
  let ctxs := d.ctxRunning.filter (fun c => d.ctxClass c == .s)
  d.cost 1 (rows.map d.rowSlice).dedup.length + d.cost 2 (ctxs.map (fun c => (d.ctxSlice c).getD (c / 32))).dedup.length +
    d.cost 3 ctxs.length + d.cost 7 ((List.range 16).filter (fun p => d.aptRuns p && d.aptClass p == .s)).length +
    d.cost 8 ((d.sup.corrs.filter (fun r => d.zoneSafe r.2.path)).map (fun r => r.1 / 16)).dedup.length +
    d.cost 9 ((d.lib.voices.filter (fun v => v.2.classS)).length + (d.lib.tones.filter (fun t => d.toneSafe t.1)).length)

/-! ### Shedding and restoring (R335, R336) -/

/-- Bring the counts up to date and post each that changed (R34). -/
def Dev.recount (d : Dev) : Dev :=
  Dev.capEvents { d with cap := { d.cap with shed := d.shedCounts } } d 8 noUnit

/-- The kind and number of a unit in the token's record (R306). -/
def ShedUnit.key : ShedUnit → Nat × Nat
  | .context n => (0, n) | .row n => (11, n) | .lane n => (4, n) | .bank n => (13, n) | .port n => (6, n) | .timeUnit => (7, 0)
  | .voice n => (9, n) | .tone n => (10, n) | .recorder => (12, 0) | .vigil => (14, 0) | .resync => (15, 0) | .library => (16, 0)
  | .scrub => (17, 0)

/-- The unit that a token's record names. -/
def ShedUnit.ofKey (k n : Nat) : Option ShedUnit :=
  match k with
  | 0 => some (.context n) | 11 => some (.row n) | 4 => some (.lane n) | 13 => some (.bank n) | 6 => some (.port n)
  | 7 => some .timeUnit | 9 => some (.voice n) | 10 => some (.tone n) | 12 => some .recorder | 14 => some .vigil
  | 15 => some .resync | 16 => some .library | 17 => some .scrub | _ => none

/-- The class of a unit's step. -/
def ShedUnit.workClass (u : ShedUnit) : WorkClass := if u.step = 1 then .b else if u.step = 2 then .t else .a

/-- What ends where it is shed, so that nothing is left to restore: a Vigil instance, a voice. -/
def ShedUnit.ends : ShedUnit → Bool
  | .vigil | .voice _ => true
  | _ => false

/-- One unit is shed: its work ends with the ramped mute of R33 or pauses; the event names its class and kind. A Vigil instance ends
INCOMPLETE with cause 8, a voice with reason 4 (R262). -/
def Dev.shedOne (d : Dev) (u : ShedUnit) : Dev :=
  let d := if u.ends then d else d.setPwr { d.pwr with shed := d.pwr.shed ++ [u] }
  let d := match u with
    | .vigil => d.cutTest 2 8
    | .voice v => d.voiceFade v 4
    | .tone t => d.toneStop t
    | .context c => d.ctxDrop c .budget
    | .port p => d.aptDrop p .budget
    | .row r => (d.rowDrop r false).mtxResult r .budget
    | .lane n => d.ptpServe.linkDown n
    | .bank _ => d.schedule
    | _ => d
  let d := d.noteBudget u.key.1 u.key.2 u.workClass 1
  (d.pwrCount 3).irq F.PWR_IRQ_STATUS_SHED u.key.2 ([byteOf u.step, byteOf u.key.1])

/-- One unit is restored and starts as under a command. -/
def Dev.restoreOne (d : Dev) (u : ShedUnit) : Dev :=
  let d := d.setPwr { d.pwr with shed := d.pwr.shed.erase u, restored := d.pwr.ticks }
  let d := match u with
    | .tone t => d.toneStart t
    | .context c => (d.ctxStart c).1
    | .port p => (d.aptStart p).1
    | .row r => (d.rowStart r).1
    | .bank _ => d.schedule
    | .lane _ => d.ptpServe
    | _ => d
  let d := d.noteBudget u.key.1 u.key.2 u.workClass 2
  ((d.pwrCount 4).irq F.PWR_IRQ_STATUS_RESTORE u.key.2 ([byteOf u.step, byteOf u.key.1])).recount

/-- BUDGET_SHED (R335): P > CAP has held for 10 ticks. STARVED is set when what cannot be shed still exceeds CAP. DESIGN CHOICE (log 127). -/
def execBudgetShed (s : State) : Host.Outcome State Fault Refusal :=
  s.act fun d =>
    if !d.booted || d.follows || d.pwr.high < 10 then d
    else
      let target := (d.rd F.PWR_MEAS_P : Int) - ((d.rd F.PWR_CAP_NOW_CAP : Int) - d.rd F.PWR_MARGIN_MARGIN)
      let us := d.pickShed d.shedOrder target []
      let d := us.foldl (fun d u => d.shedOne u) d
      let d := d.setPwr { d.pwr with high := 0 }
      let d := d.recount
      let starved := us.isEmpty && !d.on F.PWR_STATUS_STARVED
      if starved then (d.wr F.PWR_STATUS_STARVED 1).irq F.PWR_IRQ_STATUS_STARVED else d

/-- The next unit to restore: class A first, then T, then B, the one shed last first. -/
def Dev.nextRestore (d : Dev) : Option ShedUnit :=
  let of := fun (n : Nat) => (d.pwr.shed.filter (fun u => u.step = n)).getLast?
  (of 3).orElse (fun _ => (of 2).orElse (fun _ => of 1))

/-- What restoring a unit will cost, with the slice it powers. -/
def Dev.restoreCost (d : Dev) (u : ShedUnit) : Nat :=
  d.unitCost u + (match d.unitSlice u with | some s => if d.sliceLoad s = 0 then d.cost (3 - s.1) 1 else 0 | none => 0)

/-- BUDGET_RESTORE (R336): headroom has held for RESTORE_HOLD, and 100 ms have passed since the last unit. DESIGN CHOICE (log 127). -/
def execBudgetRestore (s : State) : Host.Outcome State Fault Refusal :=
  s.act fun d =>
    match d.pwr.low, d.nextRestore with
    | some t, some u =>
      if d.booted && !d.follows && decide (t + d.rd F.PWR_RESTORE_RESTORE_HOLD ≤ d.pwr.ticks ∧ d.pwr.restored + 100 ≤ d.pwr.ticks) &&
          decide ((d.restoreCost u : Int) ≤ d.headroom) then d.restoreOne u
      else d
    | _, _ => d

/-! ### Caps (R330, R331) -/

/-- THERM_CAP as it stands: POWER_CAP until the first tick has set it. DESIGN CHOICE (log 130). -/
def Dev.thermCap (d : Dev) : Nat := if d.pwr.ticks = 0 then d.rd F.PWR_LIMITS_POWER_CAP else d.rd F.PWR_CAP_NOW_THERM_CAP

/-- THERM_LIMIT (R331). -/
def Dev.thermLimit (d : Dev) : Bool := decide (d.thermCap < d.rd F.PWR_LIMITS_POWER_CAP)

/-- Post a change of THERM_LIMIT. -/
def Dev.thermEvent (d : Dev) (before : Bool) : Dev := if d.thermLimit = before then d else d.irq F.PWR_IRQ_STATUS_THERM_LIMIT

/-- The draw that would last AUTONOMY_MIN minutes. DESIGN CHOICE (log 128). -/
def Dev.reserveNow (d : Dev) : Nat :=
  (Config.openDiv 28 ((d.rd F.PWR_RESERVE_ENERGY_RESERVE : Int) * 60) (d.rd F.PWR_AUTONOMY_AUTONOMY_MIN)).toNat

/-- CAP and BINDING from the terms in force. DESIGN CHOICE (log 128). -/
def Dev.formCap (d : Dev) : Dev :=
  let batt := d.on F.PWR_STATUS_ON_BATTERY
  let terms := [(0, d.rd F.PWR_LIMITS_POWER_CAP), (1, d.thermCap)] ++
    (if batt then [(2, d.rd F.PWR_LIMITS_BAT_CAP)] ++
      (match d.pwr.reserveCap with | some c => [(3, c)] | none => []) else [])
  let best := terms.foldl (fun (a : Nat × Nat) t => if t.2 < a.2 then t else a) (0, d.rd F.PWR_LIMITS_POWER_CAP)
  (d.wr F.PWR_CAP_NOW_CAP best.2).wr F.PWR_STATUS_BINDING best.1

/-- Values of the PWR block out of range (R340). -/
def pwrBad (f : Fld) (v : Nat) : Bool :=
  let limits := [(0x10, 16, 1000, 9500), (0x10, 0, 3000, 9500), (0x14, 16, 100, 5000), (0x14, 0, 0, 2000), (0x18, 16, 10, 2000),
    (0x18, 8, 100, 122), (0x18, 0, 70, 115), (0x20, 16, 1, 3600), (0x20, 0, 1, 1440), (0x28, 0, 100, 60000)]
  limits.any (fun l => f.off = l.1 && f.lo = l.2.1 && decide (v < l.2.2.1 ∨ l.2.2.2 < v))

/-- The PWR block applies a strobe (R334 step 1). -/
def Dev.applyPwr (d : Dev) (group : Nat) (vals : Tbl Nat) : Dev × Status :=
  let bad := vals.any (fun r => match fieldOf r.1 with | some f => r.2 ≠ d.rd f && pwrBad f r.2 | none => false)
  let vals : Tbl Nat := vals.filter (fun r => match fieldOf r.1 with | some f => r.2 = d.rd f || !pwrBad f r.2 | none => false)
  let cross := decide (d.proposed vals F.PWR_THERM_TJ_CRIT ≤ d.proposed vals F.PWR_THERM_TJ_TARGET)
  let vals : Tbl Nat := if cross then dropVals vals (fun f => f.off = 0x18 && f.lo ≠ 16) else vals
  let was := d.thermLimit
  let d := (d.applyVals (fun _ => false) group vals).1
  (d.thermEvent was, if bad || cross then .range else .ok)

/-- One 1 ms tick but for the strobe (R330, R332, R333): the inputs, SCALE, CAP, how long P and TJ have stood high, and what clears.
DESIGN CHOICE (log 25, 125). -/
def Dev.budgetTick (d : Dev) (power tj : Nat) (railsOk : Bool) : Dev :=
  let first := decide (d.pwr.ticks = 0)
  let d := if first then d.wr F.PWR_CAP_NOW_THERM_CAP (d.rd F.PWR_LIMITS_POWER_CAP) else d
  let d := (d.wr F.PWR_MEAS_P power).wr F.PWR_MEAS_TJ tj
  let x := d.pwr
  let ratio := (x.ratio ++ [(power, d.predicted)]).drop (x.ratio.length + 1 - 1000)
  let sumP := (ratio.map (·.1)).sum
  let sumQ := (ratio.map (·.2)).sum
  let scale := if sumQ = 0 then 1024 else max 768 (min 1536 (Config.openDiv 27 ((sumP : Int) * 1024) sumQ).toNat)
  let d := d.wr F.PWR_SCALE_SCALE scale
  let d := d.setPwr { x with ticks := x.ticks + 1, admitted := 0, ratio := ratio,
                             hourSum := x.hourSum + sgn 16 tj, hourTicks := x.hourTicks + 1,
                             reserveCap := if d.on F.PWR_STATUS_RESERVE_STALE || x.written.isNone then x.reserveCap
                                           else some d.reserveNow }
  let d := d.formCap
  let cap := d.rd F.PWR_CAP_NOW_CAP
  let low := decide (power + d.rd F.PWR_MARGIN_MARGIN + d.rd F.PWR_MARGIN_RESTORE_GAP ≤ cap)
  let crit := decide (10 * (d.rd F.PWR_THERM_TJ_CRIT : Int) ≤ sgn 16 tj)
  let cool := decide (sgn 16 tj < 10 * ((d.rd F.PWR_THERM_TJ_CRIT : Int) - 15))
  let shed := d.pwr.shed.filter d.stillShed
  let d := d.setPwr { d.pwr with high := if cap < power then d.pwr.high + 1 else 0, hot := if crit then d.pwr.hot + 1 else 0,
                                 low := if low then some (d.pwr.low.getD d.pwr.ticks) else none, shed := shed }
  let d := if power ≤ cap then d.wr F.PWR_STATUS_STARVED 0 else d
  let d := if d.past d.pwr.scrubbed (48 * 3600000) then d.wr F.PWR_STATUS_SCRUB_LATE 1 else d
  let d := d.recount
  let d := if cool && railsOk then
      { d.clearCause 0x09 with mode := { (d.clearCause 0x09).mode with held := d.mode.held.filter (· ≠ 0x09) } }
    else d.unclearCause 0x09
  if d.booted then d.schedule else d

/-- THERM_CAP_UPDATE (R331): once per second, by the ticks, THERM_CAP follows TJ. DESIGN CHOICE (log 130). -/
def execThermCapUpdate (s : State) : Host.Outcome State Fault Refusal :=
  s.act fun d =>
    if !d.alive || decide (d.pwr.ticks < d.pwr.thermAt + 1000) then d
    else
      let d := d.setPwr { d.pwr with thermAt := d.pwr.ticks }
      let tj := d.rdS F.PWR_MEAS_TJ
      let target : Int := 10 * (d.rd F.PWR_THERM_TJ_TARGET : Int)
      let cur := d.rd F.PWR_CAP_NOW_THERM_CAP
      let top := d.rd F.PWR_LIMITS_POWER_CAP
      let step := d.rd F.PWR_THERM_THERM_STEP
      let was := d.thermLimit
      let new := if target < tj then max (min cur top - step) (min (min cur top) d.safePower)
        else if tj < target - 50 then (if cur < top then min top (cur + step) else cur)
        else cur
      if new = cur then d
      else ((d.wr F.PWR_CAP_NOW_THERM_CAP new).pwrCount 5).thermEvent was

/-- CRITICAL_LIMIT (R332): TJ at TJ_CRIT for 10 ticks, or a rail out by 10 % for 1 ms. -/
def execCriticalLimit (rail : Bool) (s : State) : Host.Outcome State Fault Refusal :=
  s.act fun d => if d.alive && (rail || decide (10 ≤ d.pwr.hot)) then d.safeHoldCause 0x09 else d

/-! ### Battery and reserve (R330, R338) -/

/-- PWR_SRC_CHANGE (R338): the pin has held its new level for 10 ms; the caps change with the next tick. -/
def execPwrSrcChange (battery : Bool) (s : State) : Host.Outcome State Fault Refusal :=
  s.act fun d =>
    if !d.alive || d.on F.PWR_STATUS_ON_BATTERY = battery then d
    else
      let d := (d.wrBit F.PWR_STATUS_ON_BATTERY battery).deviceEvent 4 [byteOf (bit battery)]
      d.irq F.PWR_IRQ_STATUS_SOURCE_CHANGE

/-- ENERGY_RESERVE is written (R330): its age starts again. -/
def Dev.writeReserve (d : Dev) (v : Nat) : Dev :=
  let d := (d.wr F.PWR_RESERVE_ENERGY_RESERVE v).wr F.PWR_STATUS_RESERVE_STALE 0
  d.setPwr { d.pwr with written := some d.time.cycles }

/-- ENERGY_RESERVE_WRITE (R330). -/
def execEnergyReserveWrite (mwh : BitVec 24) (s : State) : Host.Outcome State Fault Refusal :=
  s.act fun d => if d.booted then d.writeReserve mwh.toNat else d

/-- RESERVE_STALE (R330): no write within RESERVE_MAX_AGE; the last valid RESERVE_CAP stays. -/
def execReserveStale (s : State) : Host.Outcome State Fault Refusal :=
  s.act fun d =>
    let old := match d.pwr.written with
      | some t => d.past t (1000 * d.rd F.PWR_AUTONOMY_RESERVE_MAX_AGE)
      | none => decide (1000 * d.rd F.PWR_AUTONOMY_RESERVE_MAX_AGE ≤ d.pwr.ticks)
    if d.booted && old && !d.on F.PWR_STATUS_RESERVE_STALE then
      (d.wr F.PWR_STATUS_RESERVE_STALE 1).objEvent 12 noUnit 0x9002 0 0
    else d

/-! ### The thermal record (R339) -/

/-- LIFE_UPDATE (R339): once an hour of ticks, the hour's mean TJ joins the mean of all powered hours since the first commissioning, which a written
configuration store shows. DESIGN CHOICE (log 129). -/
def execLifeUpdate (s : State) : Host.Outcome State Fault Refusal :=
  s.act fun d =>
    if !d.booted || decide (d.pwr.hourTicks < 3600000) then d
    else
      let mean := Config.openDiv 30 d.pwr.hourSum d.pwr.hourTicks
      let d := d.setPwr { d.pwr with hourSum := 0, hourTicks := 0 }
      if d.odp.store.isNone then d
      else
        let h := d.rd F.PWR_LIFE_HOURS_HOURS
        let sum := (if d.pwr.lifeSum = 0 then d.rdS F.PWR_LIFE_AVG_AVG * h else d.pwr.lifeSum) + mean
        let avg := Config.openDiv 29 sum (h + 1)
        let d := d.setPwr { d.pwr with lifeSum := sum }
        let d := (d.wrS F.PWR_LIFE_AVG_AVG avg).wr F.PWR_LIFE_HOURS_HOURS (h + 1)
        let d := if 950 < mean then d.wr F.PWR_HOURS_HOT_HOT (d.rd F.PWR_HOURS_HOT_HOT + 1) else d
        let d := (d.setObj 0x9020 1 0 (d.rd F.PWR_LIFE_AVG_AVG)).setObj 0x9020 2 0 (h + 1)
        let d := d.setObj 0x9020 3 0 (d.rd F.PWR_HOURS_HOT_HOT)
        if 950 < avg ∧ 8760 ≤ h + 1 ∧ !d.on F.PWR_STATUS_LIFE_WARN then
          (d.wr F.PWR_STATUS_LIFE_WARN 1).irq F.PWR_IRQ_STATUS_LIFE_WARN
        else d

end Sys2Proof.Machine
end

