-- ==== Sys2Proof/Machine/Modules.lean ====
section
/-! DEFINITION. Machine/Modules.lean: attached modules, their identity records and proposals, and the SFP cages (chapter 17). -/

namespace Sys2Proof.Machine

/-- Reading runs in every mode from step 8 of R45 on (R414). -/
def Dev.midRuns (d : Dev) : Bool := d.booted || (d.alive && decide (7 ≤ d.rd F.GCTL_BOOT_STATUS_BOOT_STEP))

/-- The state of a module row: 0 ABSENT, 1 SETTLING, 2 READING, 3 OK, 4 BAD, 5 COLLISION (R420). -/
def Dev.modState (d : Dev) (m : Nat) : Nat := d.rd (F.MID_MOD_STATUS_STATE.at [m])

/-- Move a module row; the instant of the change is kept. -/
def Dev.setModState (d : Dev) (m st : Nat) : Dev :=
  let d := d.wr (F.MID_MOD_STATUS_STATE.at [m]) st
  { d with mid := { d.mid with rows := d.mid.rows.put m { d.mid.rows.get {} m with changed := d.time.tai } } }

/-- A sticky flag of row m: INSERT_SEEN0 and its neighbours lie one bit apart. -/
def modSticky (f : Fld) (m : Nat) : Fld := { f with lo := f.lo + m }

/-- What the row has read is forgotten (R412). -/
def Dev.forgetModule (d : Dev) (m : Nat) : Dev :=
  let d := (d.wr (F.MID_MOD_STATUS_ERROR.at [m]) 0).wr (F.MID_MOD_STATUS_VERSION.at [m]) 0
  let d := (d.wr (F.MID_MOD_STATUS_CLASS.at [m]) 0).wr (F.MID_MOD_LENGTH_LENGTH.at [m]) 0
  { d with mid := { d.mid with rows := d.mid.rows.put m { d.mid.rows.get {} m with record := [] } } }

/-- MODULE_INSERT (R412): the pin has read low for 100 ms. -/
def execModuleInsert (row : Fin 8) (s : State) : Host.Outcome State Fault Refusal :=
  s.act fun d =>
    if !d.midRuns || d.modState row ≠ 0 then d
    else
      let d := d.wr F.MID_STATUS_PRESENT (setBit (d.rd F.MID_STATUS_PRESENT) row true)
      let d := (d.setModState row 1).wr (modSticky F.MID_STICKY_INSERT_SEEN0 row) 1
      d.irq F.MID_IRQ_STATUS_INSERTED row

/-- The bus and address of a row. -/
def Dev.modWhere (d : Dev) (m : Nat) : Nat × Nat := (d.rd (F.MID_MOD_CFG_BUS.at [m]), d.rd (F.MID_MOD_CFG_ADDRESS.at [m]))

/-- A row in clash (R413): another row that settles, reads or is OK names its bus and address, or a cage in use holds them. -/
def Dev.modClash (d : Dev) (m : Nat) : Bool :=
  let w := d.modWhere m
  (List.range 8).any (fun o => o ≠ m && (1 ≤ d.modState o && d.modState o ≤ 3) && d.modWhere o == w) ||
    ((w.2 = 0x50 || w.2 = 0x51) && d.on (F.NET_CFG_EN.at [w.1]))

/-- A row ends with an error. DESIGN CHOICE (log 131). -/
def Dev.modError (d : Dev) (m err st : Nat) : Dev :=
  let d := (d.wr (F.MID_MOD_STATUS_ERROR.at [m]) err).setModState m st
  let d := if st = 4 then d.wr (modSticky F.MID_STICKY_BAD_SEEN0 m) 1 else d
  d.irq F.MID_IRQ_STATUS_RECORD_BAD m [byteOf err]

/-- MODULE_SETTLE_EXPIRY (R412): 50 ms in SETTLING have passed. -/
def execModuleSettleExpiry (row : Fin 8) (s : State) : Host.Outcome State Fault Refusal :=
  s.act fun d =>
    if !d.midRuns || d.modState row ≠ 1 then d
    else if d.modClash row then d.modError row 7 5
    else (d.wr (F.MID_MOD_STATUS_ERROR.at [row]) 0).setModState row 2

/-! ### The record (R415, R416) -/

/-- The sections of a record as (type, position of the value, length); none where they do not end exactly at `stop`. -/
def omirSections (b : List Byte) (stop : Nat) : Nat → Nat → Option (List (Nat × Nat × Nat))
  | 0, _ => none
  | n + 1, i =>
    if i = stop then some []
    else
      let l := leAt b (i + 2) 2
      if stop < i + 4 + l then none
      else (omirSections b stop n (i + 4 + l)).map (fun t => (leAt b i 1, i + 4, l) :: t)

/-- The ERROR of a record, 0 where it passes: the first check of R415 that fails. DESIGN CHOICE (log 131). -/
def omirError (b : List Byte) : Nat :=
  let len := leAt b 6 2
  if leAt b 0 4 ≠ 0x4F4D4952 then 2
  else if leAt b 4 1 / 16 ≠ 1 then 3
  else if len < 24 || 2048 < len || b.length < len then 4
  else if crc32c (slice b 0 (len - 4)) ≠ leAt b (len - 4) 4 then 5
  else if (omirSections b (len - 4) 2048 16).isNone then 6
  else 0

/-- The value of the first section of a type. -/
def omirSection (b : List Byte) (kind : Nat) : Option (List Byte) :=
  match omirSections b (leAt b 6 2 - 4) 2048 16 with
  | none => none
  | some l => (l.find? (fun s => s.1 = kind)).map (fun s => slice b s.2.1 s.2.2)

/-- The entries of a section: `n` bytes each. -/
def entriesOf (n : Nat) (v : List Byte) : List (List Byte) := (List.range (v.length / n)).map (fun i => slice v (n * i) n)

/-! ### Proposals (R419) -/

/-- What a port's proposal must pass of R213 on its own, at the matrix rate and the bases last written. -/
def Dev.proposalOk (d : Dev) (p : Nat) (x : Proposal) : Bool :=
  let width := widthBits x.width
  let rx := popCount 32 x.rxMask
  let tx := popCount 32 x.txMask
  let most := if d.is96 then 16 else 32
  let chs := if d.is96 then 256 else 512
  decide (x.mode ≤ 3 ∧ x.width ≤ 2 ∧ 2 ≤ x.slots ∧ x.slots ≤ 32) &&
    (x.mode = 3 || decide (x.slots * width * d.fs ≤ 49152000)) && decide (rx ≤ most ∧ tx ≤ most) &&
    decide (d.rdB (F.APT_MAP_RX_BASE.at [p]) + rx ≤ chs ∧ d.rdB (F.APT_MAP_TX_BASE.at [p]) + tx ≤ chs) &&
    d.rd (F.CLK_MCLK_CFG_RATE.at [p / 2]) = bit d.is96 &&
    decide (widthBits (d.rdB (F.APT_CFG_WORD.at [p])) ≤ width) && (x.mode = 2 || x.slots = 2) && (x.mode ≠ 3 || decide (p < 4)) &&
    !d.isLost 6 p

/-- The proposal that a record makes for one of its ports, if it is valid. -/
def Dev.proposalOf (d : Dev) (m k : Nat) (b : List Byte) : Option Proposal :=
  let rates := match omirSection b 3 with | some v => leAt v 0 1 | none => 1
  let entry := (entriesOf 12 ((omirSection b 1).getD [])).find? (fun e => leAt e 0 1 = k)
  match entry with
  | none => none
  | some e =>
    let tx := leAt e 8 4
    let low := (bitList 32 tx).head?
    let sense := match low with
      | none => none
      | some s => ((entriesOf 4 ((omirSection b 4).getD [])).find? (fun q => leAt q 0 1 = k && leAt q 1 1 = s)).map
          (fun q => (2 * m + leAt q 2 1, leAt q 3 1))
    let x : Proposal := { module := m, mode := leAt e 1 1, slots := leAt e 2 1, width := leAt e 3 1, rxMask := leAt e 4 4,
                          txMask := tx, sense := sense }
    if bitAt rates (bit d.is96) && d.proposalOk (2 * m + k) x then some x else none

/-- The rows of ports 2m and 2m + 1 are formed from a record. -/
def Dev.formProposals (d : Dev) (m : Nat) (b : List Byte) : Dev :=
  let one := fun (t : Tbl Proposal) (k : Nat) =>
    match d.proposalOf m k b with
    | some x => t.put (2 * m + k) x
    | none => t.del (2 * m + k)
  { d with mid := { d.mid with props := one (one d.mid.props 0) 1 } }

/-- Field 8 of a proposal: the sense input as the bases and masks last written make it (R419). -/
def Dev.senseInput (d : Dev) (x : Proposal) : Nat :=
  match x.sense with
  | none => 0xFFFF
  | some (p, s) =>
    let mask := match d.mid.props.find? p with | some y => y.rxMask | none => d.rdB (F.APT_RX_MASK_MASK.at [p])
    if bitAt mask s then 1024 + d.rdB (F.APT_MAP_RX_BASE.at [p]) + popCount s (mask % 2 ^ s) else 0xFFFF

/-- ApplyProposals (R379): the VALID proposals of the mask become the buffered values of their ports, and each sense input that of
its first transmit channel's path. DESIGN CHOICE (log 175). -/
def Dev.applyProposals (d : Dev) (mask : Nat) : Dev × Status :=
  let ps := (bitList 16 mask).filter (fun p => (d.mid.props.find? p).isSome)
  if mask = 0 then (d, .range)
  else if ps.isEmpty then (d, .noObject)
  else
    (ps.foldl (fun d p =>
      match d.mid.props.find? p with
      | none => d
      | some x =>
        let sense := d.senseInput x
        let d := (d.wrB (F.APT_CFG_MODE.at [p]) x.mode).wrB (F.APT_CFG_WIDTH.at [p]) x.width
        let d := (d.wrB (F.APT_CFG_SLOTS.at [p]) x.slots).wrB (F.APT_RX_MASK_MASK.at [p]) x.rxMask
        let d := d.wrB (F.APT_TX_MASK_MASK.at [p]) x.txMask
        if sense = 0xFFFF then d else d.wrB (F.SUP_PATH_CFG_SENSE.un (1024 + d.rdB (F.APT_MAP_TX_BASE.at [p]))) sense) d, .ok)

/-! ### Reading (R412, R415) -/

/-- MODULE_RECORD_READ (R415): the read ends after `nacks` addresses without an acknowledgement, three of them ending it. -/
def execModuleRecordRead (row : Fin 8) (record : List Byte) (nacks : Fin 4) (s : State) : Host.Outcome State Fault Refusal :=
  s.act fun d =>
    if !d.midRuns || d.modState row ≠ 2 then d
    else
      let d := d.count F.MID_NACKS_COUNT nacks
      if nacks.val = 3 then d.modError row 1 4
      else
        let d := (d.wr (F.MID_MOD_STATUS_VERSION.at [row]) (leAt record 4 1)).wr (F.MID_MOD_STATUS_CLASS.at [row]) (leAt record 8 2)
        let d := d.wr (F.MID_MOD_LENGTH_LENGTH.at [row]) (leAt record 6 2)
        let d := { d with mid := { d.mid with rows := d.mid.rows.put row { d.mid.rows.get {} row with record := record.take (leAt record 6 2) } } }
        let e := omirError record
        if e ≠ 0 then d.modError row e 4
        else ((d.wr (F.MID_MOD_STATUS_ERROR.at [row]) 0).setModState row 3).formProposals row record

/-- MODULE_REMOVE (R412): the pin has read high for 100 ms. -/
def execModuleRemove (row : Fin 8) (s : State) : Host.Outcome State Fault Refusal :=
  s.act fun d =>
    if !d.midRuns || d.modState row = 0 then d
    else
      let d := d.wr F.MID_STATUS_PRESENT (setBit (d.rd F.MID_STATUS_PRESENT) row false)
      let d := (d.forgetModule row).setModState row 0
      let d := { d with mid := { d.mid with props := (d.mid.props.del (2 * row.val)).del (2 * row.val + 1) } }
      (d.wr (modSticky F.MID_STICKY_REMOVE_SEEN0 row) 1).irq F.MID_IRQ_STATUS_REMOVED row

/-- A row is read again (R412): from OK, BAD and COLLISION through SETTLING; a read that runs starts again. -/
def Dev.reread (d : Dev) (m : Nat) : Dev := if 3 ≤ d.modState m then d.setModState m 1 else d

/-- MODULE_REREAD (R412). -/
def execModuleReread (row : Fin 8) (s : State) : Host.Outcome State Fault Refusal :=
  s.act fun d => if d.midRuns then d.reread row else d

/-- The MID block applies a strobe: a new BUS or ADDRESS has its row read again. -/
def Dev.applyMid (d : Dev) (group : Nat) (vals : Tbl Nat) : Dev × Status :=
  let bad := fun (f : Fld) (v : Nat) => decide (0x100 ≤ f.off ∧ f.off < 0x180) && f.lo = 0 && decide (v < 8 ∨ 0x77 < v)
  let isBad := vals.any (fun r => match fieldOf r.1 with | some f => bad f r.2 | none => false)
  let vals : Tbl Nat := vals.filter (fun r => match fieldOf r.1 with | some f => !bad f r.2 | none => false)
  let was := (List.range 8).map d.modWhere
  let d := (d.applyVals (fun _ => false) group vals).1
  ((List.range 8).foldl (fun d m => if d.modWhere m = was.getD m (0, 0) then d else d.reread m) d, if isBad then .range else .ok)

/-! ### SFP cages (R417) -/

/-- CC_BASE of page A0h: the low byte of the sum of bytes 0 to 62 (SFF-8472). PRESUMED (log 132). -/
def sfpSumOk (b : List Byte) : Bool := (((slice b 0 63).map (·.toNat)).sum % 256) == leAt b 63 1

/-- SPEEDS from the identity bytes (R417). -/
def sfpSpeeds (b : List Byte) : Nat :=
  let at_ := fun (i : Nat) => leAt b i 1
  bit (at_ 3 / 16 ≠ 0 || decide (100 ≤ at_ 12)) + 2 * bit (decide (25 ≤ at_ 12 ∧ at_ 12 ≤ 99)) +
    4 * bit (at_ 6 % 8 ≠ 0) + 8 * bit (bitAt (at_ 6) 3)

/-- A cage's presence changed or it was read: SFP_CHANGE. -/
def Dev.sfpChange (d : Dev) (n : Nat) : Dev :=
  (d.wr (modSticky F.MID_STICKY_SFP_CHANGE_SEEN0 n) 1).irq F.MID_IRQ_STATUS_SFP_CHANGE n

/-- SFP_READ (R417): page A0h bytes 0 to 95 as read; no byte where the cage does not acknowledge. A failed checksum posts an event of its
own, which names the cage’s row of SfpModules. DESIGN CHOICE (log 209). -/
def execSfpRead (cage : Fin 4) (page : List Byte) (s : State) : Host.Outcome State Fault Refusal :=
  s.act fun d =>
    if !d.midRuns then d
    else
      let was := d.rd (F.MID_SFP_STATUS_PRESENT.at [cage])
      let en := d.on (F.NET_CFG_EN.at [cage])
      let clear := fun (d : Dev) =>
        let d := [F.MID_SFP_STATUS_PRESENT, F.MID_SFP_STATUS_CC_OK, F.MID_SFP_STATUS_DDM, F.MID_SFP_STATUS_SPEEDS, F.MID_SFP_TEMP_TEMP,
          F.MID_SFP_POWER_RX, F.MID_SFP_POWER_TX].foldl (fun d f => d.wr (f.at [cage]) 0) d
        { d with mid := { d.mid with cages := d.mid.cages.del cage } }
      if !en || page.isEmpty then
        let d := if en then d.count F.MID_NACKS_COUNT else d
        if was = 1 then (clear d).sfpChange cage else clear d
      else
        let ok := sfpSumOk page
        let d := { clear d with mid := { (clear d).mid with cages := d.mid.cages.put cage (slice page 0 96) } }
        let d := (d.wr (F.MID_SFP_STATUS_PRESENT.at [cage]) 1).wrBit (F.MID_SFP_STATUS_CC_OK.at [cage]) ok
        let d := d.wrBit (F.MID_SFP_STATUS_DDM.at [cage]) (bitAt (leAt page 92 1) 6 && !bitAt (leAt page 92 1) 2)
        let d := (d.wr (F.MID_SFP_STATUS_SPEEDS.at [cage]) (if ok then sfpSpeeds page else 0)).sfpChange cage
        if ok then d else d.objEvent 14 cage 0x9802 0 cage

/-- SFP_POLL (R417): page A2h bytes 96 to 105, read once per second where SFP_POLL_EN asks and the cage offers them. PRESUMED (log 132). -/
def execSfpPoll (cage : Fin 4) (page : List Byte) (s : State) : Host.Outcome State Fault Refusal :=
  s.act fun d =>
    if !d.midRuns || !d.on F.MID_CFG_SFP_POLL_EN || !d.on (F.MID_SFP_STATUS_DDM.at [cage]) || !d.on (F.NET_CFG_EN.at [cage]) then d
    else if page.isEmpty then d.count F.MID_NACKS_COUNT
    else
      let d := (d.wr (F.MID_SFP_TEMP_TEMP.at [cage]) (beAt page 0 2)).wr (F.MID_SFP_POWER_TX.at [cage]) (beAt page 6 2)
      d.wr (F.MID_SFP_POWER_RX.at [cage]) (beAt page 8 2)

end Sys2Proof.Machine
end

