-- ==== Sys2Proof/Machine/AlmanacTable.lean ====
section
/-! DEFINITION. Machine/AlmanacTable.lean: what a row of the Almanac holds and when it fires (R146 to R150). -/

namespace Sys2Proof.Machine

/-! ### The entry (R146) -/

/-- LAUNCH. -/
def almLaunch (b : List Byte) : Tai := ⟨leAt b 0 6, leAt b 6 4, leAt b 10 2⟩
/-- ACTION. -/
def almAction (b : List Byte) : Nat := leAt b 12 1
/-- CLASS: 0 S, 1 A, 2 T, 3 B. -/
def almClass (b : List Byte) : Nat := leAt b 13 1
/-- SCOPE: 0 LOCAL, 1 CASCADE_ALL, 2 CASCADE_RANK. -/
def almScope (b : List Byte) : Nat := leAt b 14 1
/-- FLAGS. -/
def almFlags (b : List Byte) : Nat := leAt b 15 1
/-- HOLD_CONFIRM. -/
def almHold (b : List Byte) : Bool := bitAt (almFlags b) 0
/-- MODE_MASK. DESIGN CHOICE (log 76). -/
def almModes (b : List Byte) : Nat := leAt b 16 2
/-- TARGET_RANK. -/
def almTarget (b : List Byte) : Nat := leAt b 18 2
/-- REPEAT: 0 NONE, 1 PERIOD, 2 DAILY_UTC. -/
def almRepeat (b : List Byte) : Nat := leAt b 20 1
/-- DAY_MASK. -/
def almDays (b : List Byte) : Nat := leAt b 21 1
/-- MAX_DEFER in ms. -/
def almDefer (b : List Byte) : Nat := leAt b 22 2
/-- The period in nanoseconds. -/
def almPeriod (b : List Byte) : Nat := leAt b 24 4 * 1000000000 + leAt b 28 4
/-- COUNT. -/
def almCount (b : List Byte) : Nat := leAt b 32 4
/-- UNTIL_SEC. -/
def almUntil (b : List Byte) : Nat := leAt b 36 6
/-- LEAD in ms as written. -/
def almLead (b : List Byte) : Nat := leAt b 42 2
/-- PAYLOAD. -/
def almPayload (b : List Byte) : List Byte := slice b 60 64

/-- The action is one of the audio kinds (R147). -/
def almAudio (a : Nat) : Bool := decide (3 ≤ a ∧ a ≤ 9)

/-- The class of work of an entry. -/
def almWork (b : List Byte) : WorkClass := [WorkClass.s, .a, .t].getD (almClass b) .b

/-- The effective lead in ms: LEAD, or DefaultLead where it is 0. -/
def Dev.almLeadMs (d : Dev) (b : List Byte) : Nat := if almLead b = 0 then d.rd F.ALM_CFG_DEFAULT_LEAD_MS else almLead b

/-! ### Occurrences (R150) -/

/-- The TAI second of a UTC second: in a repeated leap second the first of the two, and at a deleted one the leap itself. DESIGN CHOICE (log 64). -/
def Dev.taiOfUtc (d : Dev) (utc : Int) : Nat :=
  match d.tim.leap with
  | some l =>
    let a := utc + l.old
    if a < (l.at_ : Int) then a.toNat else (max (l.at_ : Int) (utc + l.new)).toNat
  | none => (utc + d.utcOffset).toNat

/-- The weekday of a UTC day number, Monday 0: 1970-01-01 is a Thursday. -/
def weekdayOf (day : Int) : Nat := ((day + 3) % 7).toNat

/-- The first UTC day from `day` on whose weekday is in the mask, looking `n` days ahead. -/
def dayFrom (mask : Nat) (day : Int) : Nat → Int
  | 0 => day
  | n + 1 => if bitAt mask (weekdayOf day) then day else dayFrom mask (day + 1) n

/-- The UTC second of a TAI instant, with the offset in force at it. -/
def Dev.utcOf (d : Dev) (t : Tai) : Int := (t.sec : Int) - d.offsetAt t.sec

/-- The UTC second of day of LAUNCH, with the offset in force at it. -/
def Dev.almTod (d : Dev) (b : List Byte) : Nat := (d.utcOf (almLaunch b) % 86400).toNat

/-- The DAILY_UTC occurrence at second of day `tod` on the first permitted day at or after `day`. DESIGN CHOICE (log 64). -/
def Dev.dailyFrom (d : Dev) (b : List Byte) (tod : Nat) (day : Int) : Tai :=
  ⟨d.taiOfUtc (dayFrom (almDays b) day 7 * 86400 + tod), (almLaunch b).ns, (almLaunch b).sub⟩

/-- Occurrence 0. -/
def Dev.almFirst (d : Dev) (b : List Byte) : Tai :=
  if almRepeat b = 2 then d.dailyFrom b (d.almTod b) (d.utcOf (almLaunch b) / 86400) else almLaunch b

/-- Occurrence `n` of a PERIOD repeat. -/
def almPeriodic (b : List Byte) (n : Nat) : Tai := (almLaunch b).addNs (n * almPeriod b)

/-- The occurrence after number `n` at `t`, where the repeat has one. -/
def Dev.almNext (d : Dev) (b : List Byte) (tod n : Nat) (t : Tai) : Option Tai :=
  match almRepeat b with
  | 1 => some (almPeriodic b (n + 1))
  | 2 => some (d.dailyFrom b tod (d.utcOf t / 86400 + 1))
  | _ => none

/-- The occurrence `n` places after one at `t`, for a repeat whose occurrences each follow from the one before. -/
def Dev.almNth (d : Dev) (b : List Byte) (tod : Nat) : Nat → Tai → Tai
  | 0, t => t
  | n + 1, t => Dev.almNth d b tod n ((d.almNext b tod 0 t).getD t)

/-- COUNT and UNTIL permit an occurrence after `occ` have resolved. -/
def almPermits (b : List Byte) (occ : Nat) (t : Tai) : Bool :=
  (almCount b = 0 || decide (occ < almCount b)) && (almUntil b = 0 || decide (t.sec < almUntil b))

/-! ### Rows -/

/-- A row that is not EMPTY. -/
def Dev.almRow (d : Dev) (r : Nat) : Option AlmRow := d.alm.rows.find? r

/-- Replace a row. -/
def Dev.setAlm (d : Dev) (r : Nat) (x : AlmRow) : Dev := { d with alm := { d.alm with rows := d.alm.rows.put r x } }

/-- Free a row. -/
def Dev.dropAlm (d : Dev) (r : Nat) : Dev := { d with alm := { d.alm with rows := d.alm.rows.del r } }

/-- The entry as it is read: the fields marked RO as the device keeps them, the CRC over what is shown. DESIGN CHOICE (log 76). -/
def AlmRow.shown (x : AlmRow) : List Byte :=
  let b := slice x.bytes 0 44 ++ toLE 4 x.author ++ toLE 1 x.role ++ toLE 1 x.state ++ toLE 2 x.originRank ++
    toLE 2 x.originRow ++ toLE 2 x.guard ++ toLE 4 x.occ ++ slice x.bytes 60 64
  b ++ toLE 4 (crc32c b)

/-- A row's content: MODE_MASK's default and zeros for an EMPTY one. DESIGN CHOICE (log 76). -/
def Dev.almShown (d : Dev) (r : Nat) : List Byte :=
  match d.almRow r with
  | some x => x.shown
  | none => ({ bytes := List.replicate 16 0 ++ toLE 2 0x0218, state := 0 } : AlmRow).shown

/-- The rows of the window and the objects: authored rows, and received copies. DESIGN CHOICE (log 88). -/
def Dev.almUsed (d : Dev) : Nat × Nat :=
  let c := (d.alm.rows.filter (fun r => r.2.copy)).length
  (d.alm.rows.length - c, c)

/-! ### The journal load (R149) -/

/-- An entry's launches per second as a fraction. -/
def almRate (b : List Byte) : Nat × Nat :=
  if almAction b ≠ 1 ∧ almAction b ≠ 10 then (0, 1)
  else if almRepeat b = 1 then (1000000000, max 1 (almPeriod b))
  else if almRepeat b = 2 then (7, 86400)
  else (0, 1)

/-- The sum of two fractions. -/
def addFrac (a b : Nat × Nat) : Nat × Nat := if b.1 = 0 then a else (a.1 * b.2 + b.1 * a.2, a.2 * b.2)

/-- The journal load over all entries but the one in row `skip`. DESIGN CHOICE (log 88). -/
def Dev.almLoad (d : Dev) (skip : Option Nat := none) : Nat × Nat :=
  (d.alm.rows.filter (fun r => some r.1 ≠ skip)).foldl (fun a r => addFrac a (almRate r.2.bytes)) (0, 1)

/-! ### The next occurrence (R161) -/

/-- The row whose current occurrence comes first, with its instant. -/
def Dev.almNextUp (d : Dev) : Option (Nat × Tai) :=
  d.alm.rows.foldl (fun best r =>
    match r.2.inst with
    | none => best
    | some t =>
      if r.2.state = 6 then best
      else match best with
        | none => some (r.1, t)
        | some (_, u) => if t.lt u then some (r.1, t) else best) none

end Sys2Proof.Machine
end

