-- ==== Sys2Proof/Machine/RegRead.lean ====
section
/-! DEFINITION. Machine/RegRead.lean: what a read of a register field returns (R8), for the fields that the device computes when
they are read, and what a latching read copies (R392). -/

namespace Sys2Proof.Machine

/-- The array index of an offset in a run of registers. -/
def ixOf (base stride off : Nat) : Nat := (off - base) / stride

/-- A status word masked by its enables is not zero. -/
def Dev.routed (d : Dev) (status enable : Fld) : Bool := Nat.land (d.liveWord status) (d.liveWord enable) ≠ 0

/-- A port's STICKY bits masked by its IRQ_EN. -/
def Dev.aptRouted (d : Dev) (p : Nat) : Bool := d.routed (F.APT_STICKY_STATE_CHANGE_SEEN.at [p]) (F.APT_IRQ_EN_ENABLE.at [p])

/-- A slot's STICKY bits masked by its IRQ_EN. -/
def Dev.slotRouted (d : Dev) (n : Nat) : Bool :=
  d.routed (F.REF_SLOT_STICKY_SELECT_CHANGE_SEEN.at [n]) (F.REF_SLOT_IRQ_EN_ENABLE.at [n])

/-- A map of the numbers below `n` that satisfy a test. -/
def mapOf (n : Nat) (p : Nat → Bool) : Nat := ((List.range n).map (fun i => bit (p i) * 2 ^ i)).sum

/-- The ports whose summary bit is set (R238). -/
def Dev.aptSummary (d : Dev) : Nat := mapOf 16 d.aptRouted

/-- The slots whose summary bit is set (R111). -/
def Dev.refSummary (d : Dev) : Nat := mapOf 16 d.slotRouted

/-- A block has a routed status bit set (R408); QUE and DMB have none. -/
def Dev.blockIrq (d : Dev) (b : Nat) : Bool :=
  match b with
  | 1 => d.routed F.CLK_IRQ_STATUS_ROOT_UNLOCK F.CLK_IRQ_ENABLE_ENABLE
  | 2 => d.routed F.REF_IRQ_STATUS_STEP_DONE F.REF_IRQ_ENABLE_ENABLE ||
      Nat.land d.refSummary (d.rd F.REF_IRQ_ENABLE_ENABLE) ≠ 0
  | 3 => d.routed F.TIM_IRQ_STATUS_NO_ISSUE_KEY F.TIM_IRQ_ENABLE_ENABLE
  | 4 => d.routed F.ALM_IRQ_STATUS_FAILED F.ALM_IRQ_ENABLE_ENABLE
  | 5 => (List.range 4).any (fun p => d.routed (F.NET_STICKY_LINK_CHANGE_SEEN.at [p]) (F.NET_IRQ_EN_ENABLE.at [p]))
  | 6 => d.routed F.STR_IRQ_STATUS_LOST F.STR_IRQ_ENABLE_ENABLE
  | 7 => Nat.land d.aptSummary (d.rd F.APT_IRQ_ENABLE_ENABLE) ≠ 0
  | 8 => d.routed F.MTX_IRQ_STATUS_SLICE_CHANGE F.MTX_IRQ_ENABLE_ENABLE
  | 9 => d.routed F.LIB_IRQ_STATUS_REC_CHANGE F.LIB_IRQ_ENABLE_ENABLE
  | 10 => d.routed F.SUP_IRQ_STATUS_ALARM F.SUP_IRQ_ENABLE_ENABLE
  | 11 => d.routed F.PAIR_IRQ_STATUS_TAKEOVER F.PAIR_IRQ_ENABLE_ENABLE ||
      d.routed F.PAIR_STICKY_TAKEOVER_SEEN F.PAIR_IRQ_EN_ENABLE
  | 12 => d.routed F.PWR_IRQ_STATUS_SHED F.PWR_IRQ_ENABLE_ENABLE
  | 14 => d.routed F.MID_IRQ_STATUS_INSERTED F.MID_IRQ_ENABLE_ENABLE
  | _ => false

/-- HOST_IRQ_N is asserted (R408). -/
def Dev.hostIrq (d : Dev) : Bool :=
  d.routed F.GCTL_IRQ_STATUS_MODE_CHANGE F.GCTL_IRQ_ENABLE_EVENTS ||
    (List.range 15).any (fun i => bitAt (d.rd F.GCTL_IRQ_ENABLE_BLOCK) i && d.blockIrq (i + 1))

/-- A master is frozen (R357). -/
def Dev.isFrozen (d : Dev) (master : Nat) : Bool := d.odp.frozen.any (fun f => f.master = master)

/-- Frozen ODP sessions: their master ids have bit 31 set (R356). -/
def Dev.frozenSessions (d : Dev) : Nat := (d.odp.frozen.filter (fun f => decide (2 ^ 31 ≤ f.master))).length

/-- Frozen cascade peers (R356). -/
def Dev.frozenPeers (d : Dev) : Nat := (d.odp.frozen.filter (fun f => decide (0x40000000 ≤ f.master ∧ f.master < 2 ^ 31))).length

/-! ### Values the device computes when they are read -/

/-- Fields of the global block. -/
def Dev.deriveGctl (d : Dev) (f : Fld) : Nat :=
  if f.off = 0x8 then
    (match f.lo with
     | 28 => modeCode d.mode.prev
     | 20 => d.mode.cause
     | 16 => bit d.mode.decided.isSome
     | 8 => d.mode.count
     | _ => modeCode d.mode.mode)
  else if f.off = 0x10 then d.gctlCapacity f
  else if f.off = 0x20 then mapOf 15 (fun i => d.blockIrq (i + 1))
  else if f.off = 0x1004 then mapOf 16 (fun g => d.regs.caps.any (fun c => c.group = g))
  else if f.off = 0x1008 then mapOf 16 (fun g => d.regs.held.any (fun h => h.2 = g))
  else if f.off = 0x1104 then d.regs.stamp.sec % 2 ^ 32
  else if f.off = 0x2004 then
    (match f.lo with
     | 31 => bit (d.isFrozen 1)
     | 16 => d.frozenSessions
     | _ => d.frozenPeers)
  else 0

/-- Fields of the reference block. -/
def Dev.deriveRef (d : Dev) (f : Fld) : Nat :=
  if f.off = 0x20 then unsgn 48 d.ref.word % 2 ^ 32
  else if f.off = 0x40 then
    (match f.lo with
     | 30 => bit (d.fpath = 3)
     | 29 => bit (d.tpath = 3)
     | _ => d.regime)
  else if f.off = 0xA0 then
    (match d.ref.log.getLast? with
     | some r => r.tai.sec % 2 ^ 32
     | none => 0)
  else if 0x600 ≤ f.off ∧ f.off < 0x640 then unsgn 64 (d.pulseSt (ixOf 0x604 0x10 f.off)).offset % 2 ^ 32
  else d.refSummary

/-- Fields of the time block. NO_ISSUE_KEY is read by its meaning. DESIGN CHOICE (log 196). -/
def Dev.deriveTim (d : Dev) (f : Fld) : Nat :=
  if f.off = 0 then d.time.tai.sec % 2 ^ 32
  else if f.off = 0x10 then
    (match f.lo with
     | 31 => d.rd F.REF_SEL_STATUS_TIME_VALID
     | 30 => bit (d.rd F.TIM_BOUND_NOW_BOUND = boundSat)
     | 27 => bit (d.leapIndicator ≠ 0)
     | 26 => d.rd F.REF_HO_STATUS_HO_EXPIRED
     | 25 => bit d.ntpAnswers
     | _ => bit d.ntsIssuer.isNone)
  else if f.off = 0x168 then d.tim.clients.length
  else if 0x180 ≤ f.off ∧ f.off < 0x1C0 then
    let r := ixOf 0x180 0x10 f.off
    (match f.off % 16, f.lo with
     | 0, 30 => d.ntsState r
     | 0, _ => bit (d.ntsWaits r ≠ 0)
     | 4, _ => d.obj 0x2500 1 r
     | _, _ => if d.ntsState r = 0 then 0 else ofBE ((sha256 (toBE 32 (d.obj 0x2500 2 r))).take 4))
  else d.intLat (ixOf 0x420 0x100 f.off) (f.lo = 16)

/-- Fields of the Almanac block. -/
def Dev.deriveAlm (d : Dev) (f : Fld) : Nat :=
  if f.off = 4 then (if f.lo = 19 then d.almUsed.1 else d.almUsed.2)
  else if f.off = 8 then (d.almLoad.1 * 100) / d.almLoad.2
  else match d.almNextUp with
    | some (_, t) => t.sec % 2 ^ 32
    | none => 0

/-- The word of a port's data window: four bytes of the buffer its BUF_SEL names, little-endian (R4). -/
def bufWord (m : Mem) (b w : Nat) : Nat := ofLE ((List.range 4).map (fun i => m.read (bufAddr b (4 * w + i))))

/-- The host's frames that wait on a port. -/
def Dev.hostFrames (d : Dev) (p : Nat) : Nat := ((d.port p).txq.filter (·.buffer.isSome)).length

/-- The module in a port's cage does not list the configured speed (R163); a record whose checksum fails skips the check (R417). -/
def Dev.mismatch (d : Dev) (p : Nat) : Bool :=
  d.on (F.MID_SFP_STATUS_PRESENT.at [p]) && d.on (F.MID_SFP_STATUS_CC_OK.at [p]) &&
    !bitAt (d.rd (F.MID_SFP_STATUS_SPEEDS.at [p])) (d.rd (F.NET_CFG_SPEED.at [p]))

/-- Fields of the network block. -/
def Dev.deriveNet (m : Mem) (d : Dev) (f : Fld) : Nat :=
  let p := f.off / 0x4000
  let o := f.off % 0x4000
  if 0x6800 ≤ f.off ∧ f.off < 0x7000 then bufWord m (d.rd F.MGT_BUF_SEL_SEL) (ixOf 0x6800 4 f.off)
  else if f.off = 0x401C then (d.rxFree 64).length
  else if f.off = 0x4024 then d.bufNext (d.rd F.MGT_BUF_SEL_SEL)
  else if f.off = 0x402C then 0
  else if f.off = 0x4034 then d.hostFrames 4
  else if o = 0x404 then bit (if f.lo = 25 then d.inServicePort p else d.mismatch p)
  else if 0x540 ≤ o ∧ o < 0x580 then (d.rxFree (rxKey p (ixOf 0x540 4 o))).length
  else if o = 0x1104 then d.bufNext (d.rd (F.NET_BUF_SEL_SEL.at [p]))
  else if o = 0x110C then 0
  else if o = 0x1114 then d.hostFrames p
  else if o = 0x42C then d.pauseLeft p
  else bufWord m (d.rd (F.NET_BUF_SEL_SEL.at [p])) (ixOf 0x2000 4 o)

/-- The map of slices in service or lost, the spare as bit 8. DESIGN CHOICE (log 114). -/
def sliceMap (lost : Nat → Bool) (spare : Nat × Nat) (serves : Nat → Bool) (wantLost : Bool) : Nat :=
  if wantLost then mapOf 9 lost else mapOf 9 (fun i => if i = 8 then !lost 8 && spare.1 ≠ 0 else serves i)

/-- Fields of the stream block. -/
def Dev.deriveStr (d : Dev) (f : Fld) : Nat :=
  let run := (List.range 256).filter (fun c => d.ctxState c != 0)
  let sum := fun (tx : Bool) (g : Nat → Nat) => ((run.filter (fun c => d.ctxTx c = tx)).map g).sum
  if f.off = 0 then
    (match f.lo with
     | 23 => run.length
     | 15 => (run.filter (fun c => !d.ctxTx c && d.ctxPaired c)).length
     | _ => (run.filter (fun c => d.ctxTx c && d.ctxPaired c)).length)
  else if f.off = 4 then sum (f.lo = 0) d.ctxCh
  else if f.off = 8 then sum (f.lo = 0) d.ctxRate / 1000
  else if f.off = 0xC then sliceMap (d.isLost 3) d.cap.strSpare d.strServes (f.lo = 9)
  else if 0x20 ≤ f.off ∧ f.off < 0x40 then mapOf 32 (fun i => d.ctxState (32 * ixOf 0x20 4 f.off + i) = 3)
  else if 0x40 ≤ f.off ∧ f.off < 0x60 then
    mapOf 32 (fun i => d.cf F.STR_CTX_STATUS_DEGRADED (32 * ixOf 0x40 4 f.off + i) = 1)
  else if f.lo = 25 then bit (d.cf F.STR_CTX_STATUS_G_NOW f.unit < 256)
  else bit (d.cap.strSpare.1 ≠ 0 && d.ctxRuns f.unit && d.ctxSlice f.unit = some d.cap.strSpare.2)

/-- Fields of the audio ports. -/
def Dev.deriveApt (d : Dev) (f : Fld) : Nat :=
  if f.off = 0x700 then d.aptSummary
  else if f.off = 0x708 then mapOf 16 (fun p => d.aptState p = 2)
  else if 0x760 ≤ f.off ∧ f.off < 0x780 then
    let g := ixOf 0x760 4 f.off
    bit (d.on (F.APT_GRP_CFG_STEERED.at [g]) && d.aptState (2 * g + d.rd (F.APT_GRP_CFG_STEER_PORT.at [g])) = 2)
  else
    let x := d.apo (f.off / 0x800)
    bit (d.aptState (f.off / 0x800) ≠ 0 && (decide (x.rx.g < 256) || decide (x.tx.g < 256)))

/-- Fields of the matrix. DESIGN CHOICE (log 114). -/
def Dev.deriveMtx (d : Dev) (f : Fld) : Nat :=
  let u := f.unit
  if f.off = 4 then (if f.lo = 16 then d.mtx.xps.length else d.delayedZones.length)
  else if f.off = 8 then sliceMap (d.isLost 2) d.cap.mtxSpare d.mtxServes (f.lo = 9)
  else if f.off = 0x110 then
    let spare := decide (d.cap.mtxSpare.1 ≠ 0 ∧ d.cap.mtxSpare.2 = d.rowSlice u) && (d.xp u).isSome
    (match f.lo with
     | 29 => d.rowState u
     | 28 => bit (d.rowSafe u)
     | 27 => bit spare
     | _ => if spare then 8 else d.rowSlice u)
  else if f.off = 0x114 then (match d.xp u with | some x => unsgn 32 x.gain | none => 0)
  else match f.lo with
    | 29 => (d.zoneH u).getD 0
    | 28 => bit (d.zoneH u).isSome
    | 27 => bit (d.zoneSafe u)
    | _ => bit (d.zf F.MTX_ZN_DELAY_DELAY u ≠ 0)

/-- Fields of the library. -/
def Dev.deriveLib (d : Dev) (f : Fld) : Nat :=
  let u := f.unit
  let v := d.voice u
  if f.off = 0 then
    (match f.lo with
     | 18 => (d.lib.msgs.filter (fun m => m.2.dram.isSome)).length
     | 17 => bit (d.booted && !d.lib.order.isEmpty)
     | _ => d.lib.voices.length)
  else if f.off = 4 then d.dramUsed
  else if f.off = 8 then d.nandUsed
  else if f.off = 0x104 then
    (match v with
     | none => 0
     | some x =>
       match f.lo with
       | 30 => if x.fade.isSome then 2 else 1
       | 29 => bit x.classS
       | 28 => (match x.source with | .rewind _ _ _ => 1 | .message _ => 0)
       | 25 => x.level
       | _ => x.zoneSet)
  else if f.off = 0x108 then (match v with | some x => x.msg | none => 0)
  else if f.off = 0x10C then (match v with | some x => x.pos | none => 0)
  else if f.off = 0x110 then (match v with | some x => x.start | none => 0)
  else if f.off = 0x404 then bit d.lib.recd.running
  else if f.off = 0x408 then d.lib.recd.w
  else if f.off = 0x410 then d.recOldest
  else if f.off = 0x418 then d.recP
  else match d.lib.marks.find? u with
    | none => 0
    | some k => if f.off = 0x604 then k.state else if f.off = 0x608 then k.position else k.label

/-- Fields of supervision and self-test. -/
def Dev.deriveSup (d : Dev) (f : Fld) : Nat :=
  if f.off = 4 then
    (match f.lo with
     | 24 => d.sup.corrs.length
     | 16 => (d.pathOrder.filter (fun z => d.zf F.SUP_PATH_CFG_PIN z = 1)).length
     | _ => ((List.range 1536).filter (fun z => d.zf F.SUP_PATH_CFG_EN z = 1)).length)
  else if f.off = 0x400 then
    (match f.lo with
     | 31 => bit d.sup.vigil.isSome
     | 24 => (match d.sup.testing with | some t => (testOf t.row).1 | none => 0)
     | 16 => (match d.sup.testing with | some t => (testOf t.row).2 | none => 0)
     | _ => d.sup.run)
  else if f.off = 0x408 then (match d.sup.vigil with | some v => (d.time.cycles - v.began) / 400000000 | none => 0)
  else match d.sup.results.find? f.unit with
    | none => 0
    | some r =>
      if f.off = 0x504 then (match f.lo with | 28 => r.result | 24 => r.cause | _ => r.measured)
      else if f.off = 0x508 then r.sig
      else if f.off = 0x50C then r.expect
      else r.cycles

/-- The device drives ROLE_CLAIM_N low, or the partner does (R300). -/
def Dev.claimLow (d : Dev) : Bool := d.pair.claiming || d.pins.partnerClaims

/-- Fields of the queue block (R405, R410). -/
def Dev.deriveQue (d : Dev) (f : Fld) : Nat :=
  let q := ixOf 0x100 0x20 f.off
  if f.off = 0 then mapOf 32 (fun q => !(d.que q).items.isEmpty || !(d.que q).latch.isEmpty)
  else if f.off = 4 then mapOf 32 (fun q => (d.que q).items.length = queueCap q)
  else match f.off % 0x20, f.lo with
    | 0, _ => itemSize q
    | 4, 16 => queueCap q
    | 4, _ => (d.que q).items.length
    | _, _ => 0

/-- Fields of the module block. -/
def Dev.deriveMid (d : Dev) (f : Fld) : Nat :=
  if f.off = 4 then
    (match f.lo with
     | 31 => bit ((List.range 8).any (fun m => d.modState m = 1 || d.modState m = 2))
     | 16 => mapOf 4 (fun n => d.on (F.MID_SFP_STATUS_PRESENT.at [n]))
     | 8 => mapOf 8 (fun m => d.modState m = 3)
     | _ => d.rd F.MID_STATUS_PRESENT)
  else
    let b := match d.mid.rows.find? (d.rd F.MID_REC_SEL_MODULE) with | some r => r.record | none => []
    ofLE (slice b (512 * d.rd F.MID_REC_SEL_PAGE + (f.off - 0x400)) 4)

/-- The value of a field that the device computes when it is read. -/
def Dev.derive (m : Mem) (d : Dev) (f : Fld) : Nat :=
  match f.blk with
  | 0 => d.deriveGctl f
  | 1 => bit (d.stepActive (ixOf 0x20C 0x10 f.off))
  | 2 => d.deriveRef f
  | 3 => d.deriveTim f
  | 4 => d.deriveAlm f
  | 5 => d.deriveNet m f
  | 6 => d.deriveStr f
  | 7 => d.deriveApt f
  | 8 => d.deriveMtx f
  | 9 => d.deriveLib f
  | 10 => d.deriveSup f
  | 11 => if f.off = 4 then (if f.lo = 29 then bit d.pins.pairSide else bit d.claimLow) else d.cas.children.length
  | 12 => (match f.lo with
     | 30 => bit (!d.pwr.shed.isEmpty)
     | 29 => bit d.thermLimit
     | _ => (d.pwr.shed.map ShedUnit.step).foldl max 0)
  | 13 => d.deriveQue f
  | 14 => d.deriveMid f
  | _ => 0

/-- What a read of a field returns, without its effects (R8): 0 for a write-only field, the buffered value of an RWB field, the
computed value of a field the device computes, the running value of any other. -/
def Dev.fieldNow (m : Mem) (d : Dev) (f : Fld) : Nat :=
  if f.acc = .w then 0
  else if f.der then d.derive m f % 2 ^ f.w
  else if f.acc = .b then d.rdB f
  else d.rd f

/-! ### Latching reads (R392) -/

/-- What a latching read copies, by the register's block and offset: the related fields with the values they take. DESIGN CHOICE (log 168). -/
def Dev.latches (d : Dev) (blk off unit : Nat) : List (Fld × Nat) :=
  let hi := fun (f : Fld) (v : Nat) => [(f, v / 2 ^ 32)]
  match blk with
  | 0 => if off = 0x1104 then
      [(F.SNAP_STAMP_NS_NS, d.regs.stamp.ns), (F.SNAP_STAMP_SEC_HI_SEC_HI, d.regs.stamp.sec / 2 ^ 32),
       (F.SNAP_STAMP_SEC_HI_SUB, d.regs.stamp.sub)] else []
  | 2 =>
    if off = 0x20 then hi F.REF_NCO_HI_HI (unsgn 48 d.ref.word)
    else if off = 0xA0 then
      (match d.ref.log.getLast? with
       | none => []
       | some r =>
         [(F.REF_STEP_SEC_HI_SEC_HI, r.tai.sec / 2 ^ 32), (F.REF_STEP_NS_NS, r.tai.ns),
          (F.REF_STEP_DELTA_LO_DELTA_LO, unsgn 64 r.delta % 2 ^ 32), (F.REF_STEP_DELTA_HI_DELTA_HI, unsgn 64 r.delta / 2 ^ 32),
          (F.REF_STEP_INFO_FROM, r.from_.getD 0), (F.REF_STEP_INFO_TO, r.dest), (F.REF_STEP_INFO_FROM_VALID, bit r.from_.isSome),
          (F.REF_STEP_INFO_STEP_COUNT, r.count)])
    else if 0x600 ≤ off ∧ off < 0x640 ∧ off % 0x10 = 4 then
      let p := ixOf 0x604 0x10 off
      hi (F.REF_PULSE_OFFSET_HI_HI.at [p]) (unsgn 64 (d.pulseSt p).offset)
    else []
  | 3 => if off = 0 then
      [(F.TIM_TAI_SEC_HI_SEC_HI, d.time.tai.sec / 2 ^ 32), (F.TIM_TAI_NS_NS, d.time.tai.ns), (F.TIM_TAI_SUB_SUB, d.time.tai.sub)]
      else []
  | 4 => if off = 0x10 then
      (match d.almNextUp with
       | some (r, t) => [(F.ALM_NEXT_SEC_HI_SEC_HI, t.sec / 2 ^ 32), (F.ALM_NEXT_NS_NS, t.ns), (F.ALM_NEXT_ROW_ROW, r)]
       | none => [(F.ALM_NEXT_SEC_HI_SEC_HI, 0), (F.ALM_NEXT_NS_NS, 0), (F.ALM_NEXT_ROW_ROW, 0xFFFFFFFF)])
      else []
  | 9 =>
    if off = 0x408 then hi F.LIB_REC_W_HI_HI d.lib.recd.w
    else if off = 0x410 then hi F.LIB_REC_OLDEST_HI_HI d.recOldest
    else if off = 0x608 then hi F.LIB_MK_POS_HI_HI (match d.lib.marks.find? unit with | some k => k.position | none => 0)
    else []
  | 10 => if off = 0x510 then
      hi F.SUP_ST_CYC_HI_HI (match d.sup.results.find? unit with | some r => r.cycles | none => 0) else []
  | _ => []

/-- The unit that a register window opens on. -/
def Dev.unitOf (d : Dev) (r : Reg) (off : Nat) : Nat :=
  if r.units ≤ 1 then 0
  else match selectOf r.blk off with
    | some s => d.rd s % r.units
    | none => 0

end Sys2Proof.Machine
end

