-- ==== Sys2Proof/Machine/Objects.lean ====
section
/-! DEFINITION. Machine/Objects.lean: every object of the dictionary (R368 to R380), its fields, its rights, where its values
live, and what the configuration store keeps of them (R364). -/

namespace Sys2Proof.Machine

/-! ### Fields and objects -/

/-- What a READ sees: the packet memory, the device, the session that reads. -/
structure View where
  mem : Mem
  dev : Dev
  reader : Nat

/-- Where a field's value lives: register fields joined most significant first, register words whose bytes follow each other lowest
first, a value that only the dictionary holds, or one the device computes. -/
inductive Src where
  | reg (fs : List Fld)
  | le (fs : List Fld)
  | store (index sub dflt : Nat)
  | calc (v : View → Nat)

/-- A field of an object: its bytes on the wire, its width (R369), where its value lives, whether it is RO, write-only or
signed, and whether this row lacks it. -/
structure Col where
  bytes : Nat
  bits : Nat
  src : Src
  ro : Bool := false
  key : Bool := false
  signed : Bool := false
  absent : Bool := false

/-- The forms of R368. An EXEC lists the bytes of its arguments. -/
inductive Form where
  | scalar
  | table (rows : Nat)
  | exec (args : List Nat)
  | domain (rows : Nat)
  deriving DecidableEq

/-- An object: where it is addressed, its fields by row, the least role that may READ it, and the least role that may write a field
or run it. -/
structure Obj where
  index : Nat
  sub : Nat
  form : Form
  cols : Nat → List Col
  read : Option Role
  write : Nat → Option Role

/-- The register fields behind a field of an object. -/
def Col.behind (c : Col) : List Fld := match c.src with | .reg fs | .le fs => fs | _ => []

/-- The wire size of a field of `w` bits (R369). -/
def wireOf (w : Nat) : Nat := if w ≤ 8 then 1 else if w ≤ 16 then 2 else if w ≤ 32 then 4 else 8

/-- A field that is one register field. -/
def rc (f : Fld) : Col := { bytes := wireOf f.w, bits := f.w, src := .reg [f], ro := f.acc ≠ .b && f.acc ≠ .i }

/-- The fields of a whole register, most significant first. -/
def rcs (f : Fld) (g : Fld → Fld) : List Col :=
  match findReg f.blk f.off with
  | some (r, _) => r.flds.map (fun x => rc (g x))
  | none => []

/-- A field held in two registers. -/
def pairCol (hi lo : Fld) (bytes : Nat) : Col := { bytes := bytes, bits := hi.w + lo.w, src := .reg [hi, lo], ro := hi.acc ≠ .b }

/-- Bytes held in a run of register words. -/
def bytesCol (f : Fld) (n : Nat) (g : Nat → Fld → Fld) : Col :=
  { bytes := 4 * n, bits := 32 * n, src := .le ((List.range n).map (fun i => g i f)), ro := f.acc ≠ .b }

/-- A 128-bit address held in four registers, most significant first (R210). -/
def addrCol (f : Fld) (row : Nat) : Col :=
  { bytes := 16, bits := 128, src := .reg ((List.range 4).map (fun j => (f.at [j]).un row)) }

/-- A value that only the dictionary holds. -/
def stc (index sub bytes bits : Nat) (dflt : Nat := 0) : Col := { bytes := bytes, bits := bits, src := .store index sub dflt }

/-- A computed value. -/
def cc (bytes : Nat) (v : View → Nat) : Col := { bytes := bytes, bits := 8 * bytes, src := .calc v, ro := true }

/-- A read-only field. -/
def Col.asRo (c : Col) : Col := { c with ro := true }
/-- A write-only field. -/
def Col.asKey (c : Col) : Col := { c with key := true }
/-- A signed field. -/
def Col.asSigned (c : Col) : Col := { c with signed := true }
/-- A field that this row lacks. -/
def Col.unless (c : Col) (gone : Bool) : Col := { c with absent := gone }

/-- The word of a register, each field as it reads. -/
def wordCol (f : Fld) (bytes : Nat) (g : Fld → Fld) : Col :=
  cc bytes (fun v => match findReg f.blk f.off with
    | some (r, _) => (r.flds.map (fun x => v.dev.fieldNow v.mem (g x) * 2 ^ x.lo)).sum
    | none => 0)

/-- A 64-bit dictionary counter. -/
def cntCol (f : Fld) : Col := cc 8 (fun v => v.dev.rd64 f)

/-- The counters of a run of counter registers. -/
def cnts (f : Fld) (n : Nat) (g : Nat → Fld → Fld) : List Col := (List.range n).map (fun i => cntCol (g i f))

/-- A running value whatever is buffered. -/
def liveCol (f : Fld) (bytes : Nat) : Col := cc bytes (fun v => v.dev.rd f)

/-! ### Rights -/

/-- Nobody writes. -/
def noWrite : Nat → Option Role := fun _ => none
/-- OP+. -/
def wOp : Nat → Option Role := fun _ => some .operator
/-- EN+. -/
def wEn : Nat → Option Role := fun _ => some .engineer
/-- SA. -/
def wSa : Nat → Option Role := fun _ => some .safety

/-- Every role may READ. -/
def rAll : Option Role := some .observer

/-- A scalar. -/
def sc (index sub : Nat) (c : Col) (w : Nat → Option Role := noWrite) : Obj := ⟨index, sub, .scalar, fun _ => [c], rAll, w⟩
/-- A table. -/
def tb (index rows : Nat) (cols : Nat → List Col) (w : Nat → Option Role := noWrite) : Obj :=
  ⟨index, 0, .table rows, cols, rAll, w⟩
/-- An EXEC. -/
def ex (index sub : Nat) (args : List Nat) (w : Nat → Option Role) : Obj := ⟨index, sub, .exec args, fun _ => [], none, w⟩

/-- A row number at an array register. -/
def atRow (row : Nat) (f : Fld) : Fld := f.at [row]
/-- A row number as a selected unit. -/
def unRow (row : Nat) (f : Fld) : Fld := f.un row

/-! ### The configuration store's content (R48, R364) -/

/-- The object whose record keeps a register field; none where no object persists it. -/
def fieldObject (f : Fld) : Option Nat :=
  match f.blk with
  | 1 => if f.off < 0x100 then none else if f.off < 0x200 then some 0x2301 else if f.off < 0x300 then some 0x2300
      else if f.off < 0x400 then some 0x2302 else if f.off % 0x10 = 0 then some 0x5010 else none
  | 2 =>
    if f.off = 4 then some 0x2010
    else if f.off = 8 then (if f.lo = 30 then none else if f.lo = 4 then some 0x2021 else some 0x2020)
    else if f.off < 0x20 then some 0x2011
    else if f.off < 0xC0 then some 0x2040
    else if f.off = 0xC0 then some 0x2012
    else if f.off < 0x600 then some 0x2000 else some 0x2050
  | 3 =>
    if f.off = 0x14 then (if f.lo = 31 then some 0x2402 else some 0x2400)
    else if f.off < 0x40 then some 0x2401
    else if f.off = 0x80 then some 0x2420
    else if f.off < 0x108 then some 0x2501
    else if f.off < 0x140 then some 0x2510 else some 0x2410
  | 4 => if f.off = 0 then (if f.lo = 16 then some 0x3010 else some 0x3011) else none
  | 5 =>
    if f.off < 0x400 then some 0x4010
    else if f.off = 0x4018 ∨ (0x500 ≤ f.off % 0x4000 ∧ f.off % 0x4000 < 0x600) then some 0x4003
    else if 0x600 ≤ f.off % 0x4000 ∧ f.off % 0x4000 < 0x800 then some 0x4002
    else if 0x800 ≤ f.off % 0x4000 ∧ f.off % 0x4000 < 0x1000 then some 0x4004
    else some 0x4000
  | 6 => some 0x4800
  | 7 => if f.off % 0x800 < 0x700 then some 0x5000 else some 0x5010
  | 8 => if f.off = 0 then some 0x5820 else if f.off < 0x200 then some 0x5800 else if f.off < 0x300 then some 0x5810 else some 0x5811
  | 9 => if f.off < 0x400 then some 0x6030 else if f.off = 0x400 then some 0x6012 else some 0x6011
  | 10 => if f.off = 0 then some 0x7003 else some 0x7000
  | 11 => if f.off = 0 ∧ f.lo = 31 then some 0x8000 else if f.off = 0x200 then some 0x8800 else some 0x8001
  | 12 => if f.off = 0x24 then some 0x9010 else some 0x9000
  | 14 => if 0x100 ≤ f.off then some 0x9800 else none
  | _ => none

/-- One number for a self-test result. -/
def TestResult.pack (r : TestResult) : Nat :=
  ofLE (toLE 1 r.result ++ toLE 1 r.cause ++ toLE 4 r.sig ++ toLE 4 r.expect ++ toLE 8 r.cycles ++ toLE 2 r.measured ++
    toLE 10 r.tai.nat80 ++ toLE 4 r.run)

/-- The result that a number packs. -/
def TestResult.unpack (n : Nat) : TestResult :=
  let b := toLE 34 n
  ⟨leAt b 0 1, leAt b 1 1, leAt b 2 4, leAt b 6 4, leAt b 10 8, leAt b 18 2, Tai.of80 (leAt b 20 10), leAt b 30 4⟩

/-- What the store keeps of the UTC offset in force and of an armed leap (R114, R145), and reads back: LEAP_AT, the offsets before and after it,
whether PTP armed it. -/
def Leap.pack (l : Leap) : Nat :=
  ofLE (toLE 6 l.at_ ++ toLE 2 (unsgn 16 l.old) ++ toLE 2 (unsgn 16 l.new) ++ toLE 1 (bit l.byPtp))

/-- The armed leap that a number packs. -/
def Leap.unpack (n : Nat) : Leap :=
  let b := toLE 11 n
  ⟨leAt b 0 6, sgn 16 (leAt b 6 2), sgn 16 (leAt b 8 2), leAt b 10 1 = 1, false⟩

/-- Every value the store would keep at a Commit now, with its object: buffered and other register fields (even keys), values that
only the dictionary holds (odd keys), the authored Almanac rows, and what self-test keeps. -/
def Dev.keptValues (d : Dev) : List (Nat × Nat × Nat) :=
  let ofField := fun (r : Nat × Nat) => match fieldOf r.1 with
    | some f => if r.2 = f.reset then none else (fieldObject f).map (fun i => (i, 2 * r.1, r.2))
    | none => none
  d.regs.buf.filterMap ofField ++
  ([F.ALM_CFG_GUARD_MS, F.ALM_CFG_DEFAULT_LEAD_MS, F.MTX_RATE_RATE_NEXT].map (fun f => (f.key, d.rd f))).filterMap ofField ++
  (d.odp.objs.filter (fun r => !keptInMram r.1)).map (fun r => (objIndex r.1, 2 * r.1 + 1, r.2)) ++
  (if d.utcOffset = 37 then [] else [(0x2400, 2 * objKey 0x2400 1 0 0 + 1, d.rd F.TIM_STATUS_UTC_OFFSET)]) ++
  (match d.tim.leap with
    | some l => if l.stepped then [] else [(0x2401, 2 * objKey 0x2401 1 0 0 + 1, l.pack)]
    | none => []) ++
  (d.alm.rows.filter (fun r => !r.2.copy)).map (fun r => (0x3000, 2 * objKey 0x3000 1 r.1 0 + 1, ofLE (r.2.shown ++ toLE 4 r.2.tod))) ++
  (if d.sup.run = 0 then [] else [(0x7011, 2 * objKey 0x7011 1 0 0 + 1, d.sup.run)]) ++
  d.sup.results.map (fun r => (0x7020, 2 * objKey 0x7020 1 r.1 0 + 1, r.2.pack))

/-- The records of those values, by object. -/
def Dev.recordsNow (d : Dev) : List Record :=
  (d.keptValues.foldl (fun (t : Tbl (Tbl Nat)) x => t.put x.1 ((t.get [] x.1).put x.2.1 x.2.2)) []).map
    (fun r => ⟨r.1, false, r.2⟩)

/-- The records that a Commit would write: those that differ from the store's. -/
def Dev.uncommitted (d : Dev) : List Nat :=
  let old := match d.odp.store with | some s => s.records | none => []
  let now := d.recordsNow
  let changed := (now.filter (fun r => !old.contains r)).map (·.object)
  changed ++ ((old.map (·.object)).filter (fun i => !(now.any (fun r => r.object = i))))

/-! ### Computed values -/

/-- The session in a slot. -/
def Dev.slotSession (d : Dev) (slot : Nat) : Option Session := d.odp.sessions.find? (fun s => s.id % 32 = slot)

/-- A value of the session in a slot. -/
def sessCol (bytes row : Nat) (g : Dev → Session → Nat) : Col :=
  cc bytes (fun v => match v.dev.slotSession row with | some s => g v.dev s | none => 0)

/-- A value of a row of a list. -/
def listCol {α : Type} (bytes row : Nat) (l : Dev → List α) (g : α → Nat) : Col :=
  cc bytes (fun v => match (l v.dev)[row]? with | some x => g x | none => 0)

/-- The lowest sequence number the ring still holds (R362). -/
def Journal.oldest (j : Journal) : Nat := if j.durable < 65536 then 1 else j.durable - 65535

/-- ODP's own counters (R367), by row. -/
def Dev.odpCounter (d : Dev) (i : Nat) : Nat := d.odp.counts.get 0 i
/-- Count in one of them. -/
def Dev.odpCount (d : Dev) (i : Nat) (n : Nat := 1) : Dev :=
  { d with odp := { d.odp with counts := d.odp.counts.put i ((d.odpCounter i + n) % 2 ^ 64) } }

/-- A self-test result's value. -/
def testCol (bytes row : Nat) (g : TestResult → Nat) : Col :=
  cc bytes (fun v => match v.dev.sup.results.find? row with | some r => g r | none => 0)

/-- Bytes of a cage's page A0h. -/
def cageCol (n row i : Nat) : Col := cc n (fun v => ofBE (slice (v.dev.mid.cages.get [] row) i n))

/-- A proposal's value. -/
def propCol (bytes row : Nat) (g : Dev → Proposal → Nat) : Col :=
  cc bytes (fun v => match v.dev.mid.props.find? row with | some p => g v.dev p | none => 0)

/-- A mark's value. -/
def markCol (bytes row : Nat) (g : Mark → Nat) : Col :=
  cc bytes (fun v => match v.dev.lib.marks.find? row with | some k => g k | none => 0)

/-- A string of `n` bytes, NUL-padded. -/
def stringNat (n : Nat) (cs : List Nat) : Nat := ofBE (slice (cs.map byteOf) 0 n)

/-- BootFlags (R51). -/
def Dev.bootFlags (d : Dev) : Nat :=
  bit d.pins.strapConflict + 2 * bit d.boot.essentialOver + 4 * d.rd F.GCTL_BOOT_STATUS_IMAGE_FALLBACK +
    8 * d.rd F.GCTL_BOOT_STATUS_DDR_SIZE_MISMATCH + 16 * d.rd F.GCTL_BOOT_STATUS_DDR_TRAIN_FAIL +
    256 * (min 3 (d.mode.restarts.filter (fun c => !d.past c 3600000)).length)

/-- The packets per second of the running contexts of one direction. -/
def Dev.pktRate (d : Dev) (tx : Bool) : Nat := ((d.ctxRunning.filter (fun c => d.ctxTx c = tx)).map d.ctxRate).sum

/-! ### The objects -/

/-- 0x1000 to 0x12FF (R372). DESIGN CHOICE (log 161). -/
def objsDevice : List Obj := [
  tb 0x1000 1 (fun _ => [cc 16 (fun _ => stringNat 16 [0x4F, 0x56, 0x5A, 0x2D, 0x34, 0x38, 0x34, 0x30]), cc 4 (fun _ => 0x4F564840),
    wordCol F.GCTL_REV_MAJOR 4 id, cc 16 (fun _ => ofBE (slice Config.serial 0 16)), cc 8 (fun _ => ofBE (slice Config.eui64 0 8)),
    cc 6 (fun _ => ofBE (slice Config.baseMac 0 6)), cc 4 (fun v => v.dev.boot.version), cc 4 (fun _ => Config.bootRomVersion)]),
  sc 0x1001 0 (cc 1 (fun v => modeCode v.dev.mode.mode)),
  sc 0x1002 0 { cc 1 (fun v => v.dev.mode.lastTarget) with ro := false } (fun _ => rAll),
  sc 0x1003 1 (cc 1 (fun v => v.dev.mode.cause)),
  sc 0x1003 2 (cc 1 (fun v => modeCode v.dev.mode.prev)),
  sc 0x1003 3 (cc 10 (fun v => v.dev.mode.entered.nat80)),
  sc 0x1003 4 (cc 1 (fun v => v.dev.mode.lastStatus.code)),
  sc 0x1010 1 (cc 4 (fun v => (v.dev.capCount 1).2 * 65536 + (v.dev.capCount 1).1)),
  sc 0x1010 2 (cc 4 (fun v => (v.dev.capCount 2).2 * 65536 + (v.dev.capCount 2).1)),
  sc 0x1010 3 (cc 4 (fun v => (v.dev.capCount 3).2 * 65536 + (v.dev.capCount 3).1)),
  sc 0x1010 4 (cc 4 (fun v => (v.dev.capCount 4).2 * 65536 + (v.dev.capCount 4).1)),
  sc 0x1010 5 (cc 4 (fun v => (v.dev.capCount 5).2 * 65536 + (v.dev.capCount 5).1)),
  sc 0x1010 6 (cc 4 (fun v => (v.dev.capCount 6).2 * 65536 + (v.dev.capCount 6).1)),
  sc 0x1010 7 (cc 4 (fun v => (v.dev.capCount 7).2 * 65536 + (v.dev.capCount 7).1)),
  sc 0x1010 8 (cc 4 (fun v => (v.dev.capCount 8).2 * 65536 + (v.dev.capCount 8).1)),
  sc 0x1020 1 { cc 4 (fun v => v.dev.odp.objs.get v.dev.boot.library (objKey 0x1020 1 0 0)) with ro := false } wEn,
  sc 0x1020 2 { cc 4 (fun v => v.dev.odp.objs.get v.dev.boot.recorder (objKey 0x1020 2 0 0)) with ro := false } wEn,
  sc 0x1020 3 (cc 4 (fun v => v.dev.boot.fitted)),
  sc 0x1020 4 (cc 4 (fun v => v.dev.boot.fitted - 1024 - v.dev.boot.library - v.dev.boot.recorder)),
  sc 0x1030 1 (stc 0x1030 1 2 16 5) wEn,
  sc 0x1030 2 (stc 0x1030 2 2 16 30) wEn,
  sc 0x1030 3 (stc 0x1030 3 1 1 1) wSa,
  tb 0x1031 16 (fun _ => [stc 0x1031 1 1 1, stc 0x1031 2 1 8, stc 0x1031 3 1 8, stc 0x1031 4 4 32, stc 0x1031 5 2 16, stc 0x1031 6 1 8,
    stc 0x1031 7 2 16 20]) wEn,
  sc 0x1040 1 (cc 1 (fun v => bit (v.dev.boot.slotB == some true))),
  sc 0x1040 2 (cc 4 (fun v => v.dev.boot.version)),
  sc 0x1040 3 (cc 1 (fun v => v.dev.rd F.GCTL_BOOT_STATUS_HOST_ROLE * 8 + v.dev.rd F.GCTL_BOOT_STATUS_PAIR_SIDE * 4 +
    v.dev.rd F.GCTL_BOOT_STATUS_BOOT_SEL)),
  sc 0x1040 4 (cc 4 (fun v => v.dev.boot.ms)),
  sc 0x1040 5 (cc 4 (fun v => v.dev.bootFlags)),
  sc 0x1040 6 (stc 0x1040 6 4 32) wEn,
  sc 0x1040 7 (stc 0x1040 7 4 32).asRo,
  sc 0x1041 0 (stc 0x1041 0 1 1 1) wEn,
  ex 0x1050 0 [2] wOp,
  tb 0x1100 32 (fun r => [sessCol 4 r (fun _ s => s.id), sessCol 4 r (fun _ s => s.keyId), sessCol 1 r (fun _ s => s.role.code),
    sessCol 16 r (fun _ s => ofBE (slice s.source 0 16)), sessCol 1 r (fun _ s => s.port.num), sessCol 10 r (fun _ s => s.opened.nat80),
    sessCol 8 r (fun _ s => s.highest), sessCol 1 r (fun d s => bit (d.isFrozen s.id)),
    sessCol 1 r (fun d s => (d.odp.subs.filter (fun x => x.session = s.id)).length)]),
  tb 0x1101 16 (fun _ => [stc 0x1101 1 4 32, stc 0x1101 2 1 8, (stc 0x1101 3 32 256).asKey, stc 0x1101 4 1 1]) wSa,
  tb 0x1102 1 (fun _ => [stc 0x1102 1 2 16 30, stc 0x1102 2 1 8 4, stc 0x1102 3 2 16 1000]) wSa,
  tb 0x1103 6 (fun r => [cc 8 (fun v => v.dev.odpCounter r)]),
  ex 0x1110 0 [4] wEn,
  ex 0x1111 0 [4] wSa,
  tb 0x1112 64 (fun r => [listCol 4 r (·.odp.frozen) (·.master), listCol 1 r (·.odp.frozen) (·.cause),
    listCol 10 r (·.odp.frozen) (fun f => f.at_.nat80)]),
  tb 0x1120 64 (fun r =>
    let col := fun (n : Nat) (g : Subscription → Nat) => cc n (fun v =>
      match (v.dev.odp.subs.filter (fun x => x.session = v.reader))[r]? with | some x => g x | none => 0)
    [col 4 (·.id), col 6 (fun x => (x.index * 256 + x.sub) * 2 ^ 24 + x.row), col 2 (·.count), col 2 (·.interval),
     col 1 (fun x => bit x.onChange)]),
  sc 0x1200 1 (cc 8 (fun v => v.dev.odp.journal.head)),
  sc 0x1200 2 (cc 8 (fun v => v.dev.odp.journal.oldest)),
  sc 0x1200 3 (cc 8 (fun v => v.dev.odp.journal.durable)),
  sc 0x1200 4 (cc 4 (fun v => v.dev.odp.journal.staged.length)),
  sc 0x1200 5 (cc 4 (fun v => v.dev.odp.journal.rate)),
  sc 0x1200 6 (cc 4 (fun v => v.dev.odp.journal.lost)),
  tb 0x1201 (2 ^ 24) (fun _ => [cc 64 (fun _ => 0)]),
  ex 0x1210 0 [] wEn,
  tb 0x1211 1 (fun _ => [cc 4 (fun v => match v.dev.odp.store with | some s => s.generation | none => 0),
    cc 10 (fun v => match v.dev.odp.store with | some s => s.tai.nat80 | none => 0),
    cc 4 (fun v => v.dev.uncommitted.length), cc 1 (fun v => v.dev.odp.commitStatus.code)])]

/-- A row of PhaseStepLog, the newest first. -/
def logCol (bytes row : Nat) (g : StepRec → Nat) : Col := listCol bytes row (fun d => d.ref.log.reverse) g

/-- 0x2000 to 0x23FF (R373). -/
def objsReference : List Obj := [
  tb 0x2000 16 (fun r => rcs F.REF_SLOT_CFG_EN (atRow r) ++ [rc (F.REF_SLOT_NOMINAL_NOMINAL.at [r]),
    rc (F.REF_SLOT_FREQ_LIMIT_FREQ_LIMIT.at [r]), rc (F.REF_SLOT_DRIFT_TOL_DRIFT_TOL.at [r]),
    if r < 5 then rc (F.REF_SLOT_ADV_BOUND_ADV_BOUND.at [r]) else rc (F.REF_SLOT_ADV_BOUND_RO_ADV_BOUND.at [r - 5]),
    if r < 5 then rc (F.REF_SLOT_PHASE_CORR_PHASE_CORR.at [r]) else cc 4 (fun _ => 0)]) wEn,
  tb 0x2001 16 (fun r => rcs F.REF_SLOT_STATUS_STATE (atRow r) ++ [wordCol F.REF_SLOT_STICKY_SELECT_CHANGE_SEEN 1 (atRow r),
    rc (F.REF_SLOT_MEAS_FREQ_MEAS_FREQ.at [r]), rc (F.REF_SLOT_MEAS_PHASE_MEAS_PHASE.at [r])]),
  ex 0x2002 0 [2] wEn,
  sc 0x2010 1 (cc 1 (fun v => if v.dev.fpath = 3 ∨ v.dev.fpath = 4 then 0xFF else v.dev.rd F.REF_SEL_STATUS_FREQ_SEL)),
  sc 0x2010 2 (cc 1 (fun v => if v.dev.on F.REF_SEL_STATUS_TIME_SEL_VALID then v.dev.rd F.REF_SEL_STATUS_TIME_SEL else 0xFF)),
  sc 0x2010 3 { cc 1 (fun v => if v.dev.rdB F.REF_SEL_CTL_FORCE_F_EN = 1 then v.dev.rdB F.REF_SEL_CTL_FORCE_F else 0xFF) with ro := false } wSa,
  sc 0x2010 4 { cc 1 (fun v => if v.dev.rdB F.REF_SEL_CTL_FORCE_T_EN = 1 then v.dev.rdB F.REF_SEL_CTL_FORCE_T else 0xFF) with ro := false } wSa,
  sc 0x2010 5 (rc F.REF_SEL_CTL_REVERTIVE) wEn,
  sc 0x2011 1 (rc F.REF_QUAL_CFG_QUAL_WIN) wEn,
  sc 0x2011 2 (rc F.REF_QUAL_CFG_WTR) wEn,
  sc 0x2011 3 (rc F.REF_DIS_FREQ_DIS_FREQ) wEn,
  sc 0x2011 4 (rc F.REF_DIS_TIME_DIS_TIME) wEn,
  sc 0x2011 5 (rc F.REF_STEP_LIMIT_STEP_LIMIT) wSa,
  ex 0x2011 6 [1] wEn,
  sc 0x2012 1 { cc 1 (fun v => v.dev.rdB F.REF_GNSS_CFG_LABEL * 128 + v.dev.rdB F.REF_GNSS_CFG_BAUD * 16) with ro := false } wEn,
  ⟨0x2012, 2, .scalar, fun _ => [{ cc 64 (fun _ => 0) with ro := false }], none, wEn⟩,
  sc 0x2020 0 (rc F.REF_LOOP_CFG_FBW_CODE) wEn,
  sc 0x2021 0 (rc F.REF_LOOP_CFG_TBW_CODE) wEn,
  sc 0x2022 0 (rc F.REF_LOOP_CFG_LOOP_MODE) wSa,
  sc 0x2023 0 (cc 1 (fun v => v.dev.fpath + 16 * v.dev.tpath + 64 * v.dev.rd F.REF_SEL_STATUS_TIME_VALID)),
  sc 0x2030 0 { cc 8 (fun v => unsgn 64 v.dev.ref.word) with ro := false } wEn,
  sc 0x2040 1 (rc F.REF_HO_SPEC_SPEC) wEn,
  sc 0x2040 2 (rc F.REF_HO_REMAIN_REMAIN),
  sc 0x2040 3 (rc F.REF_HO_ELAPSED_ELAPSED),
  sc 0x2040 4 (wordCol F.REF_HO_STATUS_MODEL_VALID 4 id),
  sc 0x2040 5 (rc F.REF_HO_FLOOR_UY_FLOOR_UY) wEn,
  sc 0x2040 6 (rc F.REF_HO_FLOOR_UD_FLOOR_UD) wEn,
  sc 0x2040 7 (rc F.REF_HO_Y_Y0),
  sc 0x2040 8 (rc F.REF_HO_D_D),
  sc 0x2040 9 (rc F.REF_HO_UY_UY),
  sc 0x2040 10 (rc F.REF_HO_UD_UD),
  tb 0x2050 4 (fun r => rcs F.REF_PULSE_CFG_EN (atRow r) ++ [cc 8 (fun v => unsgn 64 (v.dev.pulseSt r).offset)]) wEn,
  ex 0x2051 0 [1] wOp,
  tb 0x2060 16 (fun r => [logCol 10 r (fun x => x.tai.nat80), logCol 2 r (fun x => x.tai.sub), logCol 8 r (fun x => unsgn 64 x.delta),
    logCol 1 r (fun x => x.from_.getD 0xFF), logCol 1 r (·.dest), logCol 2 r (·.count)]),
  sc 0x2070 1 (rc (F.REF_TERM_TERM.at [0])), sc 0x2070 2 (rc (F.REF_TERM_TERM.at [1])), sc 0x2070 3 (rc (F.REF_TERM_TERM.at [2])),
  sc 0x2070 4 (rc (F.REF_TERM_TERM.at [3])), sc 0x2070 5 (rc (F.REF_TERM_TERM.at [4])),
  tb 0x2300 8 (fun r => rcs F.CLK_OUT_CFG_EN (atRow r) ++ [rc (F.CLK_OUT_DIV_DIV.at [r]), rc (F.CLK_OUT_PHASE_PHASE_OFFSET.at [r])] ++
    rcs F.CLK_OUT_STATUS_RUNNING (atRow r)) wEn,
  tb 0x2301 4 (fun r => rcs F.CLK_SYN_INT_N (atRow r) ++ [rc (F.CLK_SYN_NUM_NUM.at [r]), rc (F.CLK_SYN_DEN_DEN.at [r])] ++
    rcs F.CLK_SYN_STATUS_LOCKED (atRow r)) wEn,
  tb 0x2302 2 (fun r => rcs F.CLK_DLL_CFG_EN (atRow r) ++ rcs F.CLK_DLL_STATUS_LOCKED (atRow r) ++
    [rc (F.CLK_DLL_LOOP_LOOP_DELAY.at [r])]) wEn,
  sc 0x2310 0 (wordCol F.CLK_ROOT_STATUS_ROOT_LOCKED 4 id)]

/-- 0x2400 to 0x28FF (R374). -/
def objsTime : List Obj := [
  sc 0x2400 0 { cc 2 (fun v => v.dev.rd F.TIM_STATUS_UTC_OFFSET) with ro := false, signed := true } wSa,
  tb 0x2401 1 (fun _ => [{ cc 10 (fun v => match v.dev.tim.leap with
      | some l => l.at_ * 2 ^ 32
      | none => v.dev.rdB F.TIM_LEAP_AT_HI_HI * 2 ^ 64 + v.dev.rdB F.TIM_LEAP_AT_LO_LO * 2 ^ 32) with ro := false },
    { cc 1 (fun v => match v.dev.tim.leap with
      | some l => bit (decide (l.new < l.old))
      | none => v.dev.rdB F.TIM_LEAP_CFG_DIR) with bits := 1, ro := false }, rc F.TIM_LEAP_CFG_SOURCE, { cc 1 (fun v => v.dev.rd F.TIM_STATUS_LEAP_ARMED) with bits := 1, ro := false }]) wEn,
  sc 0x2402 0 (rc F.TIM_UTC_CFG_SRC) wSa,
  tb 0x2410 4 (fun r => rcs F.TIM_PTP_CFG_EN (atRow r) ++ [(rc (F.TIM_PTP_INTV_LOG_ANNOUNCE.at [r])).asSigned,
    (rc (F.TIM_PTP_INTV_LOG_SYNC.at [r])).asSigned, (rc (F.TIM_PTP_INTV_LOG_DELAY_REQ.at [r])).asSigned,
    rc (F.TIM_PTP_INTV_ANN_TIMEOUT.at [r]), rc (F.TIM_PTP_INTV_HOP_ALLOW.at [r]), rc (F.TIM_PTP_TX_CAL_TX_CAL.at [r]),
    rc (F.TIM_PTP_RX_CAL_RX_CAL.at [r]), rc (F.TIM_PTP_ASYM_CORR_ASYM_CORR.at [r]), rc (F.TIM_PTP_ASYM_ALLOW_ASYM_ALLOW.at [r]),
    rc (F.TIM_PTP_CAL_CAL_DONE.at [r])]) wEn,
  tb 0x2411 4 (fun r => rcs F.TIM_PTP_STATUS_PORT_STATE (atRow r) ++ [wordCol F.TIM_PTP_STICKY_STATE_CHANGE_SEEN 1 (atRow r),
    cc 10 (fun v => match (v.dev.ptp r).master with | some x => x.sender.clock * 65536 + x.sender.port | none => 0),
    rc (F.TIM_PTP_PATH_DELAY_PATH_DELAY.at [r]), rc (F.TIM_PTP_OFFSET_OFFSET.at [r])]),
  sc 0x2412 1 (stc 0x2412 1 1 8 187) wEn,
  sc 0x2412 2 (stc 0x2412 2 1 1 1) wEn,
  sc 0x2412 3 (stc 0x2412 3 1 8 64) wEn,
  sc 0x2412 4 (cc 1 (fun v => v.dev.rd F.TIM_STATUS_TIME_ROLE)),
  tb 0x2413 8 (fun _ => [stc 0x2413 1 4 32, stc 0x2413 2 1 8, (stc 0x2413 3 32 256).asKey, stc 0x2413 4 1 1, stc 0x2413 5 1 4]) wEn,
  tb 0x2414 1 (fun _ => [stc 0x2414 1 1 1, stc 0x2414 2 3 24, stc 0x2414 3 3 24]) wEn,
  sc 0x2420 0 { pairCol F.TIM_CAP_CFG_FALL F.TIM_CAP_CFG_RISE 4 with ro := false } wEn,
  tb 0x2500 4 (fun _ => [stc 0x2500 1 4 32, (stc 0x2500 2 32 256).asKey, stc 0x2500 3 1 8, stc 0x2500 4 10 80, stc 0x2500 5 10 80]) wEn,
  tb 0x2501 1 (fun _ => rcs F.TIM_NTP_CFG_EN id ++ [rc F.TIM_NTP_EF_BOUND_EF_TYPE]) wEn,
  tb 0x2502 11 (fun r => [if r = 10 then cc 8 (fun v => v.dev.tim.clients.length) else cntCol (F.TIM_NTP_COUNT_COUNT.at [r])]),
  tb 0x2510 1 (fun _ => [rc F.TIM_NTP_RATE_RATE, rc F.TIM_NTP_BURST_BURST, rc F.TIM_NTP_IDLE_CLIENT_IDLE,
    rc F.TIM_NTP_HOLDOFF_KOD_HOLDOFF, rc F.TIM_NTP_FLOOR_TS_FLOOR]) wEn,
  sc 0x2800 0 (rc F.TIM_BOUND_NOW_BOUND),
  tb 0x2801 7 (fun r => [cc 4 (fun v => v.dev.terms.getD r 0)])]

/-- A row's value of the Almanac. -/
def almCol (bytes row : Nat) (g : AlmRow → Nat) : Col := cc bytes (fun v => match v.dev.almRow row with | some x => g x | none => 0)

/-- 0x3000 to 0x30FF (R375). -/
def objsAlmanac : List Obj := [
  tb 0x3000 4096 (fun r => [{ cc 128 (fun v => ofBE (v.dev.almShown r)) with ro := false }]) wOp,
  sc 0x3010 0 (rc F.ALM_CFG_GUARD_MS) wEn,
  sc 0x3011 0 (rc F.ALM_CFG_DEFAULT_LEAD_MS) wEn,
  ex 0x3020 0 [2, 1] wOp,
  ex 0x3021 0 [2] wOp,
  tb 0x3030 4096 (fun r => [almCol 1 r (·.state), almCol 10 r (fun x => match x.inst with | some t => t.nat80 | none => 0),
    almCol 4 r (·.occ), almCol 1 r (·.result), almCol 1 r (fun x => x.status.code)]),
  tb 0x3040 8 (fun r => [cntCol (F.ALM_COUNT_COUNT.at [r])]),
  sc 0x3041 0 (rc F.ALM_JOURNAL_LOAD_LOAD)]

/-- A NetPorts field: `n` is its register field on the four ports, `m` the one on MGT where it has one. -/
def netCol (row : Nat) (n : Fld) (m : Option Fld := none) : Col :=
  if row = 4 then (match m with | some f => rc f | none => (rc n).unless true) else rc (n.at [row])

/-- A field that only MGT has. -/
def mgtCol (row : Nat) (f : Fld) : Col := (rc f).unless (decide (row < 4))

/-- 0x4000 to 0x4FFF (R376). DESIGN CHOICE (log 96). -/
def objsNet : List Obj := [
  tb 0x4000 5 (fun r => [netCol r F.NET_CFG_EN (some F.MGT_CFG_EN), netCol r F.NET_CFG_SPEED, netCol r F.NET_CFG_AN_EN,
    netCol r F.NET_CFG_PAUSE_RX_EN, netCol r F.NET_CFG_ESMC_TX_EN, netCol r F.NET_CFG_MAX_FRAME (some F.MGT_CFG_MAX_FRAME),
    if r = 4 then pairCol F.MGT_STATION_HI_HI F.MGT_STATION_LO_LO 6
    else pairCol (F.NET_STATION_HI_HI.at [r]) (F.NET_STATION_LO_LO.at [r]) 6,
    (pairCol (F.NET_SERVICE_HI_HI.at [r]) (F.NET_SERVICE_LO_LO.at [r]) 6).unless (decide (r = 4)),
    netCol r F.NET_VLAN_SVC_PCP, netCol r F.NET_VLAN_SVC_VID, netCol r F.NET_VLAN_PVID, netCol r F.NET_LATE_TOL_LATE_TOL,
    netCol r F.NET_DEFAULT_Q_QUEUE, stc 0x4000 14 4 32, stc 0x4000 15 1 8, (stc 0x4000 16 4 32).unless (decide (r = 4)),
    (stc 0x4000 17 1 8).unless (decide (r = 4)), (stc 0x4000 18 4 32).unless (decide (r = 4)), stc 0x4000 19 16 128, stc 0x4000 20 16 128,
    mgtCol r F.MGT_CFG_RGMII_ID, mgtCol r F.MGT_CFG_PHY_ADDR, mgtCol r F.MGT_CFG_PHY_POLL_EN]) wEn,
  tb 0x4001 5 (fun r => if r = 4 then [rc F.MGT_STATUS_LINK] ++ List.replicate 8 (cc 1 (fun _ => 0)) ++ [cc 2 (fun _ => 0)]
    else rcs F.NET_STATUS_LINK (atRow r) ++ [wordCol F.NET_STICKY_LINK_CHANGE_SEEN 1 (atRow r), cc 2 (fun v => v.dev.pauseLeft r)]),
  tb 0x4002 128 (fun r => rcs F.NET_FLT_A_EN (fun f => f.at [r / 32, r % 32]) ++ rcs F.NET_FLT_B_DROP (fun f => f.at [r / 32, r % 32])) wEn,
  tb 0x4003 65 (fun r =>
    if r = 64 then [rc F.MGT_RXQ0_CFG_EN, rc F.MGT_RXQ0_CFG_DEST, rc F.MGT_RXQ0_CFG_BUFS, rc F.MGT_RXQ0_FREE_FREE]
    else rcs F.NET_RXQ_CFG_EN (fun f => f.at [r / 16, r % 16]) ++ [rc (F.NET_RXQ_FREE_FREE.at [r / 16, r % 16])]) wEn,
  tb 0x4004 32 (fun r => rcs F.NET_WAKE_CTL_EN (fun f => f.at [r / 8, r % 8]) ++
    [bytesCol F.NET_WAKE_MASK_MASK 32 (fun i f => f.at [r / 8, r % 8, i])]) wEn,
  tb 0x4005 5 (fun r => if r = 4 then cnts F.MGT_COUNT_COUNT 19 (fun i f => f.at [i]) else cnts F.NET_COUNT_COUNT 19 (fun i f => f.at [r, i])),
  tb 0x4010 1 (fun _ => rcs F.NET_BYPASS_CTL_FORCE_A id ++ rcs F.NET_BYPASS_STATUS_A_ENERGISED id) wSa,
  ex 0x4011 0 [1, 1, 1, 1, 2] wEn,
  tb 0x4800 256 (fun r => rcs F.STR_CTX_CFG_EN (unRow r) ++ rcs F.STR_CTX_MAP_LINK_OFFSET (unRow r) ++ rcs F.STR_CTX_NET_PORT_A (unRow r) ++
    rcs F.STR_CTX_VLAN_PCP (unRow r) ++ rcs F.STR_CTX_UDP_UDP_B (unRow r) ++ [rc (F.STR_CTX_SPORT_SPORT.un r),
    rc (F.STR_CTX_RTP_OFFSET_RTP_OFFSET.un r), rc (F.STR_CTX_SSRC_SSRC.un r)] ++ rcs F.STR_CTX_SEQ_TIMEOUT_MS (unRow r) ++
    [addrCol F.STR_CTX_DST_A_ADDR r, addrCol F.STR_CTX_DST_B_ADDR r, addrCol F.STR_CTX_SRC_A_ADDR r, addrCol F.STR_CTX_SRC_B_ADDR r]) wOp,
  tb 0x4801 256 (fun r => rcs F.STR_CTX_STATUS_STATE (unRow r) ++ [wordCol F.STR_CTX_STICKY_LOST_SEEN 1 (unRow r),
    rc (F.STR_CTX_SSRC_A_SSRC.un r), rc (F.STR_CTX_SSRC_B_SSRC.un r), rc (F.STR_CTX_MARGIN_MIN_MARGIN.un r), rc (F.STR_CTX_TS_LAST_TS.un r)]),
  tb 0x4802 256 (fun r => cnts F.STR_CTX_COUNT_A_COUNT 8 (fun i f => (f.at [i]).un r) ++ cnts F.STR_CTX_COUNT_B_COUNT 8 (fun i f => (f.at [i]).un r) ++
    [cntCol (F.STR_CTX_CONCEAL_COUNT.un r), cntCol (F.STR_CTX_FROM_B_COUNT.un r)]),
  tb 0x4803 1 (fun _ => [rc F.STR_CH_USE_RX, rc F.STR_CH_USE_TX, cc 4 (fun v => v.dev.pktRate false), cc 4 (fun v => v.dev.pktRate true),
    rc F.STR_STATUS_RX_PAIRED, rc F.STR_STATUS_TX_PAIRED]),
  ex 0x4804 0 [1] wOp]

/-- 0x5000 to 0x67FF (R377). -/
def objsAudio : List Obj := [
  tb 0x5000 16 (fun r => rcs F.APT_CFG_EN (atRow r) ++ [rc (F.APT_RX_MASK_MASK.at [r]), rc (F.APT_TX_MASK_MASK.at [r]),
    rc (F.APT_MAP_RX_BASE.at [r]), rc (F.APT_MAP_TX_BASE.at [r]), rc (F.APT_SETTLE_SETTLE.at [r]), rc (F.APT_SS_CFG_V_TX.at [r]),
    rc (F.APT_SS_CFG_CRCC_EN.at [r]), rc (F.APT_SS_CFG_CS_RX_SLOT.at [r]), bytesCol F.APT_CS_TX_A_BYTES 6 (fun i f => f.at [r, i]),
    bytesCol F.APT_CS_TX_B_BYTES 6 (fun i f => f.at [r, i])]) wOp,
  tb 0x5001 16 (fun r => rcs F.APT_STATUS_STATE (atRow r) ++ [wordCol F.APT_STICKY_STATE_CHANGE_SEEN 2 (atRow r),
    rc (F.APT_FILL_RX_FILL.at [r]), rc (F.APT_FILL_TX_FILL.at [r]), rc (F.APT_FS_PHASE_FS_PHASE.at [r]), rc (F.APT_SHIFT_RX_SHIFT.at [r]),
    rc (F.APT_SHIFT_TX_SHIFT.at [r]), bytesCol F.APT_CS_RX_BYTES 6 (fun i f => f.at [r, i])]),
  tb 0x5002 16 (fun r => cnts F.APT_COUNT_COUNT 14 (fun i f => f.at [r, i])),
  ex 0x5003 0 [1] wOp,
  tb 0x5010 8 (fun r => rcs F.CLK_MCLK_CFG_EN (atRow r) ++ rcs F.APT_GRP_CFG_STEERED (atRow r) ++ [(rc (F.CLK_MCLK_TRIM_TRIM.at [r])).asRo] ++
    rcs F.CLK_MCLK_STATUS_LOCKED (atRow r) ++ rcs F.APT_GRP_STATUS_STEERING (atRow r)) wEn,
  tb 0x5800 32768 (fun r => [rc (F.MTX_XP_CFG_EN.un r), rc (F.MTX_XP_CFG_INPUT.un r), rc (F.MTX_XP_CFG_OUTPUT.un r), rc (F.MTX_XP_CFG_LEVEL.un r),
    rc (F.MTX_XP_CFG_CLAIM.un r), rc (F.MTX_XP_GAIN_GAIN.un r), rc (F.MTX_XP_RAMP_RAMP_MS.un r)]) wOp,
  tb 0x5801 32768 (fun r => rcs F.MTX_XP_STATUS_STATE (unRow r) ++ [rc (F.MTX_XP_GAIN_NOW_GAIN.un r)]),
  tb 0x5810 1536 (fun r => [rc (F.MTX_ZN_CFG_SAFETY_FLOOR.un r)] ++ (List.range 8).map (fun i => rc ((F.MTX_ZN_DUCK_DUCK.at [i]).un r)) ++
    [rc (F.MTX_ZN_RAMP_ATTACK_MS.un r), rc (F.MTX_ZN_RAMP_RELEASE_MS.un r), rc (F.MTX_ZN_CFG_HANG_MS.un r), rc (F.MTX_ZN_DELAY_DELAY.un r)])
    (fun n => if n = 1 then some .safety else some .engineer),
  tb 0x5811 256 (fun r => [bytesCol F.MTX_ZS_MAP_MAP 48 (fun i f => (f.at [i]).un r)]) wEn,
  tb 0x5812 1536 (fun r => rcs F.MTX_ZN_STATUS_H (unRow r) ++ (List.range 8).map (fun i => rc ((F.MTX_ZN_DNOW_D.at [i]).un r)) ++
    [cntCol (F.MTX_ZN_CLIP_CLIP.un r)]),
  sc 0x5820 0 (rc F.MTX_RATE_RATE_NEXT) wEn,
  tb 0x6000 15360 (fun r => [{ cc 64 (fun v => match v.dev.lib.msgs.find? r with | some m => ofBE m.shown | none => 0) with ro := false }]) wEn,
  ⟨0x6001, 0, .domain 15360, fun _ => [], none, wEn⟩,
  tb 0x6010 256 (fun r => [{ markCol 1 r (·.state) with ro := false }, markCol 8 r (·.position), markCol 4 r (·.label), markCol 4 r (·.session)]) wOp,
  tb 0x6011 64 (fun r => [rc (F.LIB_REC_TAP_EN.at [r]), rc (F.LIB_REC_TAP_SRC.at [r])]) wEn,
  tb 0x6012 1 (fun _ => [rc F.LIB_REC_CFG_REC_EN, cc 8 (fun v => v.dev.lib.recd.w), cc 8 (fun v => v.dev.recOldest), cc 4 (fun v => v.dev.recP)]) wEn,
  ex 0x6013 0 [1, 8, 4] wOp,
  ex 0x6014 0 [1, 1, 1, 1, 2, 4] wOp,
  ex 0x6020 0 [4, 1, 1, 2] wOp,
  ex 0x6021 0 [8] wOp,
  tb 0x6022 64 (fun r => rcs F.LIB_VC_STATUS_STATE (unRow r) ++ [rc (F.LIB_VC_MSG_MSG.un r), rc (F.LIB_VC_POS_POS.un r),
    cc 8 (fun v => match v.dev.voice r with | some x => x.start | none => 0)]),
  tb 0x6030 16 (fun r => [rc (F.LIB_TONE_CFG_EN.at [r]), rc (F.LIB_TONE_CFG_WAVE.at [r]), rc (F.LIB_TONE_F1_F1.at [r]), rc (F.LIB_TONE_F2_F2.at [r]),
    rc (F.LIB_TONE_LEVEL_LEVEL.at [r]), rc (F.LIB_TONE_CADENCE_ON_MS.at [r]), rc (F.LIB_TONE_CADENCE_OFF_MS.at [r]),
    rc (F.LIB_TONE_PERIOD_PERIOD_MS.at [r]), rc (F.LIB_TONE_CFG_EDGE_MS.at [r])])
    (fun n => if n = 1 then some .operator else some .engineer),
  tb 0x6040 6 (fun r => [cntCol (F.LIB_COUNT_COUNT.at [r])])]

/-- A path's field in the order of R274. -/
def pathFlds : List Fld := [F.SUP_PATH_CFG_EN, F.SUP_PATH_CFG_PIN, F.SUP_PATH_CFG_LAG_SEARCH, F.SUP_PATH_CFG_SENSE, F.SUP_PATH_LEVEL_PILOT_LEVEL,
  F.SUP_PATH_SHIFT_SHIFT, F.SUP_PATH_LEVEL_GATE, F.SUP_PATH_LAG_LAG_BASE, F.SUP_PATH_INT_INT_S, F.SUP_PATH_REF_GAIN_REF_GAIN,
  F.SUP_PATH_REF_GAIN_GAIN_TOL, F.SUP_PATH_REF_DELAY_REF_DELAY, F.SUP_PATH_REF_DELAY_DELAY_TOL, F.SUP_PATH_NOISE_MAX_NOISE_MAX,
  F.SUP_PATH_CFG_FAULT_COUNT]

/-- A VigilPlan field. -/
def planCol (n bytes bits : Nat) : Col := stc 0x7010 n bytes bits (planDefaults.getD (n - 1) 0)

/-- 0x7000 to 0x90FF (R378). DESIGN CHOICE (log 119). -/
def objsSupervision : List Obj := [
  tb 0x7000 1536 (fun r => pathFlds.map (fun f => rc (f.un r))) wEn,
  tb 0x7001 1536 (fun r => rcs F.SUP_PATH_STATUS_STATE (unRow r) ++ [rc (F.SUP_PATH_GAIN_GAIN.un r), rc (F.SUP_PATH_GAIN_NOISE.un r),
    rc (F.SUP_PATH_DELAY_DELAY.un r), rc (F.SUP_PATH_SNR_SNR.un r),
    cc 10 (fun v => match (v.dev.path r).result with | some t => t.nat80 | none => 0)]),
  ex 0x7002 0 [2] wEn,
  tb 0x7003 1 (fun _ => rcs F.SUP_CFG_INJECT_EN id) (fun n => if n = 3 then some .engineer else some .safety),
  tb 0x7004 5 (fun r => [cntCol (F.SUP_COUNT_COUNT.at [r])]),
  tb 0x7010 1 (fun _ => [planCol 1 2 16, planCol 2 2 16, planCol 3 1 8, planCol 4 2 16, planCol 5 2 16, planCol 6 1 8, planCol 7 1 8,
    planCol 8 2 16]) wEn,
  tb 0x7011 1 (fun _ => [cc 4 (fun v => v.dev.sup.run), cc 10 (fun v => v.dev.sup.lastEntry.nat80), cc 10 (fun v => v.dev.sup.lastEnd.nat80)] ++
    (List.range 5).map (fun i => cc 2 (fun v => v.dev.sup.lastCounts.getD i 0)) ++ [cc 1 (fun v => v.dev.sup.summary)]),
  ex 0x7012 0 [] wEn,
  tb 0x7020 77 (fun r => [testCol 1 r (·.result), testCol 1 r (·.cause), cc 1 (fun _ => (testOf r).1), cc 1 (fun _ => (testOf r).2),
    testCol 4 r (·.sig), testCol 4 r (·.expect), testCol 8 r (·.cycles), testCol 2 r (·.measured), testCol 10 r (fun x => x.tai.nat80),
    testCol 4 r (·.run)]),
  ex 0x7021 0 [1, 1] wEn,
  sc 0x8000 1 (rc F.PAIR_STATUS_ROLE),
  sc 0x8000 2 (wordCol F.PAIR_STATUS_ROLE 4 id),
  sc 0x8000 3 (rc F.PAIR_CFG_EN) wSa,
  tb 0x8001 1 (fun _ => [rc F.PAIR_CFG_EXCUSE_MS, { rc F.PAIR_RESYNC_LIMIT_LIMIT with bytes := 2, bits := 16 }, rc F.PAIR_IRM_CAL_CAL]) wEn,
  tb 0x8002 9 (fun r => [cntCol (F.PAIR_COUNT_COUNT.at [r])]),
  ex 0x8003 0 [] wEn,
  ⟨0x8004, 0, .scalar, fun _ => [(stc 0x8004 0 32 256).asKey], some .safety, wSa⟩,
  tb 0x8005 1 (fun _ => [rc F.PAIR_PARTNER_MODE, rc F.PAIR_PARTNER_VER_VER, cc 8 (fun v => v.dev.pair.head), rc F.PAIR_IRM_DELAY_DELAY,
    rc F.PAIR_IRM_OFFSET_OFFSET]),
  sc 0x8800 1 (rc F.PAIR_CAS_CFG_RANK) wEn,
  sc 0x8800 2 (cc 8 (fun v => ofBE (slice v.dev.cas.master 0 8))),
  sc 0x8800 3 (stc 0x8800 3 32 256) wEn,
  sc 0x8800 4 (rc F.PAIR_CAS_STATUS_DEPTH),
  tb 0x8801 32 (fun r => [listCol 2 r (·.cas.children) (fun c => c.2.rank), listCol 16 r (·.cas.children) (fun c => ofBE (slice c.2.address 0 16)),
    listCol 10 r (·.cas.children) (fun c => c.2.hello.nat80)]),
  ⟨0x8802, 0, .scalar, fun _ => [(stc 0x8802 0 32 256).asKey], some .safety, wSa⟩,
  tb 0x8803 3 (fun r => [cntCol (F.PAIR_CAS_COUNT_COUNT.at [r])]),
  tb 0x9000 1 (fun _ => [rc F.PWR_LIMITS_POWER_CAP, rc F.PWR_LIMITS_BAT_CAP, rc F.PWR_MARGIN_MARGIN, rc F.PWR_MARGIN_RESTORE_GAP,
    rc F.PWR_THERM_TJ_TARGET, rc F.PWR_THERM_TJ_CRIT, rc F.PWR_THERM_THERM_STEP, rc F.PWR_AUTONOMY_AUTONOMY_MIN,
    rc F.PWR_AUTONOMY_RESERVE_MAX_AGE, rc F.PWR_RESTORE_RESTORE_HOLD]) wSa,
  sc 0x9001 0 (rc F.PWR_RESERVE_ENERGY_RESERVE) wOp,
  tb 0x9002 1 (fun _ => rcs F.PWR_STATUS_ON_BATTERY id ++ [rc F.PWR_MEAS_P, rc F.PWR_MEAS_TJ, rc F.PWR_CAP_NOW_CAP, rc F.PWR_CAP_NOW_THERM_CAP,
    liveCol F.PWR_SCALE_SCALE 2]),
  tb 0x9003 12 (fun r => [liveCol (F.PWR_COEF_COEF.at [r]) 2]),
  tb 0x9010 1 (fun _ => rcs F.PWR_POLICY_B_ON_BATTERY id) wSa,
  tb 0x9020 1 (fun _ => [liveCol F.PWR_LIFE_AVG_AVG 2, rc F.PWR_LIFE_HOURS_HOURS, rc F.PWR_HOURS_HOT_HOT]),
  tb 0x9030 6 (fun r => [cntCol (F.PWR_COUNT_COUNT.at [r])])]

/-- 0x9800 to 0x98FF and the raw registers (R379, R380). -/
def objsModules : List Obj := [
  tb 0x9800 8 (fun r => [cc 1 (fun v => bit (bitAt (v.dev.rd F.MID_STATUS_PRESENT) r)), rc (F.MID_MOD_CFG_BUS.at [r]), rc (F.MID_MOD_CFG_ADDRESS.at [r]),
    rc (F.MID_MOD_STATUS_CLASS.at [r]), rc (F.MID_MOD_STATUS_VERSION.at [r]), cc 1 (fun v => bit (v.dev.modState r = 3)),
    rc (F.MID_MOD_LENGTH_LENGTH.at [r]), cc 10 (fun v => match v.dev.mid.rows.find? r with | some x => x.changed.nat80 | none => 0)]) wEn,
  tb 0x9801 128 (fun r => [cc 128 (fun v =>
    ofBE (slice (match v.dev.mid.rows.find? (r / 16) with | some x => x.record | none => []) (128 * (r % 16)) 128))]),
  tb 0x9802 4 (fun r => [rc (F.MID_SFP_STATUS_PRESENT.at [r]), cageCol 16 r 20, cageCol 16 r 40, cageCol 16 r 68,
    rc (F.MID_SFP_STATUS_SPEEDS.at [r]), rc (F.MID_SFP_TEMP_TEMP.at [r]), rc (F.MID_SFP_POWER_RX.at [r]), rc (F.MID_SFP_POWER_TX.at [r])]),
  tb 0x9803 16 (fun r => [propCol 1 r (fun _ _ => 1), propCol 1 r (fun _ p => p.module), propCol 1 r (fun _ p => p.mode), propCol 1 r (fun _ p => p.slots),
    propCol 1 r (fun _ p => p.width), propCol 4 r (fun _ p => p.rxMask), propCol 4 r (fun _ p => p.txMask), propCol 2 r (fun d p => d.senseInput p)]),
  ex 0x9804 0 [2] wEn,
  ⟨0xA000, 0, .table 4194304, fun _ => [{ cc 4 (fun _ => 0) with ro := false }], some .engineer, wEn⟩]

/-- Every object of the dictionary. -/
def objTable : List (List Obj) :=
  [objsDevice, objsReference, objsTime, objsAlmanac, objsNet, objsAudio, objsSupervision, objsModules]

/-- The objects of an index. -/
def objsAt (index : Nat) : List Obj := objTable.flatten.filter (fun o => o.index = index)

/-- The object that an index and subindex address (R348, R368): a scalar or EXEC at its own subindex, a table at any. -/
def objAt (index sub : Nat) : Option Obj :=
  (objsAt index).find? (fun o => match o.form with | .table _ => true | _ => o.sub = sub)

/-- How many rows an object has. DESIGN CHOICE (log 154). -/
def Obj.rows (o : Obj) : Nat := match o.form with | .table n => n | .domain n => n | _ => 1

/-- The fields that an address names: all of a row at subindex 0, or one; none where the subindex or row does not exist (check 3 of
R349). -/
def Obj.named (o : Obj) (sub row : Nat) : Option (List (Nat × Col)) :=
  if o.rows ≤ row then none
  else
    let all := (((o.cols row).zipIdx 1).map (fun x => (x.2, x.1))).filter (fun x => !x.2.absent)
    match o.form with
    | .table _ => if sub = 0 then some all else match all.find? (fun x => x.1 = sub) with | some x => some [x] | none => none
    | .scalar => some (all.map (fun x => (0, x.2)))
    | _ => some []

/-! ### Values on the wire (R347, R369, R370) -/

/-- A field's present value: the buffered value of a buffered field. -/
def View.colNow (v : View) (row : Nat) (c : Col) : Nat :=
  match c.src with
  | .reg fs => fs.foldl (fun a f => a * 2 ^ f.w + v.dev.fieldNow v.mem f) 0 % 2 ^ c.bits
  | .le fs => ofBE (fs.flatMap (fun f => toLE 4 (v.dev.fieldNow v.mem f)))
  | .store i s x => v.dev.odp.objs.get x (objKey i s row 0) % 2 ^ c.bits
  | .calc g => g v % 2 ^ c.bits

/-- A field as a READ returns it: a write-only field as the first four bytes of its SHA-256, four zero bytes while it was never
written. -/
def View.colRead (v : View) (row : Nat) (c : Col) : List Byte :=
  let n := v.colNow row c
  if c.key then (if n = 0 then List.replicate 4 0 else (sha256 (toBE c.bytes n)).take 4)
  else if c.signed then toBE c.bytes (unsgn (8 * c.bytes) (sgn c.bits n))
  else toBE c.bytes n

/-- A value from the wire fits the field's width. -/
def Col.fits (c : Col) (n : Nat) : Bool :=
  if c.signed then decide (-(2 ^ (c.bits - 1) : Int) ≤ sgn (8 * c.bytes) n ∧ sgn (8 * c.bytes) n < 2 ^ (c.bits - 1))
  else decide (n < 2 ^ c.bits)

/-- The value that a wire value stores. -/
def Col.take (c : Col) (n : Nat) : Nat := n % 2 ^ c.bits

/-- Cut a value into the fields it carries. -/
def cutCols : List (Nat × Col) → List Byte → List (Nat × Col × Nat)
  | [], _ => []
  | (i, c) :: cs, b => (i, c, beAt b 0 c.bytes) :: cutCols cs (b.drop c.bytes)

/-- The register fields and values that a column's value is written as. -/
def Col.fields (c : Col) (n : Nat) : List (Fld × Nat) :=
  match c.src with
  | .reg fs => (fs.foldr (fun f acc => ((f, acc.2 % 2 ^ f.w) :: acc.1, acc.2 / 2 ^ f.w)) (([] : List (Fld × Nat)), n)).1
  | .le fs => (fs.zipIdx).map (fun x => (x.1, leAt (toBE c.bytes n) (4 * x.2) 4))
  | _ => []

end Sys2Proof.Machine
end

