-- ==== Sys2Proof/Machine/DictCheck.lean ====
section
/-! DEFINITION. Machine/DictCheck.lean: the checks of R349 on a WRITE or EXEC, but for the object's own rules (check 10). -/

namespace Sys2Proof.Machine

/-- Who asks (R356): the master id, its role, where the answer goes (0 nobody, 1 the mailbox, 2 and up a session's slot, a session id of
bit 31 a proxied session), whether it is the host port, the journal flags of its entries. -/
structure Asker where
  master : Nat
  role : Role
  origin : Nat
  host : Bool := false
  flags : Nat := 0
  deriving DecidableEq, Repr

/-- The host port as a master (R353, R393): ENGINEER rights, journalled with the HOST flag. -/
def hostAsker : Asker := ⟨1, .engineer, 1, true, 16⟩

/-- A WRITE or EXEC as it is checked: the address, the value, the fields named with the values they would take (none where the length
is wrong), and those of them that the checks cover. -/
structure Request where
  index : Nat
  sub : Nat
  row : Nat
  value : List Byte
  parts : Option (List (Nat × Col × Nat))
  checked : List (Nat × Col × Nat)

/-- The bytes that named fields take. -/
def colsBytes (cs : List (Nat × Col)) : Nat := (cs.map (·.2.bytes)).sum

/-- A request is split (R370): in a whole-row write the fields that are RO or carried unchanged are not written. -/
def View.request (v : View) (o : Obj) (index sub row : Nat) (value : List Byte) : Request :=
  match o.named sub row with
  | none => ⟨index, sub, row, value, none, []⟩
  | some cs =>
    let short := decide (index = 0x2012 ∧ sub = 2)
    if value.length ≠ colsBytes cs && !(short && decide (1 ≤ value.length ∧ value.length ≤ 64)) then
      ⟨index, sub, row, value, none, []⟩
    else
      let parts := cutCols cs value
      let whole : Bool := match o.form with | .table _ => sub == 0 | _ => false
      let kept := if whole then parts.filter (fun p => !p.2.1.ro && p.2.1.take p.2.2 ≠ v.colNow row p.2.1) else parts
      ⟨index, sub, row, value, some parts, kept⟩

/-- The present value of field `n` of a row. -/
def View.fieldIs (v : View) (o : Obj) (row n : Nat) : Nat :=
  match ((o.cols row)[n - 1]?) with | some c => v.colNow row c | none => 0

/-- The value that field `n` of a row would have after the write. -/
def View.fieldWould (v : View) (o : Obj) (r : Request) (n : Nat) : Nat :=
  match r.checked.find? (fun p => p.1 = n) with | some p => p.2.1.take p.2.2 | none => v.fieldIs o r.row n

/-! ### Check 4: rights -/

/-- An object open to ENGINEER alone (R343, R376). -/
def engineerOnly (index : Nat) : Bool := index = 0xA000 || index = 0x4011

/-- A role is granted a right. -/
def grants (o : Obj) (least : Option Role) (role : Role) : Bool :=
  match least with
  | none => false
  | some l => if engineerOnly o.index then role = .engineer else role.ge l

/-- The object grants writing to no role: every field is RO, or it is an EXEC or DOMAIN (whose right is that of field 0). -/
def Obj.writable (o : Obj) (row : Nat) : Bool := ((o.cols row).any (fun c => !c.ro && !c.absent)) && (o.write 0).isSome

/-- CLASS_S (R208, R227): a field of its own right. -/
def classSField (index n : Nat) : Bool := (index = 0x4800 && n = 6) || (index = 0x5000 && n = 4)

/-- The write needs SAFETY for what the row is or would be (R247, R251, R274): a class S crosspoint, DUCK of a life-safety level, a
life-safety trigger row, the pilot of a life-safety zone. DESIGN CHOICE (log 112). -/
def View.needsSafety (v : View) (o : Obj) (r : Request) : Bool :=
  let d := v.dev
  let is := fun (n : Nat) => v.fieldIs o r.row n
  let would := fun (n : Nat) => v.fieldWould o r n
  let named := fun (n : Nat) => r.checked.any (fun p => p.1 = n)
  r.checked.any (fun p => classSField r.index p.1) ||
  (match r.index with
   | 0x5800 => d.rowSafe r.row || d.levelSafe (is 3) (is 4) || d.levelSafe (would 3) (would 4)
   | 0x5810 => (List.range 8).any (fun l => named (l + 2) &&
       (d.levelSafe r.row l || decide (is 1 ≤ l) || decide (would 1 ≤ l)))
   | 0x1031 => (d.zoneSet (is 5)).any (fun z => d.levelSafe z (is 6)) || (d.zoneSet (would 5)).any (fun z => d.levelSafe z (would 6))
   | 0x7000 => d.zoneSafe r.row && ((is 1 = 1 && would 1 = 0) || (is 4 ≠ 0xFFFF && would 4 = 0xFFFF) || is 5 ≠ would 5)
   | _ => false)

/-- Check 4 of R349 for a WRITE, but for the rights of R148 on Almanac entries. -/
def View.mayWrite (v : View) (o : Obj) (r : Request) (role : Role) : Bool :=
  let field := fun (n : Nat) => grants o (o.write n) role
  o.writable r.row &&
  (match r.parts with
   | some _ => r.checked.all (fun p => !p.2.1.ro && field p.1)
   | none => match o.named r.sub r.row with
     | some cs => if r.sub = 0 then cs.any (fun c => !c.2.ro && field c.1) else cs.all (fun c => !c.2.ro && field c.1)
     | none => false) &&
  (role = .safety || !v.needsSafety o r)

/-- The class of the entry in a row of the Almanac is S. -/
def Dev.almSafe (d : Dev) (row : Nat) : Bool := match d.almRow row with | some x => almClass x.bytes = 0 | none => false

/-- A play that an EXEC's arguments ask for (R260, R266). -/
def Dev.execPlay (d : Dev) (index : Nat) (value : List Byte) (classS : Bool) (reply : Option (Nat × Nat × Nat)) : Play :=
  if index = 0x6020 then
    ⟨.message (beAt value 0 4), beAt value 4 1, beAt value 5 1, beAt value 6 2, classS, 4, d.playDue, none, reply⟩
  else ⟨.rewind 0 (beAt value 1 1) (beAt value 6 4), beAt value 2 1, beAt value 3 1, beAt value 4 2, classS, 4, d.playDue,
    some (beAt value 0 1), reply⟩

/-- Check 4 of R349 for an EXEC. -/
def Dev.mayExec (d : Dev) (o : Obj) (value : List Byte) (role : Role) : Bool :=
  grants o (o.write 0) role &&
  (role = .safety ||
    (match o.index with
     | 0x3020 | 0x3021 => !d.almSafe (beAt value 0 2)
     | 0x6020 | 0x6014 => !d.claimRefused (d.execPlay o.index value false none)
     | 0x6021 => !((bitList 64 (beAt value 0 8)).any (fun n => match d.voice n with | some x => x.classS | none => false))
     | _ => true))

/-! ### Check 5: mode (R39, R308 and the objects' own rules) -/

/-- The mode allows a WRITE or EXEC. DESIGN CHOICE (log 136). -/
def Dev.modeAllows (d : Dev) (index sub : Nat) : Bool :=
  let m := d.mode.mode
  if m = .safeHold then index = 0x1002 || index = 0x1110 || index = 0x4004
  else
    (!m.stby || index / 256 = 0x80 || index / 256 = 0x88 || index = 0x1002) &&
    (if index = 0x1020 || index = 0x5820 || (index = 0x8000 && sub = 3) || (index = 0x8800 && (sub = 1 || sub = 3)) then
       m = .commission || m = .maintenance
     else if (index = 0x1040 && sub = 6) || index = 0x7021 then m = .maintenance
     else if index = 0x9804 then m = .commission
     else true)

/-! ### Check 6: locks (R394) -/

/-- A lock bit is set. -/
def Dev.lockBit (d : Dev) (b : Nat) : Bool := bitAt (d.rd F.LKF_LOCK_LOCK) b

/-- A field is guarded by a set lock bit. DESIGN CHOICE (log 164). -/
def Dev.fldLocked (d : Dev) (f : Fld) : Bool := match f.lk with | some b => d.lockBit b | none => false

/-- A WRITE meets a set lock. -/
def Dev.writeLocked (d : Dev) (r : Request) : Bool :=
  (r.index = 0x2010 && (r.sub = 3 || r.sub = 4) && d.lockBit 0) || (r.index = 0xA000 && d.lockBit 9) ||
  r.checked.any (fun p => match p.2.1.src with | .reg fs => fs.any d.fldLocked | _ => false)

/-- A refusal for a lock is counted and shown (R394). -/
def Dev.lockDenied (d : Dev) : Dev := (d.count F.LKF_LOCK_DENIED_COUNT).irq F.GCTL_IRQ_STATUS_LOCK_DENIED

/-! ### Check 8: ranges -/

/-- A register field's value lies outside the range of its own field description. -/
def fieldBad (f : Fld) (v : Nat) : Bool :=
  let out := fun (lo hi : Nat) => decide (v < lo ∨ hi < v)
  let s := sgn f.w v
  match f.blk with
  | 1 => clkBad f v
  | 2 =>
    refBad f v || (f.off = 0x10 && out 1 10000000) || (f.off = 0x14 && out 16 0xFFFFFFFE) ||
    (f.off = 0x44 && out 1 0xFFFFFFFE) || (f.off = 0x60 && v = 0)
  | 3 =>
    if f.off = 0x14 && f.lo = 0 then decide (255 < s.natAbs)
    else if f.off = 0x10C then v = 0
    else if f.off = 0x118 then out 0 20
    else if f.off = 0x100 && f.lo = 8 then out 4 17
    else if f.off = 0x100 && f.lo = 0 then out 3 17
    else if 0x400 ≤ f.off && f.off % 0x100 = 0 && f.lo = 16 then out 0 127
    else if 0x400 ≤ f.off && f.off % 0x100 = 0 && f.lo = 29 then out 0 2
    else if 0x400 ≤ f.off && f.off % 0x100 = 4 && f.lo = 16 then out 2 10
    else false
  | 4 => if f.off = 0 then (if f.lo = 16 then out 1 1000 else out 0 60000) else false
  | 5 =>
    let o := f.off % 0x4000
    ((o = 0x400 && f.lo = 0) || (f.off = 0x4000 && f.lo = 0)) && out 1518 9600 ||
    (o = 0x424 && out 0 1000000) || (f.off = 0 && f.lo = 0 && out 1 100) ||
    (decide (0x600 ≤ o ∧ o < 0x700) && o % 8 = 0 && f.lo = 0 && out 0 4094)
  | 6 => strBad f v
  | 7 => aptBad f v
  | 8 => mtxBad f v
  | 9 => libBad f v || (decide (0x500 ≤ f.off ∧ f.off < 0x600) && f.lo = 0 && out 0 1615 && !(decide (0x8000 ≤ v ∧ v < 0x8000 + 1536)))
  | 10 => supBad f v
  | 11 => if f.off = 0 && f.lo = 0 then out 0 10000 else if f.off = 0x10 then out 10 3600 else false
  | 12 => pwrBad f v
  | 14 => f.off % 0x10 = 0 && 0x100 ≤ f.off && f.off < 0x180 && f.lo = 0 && out 8 0x77
  | _ => false

/-- A frequency slot that can be forced (R79, R112). DEDUCED (log 45). -/
def freqForce (n : Nat) : Bool := n < 4 || (5 ≤ n && n < 10) || n = 14 || n = 15 || n = 0xFF
/-- A time slot that can be forced (R79, R112). -/
def timeForce (n : Nat) : Bool := n < 5 || (10 ≤ n && n < 15) || n = 0xFF

/-- A TAI80 whose nanoseconds are below 10⁹ (R6). -/
def tai80Ok (n : Nat) : Bool := decide (n % 2 ^ 32 < 1000000000)

/-- Another row of a key table holds the same KEY_ID and is in use. -/
def Dev.keyIdTaken (d : Dev) (index rows row id : Nat) (inUse : Nat → Bool) : Bool :=
  (List.range rows).any (fun r => r ≠ row && inUse r && d.obj index 1 r = id)

/-- PtpAuthKeys (R127, R374): a row with a KEY_ID, SPP or key counts as held; a write may give no instance two transmit rows. -/
def Dev.ptpKeyClash (d : Dev) (row tx instances : Nat) : Bool :=
  tx = 1 && (List.range 8).any (fun r => r ≠ row && d.obj 0x2413 4 r = 1 && Nat.land (d.obj 0x2413 5 r) instances ≠ 0)

/-- A log interval that a write names lies outside every value that its port's profile allows (R120): Announce, Sync, and Delay_Req from the
lowest Sync to the highest plus 5. -/
def ptpIntervalBad (profile : Nat) (wrote : Nat → Option Int) : Bool :=
  let out := fun (n : Nat) (lo hi : Int) => match wrote n with | some x => decide (x < lo ∨ hi < x) | none => false
  let sync : Int × Int := match profile with | 0 => (-1, 1) | 1 => (-4, 1) | _ => (-7, -1)
  out 11 (if profile = 2 then -3 else 0) (if profile = 2 then 1 else 4) || out 12 sync.1 sync.2 || out 13 sync.1 (sync.2 + 5)

/-- A value that only the dictionary holds lies outside its range (R26, R47, R58, R114, R120, R127, R137, R143, R145, R288, R322, R343, R367). -/
def View.storeBad (v : View) (o : Obj) (r : Request) : Bool :=
  let d := v.dev
  let would := fun (n : Nat) => v.fieldWould o r n
  let one := match r.checked with | p :: _ => p.2.1.take p.2.2 | [] => 0
  let out := fun (x lo hi : Nat) => decide (x < lo ∨ hi < x)
  let named := fun (n : Nat) => r.checked.any (fun p => p.1 = n)
  match r.index with
  | 0x1020 =>
    let other := d.odp.objs.get (if r.sub = 1 then d.boot.recorder else d.boot.library) (objKey 0x1020 (3 - r.sub) 0 0)
    out one 0 (if r.sub = 1 then 4096 else 2048) || one % 64 ≠ 0 || decide (d.boot.fitted < 1024 + 256 + other + one)
  | 0x1030 => if r.sub = 1 then out one 1 60 else if r.sub = 2 then out one 0 3600 else false
  | 0x1031 => out (would 2) 0 1 || out (would 3) 0 2 || out (would 5) 0 255 || out (would 6) 0 7 || out (would 7) 1 1000
  | 0x1040 => decide (one < d.obj 0x1040 6 0) || decide (d.boot.version < one)
  | 0x1101 => out (would 2) 0 3 || ((named 1 || named 4) && would 4 = 1 && d.keyIdTaken 0x1101 16 r.row (would 1) (fun q => d.obj 0x1101 4 q = 1))
  | 0x1102 => out (would 1) 10 3600 || out (would 2) 1 16 || out (would 3) 10 10000
  | 0x2010 => if r.sub = 3 then !freqForce one else if r.sub = 4 then !timeForce one else false
  | 0x2012 => r.sub = 1 && (one % 16 ≠ 0 || out (one / 16 % 8) 0 5)
  | 0x2021 => decide (d.rdB F.REF_LOOP_CFG_FBW_CODE < one)
  | 0x2030 => decide (ncoLimit < sgn 64 one ∨ sgn 64 one < -ncoLimit)
  | 0x2302 => Nat.land (would 3) (d.rdB (F.CLK_DLL_CFG_SET.at [1 - r.row])) ≠ 0
  | 0x2400 => decide (255 < (sgn 16 one).natAbs)
  | 0x2401 => !tai80Ok (would 1) || would 1 % 2 ^ 32 ≠ 0 || out (would 2) 0 1
  | 0x2410 => ptpIntervalBad (would 2) (fun n => if named n then some (sgn 4 (would n)) else none)
  | 0x2412 => if r.sub = 1 then one ≠ 52 && one ≠ 187 else if r.sub = 3 then out one 0 127 else false
  | 0x2413 => d.ptpKeyClash r.row (would 4) (would 5)
  | 0x2500 => out (would 3) 0 2 || !tai80Ok (would 4) || !tai80Ok (would 5) ||
      (would 3 ≠ 0 && d.keyIdTaken 0x2500 4 r.row (would 1) (fun q => d.ntsState q ≠ 0)) ||
      (would 3 = 2 && (named 3 || named 4) && (List.range 4).any (fun q => q ≠ r.row && d.ntsWaits q ≠ 0))
  | 0x3011 => decide (one < d.rd F.ALM_CFG_GUARD_MS + 8)
  | 0x4000 => (named 15 && out (would 15) 0 32) || (named 17 && out (would 17) 0 32)
  | 0x6010 => one ≠ 0
  | 0x7010 => out (would 2) 10 480 || out (would 3) 0 31 || out (would 5) 10 10000 || out (would 6) 1 32 || out (would 7) 0 20 || out (would 8) 5 120
  | 0x8800 => r.sub = 3 && d.cas.children.any (fun c => decide (d.rd F.PAIR_CAS_CFG_RANK ≤ c.2.rank) &&
      (c.2.address = slice r.value 0 16 || c.2.address = slice r.value 16 16))
  | _ => false

/-- Check 8 of R349 for a WRITE. Each check runs over all fields before the next one does. DEDUCED (log 207). -/
def View.writeBad (v : View) (o : Obj) (r : Request) : Bool :=
  r.checked.any (fun p => !p.2.1.fits p.2.2 || (p.2.1.fields (p.2.1.take p.2.2)).any (fun x => fieldBad x.1 x.2)) || v.storeBad o r

/-- A master id of R356: the device, the host port, a cascade peer, a session. -/
def masterId (n : Nat) : Bool := decide (n < 2 ∨ (0x40000000 ≤ n ∧ n < 0x4000FFFF) ∨ 2 ^ 31 ≤ n)

/-- Check 8 of R349 for an EXEC. -/
def execBad (index sub : Nat) (value : List Byte) (master : Nat) : Bool :=
  let arg := fun (i n : Nat) => beAt value i n
  match index with
  | 0x1050 | 0x2002 | 0x9804 => arg 0 2 = 0
  | 0x1110 => !masterId (arg 0 4)
  | 0x1111 => !masterId (arg 0 4) || arg 0 4 = 0 || arg 0 4 = master
  | 0x2011 => sub = 6 && !(arg 0 1 < 5 || (10 ≤ arg 0 1 && arg 0 1 < 15))
  | 0x2051 => 16 ≤ arg 0 1
  | 0x3020 => 4096 ≤ arg 0 2 || 2 ≤ arg 2 1
  | 0x3021 => 4096 ≤ arg 0 2
  | 0x4011 => (arg 0 1 ≠ 22 && arg 0 1 ≠ 45) || 4 ≤ arg 1 1 || 32 ≤ arg 2 1 || 32 ≤ arg 3 1
  | 0x5003 => 16 ≤ arg 0 1
  | 0x6014 => 64 ≤ arg 1 1
  | 0x7002 => 1536 ≤ arg 0 2
  | 0x7021 => (testRow (arg 0 1) (arg 1 1)).isNone
  | _ => false

/-! ### Check 9: room in the journal (R361) -/

/-- A command finds room in the staging region. -/
def Dev.journalRoom (d : Dev) : Bool := decide (d.odp.journal.staged.length < stagingCmd)

end Sys2Proof.Machine
end

