-- ==== Sys2Proof/Machine/ModeReq.lean ====
section
/-! DEFINITION. Machine/ModeReq.lean: how a mode request is judged (R55). -/

namespace Sys2Proof.Machine

/-- A pair is configured (R300). -/
def Dev.paired (d : Dev) : Bool := d.on F.PAIR_CFG_EN

/-- The partner is in MARIONETTE, as its heartbeats show. -/
def Dev.partnerMarionette (d : Dev) : Bool := d.paired && d.rd F.PAIR_PARTNER_MODE = 5

/-- The partner is ACTIVE, as its heartbeats show. -/
def Dev.partnerActive (d : Dev) : Bool := d.paired && d.rd F.PAIR_PARTNER_MODE = 4

/-- The objects that can configure class S work, or a path it depends on (R48). -/
def classSObjects : List Nat :=
  [0x1031, 0x3000, 0x4000, 0x4800, 0x5000, 0x5010, 0x5800, 0x5810, 0x5811, 0x5820, 0x6030, 0x7000]

/-- What the store makes of the mode decision (R48): 3 absent, 4 invalid, 5 valid. -/
def Dev.configCode (d : Dev) : Nat :=
  match d.odp.store with
  | none => 3
  | some s => if !s.headerOk || s.records.any (fun r => r.bad && classSObjects.contains r.object) then 4 else 5

/-- A committed valid configuration exists (R55). -/
def Dev.configOk (d : Dev) : Bool := d.configCode = 5

/-- A class S zone is sounding: a life-safety level of some zone is active. -/
def Dev.classSSounds (d : Dev) : Bool :=
  (List.range 1536).any (fun z => (List.range 8).any (fun l =>
    d.levelSafe z l && bitAt (d.zf F.MTX_ZN_STATUS_ACTIVE z) l))

/-- The mode of entry of a unit in LANTERN or VIGIL, or the mode itself. -/
def Dev.entryMode (d : Dev) : Mode := d.roleMode

/-- The least role for a target in the present mode. -/
def Dev.leastRole (d : Dev) (target : Mode) : Role :=
  match target with
  | .reset => if d.mode.mode = .active && !d.partnerMarionette then .safety else .engineer
  | .solo | .active | .marionette => .operator
  | .safeHold => .safety
  | _ => .engineer

/-- The target is accepted from the present mode (R55, test 6). -/
def Dev.targetFits (d : Dev) (target : Mode) : Bool :=
  let m := d.mode.mode
  let e := d.entryMode
  let away := m = .lantern || m = .vigil
  match target with
  | .reset | .safeHold => true
  | .commission => m = .solo || m = .active || m = .maintenance || (away && (e = .solo || e = .active))
  | .solo => ((m = .commission || m = .maintenance) && !d.paired) || (m = .lantern && e = .solo && !d.island.islanded)
  | .active => ((m = .commission || m = .maintenance) && d.paired) || (m = .marionette && d.partnerActive) ||
      (m = .lantern && e = .active && !d.island.islanded)
  | .marionette => m = .active && d.partnerMarionette
  | .lantern => m = .solo || m = .active
  | .vigil => m = .solo || m = .active || m = .marionette
  | .maintenance => m = .commission || m = .solo || m = .marionette || m = .estranged || m = .safeHold ||
      (m = .active && d.partnerMarionette) ||
      (away && (e = .solo || e = .marionette || e = .estranged || (e = .active && d.partnerMarionette)))
  | _ => false

/-- A mode that can be requested. -/
def requestable : Nat → Option Mode
  | 0 => some .reset | 2 => some .commission | 3 => some .solo | 4 => some .active | 5 => some .marionette | 8 => some .lantern
  | 9 => some .vigil | 10 => some .maintenance | 11 => some .safeHold | _ => none

/-- A request's place in the list of R40: one for RESET and one for SAFE_HOLD stand there as such causes. -/
def requestRank (t : Mode) : Nat := causeRank t 0x02

/-- The tests of R55 in order. Test 4 leaves a decision of the same control cycle by another kind of cause to test 9. -/
def Dev.judgeRequest (d : Dev) (value : Nat) (role : Role) : Status :=
  match requestable (value % 16) with
  | none => .range
  | some t =>
    let force := bitAt value 7
    if force && role != .safety then .accessDenied
    else if !role.ge (d.leastRole t) then .accessDenied
    else if d.mode.decided.isSome && !(d.mode.decidedAt = d.controlCycle && d.mode.decidedRank ≠ requestRank t) then .busy
    else if t = d.mode.mode then .ok
    else if !d.targetFits t then .mode
    else if (t = .solo || t = .active) && !d.configOk then .mode
    else if (t = .commission || t = .maintenance) && d.mode.mode.svc && d.classSSounds && !force then .busy
    else if !d.yields (requestRank t) then .mode
    else .ok

/-- Ask the next token to carry a flag (R305). -/
def Dev.tokenFlag (d : Dev) (bitNo : Nat) : Dev :=
  { d with pair := { d.pair with flags := setBit d.pair.flags bitNo true } }

/-- The active gives its role away at the next token boundary, and then enters MAINTENANCE where that was asked. DESIGN CHOICE (log 29). -/
def Dev.handOver (d : Dev) (flagBit cause master : Nat) (maintenance : Bool) : Dev :=
  let d := (d.arises .marionette cause master).tokenFlag flagBit
  { d with pair := { d.pair with thenMaintenance := if maintenance then some master else none } }

/-- An accepted request starts its transition (R41). DESIGN CHOICE (log 22, 29, 140). -/
def Dev.startRequest (d : Dev) (t : Mode) (master : Nat) : Dev :=
  let m := d.mode.mode
  let d := if m = .vigil && (t = .commission || t = .maintenance) then d.endVigil (some (3, 10)) false else d
  match t with
  | .active =>
    if m = .marionette then d.emit (.irmon 4 (toBE 2 0x1002 ++ [4]))
    else if m = .lantern then d.arises .active 0x0B master 6
    else d.arises .active 0x15 master
  | .solo => d.arises .solo (if m = .lantern then 0x0B else 0x02) master 6
  | .marionette => d.handOver 0 0x14 master false
  | .maintenance => if d.entryMode = .active && m != .safeHold then d.handOver 0 0x14 master true else d.arises .maintenance 0x02 master
  | .vigil => d.arises .vigil 0x0F master 6
  | .lantern =>
    { d.arises .lantern 0x02 master with island := { d.island with byRequest := true, clearAt := some d.time.cycles } }
  | _ => d.arises t 0x02 master

/-- A mode request is judged, and an accepted one starts its transition (R55). -/
def Dev.modeRequest (d : Dev) (value : Nat) (role : Role) (master : Nat) : Dev × Status :=
  let st := d.judgeRequest value role
  let d := match requestable (value % 16) with
    | some t => if st = Status.ok && t ≠ d.mode.mode then d.startRequest t master else d
    | none => d
  ({ d with mode := { d.mode with lastStatus := st, lastTarget := if st = Status.ok then value % 16 else d.mode.lastTarget } }, st)

end Sys2Proof.Machine
end

