-- ==== Sys2Proof/Machine/Almanac.lean ====
section
/-! DEFINITION. Machine/Almanac.lean: writing, staging, confirming, cancelling and resolving Almanac entries (R148 to R156, R160),
and the cascade messages they send (R323, R354). -/

namespace Sys2Proof.Machine

/-! ### Datagrams (R342, R354) -/

/-- The 20-byte header of a datagram. -/
def odpHeader (kind session seq len target : Nat) : List Byte :=
  toBE 2 0x4F44 ++ toBE 1 1 ++ toBE 1 kind ++ toBE 4 session ++ toBE 8 seq ++ toBE 2 len ++ toBE 2 target

/-- CascadeKey. -/
def Dev.cascadeKey (d : Dev) : List Byte := toBE 32 (d.obj 0x8802 0 0)

/-- BootCount. -/
def Dev.bootCount (d : Dev) : Nat := d.obj 0x1040 7 0

/-- A datagram of a kind without a session: its SEQ from BootCount and the running count, its tag under the key. -/
def sealedDatagram (kind : Nat) (key : List Byte) (boot count : Nat) (body : List Byte) : List Byte :=
  let m := odpHeader kind 0 (boot * 2 ^ 32 + count % 2 ^ 32) body.length 0xFFFF ++ body
  m ++ hmac16 key m

/-- The NET port that carries cascade messages: the first in service with LINK. -/
def Dev.casPort (d : Dev) : Nat := ((List.range 4).find? (fun p => d.inServicePort p && d.linkUp p)).getD 0

/-- Send a cascade message. Only the active of a pair sends them (R322). -/
def Dev.casSend (d : Dev) (address body : List Byte) : Dev :=
  if d.standby then d
  else
    let m := sealedDatagram 0x11 d.cascadeKey d.bootCount d.odp.casSeq body
    let d := { d with odp := { d.odp with casSeq := d.odp.casSeq + 1 } }
    d.send d.casPort clsOdp (.datagram (portOf d.casPort) address m)

/-- Send a cascade message down, to every child. -/
def Dev.casDown (d : Dev) (body : List Byte) : Dev := d.cas.children.foldl (fun d c => d.casSend c.2.address body) d

/-- The address of the parent in use: the alternate while the primary is away (R322). -/
def Dev.parentAddress (d : Dev) : List Byte :=
  let p := toBE 32 (d.odp.objs.get 0 (objKey 0x8800 3 0 0))
  if d.cas.useAlt then p.drop 16 else p.take 16

/-- A parent is named. -/
def Dev.hasParent (d : Dev) : Bool := ofBE d.parentAddress ≠ 0

/-- The cascade rank. -/
def Dev.rank (d : Dev) : Nat := d.rd F.PAIR_CAS_CFG_RANK

/-- What an ANSWER says: 0 STAGED, 1 REFUSED, 2 RETRACT_ACK, 3 TOO_LATE. DESIGN CHOICE (log 83). -/
def answerBody (originRank originRow occ rank kind : Nat) (st : Status) : List Byte :=
  toBE 1 5 ++ toBE 2 originRank ++ toBE 2 originRow ++ toBE 4 occ ++ toBE 2 rank ++ toBE 1 kind ++ toBE 1 st.code

/-- Send an ANSWER up. -/
def Dev.casAnswer (d : Dev) (originRank originRow occ kind : Nat) (st : Status) : Dev :=
  d.casSend d.parentAddress (answerBody originRank originRow occ d.rank kind st)

/-! ### Occurrences -/

/-- Milliseconds before an instant. -/
def msBefore (t : Tai) (ms : Nat) : Tai := t.addNs (-(ms * 1000000 : Int))

/-- The cutoff of the current occurrence: the instant minus the guard time latched at staging, or the present one before it. -/
def Dev.almCutoff (d : Dev) (x : AlmRow) (t : Tai) : Tai :=
  msBefore t (if x.state = 1 && !x.copy then d.rd F.ALM_CFG_GUARD_MS else x.guard)

/-- The mode holds every entry (R38). -/
def Dev.almHeld (d : Dev) : Bool :=
  d.mode.mode = .commission || d.mode.mode = .maintenance || d.mode.mode = .safeHold || !d.booted

/-- Nanoseconds from an instant to now, saturating. DESIGN CHOICE (log 80). -/
def Dev.lateness (d : Dev) (t : Tai) : Nat := min 0xFFFFFFFF ((d.time.tai.toSub - t.toSub) / 65536)

/-- Count in an Almanac counter. -/
def Dev.almCount (d : Dev) (i : Nat) : Dev := d.tally (F.ALM_COUNT_COUNT.at [i])

/-- The interrupt of a result. -/
def resultIrq (result : Nat) : Option Fld :=
  match result with
  | 2 => some F.ALM_IRQ_STATUS_SKIPPED | 4 | 5 => some F.ALM_IRQ_STATUS_UNCONFIRMED | 6 => some F.ALM_IRQ_STATUS_BUDGET
  | 7 => some F.ALM_IRQ_STATUS_FAILED | _ => none

/-- Put a completion on Q4, in the digest of its millisecond (R309). -/
def Dev.almItem (d : Dev) (item : List Byte) : Dev :=
  let d := d.enqueue 4 item
  let ms := d.time.tai.toSub / 65536 / 1000000
  { d with alm := { d.alm with posted := d.alm.posted.filter (fun p => ms ≤ p.1 + 2) ++ [(ms, item)] } }

/-- A completion with RETRACT_UNACKED set. -/
def unackedItem (item : List Byte) : List Byte := item.take 5 ++ [item.getD 5 0 ||| 4] ++ item.drop 6

/-- One RETRACT whose instant has come without every acknowledgement: the interrupt, and the flag in its occurrence's item, which is
posted now or marked in the row. DESIGN CHOICE (log 78). -/
def Dev.almUnackedOne (d : Dev) (r : Retract) : Dev :=
  let d := match r.item with
    | some item => d.almItem (unackedItem item)
    | none => match d.almRow r.row with
      | some x => if x.occ = r.occ then d.setAlm r.row { x with unacked := true } else d
      | none => d
  d.irq F.ALM_IRQ_STATUS_RETRACT_UNACKED r.row

/-- The RETRACTs whose instants have come without every acknowledgement. -/
def Dev.almUnacked (d : Dev) : Dev :=
  let late := d.alm.retracting.filter (fun r => r.inst.le d.time.tai)
  if late.isEmpty then d
  else late.foldl Dev.almUnackedOne
    { d with alm := { d.alm with retracting := d.alm.retracting.filter (fun r => !r.inst.le d.time.tai) } }

/-- Post the completion of an occurrence (R160), count it and raise its interrupt; the item of one whose RETRACT is not yet
acknowledged waits for the answers or its instant. DESIGN CHOICE (log 77, 78). -/
def Dev.almPost (d : Dev) (row : Nat) (x : AlmRow) (result : Nat) (st : Status) (late : Nat) : Dev :=
  let t := x.inst.getD ⟨0, 0, 0⟩
  let flags := bit x.stepped + 2 * bit x.copy + 4 * bit x.unacked
  let peers := almScope x.bytes ≠ 0 && !x.copy
  let tail := if almAction x.bytes = 13 then slice (almPayload x.bytes) 0 8
    else toLE 4 late ++ toLE 2 (if peers then x.staged else 0) ++ toLE 2 x.originRank
  let item := toLE 4 (4 * 2 ^ 28 + result * 2 ^ 24 + row) ++ toLE 1 st.code ++ toLE 1 flags ++
    toLE 2 (if peers then x.refused else 0) ++ toLE 4 x.occ ++ t.le12 ++ tail
  let waits := fun (r : Retract) => r.row = row && r.occ + 1 = x.occ && r.item.isNone
  let d :=
    if d.alm.retracting.any waits then
      { d with alm := { d.alm with retracting := d.alm.retracting.map (fun r => if waits r then { r with item := some item } else r) } }
    else d.almItem item
  let d := if result < 4 then d.almCount result else if result < 6 then d.almCount 5 else if result = 6 then d.almCount 6 else d
  match resultIrq result with | some f => d.irq f row | none => d

/-- The entry takes occurrence `n` at the given instant as current where COUNT and UNTIL permit it, or is DONE; a received copy that is
DONE is freed (R150). -/
def Dev.almMoveTo (d : Dev) (row : Nat) (x : AlmRow) (n : Nat) (next : Option Tai) : Dev :=
  let clean := { x with confirmed := false, sent := false, staged := 0, refused := 0, unacked := false, stepped := false, deferred := none,
                        spilled := false }
  match next with
  | some t =>
    if !x.ending && almPermits x.bytes x.occ t then d.setAlm row { clean with state := 1, n := n, inst := some t }
    else if x.copy then d.dropAlm row
    else d.setAlm row { clean with state := 6, inst := none }
  | none => if x.copy then d.dropAlm row else d.setAlm row { clean with state := 6, inst := none }

/-- A row with LAUNCH's second of day as it stands once LAUNCH has come: derived again at occurrence 0, kept from then on. DESIGN CHOICE
(log 197). -/
def Dev.almTimed (d : Dev) (x : AlmRow) : AlmRow := if x.n = 0 then { x with tod := d.almTod x.bytes } else x

/-- The entry moves on from its current occurrence. -/
def Dev.almAdvance (d : Dev) (row : Nat) (x : AlmRow) : Dev :=
  let x := d.almTimed x
  d.almMoveTo row x (x.n + 1) (match x.inst with | some t => d.almNext x.bytes x.tod x.n t | none => none)

/-- The copy's occurrence has resolved: what a later RETRACT finds. -/
def Dev.almEnded (d : Dev) (x : AlmRow) (launched : Bool) : Dev :=
  if x.copy then
    { d with alm := { d.alm with
        ended := (d.alm.ended ++ [(x.originRank, x.originRow, x.occ, launched)]).drop (d.alm.ended.length + 1 - 4096) } }
  else d

/-- Tell the standby of a launch, a skip, a refusal or a deferral (R155, R306): row, RESULT, status, lateness, position. What the
standby reaches by itself (a cancel, a cutoff) is not told. DESIGN CHOICE (log 134). -/
def Dev.almTell (d : Dev) (row result : Nat) (st : Status) (late : Nat) : Dev :=
  if decide (3 ≤ result ∧ result ≤ 5) then d
  else d.note (toBE 1 1 ++ toBE 2 row ++ toBE 1 result ++ toBE 1 st.code ++ toBE 4 late ++ toBE 1 (d.indexAt d.time.tai % max 1 (d.fs / 48000)))

/-- An occurrence resolves (R150): it is counted, posted and told to the standby, and the entry moves on. DESIGN CHOICE (log 77). -/
def Dev.almResolve (d : Dev) (row result : Nat) (st : Status) (late : Nat := 0) : Dev :=
  let d := d.almUnacked
  match d.almRow row with
  | none => d
  | some x =>
    let d := d.almEnded x (decide (result ≤ 1) || result = 7)
    let x := { x with occ := x.occ + 1, result := result, status := st }
    ((d.almPost row x result st late).almTell row result st late).almAdvance row x

/-- Send RETRACT for an occurrence that was sent as STAGE; its acknowledgements are awaited. DESIGN CHOICE (log 78). -/
def Dev.almRetract (d : Dev) (row : Nat) : Dev :=
  match d.almRow row with
  | none => d
  | some x =>
    if x.sent && !x.copy then
      let d := d.casDown (toBE 1 4 ++ toBE 2 x.originRank ++ toBE 2 x.originRow ++ toBE 4 x.occ)
      if x.staged = 0 then d
      else { d with alm := { d.alm with retracting := d.alm.retracting ++ [⟨row, x.occ, x.inst.getD ⟨0, 0, 0⟩, x.staged, none⟩] } }
    else d

/-- Send CONFIRM. -/
def Dev.almSendConfirm (d : Dev) (x : AlmRow) : Dev :=
  if x.sent && !x.copy then d.casDown (toBE 1 3 ++ toBE 2 x.originRank ++ toBE 2 x.originRow ++ toBE 4 x.occ) else d

/-! ### Staging (R152, R153) -/

/-- Move a LIB_PLAY's message to the head of the load order (R49). -/
def Dev.almFetch (d : Dev) (b : List Byte) : Dev :=
  if almAction b ≠ 7 then d
  else match d.findMsg (leAt (almPayload b) 0 4) with
    | some m =>
      if m.2.dram.isNone && d.lib.order.contains m.1 then
        d.setLib { d.lib with order := m.1 :: d.lib.order.filter (· ≠ m.1) }
      else d
    | none => d

/-- An occurrence whose target is under test ends the test when it is staged (R296). -/
def Dev.almService (d : Dev) (b : List Byte) : Dev :=
  let p := almPayload b
  match almAction b with
  | 1 => match objAt (leAt p 0 2) (leAt p 2 1) with
    | some o => d.serviceFields ((o.cols (leAt p 3 3)).flatMap Col.behind)
    | none => d
  | 2 => d.serviceStrobe (((List.range 16).filter (fun k => bitAt (leAt p 0 2) (d.groupOf k))).flatMap d.captureOf)
  | 3 | 4 => (bitList 256 (leAt p 0 32)).foldl (fun d c => d.serviceLanes (d.ctxPorts c)) d
  | 5 | 6 => (bitList 16 (leAt p 0 2)).foldl (fun d n => d.servicePort n) d
  | _ => d

/-- An ARMED occurrence whose lead has been reached enters STAGING, in a mode that does not hold it. -/
def Dev.almStage (d : Dev) (row : Nat) : Dev :=
  match d.almRow row with
  | none => d
  | some x =>
    match x.inst with
    | none => d
    | some t =>
      if x.state ≠ 1 || d.almHeld || !(msBefore t (d.almLeadMs x.bytes)).le d.time.tai then d
      else
        let send := almScope x.bytes ≠ 0 && !x.copy
        let x := { x with state := 2, guard := if x.copy then x.guard else d.rd F.ALM_CFG_GUARD_MS, sent := send,
                          confirmed := x.copy && x.confirmed, staged := 0, refused := 0 }
        let d := ((d.setAlm row x).almFetch x.bytes).almService x.bytes
        if send then d.casDown (toBE 1 2 ++ x.shown) else d

/-- Local staging has finished: the message of a LIB_PLAY is resident. -/
def Dev.almReady (d : Dev) (b : List Byte) : Bool :=
  almAction b ≠ 7 || d.msgStatus (leAt (almPayload b) 0 4) ≠ .busy

/-- STAGING to STAGED. -/
def Dev.almStaged (d : Dev) (row : Nat) : Dev :=
  match d.almRow row with
  | none => d
  | some x =>
    if x.state ≠ 2 || !d.almReady x.bytes then d
    else if x.copy then (d.setAlm row { x with state := 3 }).casAnswer x.originRank x.originRow x.occ 0 .ok
    else if almHold x.bytes then d.setAlm row { x with state := 3 }
    else (d.almSendConfirm x).setAlm row { x with state := 3, confirmed := true }

/-- The cutoff of an occurrence is reached. -/
def Dev.almAtCutoff (d : Dev) (row : Nat) : Dev :=
  match d.almRow row with
  | none => d
  | some x =>
    match x.inst with
    | none => d
    | some t =>
      if !(d.almCutoff x t).le d.time.tai then d
      else if x.state = 2 then
        let d := if x.copy then d.casAnswer x.originRank x.originRow x.occ 1 .busy else d.almRetract row
        d.almResolve row 5 .busy
      else if x.state = 3 then
        if (almHold x.bytes || x.copy) && !x.confirmed then (d.almRetract row).almResolve row 4 .ok
        else d.setAlm row { x with state := 4 }
      else d

/-- The mode becomes one that holds every entry: what is staged is retracted and waits ARMED. -/
def Dev.almHoldAll (d : Dev) : Dev :=
  (d.alm.rows.map (·.1)).foldl (fun d r =>
    match d.almRow r with
    | none => d
    | some x =>
      if x.state = 2 || x.state = 3 then
        let d := d.almRetract r
        match d.almRow r with
        | some y => d.setAlm r { y with state := 1, confirmed := y.copy && y.confirmed, sent := false }
        | none => d
      else d) d

/-- A held ARMED occurrence whose instant has passed is skipped; a follower takes the active's skip from the token (R155). -/
def Dev.almSkip (d : Dev) (row : Nat) : Dev :=
  let d := d.almUnacked
  if d.follows then d
  else match d.almRow row with
  | none => d
  | some x =>
    match x.inst with
    | none => d
    | some t => if x.state = 1 && t.le d.time.tai then d.almResolve row 2 .ok else d

/-! ### Cancelling and confirming (R154, R162) -/

/-- A cancel of an occurrence or of the whole entry. -/
def Dev.almCancel (d : Dev) (row : Nat) (whole : Bool) : Dev × Status :=
  match d.almRow row with
  | none => (d, .ok)
  | some x =>
    if x.copy then (d, .accessDenied)
    else match x.inst with
      | none => (d, .ok)
      | some t =>
        let late := x.state = 4 || x.state = 5 || (x.state ≠ 1 && !d.time.tai.lt (d.almCutoff x t))
        if late then
          ((d.setAlm row { x with ending := x.ending || whole }).almCount 4, .tooLate)
        else
          let d := d.almRetract row
          match d.almRow row with
          | some y => ((d.setAlm row { y with ending := y.ending || whole }).almResolve row 3 .ok, .ok)
          | none => (d, .ok)

/-- A confirm, judged first against the cutoff. -/
def Dev.almConfirm (d : Dev) (row : Nat) : Dev × Status :=
  match d.almRow row with
  | none => (d, .ok)
  | some x =>
    match x.inst with
    | none => (d, .ok)
    | some t =>
      if (d.almCutoff x t).le d.time.tai then (d.almCount 4, .tooLate)
      else if x.state ≠ 3 || !almHold x.bytes || x.copy then (d, .ok)
      else ((d.almSendConfirm x).setAlm row { x with confirmed := true }, .ok)

/-! ### Writing (R148, R149) -/

/-- The wire value of a DICT_WRITE's target. -/
def almTargetValue (b : List Byte) : List Byte := slice (almPayload b) 8 (min 56 (leAt (almPayload b) 6 2))

/-- The request that a DICT_WRITE makes. -/
def View.almRequest (v : View) (b : List Byte) : Option (Obj × Request) :=
  let p := almPayload b
  (objAt (leAt p 0 2) (leAt p 2 1)).map (fun o => (o, v.request o (leAt p 0 2) (leAt p 2 1) (leAt p 3 3) (almTargetValue b)))

/-- The payload lies outside its target's range (R147). DEDUCED (log 75). -/
def View.almPayloadBad (v : View) (b : List Byte) : Bool :=
  let p := almPayload b
  match almAction b with
  | 1 => decide (leAt p 6 2 < 1 ∨ 56 < leAt p 6 2) ||
    (match v.almRequest b with
     | none => true
     | some (o, r) => (o.named r.sub r.row).isNone || r.parts.isNone || v.writeBad o r)
  | 5 | 6 => false
  | 7 => decide (64 ≤ leAt p 4 1 ∧ leAt p 4 1 ≠ 255) || decide (8 ≤ leAt p 5 1) || decide (256 ≤ leAt p 6 2)
  | 9 => decide (32768 ≤ leAt p 0 2) || decide (leAt p 6 2 < 1 ∨ 10000 < leAt p 6 2)
  | 10 => (requestable (leAt p 0 1 % 16)).isNone
  | 11 => decide (16 ≤ leAt p 0 1)
  | _ => false

/-- The rights that R148 asks of the writer, for what the row holds and for what it would hold. -/
def View.almMayWrite (v : View) (row : Nat) (b : List Byte) (role : Role) : Bool :=
  let p := almPayload b
  let new := if almAction b = 0 then true
    else (almClass b ≠ 0 || role = .safety) && (almAction b ≠ 12 || role.ge .engineer) &&
      (if almAction b = 1 then (match v.almRequest b with | some (o, r) => v.mayWrite o r role | none => true)
       else if almAction b = 10 then
         (!bitAt (leAt p 0 1) 7 || role = .safety) &&
         (match requestable (leAt p 0 1 % 16) with | some t => role.ge (v.dev.leastRole t) | none => true)
       else true)
  let old := match v.dev.almRow row with
    | some x => !x.copy && (almClass x.bytes ≠ 0 || x.state = 6 || role = .safety)
    | none => true
  new && old

/-- The checks of R148 beside rights, in order. DEDUCED (log 75). -/
def View.almStatus (v : View) (row : Nat) (b : List Byte) : Status :=
  let d := v.dev
  let l := almLaunch b
  let lead := d.almLeadMs b
  let busy := match d.almRow row with | some x => x.state = 4 || x.state = 5 | none => false
  if almAction b = 0 then (if busy then .tooLate else .ok)
  else if 1000000000 ≤ l.ns || 1000000000 ≤ leAt b 28 4 || 13 < almAction b || 2 < almRepeat b || 2 < almScope b || 3 < almClass b ||
      1 < almFlags b || Nat.land (almModes b) 0x0318 ≠ almModes b || v.almPayloadBad b then .range
  else if almRepeat b = 1 && (almPeriod b < 10000000 || almPeriod b < lead * 1000000) then .range
  else if almLead b ≠ 0 && (almLead b < d.rd F.ALM_CFG_GUARD_MS + 8 || 60000 < almLead b) then .range
  else if almRepeat b = 2 && (almDays b % 128 = 0 || l.ns % 1000000 ≠ 0 || l.sub ≠ 0) then .range
  else if (almClass b ≤ 1 && almDefer b ≠ 0) || 60000 < almDefer b then .range
  else if almAction b = 12 && almClass b ≠ 3 then .range
  else if almScope b ≠ 0 && d.rank ≠ 0 then .mode
  else if (d.almFirst b).le (d.time.tai.addNs (d.rd F.ALM_CFG_GUARD_MS * 1000000 : Nat)) then .tooLate
  else
    let load := addFrac (d.almLoad (some row)) (almRate b)
    if 1000 * load.2 < load.1 then .capacity
    else if busy then .tooLate
    else .ok

/-- An accepted write: the pending occurrence is cancelled, and the row takes the new content; an entry inside its lead enters
STAGING at once. -/
def Dev.almWrite (d : Dev) (row : Nat) (b : List Byte) (a : Asker) : Dev :=
  let d := (d.almCancel row true).1.dropAlm row
  if almAction b = 0 then d
  else
    let x : AlmRow := { bytes := b, author := a.master, role := a.role.code, originRank := d.rank, originRow := row,
                        tod := d.almTod b }
    (d.almMoveTo row x 0 (some (d.almFirst b))).almStage row

/-! ### Restoring and stepping (R151, R159) -/

/-- How many permitted occurrences lie before now, and the first that does not. -/
def Dev.almCatchUp (d : Dev) (b : List Byte) (tod : Nat) : Nat → Nat → Nat → Tai → Nat × Nat × Option Tai
  | 0, occ, n, t => (occ, n, some t)
  | k + 1, occ, n, t =>
    if !almPermits b occ t then (occ, n, none)
    else if d.time.tai.lt t then (occ, n, some t)
    else match d.almNext b tod n t with
      | some u => Dev.almCatchUp d b tod k (occ + 1) (n + 1) u
      | none => (occ + 1, n, none)

/-- How many permitted occurrences of a PERIOD repeat lie between its occurrence `occ` at `t` and now. -/
def Dev.almJump (d : Dev) (b : List Byte) (occ : Nat) (t : Tai) : Nat :=
  let p := max 1 (almPeriod b) * 65536
  let past := (d.time.tai.toSub - t.toSub) / p
  let left := if Sys2Proof.Machine.almCount b = 0 then past else Sys2Proof.Machine.almCount b - occ
  let until_ := if almUntil b = 0 then past else ceilDiv (almUntil b * subPerSec - t.toSub) p
  if almRepeat b = 1 then min past (min left until_) else 0

/-- From occurrence `n` at `t` with `occ` resolved: how many have resolved once those before now have, and the first after now. -/
def Dev.almPassed (d : Dev) (b : List Byte) (tod occ n : Nat) (t : Tai) : Nat × Nat × Option Tai :=
  let k := d.almJump b occ t
  d.almCatchUp b tod 40000 (occ + k) (n + k) (if almRepeat b = 1 then almPeriodic b (n + k) else t)

/-- Every occurrence of a row at or before now resolves as SKIPPED_HELD, with one item, OCCURRENCE advanced by their number, and the row
goes on from its first future occurrence (R151, R441). DESIGN CHOICE (log 198). -/
def Dev.almPass (d : Dev) (row : Nat) : Dev :=
  let d := d.almUnacked
  match d.almRow row with
  | none => d
  | some x =>
    match x.inst with
    | none => d
    | some t =>
      if !t.le d.time.tai then d
      else
        let x := d.almTimed x
        let r := if x.ending then (x.occ + 1, x.n, none) else d.almPassed x.bytes x.tod x.occ x.n t
        let y := { x with occ := max (x.occ + 1) r.1, result := 2, status := .ok }
        ((d.almEnded x false).almPost row y 2 .ok 0).almMoveTo row y r.2.1 r.2.2

/-- An authored row is restored to ARMED at the occurrence it had reached; those that passed meanwhile are posted as one SKIPPED_HELD. -/
def Dev.almRestore (d : Dev) (row : Nat) (b : List Byte) (tod : Nat) : Dev :=
  let occ := leAt b 56 4
  let inst := if almRepeat b = 1 then almPeriodic b occ else d.almNth b tod occ (d.almFirst b)
  let x : AlmRow := { bytes := b, author := leAt b 44 4, role := leAt b 48 1, originRank := leAt b 50 2, originRow := row,
                      guard := leAt b 54 2, occ := occ, n := occ, tod := tod }
  if leAt b 49 1 = 6 then d.setAlm row { x with state := 6 }
  else (d.setAlm row { x with inst := some inst }).almPass row

/-- Mark the occurrences that a forward step passes over (R159). -/
def Dev.almStepped (d : Dev) (old new : Tai) : Dev :=
  { d with alm := { d.alm with rows := d.alm.rows.map (fun r =>
      match r.2.inst with
      | some t => if old.lt t && t.le new then (r.1, { r.2 with stepped := true }) else r
      | none => r) } }

/-! ### Commands that time drives -/

/-- ALMANAC_STAGE (R152): an occurrence reaches its lead. -/
def execAlmanacStage (row : Fin 4096) (s : State) : Host.Outcome State Fault Refusal :=
  s.act fun d => if d.booted then d.almStage row else d

/-- ALMANAC_STAGING_COMPLETE (R152): the slow work is done. -/
def execAlmanacStagingComplete (row : Fin 4096) (s : State) : Host.Outcome State Fault Refusal :=
  s.act fun d => if d.booted then d.almStaged row else d

/-- ALMANAC_CUTOFF (R152): the cutoff of the current occurrence is reached. -/
def execAlmanacCutoff (row : Fin 4096) (s : State) : Host.Outcome State Fault Refusal :=
  s.act fun d => if d.booted then d.almAtCutoff row else d

/-- ALMANAC_SKIP_HELD (R38): the instant of a held entry passes. -/
def execAlmanacSkipHeld (row : Fin 4096) (s : State) : Host.Outcome State Fault Refusal :=
  s.act fun d => if d.booted then d.almSkip row else d

/-- ALMANAC_ENTRY_READ (R161): a row is copied into the DATA window. -/
def Dev.almWindow (d : Dev) (row : Nat) : Dev :=
  let b := d.almShown row
  let d := (List.range 32).foldl (fun d w => d.wr (F.ALM_ENT_DATA_DATA.at [w]) (leAt b (4 * w) 4)) d
  d.wr F.ALM_ENT_RESULT_STATUS 0

/-- ALMANAC_ENTRY_READ (R161). -/
def execAlmanacEntryRead (row : Fin 4096) (s : State) : Host.Outcome State Fault Refusal :=
  s.act fun d => if d.booted then d.almWindow row else d

end Sys2Proof.Machine
end

