-- ==== Sys2Proof/Machine/Sessions.lean ====
section
/-! DEFINITION. Machine/Sessions.lean: datagrams and sessions of ODP (R342 to R346), freezing and thawing (R357, R359, R395), and
where the answer to a request goes (R325, R347, R353). -/

namespace Sys2Proof.Machine

/-! ### Freezing (R357, R395) -/

/-- A limit of SessionLimits. -/
def Dev.sessionIdle (d : Dev) : Nat := d.obj 0x1102 1 0 30
/-- ACCESS_LIMIT. -/
def Dev.accessLimit (d : Dev) : Nat := d.obj 0x1102 2 0 4
/-- NOTICE_RATE. -/
def Dev.noticeRate (d : Dev) : Nat := d.obj 0x1102 3 0 1000

/-- Replace the dictionary's state. -/
def Dev.setOdp (d : Dev) (o : OdpSt) : Dev := { d with odp := o }

/-- Freeze a master: journalled, posted, shown; its subscriptions end. The device itself is never frozen. DEDUCED (log 150, 160). -/
def Dev.freeze (d : Dev) (master cause : Nat) : Dev :=
  if master = 0 || d.isFrozen master then d
  else
    let d := d.setOdp { d.odp with frozen := d.odp.frozen ++ [⟨master, cause, d.time.tai⟩],
                                   subs := d.odp.subs.filter (fun s => s.session ≠ master) }
    let d := d.journalDevice 0x13 (toLE 4 master ++ toLE 1 cause)
    let d := ((d.wr F.LKF_FREEZE_CAUSE_CAUSE cause).wr F.LKF_FREEZE_CAUSE_NEW 1).wr F.LKF_FREEZE_MASTER_MASTER master
    d.irq F.GCTL_IRQ_STATUS_FREEZE noUnit (toLE 4 master ++ toLE 1 cause)

/-- Thaw a master (R359): the freeze and its count of refusals clear. A master that is not frozen stays as it is. -/
def Dev.thaw (d : Dev) (a : Asker) (master : Nat) : Dev :=
  match d.odp.frozen.find? (fun f => f.master = master) with
  | none => d
  | some f =>
    let d := d.setOdp { d.odp with frozen := d.odp.frozen.filter (fun g => g.master ≠ master),
                                   denials := d.odp.denials.filter (fun x => x.1 ≠ master) }
    d.journal a.master a.role.code 0x14 .ok a.flags 0 0 0 (toLE 4 master ++ toLE 1 f.cause)

/-- A refusal counts toward ACCESS_LIMIT within any 10 s; the one that reaches it freezes its master (R357, R395). -/
def Dev.denied (d : Dev) (master : Nat) : Dev :=
  if master = 0 then d
  else
    let kept := d.odp.denials.filter (fun x => !d.past x.2 10000) ++ [(master, d.time.cycles)]
    let d := d.setOdp { d.odp with denials := kept }
    if d.accessLimit ≤ (kept.filter (fun x => x.1 = master)).length then d.freeze master (if master = 1 then 4 else 2) else d

/-! ### Datagrams (R342) -/

/-- A datagram taken apart; `signed` is what its tag covers. -/
structure Dgram where
  kind : Nat
  session : Nat
  seq : Nat
  target : Nat
  body : List Byte
  tag : List Byte
  signed : List Byte
  deriving DecidableEq, Repr

/-- Take a datagram apart, where its magic, version and size are right. -/
def Dgram.parse (b : List Byte) : Option Dgram :=
  let n := beAt b 16 2
  if beAt b 0 2 ≠ 0x4F44 || beAt b 2 1 ≠ 1 || 1400 < n || b.length ≠ 36 + n then none
  else some ⟨beAt b 3 1, beAt b 4 4, beAt b 8 8, beAt b 18 2, slice b 20 n, slice b (20 + n) 16, b.take (20 + n)⟩

/-- A kind that the device receives. -/
def kindIn (k : Nat) : Bool := k = 1 || k = 3 || k = 5 || k = 8 || k = 9 || k = 0x10 || k = 0x11

/-- Sixteen zero bytes: the tag of an unauthenticated datagram. -/
def zeroTag : List Byte := List.replicate 16 0

/-- The boot ROM's recovery service alone runs (R46). -/
def Dev.recovery (d : Dev) : Bool := d.mode.mode = .maintenance && d.mode.cause = 0x13

/-- A port carries ODP (R38, R165): MGT in every mode from the end of the power-up sequence, NET0 to NET3 while in service. -/
def Dev.odpPort (d : Dev) (p : Port) : Bool :=
  d.booted && !d.recovery && d.portEn p.num && (p = .mgt || d.inServicePort p.num)

/-! ### Sessions -/

/-- The session of an id. -/
def Dev.session (d : Dev) (id : Nat) : Option Session := d.odp.sessions.find? (fun s => s.id = id)

/-- Replace a session. -/
def Dev.setSession (d : Dev) (x : Session) : Dev :=
  d.setOdp { d.odp with sessions := d.odp.sessions.map (fun s => if s.id = x.id then x else s) }

/-- The enabled row of SessionKeys with a KEY_ID. -/
def Dev.keyRow (d : Dev) (id : Nat) : Option Nat := (List.range 16).find? (fun r => d.obj 0x1101 4 r = 1 && d.obj 0x1101 1 r = id)

/-- A key of SessionKeys. -/
def Dev.sessionKey (d : Dev) (row : Nat) : List Byte := toBE 32 (d.obj 0x1101 3 row)

/-- The record of an opening or closing. DESIGN CHOICE (log 146). -/
def sessionRecord (s : Session) : List Byte := toLE 4 s.keyId ++ toLE 1 s.role.code ++ slice s.source 0 16

/-- Abandon a master's transfer. -/
def Dev.dropTransfer (d : Dev) (master : Nat) : Dev := d.setOdp { d.odp with transfers := d.odp.transfers.del master }

/-- Close a session: its subscriptions end with it. -/
def Dev.closeSession (d : Dev) (id : Nat) : Dev :=
  match d.session id with
  | none => d
  | some s =>
    let d := (d.setOdp { d.odp with sessions := d.odp.sessions.filter (fun t => t.id ≠ id), subs := d.odp.subs.filter (fun x => x.session ≠ id) }).dropTransfer id
    d.journal id s.role.code 0x11 .ok 0 0 0 0 (sessionRecord s)

/-- A key row is disabled or rewritten: its sessions close, its openings end. -/
def Dev.closeKeyRow (d : Dev) (row : Nat) : Dev :=
  let d := d.setOdp { d.odp with attempts := d.odp.attempts.filter (fun x => x.keyRow ≠ row) }
  (d.odp.sessions.filter (fun s => s.keyRow = row)).foldl (fun d s => d.closeSession s.id) d

/-- The lowest slot that a key may take: slots 30 and 31 only with ENGINEER or SAFETY. DESIGN CHOICE (log 151). -/
def Dev.freeSlot (d : Dev) (row : Nat) : Option Nat :=
  (List.range 32).find? (fun k => (k < 30 || 2 ≤ d.obj 0x1101 2 row) &&
    !(d.odp.sessions.any (fun s => s.id % 32 = k)) && !(d.odp.attempts.any (fun x => x.id % 32 = k)))

/-- The checks of step 2 in order: the key row where all pass. -/
def Dev.openCheck (d : Dev) (keyId role : Nat) : Status × Option Nat :=
  match d.keyRow keyId with
  | none => (.auth, none)
  | some r =>
    if d.odp.sessions.any (fun s => s.keyRow = r && d.isFrozen s.id) then (.frozen, none)
    else if d.obj 0x1101 2 r < role then (.accessDenied, none)
    else if (d.freeSlot r).isNone then (.busy, none)
    else (.ok, some r)

/-- OPEN_CHAL's bytes. -/
def openChal (st : Status) (id : Nat) (nd : List Byte) : List Byte :=
  odpHeader 2 0 0 24 0xFFFF ++ toBE 1 st.code ++ toBE 3 0 ++ toBE 4 id ++ nd ++ zeroTag

/-- An OPEN_REQ arrives: at most ten of one source are answered in any second. DESIGN CHOICE (log 151). -/
def Dev.openReq (d : Dev) (port : Port) (source : List Byte) (service : Bool) (g : Dgram) : Dev :=
  let recent := d.odp.throttle.filter (fun x => !d.past x.2 1000)
  if 10 ≤ (recent.filter (fun x => x.1 = source)).length then (d.setOdp { d.odp with throttle := recent }).odpCount 5
  else
    let d := d.setOdp { d.odp with throttle := recent ++ [(source, d.time.cycles)] }
    let keyId := beAt g.body 0 4
    let role := beAt g.body 4 1
    let c := d.openCheck keyId role
    let n := d.drawBytes .nonce 16
    let d := n.2
    match c.2, roleOf role with
    | some r, some rl =>
      let id := 2 ^ 31 + (d.odp.opens + 1) % 2 ^ 26 * 32 + (d.freeSlot r).getD 0
      let at_ : Attempt := ⟨id, r, rl, slice g.body 8 16, n.1, source, port, service, d.time.cycles⟩
      let d := d.setOdp { d.odp with opens := d.odp.opens + 1, attempts := d.odp.attempts ++ [at_] }
      d.send port.num clsOdp (.datagram port source (openChal .ok id n.1))
    | _, _ => d.send port.num clsOdp (.datagram port source (openChal (if c.1 = .ok then .accessDenied else c.1) 0 n.1))

/-- OPEN_REQ (R344). `service` says whether it came to the service address. DESIGN CHOICE (log 159). -/
def execOpenReq (port : Port) (source : List Byte) (service : Bool) (datagram : List Byte) (s : State) : Host.Outcome State Fault Refusal :=
  s.act fun d =>
    match Dgram.parse datagram with
    | some g => if d.odpPort port && g.kind = 1 && g.body.length = 24 then d.openReq port source service g else d
    | none => d

/-- The letters "ODP-" and one more. -/
def odpLabel (c : Nat) : List Byte := [0x4F, 0x44, 0x50, 0x2D, byteOf c]

/-- An OPEN_PROOF arrives for an opening: a Pc that fails abandons it. DEDUCED (log 150). -/
def Dev.openProof (d : Dev) (port : Port) (source : List Byte) (g : Dgram) (x : Attempt) : Dev :=
  let k := d.sessionKey x.keyRow
  let idb := toBE 4 x.id
  let pc := hmac16 k (odpLabel 0x43 ++ x.nc ++ x.nd ++ toBE 4 (d.obj 0x1101 1 x.keyRow) ++ toBE 1 x.role.code)
  let pd := hmac16 k (odpLabel 0x44 ++ x.nd ++ x.nc ++ idb)
  let ks := hmac k (odpLabel 0x53 ++ x.nc ++ x.nd ++ idb)
  let gone := d.setOdp { d.odp with attempts := d.odp.attempts.filter (fun y => y.id ≠ x.id) }
  if hmac16 ks g.signed ≠ g.tag then d.odpCount 0
  else if g.body ≠ pc || d.past x.started 2000 then gone.odpCount 0
  else
    let ses : Session := { id := x.id, keyRow := x.keyRow, keyId := d.obj 0x1101 1 x.keyRow, role := x.role, source := source, port := port,
                           opened := d.time.tai, heard := d.time.cycles, key := ks, service := x.service }
    let d := gone.setOdp { gone.odp with sessions := gone.odp.sessions ++ [ses] }
    let d := (d.journal x.id x.role.code 0x10 .ok 0 0 0 0 (sessionRecord ses)).islandHeard
    let m := odpHeader 4 x.id 0 20 0xFFFF ++ toBE 1 0 ++ toBE 1 x.role.code ++ toBE 2 0 ++ pd
    d.send port.num clsOdp (.datagram port source (m ++ hmac16 ks m))

/-- The body of a RESPONSE (R347). -/
def responseBody (op : Nat) (st : Status) (rows reqSeq jseq : Nat) (data : List Byte) : List Byte :=
  toBE 1 op ++ toBE 1 st.code ++ toBE 2 rows ++ toBE 8 reqSeq ++ toBE 8 jseq ++ data

/-- The answer to an unknown session id (R345). A datagram that carries no request echoes OP 0. DESIGN CHOICE (log 153). -/
def Dev.unknownSession (d : Dev) (port : Port) (source : List Byte) (g : Dgram) : Dev :=
  d.send port.num clsOdp (.datagram port source (odpHeader 6 g.session 0 20 0xFFFF ++ responseBody (if g.kind = 5 then beAt g.body 0 1 else 0) .auth 0 g.seq 0 [] ++ zeroTag))

/-- OPEN_PROOF (R344): one for neither an opening nor a session carries an unknown session id (R345). -/
def execOpenProof (port : Port) (source datagram : List Byte) (s : State) : Host.Outcome State Fault Refusal :=
  s.act fun d =>
    match Dgram.parse datagram with
    | some g =>
      if d.odpPort port && g.kind = 3 then
        (match d.odp.attempts.find? (fun x => x.id = g.session) with
        | some x => d.openProof port source g x
        | none => if (d.session g.session).isSome then d else d.unknownSession port source g)
      else d
    | none => d

/-- OPEN_PROOF_TIMEOUT (R344): two seconds pass without OPEN_PROOF. -/
def execOpenProofTimeout (id : BitVec 32) (s : State) : Host.Outcome State Fault Refusal :=
  s.act fun d =>
    match d.odp.attempts.find? (fun x => x.id = id.toNat) with
    | some x =>
      if d.booted && d.past x.started 2000 then
        (d.setOdp { d.odp with attempts := d.odp.attempts.filter (fun y => y.id ≠ x.id) }).odpCount 0
      else d
    | none => d

/-- SESSION_IDLE_EXPIRY (R345): SESSION_IDLE passes without a valid datagram; a frozen session stays. -/
def execSessionIdleExpiry (slot : Fin 32) (s : State) : Host.Outcome State Fault Refusal :=
  s.act fun d =>
    match d.slotSession slot with
    | some x => if d.booted && !d.isFrozen x.id && d.past x.heard (d.sessionIdle * 1000) then d.closeSession x.id else d
    | none => d

/-- ODP_MALFORMED (R342): a datagram of a bad size, version, kind or direction is discarded and counted. DESIGN CHOICE (log 153). -/
def execOdpMalformed (port : Port) (datagram : List Byte) (s : State) : Host.Outcome State Fault Refusal :=
  s.act fun d =>
    let bad : Bool := match Dgram.parse datagram with | some g => !kindIn g.kind | none => true
    if d.odpPort port && bad then d.odpCount 1 else d

/-! ### The window of sequence numbers (R346) -/

/-- What a request SEQ is: fresh, seen before, or too old. -/
inductive SeqClass where
  | fresh | retry | old
  deriving DecidableEq, Repr

/-- Where a SEQ falls. Bit `i` of `seen` is the number `i` below the highest. DESIGN CHOICE (log 153). -/
def Session.classOf (x : Session) (seq : Nat) : SeqClass :=
  if x.highest < seq then .fresh
  else if 64 < x.highest - seq then .old
  else if bitAt x.seen (x.highest - seq) then .retry else .fresh

/-- Note a fresh SEQ. -/
def Session.noteSeq (x : Session) (seq : Nat) : Session :=
  if x.highest < seq then { x with highest := seq, seen := (x.seen * 2 ^ min 65 (seq - x.highest)) % 2 ^ 65 + 1 }
  else { x with seen := setBit x.seen (x.highest - seq) true }

/-- Send a datagram of a session in its direction. -/
def Dev.sendSession (d : Dev) (x : Session) (kind : Nat) (body : List Byte) : Dev :=
  let m := odpHeader kind x.id x.txSeq body.length 0xFFFF ++ body
  (d.setSession { x with txSeq := x.txSeq + 1 }).send x.port.num clsOdp (.datagram x.port x.source (m ++ hmac16 x.key m))

/-- A session's datagram is authenticated: the session whose tag it bears, with the idle count reset. -/
def Dev.sessionIn (d : Dev) (port : Port) (source : List Byte) (g : Dgram) : Dev × Option Session :=
  match d.session g.session with
  | none => (d.unknownSession port source g, none)
  | some x =>
    if hmac16 x.key g.signed ≠ g.tag then (d.odpCount 0, none)
    else
      let x := { x with heard := d.time.cycles }
      ((d.setSession x).islandHeard, some x)

/-- KEEPALIVE (R345). -/
def execKeepalive (port : Port) (source datagram : List Byte) (s : State) : Host.Outcome State Fault Refusal :=
  s.act fun d =>
    match Dgram.parse datagram with
    | some g =>
      if d.odpPort port && g.kind = 8 then
        let r := d.sessionIn port source g
        match r.2 with
        | some x => if x.classOf g.seq = .fresh then r.1.setSession (x.noteSeq g.seq) else r.1
        | none => r.1
      else d
    | none => d

/-- CLOSE (R345): a frozen session's is discarded. -/
def execClose (port : Port) (source datagram : List Byte) (s : State) : Host.Outcome State Fault Refusal :=
  s.act fun d =>
    match Dgram.parse datagram with
    | some g =>
      if d.odpPort port && g.kind = 9 then
        let r := d.sessionIn port source g
        match r.2 with
        | some x => if d.isFrozen x.id then r.1 else r.1.closeSession x.id
        | none => r.1
      else d
    | none => d

/-! ### Answers -/

/-- Write bytes into a run of byte-carrying words. -/
def Dev.wrBytes (d : Dev) (f : Fld) (words : Nat) (b : List Byte) : Dev :=
  (List.range words).foldl (fun d w => d.wr (f.at [w]) (leAt b (4 * w) 4)) d

/-- A mailbox request completes (R353): the response body, its length, and the Q1 item; BUSY stays while Q1 has no room for it (R404). -/
def Dev.mailboxDone (d : Dev) (st : Status) (body : List Byte) : Dev :=
  let tag := d.odp.dmb.getD 0
  let d := d.wrBytes F.DMB_RESP_BYTES 128 body
  let d := ((d.wr F.DMB_RESP_LEN_LEN body.length).wr F.DMB_STATUS_BUSY 0).wr F.DMB_STATUS_LAST_TAG tag
  let d := d.setOdp { d.odp with dmb := none }
  let item := 2 ^ 28 + tag % 4096 * 65536 + st.code * 256 + body.length % 256
  let d := d.enqueue 1 (toLE 4 item ++ toLE 1 (body.length / 256) ++ toLE 3 0)
  if (d.que 1).held.isSome then d.wr F.DMB_STATUS_BUSY 1 else d

/-- Answer a request where it came from. The last 16 answers of a session but READs are kept for retries (R346). DESIGN CHOICE (log 152). -/
def Dev.answer (d : Dev) (origin reqSeq op : Nat) (st : Status) (rows jseq : Nat) (data : List Byte) : Dev :=
  let body := responseBody op st rows reqSeq jseq data
  if origin = 0 then d
  else if origin = 1 then (if st = .accessDenied then (d.mailboxDone st body).denied 1 else d.mailboxDone st body)
  else if 2 ^ 31 ≤ origin then d.casSend d.parentAddress (toBE 1 7 ++ toBE 4 origin ++ body)
  else match d.slotSession (origin - 2) with
    | none => d
    | some x =>
      let x := if op = 1 then x else { x with cache := (x.cache ++ [(reqSeq, body)]).drop (x.cache.length + 1 - 16) }
      let d := d.sendSession x 6 body
      if st = .accessDenied then d.denied x.id else d

/-! ### Timers of transfers (R351) -/

/-- The transfer of a master, while no more than 10 s have passed since its last segment. -/
def Dev.transferOf (d : Dev) (master : Nat) : Option Transfer :=
  match d.odp.transfers.find? master with
  | some t => if d.past t.last 10000 then none else some t
  | none => none

/-- DOMAIN_TIMEOUT (R351): more than 10 s between segments abandons the transfer. -/
def execDomainTimeout (slot : Fin 32) (s : State) : Host.Outcome State Fault Refusal :=
  s.act fun d =>
    match d.slotSession slot with
    | some x => if d.booted && (d.transferOf x.id).isNone then d.dropTransfer x.id else d
    | none => d

end Sys2Proof.Machine
end

