-- ==== Sys2Proof/Machine/Registers.lean ====
section
/-! DEFINITION. Machine/Registers.lean: what a read and a write of any register do (R8, R387 to R395, R399), the read latches and pushes of
the queues (R402 to R404) and the snapshot (R400). -/

namespace Sys2Proof.Machine

/-- The device with its packet memory: the memory as it was, the bytes stored since, the device. -/
structure Box where
  base : Mem
  writes : List (Nat × Byte) := []
  dev : Dev

/-- The packet memory as it stands. -/
def Box.mem (b : Box) : Mem := b.base.writeAll b.writes

/-- Change the device. -/
def Box.up (b : Box) (f : Dev → Dev) : Box := { b with dev := f b.dev }

/-- The effect of a command on the device and its packet memory. -/
def State.actBox (s : State) (f : Box → Box) : Host.Outcome State Fault Refusal :=
  s.actMem fun m d =>
    let b := f { base := m, dev := d }
    (b.writes, b.dev)

/-! ### Queues (R402 to R404) -/

/-- The first word of bytes, little-endian, and the bytes that follow. -/
def takeWord (b : List Byte) : Nat × List Byte := (leAt b 0 4, b.drop 4)

/-- A read of a queue port: a word of the latch, of the next item, or of the idle item. DESIGN CHOICE (log 163). -/
def Dev.popWord (d : Dev) (q : Nat) : Nat × Dev :=
  let x := d.que q
  if q = 0 then (0xFFFFFFFF, d)
  else if !x.latch.isEmpty then ((takeWord x.latch).1, d.setQue q { x with latch := (takeWord x.latch).2 })
  else if 0 < x.idle then (0xFFFFFFFF, d.setQue q { x with idle := x.idle - 1 })
  else match x.items with
    | i :: rest => ((takeWord i).1, d.setQue q { x with items := rest, latch := (takeWord i).2 })
    | [] => (0xFFFFFFFF, d.setQue q { x with idle := itemSize q / 4 - 1 })

/-- The words of a push enter Q0 one by one; the first word of an item waits while a back-pressured Q0 is full. -/
def Dev.pushWords (d : Dev) : List Nat → Dev
  | [] => { d with host := { d.host with stalled := [] } }
  | w :: ws =>
    let x := d.que 0
    let full := decide (queueCap 0 ≤ x.items.length)
    if x.part.isEmpty && full && d.rd (F.QUE_CFG_POLICY.at [0]) = 1 then { d with host := { d.host with stalled := w :: ws } }
    else if x.part.isEmpty then (d.setQue 0 { x with part := toLE 4 w }).pushWords ws
    else
      let item := x.part ++ toLE 4 w
      let d := if full then (d.setQue 0 { x with items := x.items.drop 1 ++ [item], part := [] }).count (F.QUE_LOSS_LOSS.at [0])
        else (d.setQue 0 { x with items := x.items ++ [item], part := [] }).peak 0
      d.pushWords ws

/-- Discard a queue's items and its latch; the frames of discarded receive items return their buffers. DESIGN CHOICE (log 172). -/
def Dev.flushQueue (d : Dev) (q : Nat) : Dev :=
  let x := d.que q
  let d := if 8 ≤ q && q ≤ 12 then x.items.foldl (fun d i => d.returnChain (leAt i 8 4)) d else d
  d.setQue q { x with items := [], latch := [], idle := 0 }

/-! ### The snapshot (R400) -/

/-- A counter: an ROC field wider than one bit. -/
def isCounter (f : Fld) : Bool := f.acc = .c && 1 < f.w

/-- A peak register reloads with its queue's present count. -/
def isPeak (f : Fld) : Bool := f.blk = 13 && 0x100 ≤ f.off && f.off % 0x20 = 8

/-- What a counter holds once read: 0, or what its kind of extreme reloads with (R391). -/
def Dev.reload (d : Dev) (f : Fld) : Nat :=
  if isPeak f then (d.que (ixOf 0x108 0x20 f.off)).items.length else f.reset

/-- Take a snapshot of every counter, and clear them where asked. -/
def Dev.takeSnapshot (d : Dev) (clear : Bool) : Dev :=
  let d := d.countPauses
  let counts := d.regs.live.filter (fun r => match fieldOf r.1 with | some f => isCounter f | none => false)
  let n := (d.rd F.SNAP_STATUS_COUNT + 1) % 65536
  let d := { d with regs := { d.regs with snap := counts, stamp := d.time.tai } }
  let d := if clear then
      counts.foldl (fun d r => match fieldOf r.1 with | some f => d.wr f (d.reload f) | none => d) d
    else d
  (d.wr F.SNAP_STATUS_VALID 1).wr F.SNAP_STATUS_COUNT n

/-- SNAP_CMD. -/
def Dev.snapCmd (d : Dev) (data : Nat) : Dev :=
  let d := if bitAt data 0 then d.takeSnapshot (bitAt data 1) else d
  if bitAt data 4 then d.wr F.SNAP_STATUS_VIEW 1 else if bitAt data 5 then d.wr F.SNAP_STATUS_VIEW 0 else d

/-! ### Reads -/

/-- The fields of the register at a folded offset. -/
def Dev.regFields (d : Dev) (r : Reg) (ix : List Nat) (off : Nat) : List Fld := r.flds.map (fun g => (g.at ix).un (d.unitOf r off))

/-- The queue whose port lies at an offset of the queue block. -/
def portQueue (blk off : Nat) : Option Nat :=
  if blk = 13 && 0x100 ≤ off && off % 0x20 = 0x10 then some (ixOf 0x110 0x20 off) else none

/-- A register whose read takes a transmit buffer (R178). -/
def isTxAlloc (blk off : Nat) : Bool := blk = 5 && (off = 0x402C || off % 0x4000 = 0x110C)

/-- What a field shows a reader: the held value of a counter while the host views a snapshot. -/
def Dev.shows (m : Mem) (d : Dev) (view : Bool) (f : Fld) : Nat :=
  if view && isCounter f then d.regs.snap.get f.reset f.key else d.fieldNow m f

/-- The clears of a read (R391). -/
def Dev.readClear (d : Dev) (view : Bool) (f : Fld) : Dev :=
  if f.acc ≠ .c then d
  else if f.w = 1 then d.wr f 0
  else if view then d else d.wr f (d.reload f)

/-- A read of the register at a folded offset, with every effect it has. -/
def Dev.readReg (m : Mem) (d : Dev) (host : Bool) (blk off : Nat) : Nat × Dev :=
  match portQueue blk off with
  | some q => d.popWord q
  | none =>
    let d := if blk = 5 then d.countPauses else d
    if isTxAlloc blk off then d.txAlloc
    else match findReg blk off with
      | none => (0, d)
      | some (r, ix) =>
        let view := host && d.on F.SNAP_STATUS_VIEW
        let fs := d.regFields r ix off
        let word := (fs.map (fun f => d.shows m view f * 2 ^ f.lo)).sum
        let copies := d.latches blk off (d.unitOf r off)
        let d := copies.foldl (fun d c => d.wr c.1 c.2) d
        (word, fs.foldl (fun d f => d.readClear view f) d)

/-- The word that a bit alias names (R390), and the bit. -/
def aliasOf (a : Nat) : Nat × Nat × Nat :=
  let p := decodeAddr (a / 0x8000 % 16 * 65536 + a % 0x8000 / 128 * 4)
  (p.1, p.2, a % 128 / 4)

/-- A read of a bit alias. DESIGN CHOICE (log 94). -/
def Dev.readAlias (m : Mem) (d : Dev) (host : Bool) (a : Nat) : Nat × Dev :=
  let p := aliasOf a
  match findReg p.1 p.2.1 with
  | none => (0, d)
  | some (r, ix) =>
    match (d.regFields r ix p.2.1).find? (fun f => decide (f.lo ≤ p.2.2 ∧ p.2.2 < f.lo + f.w)) with
    | none => (0, d)
    | some f =>
      if (portQueue p.1 p.2.1).isSome || isTxAlloc p.1 p.2.1 then (0, d)
      else
        let v := bit (bitAt (d.shows m (host && d.on F.SNAP_STATUS_VIEW) f) (p.2.2 - f.lo))
        (v, if f.acc = .c && f.w = 1 then d.wr f 0 else d)

/-- A read at any address (R387 to R391). -/
def Dev.readWord (m : Mem) (d : Dev) (host : Bool) (addr : Nat) : Nat × Dev :=
  if bitAt addr 23 then d.readAlias m host (addr % 0x80000)
  else
    let p := decodeAddr addr
    d.readReg m host p.1 p.2

/-! ### Writes -/

/-- Store what software writes to a field, by its access code (R8), with the acts that its strobe will bring (R114, R115). DESIGN CHOICE (log 168). -/
def Dev.setField (d : Dev) (f : Fld) (v : Nat) : Dev :=
  match f.acc with
  | .b =>
    let d := d.wrB f v
    if f.blk = 3 && f.off = 0x14 && f.lo = 0 then d.markAct 3 actOffset
    else if f.blk = 3 && (f.off = 0x18 && f.lo = 31 || f.off = 0x1C || f.off = 0x20) then d.markAct 3 actLeap
    else d
  | .i => d.wr f v
  | .s => d.wr f (Nat.lor (d.rd f) v)
  | _ => d

/-- Who writes a register: the master, and whether it writes through RawRegisters, whose entry stands for the command's own. -/
structure Writer where
  asker : Asker
  raw : Bool

/-- A command of a block (R161, R269, R327, R55): it is journalled as a command, refused with MODE where its EXEC would be (R308), and
with BUSY where the journal has no room. -/
def Dev.command (d : Dev) (w : Writer) (op index sub row : Nat) (value : List Byte) (run : Dev → Dev × Status) : Dev × Status :=
  if w.raw then run d
  else if !d.journalRoom then (d.q7 4, .busy)
  else
    let r := if d.modeAllows index sub then run d else (d, .mode)
    (r.1.journal w.asker.master w.asker.role.code op r.2 w.asker.flags index sub row value, r.2)

/-- The entry in the window's DATA. -/
def Dev.windowBytes (d : Dev) : List Byte := (List.range 32).flatMap (fun w => toLE 4 (d.rd (F.ALM_ENT_DATA_DATA.at [w])))

/-- An entry written by ENGINEER rights or a session's: rights, the checks of R148, then the content. -/
def View.almStore (v : View) (row : Nat) (b : List Byte) (a : Asker) : Dev × Status :=
  if !v.almMayWrite row b a.role then (v.dev, .accessDenied)
  else
    let st := v.almStatus row b
    if st = .ok then (v.dev.almWrite row b a, .ok) else (v.dev, st)

/-- ALM_ENT_CMD (R161). -/
def Dev.almCommand (m : Mem) (d : Dev) (w : Writer) (op : Nat) : Dev :=
  let row := d.rd F.ALM_ENT_ROW_ROW
  let b := d.windowBytes
  let safe := d.almSafe row && w.asker.role != .safety
  let cancel := fun (whole : Bool) => d.command w 2 0x3020 0 0 (toBE 2 row ++ toBE 1 (bit whole))
    (fun d => if safe then (d, .accessDenied) else d.almCancel row whole)
  if op = 1 then d.almWindow row
  else
    let r := match op with
      | 2 => d.command w 1 0x3000 0 row b (fun d => View.almStore ⟨m, d, w.asker.master⟩ row b w.asker)
      | 3 => cancel false
      | 4 => cancel true
      | 5 => d.command w 2 0x3021 0 0 (toBE 2 row) (fun d => if safe then (d, .accessDenied) else d.almConfirm row)
      | _ => (d, .range)
    r.1.wr F.ALM_ENT_RESULT_STATUS r.2.code

/-- Show the result of LIB_CMD. -/
def Dev.libResult (d : Dev) (st : Status) (voice : Option Nat) : Dev :=
  let d := d.wr F.LIB_CMD_RESULT_STATUS st.code
  match voice with | some v => d.wr F.LIB_CMD_RESULT_VOICE v | none => d

/-- LIB_CMD (R269): plays are class A; a rewind shows BUSY until its boundary decides it. -/
def Dev.libCommand (d : Dev) (w : Writer) (op : Nat) : Dev :=
  let d0 := d.rd F.LIB_CMD_DATA0_DATA
  let d1 := d.rd F.LIB_CMD_DATA1_DATA
  let voice := d1 / 2 ^ 24
  let level := d1 / 2 ^ 16 % 256
  let zones := d1 % 256
  let mark := d.rd F.LIB_CMD_DATA2_MARK
  let chan := d.rd F.LIB_CMD_DATA2_CHANNEL
  let len := d.rd F.LIB_CMD_LEN_LENGTH
  if d.on F.LIB_CMD_RESULT_BUSY then d.wr F.LIB_CMD_RESULT_STATUS Status.busy.code
  else match op with
    | 1 =>
      let p : Play := ⟨.message d0, voice, level, zones, false, 2, d.playDue, none, none⟩
      let got := (d.playRequest p).2.2
      let r := d.command w 2 0x6020 0 0 (toBE 4 d0 ++ toBE 1 voice ++ toBE 1 level ++ toBE 2 zones)
        (fun d => ((d.playRequest p).1, (d.playRequest p).2.1))
      r.1.libResult r.2 (some got)
    | 2 =>
      let r := d.command w 2 0x6021 0 0 (toBE 4 d1 ++ toBE 4 d0) (fun d => d.voiceStop (d1 * 2 ^ 32 + d0) false)
      r.1.libResult r.2 none
    | 3 =>
      let p : Play := ⟨.rewind 0 chan len, voice, level, zones, false, 2, d.playDue, some mark, none⟩
      let r := d.command w 2 0x6014 0 0 (toBE 1 mark ++ toBE 1 chan ++ toBE 1 voice ++ toBE 1 level ++ toBE 2 zones ++ toBE 4 len)
        (fun d => ((d.playRequest p).1, (d.playRequest p).2.1))
      (r.1.libResult r.2 none).wrBit F.LIB_CMD_RESULT_BUSY (r.2 = .ok)
    | 4 =>
      let r := d.command w 2 0x6013 0 0 (toBE 1 mark ++ toBE 8 len ++ toBE 4 d0) (fun d => d.markSet mark len d0 w.asker.master)
      r.1.libResult r.2 none
    | _ => d.libResult .range none

/-- GCTL_MODE_REQ with REQ_GO (R55): the request is judged, journalled and its status shown. A word with FORCE writes nothing (R393), but
its request is judged in the order of R55 and refused. -/
def Dev.modeReqWrite (d : Dev) (w : Writer) (target : Nat) (force : Bool) : Dev :=
  let value := target + 128 * bit force
  let d := if force then d else d.wr F.GCTL_MODE_REQ_TARGET target
  let r := d.command w 1 0x1002 0 0 [byteOf value] (fun d => d.modeRequest value .engineer w.asker.master)
  r.1.wr F.GCTL_MODE_REQ_RESULT r.2.code

/-- The outcome of a write (R386): performed, ignored, locked, denied; or a status of its own for a refused field of the mode's. -/
inductive Wrote where
  | ok | ignored | locked | denied
  deriving DecidableEq, Repr

/-- The field of an object that a register field backs: the object, the row and the column's number. -/
def objField (f : Fld) : Option (Obj × Nat × Nat) :=
  match fieldObject f with
  | none => none
  | some i =>
    match objAt i 0 with
    | none => none
    | some o =>
      ((o.cols f.unit).zipIdx 1).findSome? (fun x =>
        match x.1.src with | .reg [g] => if g.key = f.key then some (o, f.unit, x.2) else none | _ => none)

/-- A field written through a register needs SAFETY for what its row is or would be (R247, R251, R274, R393). -/
def View.regNeedsSafety (v : View) (fs : List (Fld × Nat)) : Bool :=
  fs.any (fun x =>
    match objField x.1 with
    | some (o, row, n) =>
      (x.1.blk = 8 || x.1.blk = 10) &&
        v.needsSafety o ⟨o.index, n, row, [], none, fs.filterMap (fun y =>
          match objField y.1 with
          | some (q, r, k) => if q.index = o.index && r = row then ((o.cols row)[k - 1]?).map (fun c => (k, c, y.2)) else none
          | none => none)⟩
    | none => false)

/-- A block's result register records a status. -/
def Dev.blockResult (d : Dev) (blk off unit : Nat) (st : Status) : Dev :=
  match blk with
  | 0 => if off = 0xC then d.wr F.GCTL_MODE_REQ_RESULT st.code else d
  | 6 => d.ctxResult unit st
  | 7 => d.aptResult (off / 0x800) st
  | 8 =>
    if 0x100 ≤ off ∧ off < 0x200 then d.mtxResult unit st
    else if 0x200 ≤ off ∧ off < 0x300 then d.mtxResult (32768 + unit) st
    else d.wr F.MTX_RESULT_RESULT st.code
  | 10 => d.wr F.SUP_RESULT_RESULT st.code
  | _ => d

/-- The mode refuses a field: MatrixRate, PairEnable and CascadeRank outside COMMISSION and MAINTENANCE (R241, R300, R322). DESIGN CHOICE (log 113). -/
def Dev.modeBars (d : Dev) (f : Fld) : Bool :=
  (f.blk = 8 && f.off = 0 || f.blk = 11 && (f.off = 0 && f.lo = 31 || f.off = 0x200)) &&
    d.mode.mode != .commission && d.mode.mode != .maintenance

/-- What a write does beside storing: the commands and strobes of each block, by the register's block and offset. DESIGN CHOICE (log 113, 166, 167). -/
def Box.regAct (b : Box) (w : Writer) (r : Reg) (ix : List Nat) (off data : Nat) : Box :=
  let n := ix.headD 0
  let d := b.dev
  match r.blk with
  | 0 =>
    if r.off = 0x1000 then b.up (·.strobe (data % 65536))
    else if r.off = 0x1100 then b.up (·.snapCmd data)
    else b
  | 1 => if r.off = 0x404 then b.up (·.setTrim n (sgn 32 data) false) else b
  | 2 =>
    if r.off = 0x1C then b.up (fun d => (bitList 16 data).foldl Dev.acceptStep d)
    else if r.off = 0x24 then b.up (fun d => d.commitWord (sgn 48 (data % 65536 * 2 ^ 32 + d.rd F.REF_NCO_LO_LO)))
    else if r.off = 0x60C && bitAt data 31 then b.up (·.realign (2 ^ n))
    else b
  | 3 => if r.off = 0x18 && bitAt data 29 then b.up (fun d => d.cancelLeap.1) else b
  | 4 => if r.off = 0x104 then b.up (fun d => d.almCommand b.mem w (data % 16)) else b
  | 5 =>
    if r.off = 0x4008 && bitAt data 31 then
      b.up (fun d => d.mdio (bitAt data 30) (fieldAt data 28 2) (fieldAt data 23 5) (fieldAt data 18 5) (d.rd F.MGT_MDIO_DATA_DATA))
    else if r.off = 0x4028 || r.off = 0x1108 then b.up (·.returnChain data)
    else if r.off = 0x4030 then b.up (fun d => Dev.txPost b.mem d 4 (fieldAt data 29 3) (fieldAt data 18 11) (fieldAt data 0 11))
    else if r.off = 0x1110 then b.up (fun d => Dev.txPost b.mem d n (fieldAt data 29 3) (fieldAt data 18 11) (fieldAt data 0 11))
    else if r.off = 0x2000 || r.off = 0x6800 then
      let buf := if r.off = 0x6800 then d.rd F.MGT_BUF_SEL_SEL else d.rd (F.NET_BUF_SEL_SEL.at [n])
      let at_ := if r.off = 0x6800 then off - 0x6800 else off % 0x4000 - 0x2000
      if d.hostBuffer buf then
        { b with writes := b.writes ++ (List.range 4).map (fun i => (bufAddr buf (at_ + i), byteOf (data / 256 ^ i))) }
      else b
    else b
  | 8 =>
    if r.off = 0x100 || r.off = 0x200 then
      b.up (fun d => d.wr F.MTX_RESULT_RESULT (d.mtx.results.get 0 (if r.off = 0x100 then data % 2 ^ 15 else 32768 + data % 2 ^ 11)))
    else b
  | 9 => if r.off = 0x20 then b.up (·.libCommand w (data % 16)) else b
  | 10 =>
    if r.off = 0x150 && bitAt data 0 then b.up (fun d => d.pilotLearn (d.unitOf r off))
    else if r.off = 0x404 && bitAt data 31 then b.up Dev.vigilAbort
    else b
  | 11 => if r.off = 0x30 && bitAt data 0 then b.up (fun d => (d.command w 2 0x8003 0 0 [] Dev.pairDrill).1) else b
  | 12 => if r.off = 0x1C then b.up (·.writeReserve (data % 2 ^ 24)) else b
  | 13 =>
    if r.off = 0x110 then (if n = 0 then b.up (fun d => d.pushWords (d.host.stalled ++ [data])) else b)
    else if r.off = 0x118 && bitAt data 0 then b.up (·.flushQueue n)
    else b
  | 14 => if r.off = 0x10C && bitAt data 0 then b.up (·.reread n) else b
  | _ => b

/-- A write of fields of one register: rights, locks, then the stores and what they bring. `only` is the bit that a bit alias writes.
DESIGN CHOICE (log 164). -/
def Box.writeReg (b : Box) (w : Writer) (blk off data : Nat) (only : Option Nat) : Box × Wrote :=
  match findReg blk off with
  | none => (b, .ignored)
  | some (r, ix) =>
    let d := b.dev
    let unit := d.unitOf r off
    let reach := fun (f : Fld) => match only with | some i => decide (f.lo ≤ i ∧ i < f.lo + f.w) | none => true
    let fs := (d.regFields r ix off).filter (fun f => reach f && (f.acc = .b || f.acc = .i || f.acc = .s || f.acc = .w))
    let vals := fs.map (fun f => (f, fieldAt data f.lo f.w))
    let touched := vals.filter (fun x => only.isSome || x.2 ≠ d.fieldNow b.mem x.1)
    let locked := vals.any (fun x => d.fldLocked x.1)
    let denied := touched.any (fun x => x.1.sa) || View.regNeedsSafety ⟨b.mem, d, w.asker.master⟩ touched
    let deny : Box × Wrote :=
      (b.up (fun d =>
        if blk = 0 && r.off = 0xC && bitAt data 31 then d.modeReqWrite w (data % 16) true
        else d.blockResult blk off unit .accessDenied), .denied)
    let isPort := (portQueue blk off).isSome
    if isPort then (if off = 0x110 && only.isNone then (b.regAct w r ix off data, .ok) else (b, .ignored))
    else if fs.isEmpty then (b, .ignored)
    else if w.raw && denied then deny
    else if locked then (b.up Dev.lockDenied, .locked)
    else if denied then deny
    else if blk = 15 && r.off = 0x40 && d.on F.DMB_STATUS_BUSY then (b.up (·.count F.DMB_IGNORED_COUNT), .ignored)
    else if blk = 5 && r.off = 0x4008 && d.on F.MGT_MDIO_CMD_GO then (b, .ok)
    else if blk = 0 && r.off = 0xC then
      (b.up (fun d => if bitAt data 31 then d.modeReqWrite w (data % 16) false else d.wr F.GCTL_MODE_REQ_TARGET data), .ok)
    else if vals.any (fun x => d.modeBars x.1 && x.2 ≠ d.fieldNow b.mem x.1) then
      (b.up (fun d => if blk = 8 then d.blockResult blk off unit .mode else d), .ignored)
    else
      let guard := (vals.filter (fun x => decide (x.1 = F.ALM_CFG_GUARD_MS) && !fieldBad x.1 x.2)).map (·.2)
      let leadLeast := guard.headD (d.rd F.ALM_CFG_GUARD_MS) + 8
      let store := vals.filter (fun x => !(x.1.acc = .i && fieldBad x.1 x.2) && !(blk = 2 && r.off = 0x24) && !(blk = 5 && r.off = 0x4008) &&
        !(blk = 13 && x.1.lo = 0 && ix.headD 0 < 13) && !(blk = 4 && r.off = 0 && x.1.lo = 0 && decide (x.2 < leadLeast)))
      let b := b.up (fun d => store.foldl (fun d x => d.setField x.1 x.2) d)
      (b.regAct w r ix off data, .ok)

/-- A write of a bit alias (R390): every other bit unchanged; in a write-only register every other bit is 0. DESIGN CHOICE (log 165). -/
def Box.writeAlias (b : Box) (w : Writer) (a : Nat) (v : Bool) : Box × Wrote :=
  let p := aliasOf a
  match findReg p.1 p.2.1 with
  | none => (b, .ignored)
  | some (r, ix) =>
    let f := (b.dev.regFields r ix p.2.1).find? (fun f => decide (f.lo ≤ p.2.2 ∧ p.2.2 < f.lo + f.w))
    let rest : Nat := match f with
      | some g => if g.acc = .w || g.acc = .s then 0 else (b.dev.regFields r ix p.2.1).foldl (fun n h => n + b.dev.fieldNow b.mem h * 2 ^ h.lo) 0
      | none => 0
    b.writeReg w p.1 p.2.1 (setBit rest p.2.2 v) (some p.2.2)

/-- A write at any address. -/
def Box.writeWord (b : Box) (w : Writer) (addr data : Nat) : Box × Wrote :=
  if bitAt addr 23 then b.writeAlias w (addr % 0x80000) (bitAt data 0)
  else
    let p := decodeAddr addr
    b.writeReg w p.1 p.2 data none

end Sys2Proof.Machine
end

