-- ==== Sys2Proof/Machine/Dictionary.lean ====
section
/-! DEFINITION. Machine/Dictionary.lean: READ, WRITE and EXEC over the objects (R348, R349, R357, R360, R380), and the forwarding of
accepted commands to a standby (R308). -/

namespace Sys2Proof.Machine

/-! ### READ (R348) -/

/-- What a request is answered: its status, rows, data, the number of its journal entry, and whether the answer comes later. -/
structure Reply where
  status : Status
  rows : Nat := 0
  data : List Byte := []
  jseq : Nat := 0
  wait : Bool := false

/-- The 24-byte form of a journalled value, and whether it is the hash (R360). -/
def valueForm (v : List Byte) : List Byte × Bool := if v.length ≤ 24 then (slice v 0 24, false) else ((sha256 v).take 24, true)

/-- An entry's 64 bytes (R360). -/
def Entry.bytes (e : Entry) : List Byte :=
  let f := valueForm e.value
  let b := toLE 8 e.seq ++ e.tai.le12 ++ toLE 4 e.master ++ toLE 1 e.role ++ toLE 1 e.op ++ toLE 1 e.status.code ++
    toLE 1 (e.flags + bit f.2) ++ toLE 2 e.index ++ toLE 1 e.sub ++ toLE 3 e.row ++ toLE 2 (min 0xFFFF e.value.length) ++ f.1
  b ++ toLE 4 (crc32c b)

/-- The entry of a sequence number, durable or staged; 64 zero bytes where a number has none (R362). -/
def Journal.entryAt (j : Journal) (seq : Nat) : List Byte :=
  match (j.ring ++ j.staged).find? (fun e => e.seq = seq) with
  | some e => e.bytes
  | none => List.replicate 64 0

/-- A READ of JournalEntries: the row holds the low 24 bits of the number, the value the bits above. DESIGN CHOICE (log 155). -/
def Dev.readJournal (d : Dev) (row count : Nat) (value : List Byte) (limit : Nat) : Reply :=
  let j := d.odp.journal
  let first := ofBE value * 2 ^ 24 + row
  if first < j.oldest || j.head < first then { status := .range }
  else
    let n := min (min (max 1 count) (j.head + 1 - first)) (limit / 64)
    { status := .ok, rows := n, data := (List.range n).flatMap (fun i => j.entryAt (first + i)) }

/-- A READ of RawRegisters: each register as the host port would read it, with every effect. -/
def Dev.readRaw (m : Mem) (d : Dev) (row count limit : Nat) : Reply × Dev :=
  let n := min (min (max 1 count) (4194304 - row)) (limit / 4)
  let r := (List.range n).foldl (fun (acc : List Byte × Dev) i =>
    let w := acc.2.readWord m false (4 * (row + i))
    (acc.1 ++ toBE 4 w.1, w.2)) ([], d)
  ({ status := .ok, rows := n, data := r.1 }, r.2)

/-- The bytes of a row at a subindex; none where it has none. -/
def View.rowBytes (v : View) (o : Obj) (sub row : Nat) : Option (List Byte) :=
  (o.named sub row).map (fun cs => cs.flatMap (fun c => v.colRead row c.2))

/-- Rows in order, while they exist and fit. -/
def View.rowsFrom (v : View) (o : Obj) (sub : Nat) : Nat → Nat → Nat → Nat × List Byte
  | 0, _, _ => (0, [])
  | n + 1, row, room =>
    match v.rowBytes o sub row with
    | none => (0, [])
    | some b =>
      if room < b.length then (0, [])
      else
        let r := View.rowsFrom v o sub n (row + 1) (room - b.length)
        (r.1 + 1, b ++ r.2)

/-- A request that names 0xF000 to 0xFFFF freezes its master (R357, R395). -/
def Dev.breach (d : Dev) (a : Asker) : Dev := d.freeze a.master (if a.master = 1 then 4 else 1)

/-- A READ, in the order of the checks. A frozen session reads FreezeStatus alone. -/
def Dev.dictRead (m : Mem) (d : Dev) (a : Asker) (index sub row count : Nat) (value : List Byte) (limit : Nat) : Reply × Dev :=
  let d := if index = 0x4005 then d.countPauses else d
  let v : View := ⟨m, d, a.master⟩
  if d.isFrozen a.master && (index ≠ 0x1112 || a.host) then ({ status := .frozen }, d)
  else if 0xF000 ≤ index then ({ status := .accessDenied }, d.breach a)
  else if (objsAt index).isEmpty then ({ status := .noObject }, d)
  else match objAt index sub with
    | none => ({ status := .noSubindex }, d)
    | some o =>
      let tbl : Bool := match o.form with | .table _ => true | _ => false
      let named := index = 0x6010 || index = 0x6022
      if !tbl && row ≠ 0 && (match o.form with | .domain _ => false | _ => true) then ({ status := .noSubindex }, d)
      else if o.rows ≤ row then ({ status := if named then .noSubindex else .range }, d)
      else if (o.named sub row).isNone then ({ status := .noSubindex }, d)
      else if !grants o o.read a.role then ({ status := .accessDenied }, d)
      else if index = 0x1201 then (d.readJournal row count value limit, d)
      else if index = 0xA000 then d.readRaw m row count limit
      else
        let r := v.rowsFrom o sub (if tbl then max 1 count else 1) row limit
        ({ status := .ok, rows := r.1, data := r.2 }, d)

/-! ### The checks of a WRITE and an EXEC (R349) -/

/-- The host port has no path to keys (R127, R137). -/
def hostBarred (a : Asker) (index : Nat) : Bool := a.host && (index = 0x2413 || index = 0x2500)

/-- The object addressed, with its existence, subindex and row (checks 2 and 3). DESIGN CHOICE (log 154). -/
def addressed (index sub row : Nat) : Status × Option Obj :=
  if (objsAt index).isEmpty then (.noObject, none)
  else match objAt index sub with
    | none => (.noSubindex, none)
    | some o => if o.rows ≤ row || (o.named sub row).isNone then (.noSubindex, none) else (.ok, some o)

/-- Checks 2 to 8 of a WRITE. -/
def View.writeChecks (v : View) (a : Asker) (index sub row : Nat) (value : List Byte) : Status :=
  match addressed index sub row with
  | (st, none) => st
  | (_, some o) =>
    let r := v.request o index sub row value
    let right := v.mayWrite o r a.role && !hostBarred a index &&
      (index ≠ 0x3000 || v.almMayWrite row (if r.parts.isSome then value else v.dev.almShown row) a.role || r.checked.isEmpty)
    if !right then .accessDenied
    else if !v.dev.modeAllows index sub then .mode
    else if v.dev.writeLocked r then .locked
    else if r.parts.isNone then .typeMismatch
    else if v.writeBad o r then .range
    else .ok

/-- The bytes of an EXEC's arguments. -/
def Obj.argBytes (o : Obj) : Option Nat := match o.form with | .exec l => some l.sum | _ => none

/-- Checks 2 to 8 of an EXEC. -/
def Dev.execChecks (d : Dev) (a : Asker) (index sub row : Nat) (value : List Byte) : Status :=
  match addressed index sub row with
  | (st, none) => st
  | (_, some o) =>
    match o.argBytes with
    | none => .accessDenied
    | some n =>
      if !d.mayExec o value a.role then .accessDenied
      else if !d.modeAllows index sub then .mode
      else if value.length ≠ n then .typeMismatch
      else if execBad index sub value a.master then .range
      else .ok

/-! ### What a WRITE does -/

/-- A field that only the dictionary holds, and registers behind a field, take a value. -/
def Dev.writeCol (d : Dev) (row : Nat) (c : Col) (n : Nat) : Dev :=
  match c.src with
  | .store i s _ => d.setObj i s row (c.take n)
  | .reg _ => (c.fields (c.take n)).foldl (fun d x => d.setField x.1 x.2) d
  | .le _ => (c.fields n).foldl (fun d x => d.setField x.1 x.2) d
  | .calc _ => d

/-- A row waits to issue (R137): from the strobe where ACTIVATE_AT is 0, else from ACTIVATE_AT. -/
def Dev.ntsWait (d : Dev) (row : Nat) : Dev :=
  let now := d.obj 0x2500 4 row = 0
  let d := (d.setObj 0x2500 3 row 1).setObj 0x2500 6 row (if now then 1 else 2)
  if now then d.markAct 3 actNts else d

/-- NtsKeys (R137): a row written as ISSUE accepts until it issues; a row written as EMPTY is zeroised. `wrote` are the fields written:
a wait stands until STATE is written, and follows a new ACTIVATE_AT. The issuing row, written to another state, is lost. -/
def Dev.writeNts (d : Dev) (row was : Nat) (wrote : Nat → Bool) : Dev :=
  let lost := fun (d : Dev) => if was = 2 then d.irq F.TIM_IRQ_STATUS_NO_ISSUE_KEY row else d
  match d.obj 0x2500 3 row with
  | 0 => lost (d.ntsClear row)
  | 1 =>
    if wrote 3 then lost (d.setObj 0x2500 6 row 0)
    else if wrote 4 && d.ntsWaits row ≠ 0 then d.ntsWait row
    else d
  | _ => if was = 2 then d else d.ntsWait row

/-- LeapEvent (R115): a write that leaves the event armed arms it at the strobe; ARMED = 0 disarms it. DESIGN CHOICE (log 63). -/
def Dev.writeLeap (d : Dev) (r : Request) (armed : Bool) : Dev × Status :=
  let hi := r.checked.find? (fun p => p.1 = 1)
  let d := match hi with
    | some p =>
      let sec := p.2.2 / 2 ^ 32
      (d.wrB F.TIM_LEAP_AT_HI_HI (sec / 2 ^ 32)).wrB F.TIM_LEAP_AT_LO_LO (sec % 2 ^ 32)
    | none => d
  let d := match r.checked.find? (fun p => p.1 = 2) with | some p => d.wrB F.TIM_LEAP_CFG_DIR p.2.2 | none => d
  if armed then (if r.checked.isEmpty then (d, .ok) else ((d.wrB F.TIM_LEAP_CFG_ARM 1).markAct 3 actLeap, .ok))
  else if r.checked.any (fun p => p.1 = 4) then (d.wrB F.TIM_LEAP_CFG_ARM 0).cancelLeap
  else (d, .ok)

/-- A forced selector (R112): 0xFF frees it. DEDUCED (log 45). -/
def Dev.writeForce (d : Dev) (en slot : Fld) (v : Nat) : Dev := if v = 0xFF then d.wrB en 0 else (d.wrB en 1).wrB slot v

/-- The status of a register write made through RawRegisters (R380). -/
def Wrote.status : Wrote → Status
  | .ok | .ignored => .ok
  | .locked => .locked
  | .denied => .accessDenied

/-- What a WRITE that passed the checks does, with the object's own rules (check 10). -/
def Box.writeObj (b : Box) (a : Asker) (r : Request) : Box × Status :=
  let b := b.up (·.serviceFields (r.checked.flatMap (fun p => p.2.1.behind)))
  let d := b.dev
  let one := match r.checked with | p :: _ => p.2.1.take p.2.2 | [] => ofBE r.value
  let plain := r.checked.foldl (fun d p => d.writeCol r.row p.2.1 p.2.2) d
  let to_ := fun (d : Dev) => ({ b with dev := d }, Status.ok)
  let both := fun (x : Dev × Status) => ({ b with dev := x.1 }, x.2)
  match r.index with
  | 0x1002 => both (d.modeRequest (ofBE r.value) a.role a.master)
  | 0x1020 => to_ (d.setObj 0x1020 r.sub 0 one)
  | 0x1101 => to_ (if r.checked.isEmpty then d else plain.closeKeyRow r.row)
  | 0x2010 =>
    if r.sub = 3 then to_ (d.writeForce F.REF_SEL_CTL_FORCE_F_EN F.REF_SEL_CTL_FORCE_F one)
    else if r.sub = 4 then to_ (d.writeForce F.REF_SEL_CTL_FORCE_T_EN F.REF_SEL_CTL_FORCE_T one)
    else to_ plain
  | 0x2012 =>
    if r.sub = 1 then to_ ((d.wrB F.REF_GNSS_CFG_LABEL (one / 128)).wrB F.REF_GNSS_CFG_BAUD (one / 16 % 8))
    else to_ (d.emit (.gnssText r.value))
  | 0x2030 => to_ (d.commitWord (sgn 64 one))
  | 0x2400 => to_ (d.setField F.TIM_UTC_CFG_MANUAL_OFFSET one)
  | 0x2401 =>
    let armed : Bool := match r.checked.find? (fun p => p.1 = 4) with | some p => p.2.2 = 1 | none => d.on F.TIM_STATUS_LEAP_ARMED
    both (d.writeLeap r armed)
  | 0x2500 => to_ (if r.checked.isEmpty then d else plain.writeNts r.row (d.ntsState r.row) (fun n => r.checked.any (fun p => p.1 = n)))
  | 0x3000 =>
    if r.checked.isEmpty then (b, .ok)
    else
      let st := View.almStatus ⟨b.mem, d, a.master⟩ r.row r.value
      if st = .ok then to_ (d.almWrite r.row r.value a) else (b, st)
  | 0x6000 => if r.checked.isEmpty then (b, .ok) else both (d.indexWrite r.row r.value)
  | 0x6010 => to_ (d.setLib { d.lib with marks := d.lib.marks.del r.row })
  | 0x9001 => to_ (d.writeReserve one)
  | 0xA000 =>
    let w := b.writeWord ⟨a, true⟩ (4 * r.row) (ofBE r.value)
    (w.1, w.2.status)
  | _ => to_ plain

/-! ### What an EXEC does -/

/-- The answer that an EXEC gives: its status, its data, whether it comes later. -/
structure Ran where
  status : Status := .ok
  data : List Byte := []
  wait : Bool := false

/-- A Commit is accepted (R365): one at a time, a second at the earliest after the last that wrote a header. -/
def Dev.startCommit (d : Dev) (origin reqSeq jseq : Nat) : Dev × Status :=
  let soon := match d.odp.commitDone with | some t => !d.past t 1000 | none => false
  if d.odp.commit.isSome || soon then (d, .busy)
  else ({ d with odp := { d.odp with commit := some ⟨origin, jseq, reqSeq⟩ } }, .ok)

/-- Strobe groups for an answer that waits until their blocks have applied (R350). -/
def Dev.startStrobe (d : Dev) (origin mask reqSeq jseq : Nat) : Dev :=
  let d := d.strobe mask
  { d with odp := { d.odp with strobes := d.odp.strobes ++ [⟨origin, mask, reqSeq, jseq, .ok⟩] } }

/-- What an EXEC that passed the checks does. `jseq` is the number that its entry will bear. -/
def Dev.execObj (d : Dev) (a : Asker) (index : Nat) (value : List Byte) (reqSeq jseq : Nat) : Dev × Ran :=
  let arg := fun (i n : Nat) => beAt value i n
  let both := fun (x : Dev × Status) => (x.1, ({ status := x.2 } : Ran))
  let reply := some (a.origin, reqSeq, jseq)
  match index with
  | 0x1050 =>
    if (List.range 16).any (fun b => bitAt (arg 0 2) (d.groupOf b)) then (d.startStrobe a.origin (arg 0 2) reqSeq jseq, { wait := true })
    else (d, {})
  | 0x1110 => if arg 0 4 = a.master then (d, { status := .accessDenied }) else (d.thaw a (arg 0 4), {})
  | 0x1111 => (d.freeze (arg 0 4) 5, {})
  | 0x1210 => both (d.startCommit a.origin reqSeq jseq)
  | 0x2002 => (d.clearRefHistory (arg 0 2), {})
  | 0x2011 => (d.acceptStep (arg 0 1), {})
  | 0x2051 => (d.realign (arg 0 1), {})
  | 0x3020 => both (d.almCancel (arg 0 2) (arg 2 1 = 1))
  | 0x3021 => both (d.almConfirm (arg 0 2))
  | 0x4011 =>
    if d.on F.MGT_MDIO_CMD_GO then (d, { status := .busy })
    else
      let d := d.mdio (arg 0 1 = 45) (arg 1 1) (arg 2 1) (arg 3 1) (arg 4 2)
      ({ d with net := { d.net with mdioReply := reply } }, { wait := true })
  | 0x4804 => (d.streamHistoryClear (arg 0 1), {})
  | 0x5003 => (d.portHistoryClear (arg 0 1), {})
  | 0x6013 => both (d.markSet (arg 0 1) (arg 1 8) (arg 9 4) a.master)
  | 0x6014 =>
    let r := d.playRequest (d.execPlay index value (a.role = .safety) reply)
    (r.1, { status := r.2.1, wait := decide (r.2.1 = .ok) })
  | 0x6020 =>
    let r := d.playRequest (d.execPlay index value (a.role = .safety) none)
    (r.1, { status := r.2.1, data := if r.2.1 = .ok then [byteOf r.2.2] else [] })
  | 0x6021 => both (d.voiceStop (arg 0 8) (a.role = .safety))
  | 0x7002 => (d.pilotLearn (arg 0 2), {})
  | 0x7012 => (d.vigilAbort, {})
  | 0x7021 => both (d.selfTestRun (arg 0 1) (arg 1 1))
  | 0x8003 => both d.pairDrill
  | 0x9804 => both (d.applyProposals (arg 0 2))
  | _ => (d, {})

/-- The operation code of an EXEC's entry (R360): a strobe and a commit have their own. DESIGN CHOICE (log 167). -/
def execOp (index : Nat) : Nat := if index = 0x1050 then 4 else if index = 0x1210 then 0x18 else 2

/-- The value of an EXEC's entry: a commit names the generation it makes. DESIGN CHOICE (log 149). -/
def Dev.execValue (d : Dev) (index : Nat) (value : List Byte) : List Byte :=
  if index = 0x1210 then toLE 4 ((match d.odp.store with | some s => s.generation | none => 0) + 1) else value

/-! ### Forwarding (R308) -/

/-- The bytes of a COMMAND frame. -/
def Command.bytes (c : Command) : List Byte :=
  toBE 8 c.seq ++ toBE 6 c.boundary ++ toBE 4 c.master ++ toBE 1 c.role.code ++ toBE 1 c.op ++ toBE 1 c.flags ++ toBE 2 c.index ++ toBE 1 c.sub ++
    toBE 3 c.row ++ c.value

/-- The active sends an accepted command to its standby, with its journal number and its boundary. -/
def Dev.forward (d : Dev) (a : Asker) (op index sub row : Nat) (value : List Byte) (jseq : Nat) : Dev :=
  if d.roleMode = .active && d.paired then
    d.emit (.irmon 4 (Command.bytes ⟨a.master, a.role, op, index, sub, row, value, a.flags, jseq, d.indexAt d.time.tai + 1⟩))
  else d

/-! ### A WRITE or EXEC as a whole -/

/-- The journal number that the next entry of a command takes. -/
def Dev.nextSeq (d : Dev) : Nat := d.odp.journal.head + (if d.odp.journal.restart.isSome then 2 else 1)

/-- A play refused for its class is counted (R251). -/
def Dev.noteClaim (d : Dev) (index : Nat) (value : List Byte) (a : Asker) (st : Status) : Dev :=
  if st = .accessDenied && (index = 0x6020 || index = 0x6014) && a.role != .safety && d.claimRefused (d.execPlay index value false none) then
    (d.tally F.MTX_CLAIM_REFUSED_COUNT).irq F.MTX_IRQ_STATUS_CLAIM_REFUSED
  else d

/-- A WRITE or EXEC: checked, applied, journalled with its status (R349). DESIGN CHOICE (log 148). -/
def Box.ask (b : Box) (a : Asker) (exec : Bool) (index sub row : Nat) (value : List Byte) (reqSeq : Nat) : Box × Reply :=
  let d := b.dev
  if d.isFrozen a.master then (b, { status := .frozen })
  else
    let op := if exec then execOp index else 1
    let entry := fun (d : Dev) (st : Status) => d.journal a.master a.role.code op st a.flags index sub row (if exec then d.execValue index value else value)
    let st : Status := if 0xF000 ≤ index then .accessDenied
      else if exec then d.execChecks a index sub row value else View.writeChecks ⟨b.mem, d, a.master⟩ a index sub row value
    if st ≠ .ok then
      let d := if st = .locked then d.lockDenied else if exec then d.noteClaim index value a st else d
      let d := entry d st
      let n := d.odp.journal.head
      (b.up (fun _ => if 0xF000 ≤ index then d.breach a else d), { status := st, jseq := n })
    else if !d.journalRoom then (b.up (·.q7 4), { status := .busy })
    else if exec then
      let x := d.execObj a index value reqSeq d.nextSeq
      let d := entry x.1 x.2.status
      let n := d.odp.journal.head
      let d := if x.2.status = .ok then d.forward a op index sub row value n else d
      let wait := x.2.wait || (index = 0x1210 && x.2.status = .ok)
      (b.up (fun _ => d), { status := x.2.status, data := x.2.data, jseq := n, wait := wait })
    else
      match objAt index sub with
      | none => (b, { status := .noSubindex })
      | some o =>
        let r := View.request ⟨b.mem, d, a.master⟩ o index sub row value
        let w := b.writeObj a r
        let d := entry w.1.dev w.2
        let n := d.odp.journal.head
        let d := if w.2 = .ok then d.forward a op index sub row value n else d
        (w.1.up (fun _ => d), { status := w.2, jseq := n })

end Sys2Proof.Machine
end

