-- ==== Sys2Proof/Machine/AlmanacLaunch.lean ====
section
/-! DEFINITION. Machine/AlmanacLaunch.lean: an occurrence at its instant (R152, R155 to R159): the decision, the action, the deferral. -/

namespace Sys2Proof.Machine

/-! ### The actions (R147) -/

/-- Run an operation on each of a list of units; the first status that is not OK stands. -/
def eachUnit (d : Dev) (l : List Nat) (f : Dev → Nat → Dev × Status) : Dev × Status :=
  l.foldl (fun acc n => let r := f acc.1 n; (r.1, acc.2.orElse r.2)) (d, .ok)

/-- The contexts of a STREAM_START or STREAM_STOP. -/
def almContexts (b : List Byte) : List Nat := bitList 256 (leAt (almPayload b) 0 32)

/-- The ports of a PORT_START or PORT_STOP. -/
def almPorts (b : List Byte) : List Nat := bitList 16 (leAt (almPayload b) 0 2)

/-- The predicted cost of a launch: that of the units it starts. -/
def Dev.almCost (d : Dev) (b : List Byte) : Nat :=
  match almAction b with
  | 3 => d.cost 3 ((almContexts b).filter (fun c => !d.ctxRuns c)).length
  | 5 => d.cost 7 ((almPorts b).filter (fun p => !d.aptRuns p)).length
  | 7 => d.cost 9 1
  | _ => 0

/-- A DICT_WRITE launches: checked again, made and journalled with the author's role (R149). DESIGN CHOICE (log 34). -/
def Box.almDictWrite (b : Box) (row : Nat) (x : AlmRow) : Box × Status :=
  let p := almPayload x.bytes
  let a : Asker := ⟨0, (roleOf x.role).getD .observer, 0, false, 4⟩
  let index := leAt p 0 2
  let sub := leAt p 2 1
  let target := leAt p 3 3
  let value := almTargetValue x.bytes
  let v : View := ⟨b.mem, b.dev, 0⟩
  let st := v.writeChecks a index sub target value
  let r : Box × Status :=
    if st ≠ .ok then ((if st = .locked then b.up Dev.lockDenied else b), st)
    else match objAt index sub with
      | none => (b, .noSubindex)
      | some o => b.writeObj a (v.request o index sub target value)
  (r.1.up (fun d => d.journal 0 x.role 0x21 r.2 4 index sub target (toLE 2 row ++ value)), r.2)

/-- The mode request of an Almanac row (R147, R149): judged with the author's role and journalled. DESIGN CHOICE (log 34). -/
def Dev.almModeRequest (d : Dev) (row : Nat) (x : AlmRow) (value : Nat) : Dev × Status :=
  let r := d.modeRequest value ((roleOf x.role).getD .observer) 0
  (r.1.journal 0 x.role 0x21 r.2 4 0x1002 0 0 (toLE 2 row ++ toLE 1 value), r.2)

/-- The action of a row takes effect. DESIGN CHOICE (log 34). -/
def Box.almAct (b : Box) (row : Nat) (x : AlmRow) : Box × Status :=
  let p := almPayload x.bytes
  let d := b.dev
  let done := fun (r : Dev × Status) => (b.up (fun _ => r.1), r.2)
  match almAction x.bytes with
  | 1 => b.almDictWrite row x
  | 2 => done (d.strobe (leAt p 0 2), .ok)
  | 3 => done (eachUnit d (almContexts x.bytes) Dev.ctxStart)
  | 4 => done (eachUnit d (almContexts x.bytes) (fun d c => (d.ctxStop c, .ok)))
  | 5 => done (eachUnit d (almPorts x.bytes) Dev.aptStart)
  | 6 => done (eachUnit d (almPorts x.bytes) (fun d q => (d.aptStop q, .ok)))
  | 7 =>
    let play : Play := ⟨.message (leAt p 0 4), leAt p 4 1, leAt p 5 1, leAt p 6 2, almClass x.bytes = 0, 1, d.time.cycles, none, none⟩
    let r := d.playRequest play
    done (r.1, r.2.1)
  | 8 => done (d.voiceStop (leAt p 0 8) (almClass x.bytes = 0))
  | 9 => done (d.gainRamp (leAt p 0 2) (sgn 32 (leAt p 2 4)) (leAt p 6 2), .ok)
  | 10 =>
    done (d.almModeRequest row x (leAt p 0 1))
  | 11 => done (d.realign (leAt p 0 1 % 16), .ok)
  | 12 => done (d.almModeRequest row x 9)
  | _ => done (d, .ok)

/-! ### The launch -/

/-- The mode bit that MODE_MASK is tested with: ESTRANGED evaluates under SOLO rules (R155). DEDUCED (log 32). -/
def Dev.almModeBit (d : Dev) : Nat := match d.mode.mode with | .estranged => 3 | m => modeCode m

/-- The result of a launch: late where it was deferred, found its edge full, or came more than one control edge after its instant
without a step. DESIGN CHOICE (log 80, 82). -/
def almResult (x : AlmRow) (late : Nat) (st : Status) : Nat :=
  if st = .budget then 6 else if st ≠ .ok then 7
  else if x.deferred.isSome || x.spilled || (!almAudio (almAction x.bytes) && !x.stepped && decide (5 ≤ late)) then 1 else 0

/-- The control edge that it is: one every two datapath cycles (R11). -/
def Dev.edgeNo (d : Dev) : Nat := d.time.cycles / 2

/-- The control actions that have launched on this edge (R158). -/
def Dev.edgeLaunched (d : Dev) : Nat := if d.alm.edge = d.edgeNo then d.alm.edgeCount else 0

/-- An admitted occurrence launches. An audio action waits for its frame boundary; a control action takes effect now, or on a following
edge where 64 have launched on this one (R158). -/
def Box.almLaunchNow (b : Box) (row : Nat) (x : AlmRow) : Box :=
  if almAudio (almAction x.bytes) then
    if b.dev.alm.audio.contains row then b
    else b.up (fun d => { d with alm := { d.alm with audio := d.alm.audio ++ [row] } })
  else if 64 ≤ b.dev.edgeLaunched then b.up (·.setAlm row { x with spilled := true })
  else
    let b := b.up (fun d => { d with alm := { d.alm with edge := d.edgeNo, edgeCount := d.edgeLaunched + 1 } })
    let late := match x.inst with | some t => b.dev.lateness t | none => 0
    let r := b.almAct row x
    r.1.up (fun d => d.almResolve row (almResult x late r.2) r.2 late)

/-- The order in which actions of one edge or boundary apply: by ORIGIN_RANK and ORIGIN_ROW (R158). -/
def AlmRow.order (x : AlmRow) : Nat := x.originRank * 65536 + x.originRow

/-- The audio actions that wait take effect at this frame boundary, in ascending order of origin (R158); one that a mode which holds
entries has overtaken is skipped (R146). DESIGN CHOICE (log 81). -/
def Box.almAudioLaunch (b : Box) : Box :=
  let rows := sortOn (fun r => match b.dev.almRow r with | some x => x.order | none => 0) b.dev.alm.audio
  rows.foldl (fun b row =>
    match b.dev.almRow row with
    | none => b
    | some x =>
      let late := match x.inst with | some t => b.dev.lateness t | none => 0
      if b.dev.almHeld then b.up (·.almResolve row 2 .ok)
      else
        let r := b.almAct row x
        r.1.up (fun d => d.almResolve row (almResult x late r.2) r.2 late))
    (b.up (fun d => { d with alm := { d.alm with audio := [] } }))

/-- The budget's decision on a launch (R156): admitted or not, with what was counted. A launch whose units ask for their own admission
takes none here. -/
def Dev.almAdmit (d : Dev) (x : AlmRow) : Bool × Dev :=
  let cost := d.almCost x.bytes
  let a := d.allot (almWork x.bytes) cost
  if a.1 && cost ≠ 0 then (true, d) else a

/-- An occurrence's instant is reached. -/
def Box.almAtInstant (b : Box) (row : Nat) : Box :=
  let d := b.dev
  match d.almRow row with
  | none => b
  | some x =>
    match x.inst with
    | none => b
    | some t =>
      if x.state ≠ 4 || !t.le d.time.tai || d.alm.audio.contains row then b
      else if !bitAt (almModes x.bytes) d.almModeBit then b.up (·.almResolve row 2 .ok)
      else
        let a := d.almAdmit x
        let b := b.up (fun _ => a.2)
        if a.1 then b.almLaunchNow row x
        else if 2 ≤ almClass x.bytes && almDefer x.bytes ≠ 0 then
          b.up (fun d => (d.setAlm row { x with state := 5, deferred := some d.time.cycles }).almTell row 8 .ok 0)
        else b.up (·.almResolve row 6 .budget)

/-- The control actions whose instants have come and that have not launched, in their order, where `p` holds of the row. DESIGN CHOICE (log 11). -/
def Dev.almDue (d : Dev) (p : AlmRow → Bool) : List Nat :=
  (sortOn (fun r => r.2.order) (d.alm.rows.filter (fun r =>
    r.2.state = 4 && !almAudio (almAction r.2.bytes) && (match r.2.inst with | some t => t.le d.time.tai | none => false) && p r.2))).map (·.1)

/-- Those that launch before a row's on the same edge: the ones of lower order, where the row's is a control action. -/
def Dev.almBefore (d : Dev) (row : Nat) : List Nat :=
  match d.almRow row with
  | some x => if almAudio (almAction x.bytes) then [] else d.almDue (fun y => y.order < x.order)
  | none => []

/-- ALMANAC_LAUNCH (R157): a COMMITTED occurrence reaches its instant, after those due with it that come before it in order (R158).
A follower takes the active's decision instead (R155). -/
def execAlmanacLaunch (row : Fin 4096) (s : State) : Host.Outcome State Fault Refusal :=
  s.actBox fun b =>
    if b.dev.booted && !b.dev.follows then (b.dev.almBefore row ++ [row.val]).foldl Box.almAtInstant b else b

/-- A DICT_WRITE that reaches an object in the cycle of a session's write goes first: its launch takes the earlier journal number and
the session's write is applied after it (R158). -/
def Box.almWritesFirst (b : Box) (index sub : Nat) : Box :=
  if b.dev.booted && !b.dev.follows then
    (b.dev.almDue (fun x => almAction x.bytes = 1 && leAt (almPayload x.bytes) 0 2 = index && leAt (almPayload x.bytes) 2 1 = sub)).foldl
      Box.almAtInstant b
  else b

/-- ALMANAC_DEFER_RETEST (R156): a DEFERRED occurrence is tested again on a tick; none launches in a mode that holds entries (R146). -/
def execAlmanacDeferRetest (row : Fin 4096) (s : State) : Host.Outcome State Fault Refusal :=
  s.actBox fun b =>
    match b.dev.almRow row with
    | some x =>
      (match x.deferred with
       | some since =>
         if !b.dev.almHeld && !b.dev.follows && x.state = 5 && !b.dev.past since (almDefer x.bytes) then
           let a := b.dev.almAdmit x
           let b := b.up (fun _ => a.2)
           if a.1 then b.almLaunchNow row x else b
         else b
       | none => b)
    | none => b

/-- ALMANAC_DEFER_EXPIRY (R152): MAX_DEFER has elapsed. -/
def execAlmanacDeferExpiry (row : Fin 4096) (s : State) : Host.Outcome State Fault Refusal :=
  s.actBox fun b =>
    match b.dev.almRow row with
    | some x =>
      (match x.deferred with
       | some since =>
         if b.dev.booted && !b.dev.follows && x.state = 5 && b.dev.past since (almDefer x.bytes) && !b.dev.alm.audio.contains row then
           b.up (·.almResolve row 6 .budget)
         else b
       | none => b)
    | none => b

/-- The standby takes the active's decision on an occurrence (R155): RESULT, status and lateness are the active's, where the record
carries them (a bitmap carries neither: the status is the action's own here, the lateness that of the boundary); RESULT 8 is a deferral.
DESIGN CHOICE (log 134). -/
def Box.almFollow (b : Box) (row result : Nat) (told : Option (Status × Nat)) : Box :=
  match b.dev.almRow row with
  | none => b
  | some x =>
    if result = 8 then b.up (fun d => d.setAlm row { x with state := 5, deferred := some d.time.cycles })
    else
      let r := if result ≤ 1 || (result = 7 && decide (x.state = 4 ∨ x.state = 5)) then b.almAct row x else (b, if result = 6 then .budget else .ok)
      let said := told.getD (if result = 2 then .ok else r.2, if result = 2 || result = 6 then 0 else
        match x.inst with | some t => b.dev.lateness t | none => 0)
      r.1.up (fun d => d.almResolve row result said.1 said.2)

end Sys2Proof.Machine
end

