-- ==== Sys2Proof/Machine/Requests.lean ====
section
/-! DEFINITION. Machine/Requests.lean: requests over ODP and through the mailbox (R346 to R353, R355), segmented transfers, subscriptions
and notices, and the operations that a command names directly. -/

namespace Sys2Proof.Machine

/-! ### Transfers (R351) -/

/-- The object and row of a DOMAIN_BEGIN, with its rights and mode. DESIGN CHOICE (log 156). -/
def Dev.domainChecks (d : Dev) (a : Asker) (index sub row : Nat) (value : List Byte) : Status :=
  if 0xF000 ≤ index then .accessDenied
  else match addressed index sub row with
    | (st, none) => st
    | (_, some o) =>
      match o.form with
      | .domain _ =>
        if !grants o (o.write 0) a.role then .accessDenied
        else if !d.uploadMode || !d.modeAllows index sub then .mode
        else if value.length ≠ 4 then .typeMismatch else .ok
      | _ => .accessDenied

/-- DOMAIN_BEGIN. -/
def Dev.domainBegin (d : Dev) (a : Asker) (index sub row : Nat) (value : List Byte) : Dev × Status :=
  if (d.transferOf a.master).isSome then (d, .busy)
  else
    let st := d.domainChecks a index sub row value
    if st = .ok then
      (d.setOdp { d.odp with transfers := d.odp.transfers.put a.master ⟨index, sub, row, beAt value 0 4, [], d.time.cycles⟩ }, .ok)
    else (d, st)

/-- DOMAIN_SEGMENT: in order, without gaps, within the total length. -/
def Dev.domainSegment (d : Dev) (a : Asker) (value : List Byte) : Dev × Status :=
  match d.transferOf a.master with
  | none => ((d.dropTransfer a.master).odpCount 2, .sequence)
  | some t =>
    let more := value.drop 4
    if value.length < 4 || beAt value 0 4 ≠ t.data.length then ((d.dropTransfer a.master).odpCount 2, .sequence)
    else if t.total < t.data.length + more.length then (d.dropTransfer a.master, .range)
    else (d.setOdp { d.odp with transfers := d.odp.transfers.put a.master { t with data := t.data ++ more, last := d.time.cycles } }, .ok)

/-- DOMAIN_END: the closing check on a whole transfer, journalled once. Its value, where it has four bytes, is the closing check's own
AUDIO_CRC. DESIGN CHOICE (log 156). -/
def Dev.domainEnd (d : Dev) (a : Asker) (value : List Byte) : Dev × Status × Nat :=
  match d.transferOf a.master with
  | none => ((d.dropTransfer a.master).odpCount 2, .sequence, 0)
  | some t =>
    if !d.journalRoom then (d.q7 4, .busy, 0)
    else
      let d := d.dropTransfer a.master
      let r : Dev × Status :=
        if t.data.length < t.total then (d, .range)
        else if value.length = 4 && beAt value 0 4 ≠ crc32c t.data then d.upload t.row []
        else
          let u := d.upload t.row t.data
          (u.1.startAwaited t.row, u.2)
      let d := r.1.journal a.master a.role.code 3 r.2 a.flags t.index t.sub t.row t.data
      let n := d.odp.journal.head
      let d := if r.2 = .ok then d.forward a 3 t.index t.sub t.row t.data n else d
      (d, r.2, n)

/-! ### Subscriptions (R352) -/

/-- The bytes that a subscription's value may have in a NOTICE of 1400 bytes. -/
def noticeRoom : Nat := 1374

/-- SUBSCRIBE: the read's own checks, the interval, the limits. DESIGN CHOICE (log 157). -/
def Dev.subscribe (m : Mem) (d : Dev) (a : Asker) (index sub row count : Nat) (onChange : Bool) (value : List Byte) :
    Dev × Status × List Byte :=
  if 0xF000 ≤ index then (d, .accessDenied, [])
  else
    let r := d.dictRead m a index sub row count [] noticeRoom
    if r.1.status ≠ .ok then (d, r.1.status, [])
    else if value.length ≠ 2 then (d, .typeMismatch, [])
    else if beAt value 0 2 < 10 || 60000 < beAt value 0 2 then (d, .range, [])
    else if 64 ≤ (d.odp.subs.filter (fun x => x.session = a.master)).length || 1024 ≤ d.odp.subs.length then (d, .capacity, [])
    else
      let x : Subscription := { id := d.odp.nextSub, session := a.master, index := index, sub := sub, row := row, count := count,
                                interval := beAt value 0 2, onChange := onChange, last := d.time.cycles, coalesced := 0, pending := false,
                                value := r.1.data }
      (r.2.setOdp { r.2.odp with subs := d.odp.subs ++ [x], nextSub := (d.odp.nextSub + 1) % 2 ^ 32 }, .ok, toBE 4 x.id)

/-- UNSUBSCRIBE: its value is the subscription's id. DESIGN CHOICE (log 157). -/
def Dev.unsubscribe (d : Dev) (a : Asker) (value : List Byte) : Dev × Status :=
  if value.length ≠ 4 then (d, .typeMismatch)
  else if d.odp.subs.any (fun x => x.session = a.master && x.id = beAt value 0 4) then
    (d.setOdp { d.odp with subs := d.odp.subs.filter (fun x => !(x.session = a.master && x.id = beAt value 0 4)) }, .ok)
  else (d, .range)

/-- Replace a subscription. -/
def Dev.setSub (d : Dev) (x : Subscription) : Dev :=
  d.setOdp { d.odp with subs := d.odp.subs.map (fun y => if y.id = x.id && y.session = x.session then x else y) }

/-- The body of a NOTICE. -/
def Dev.noticeBody (d : Dev) (x : Subscription) (changes : Nat) (value : List Byte) : List Byte :=
  let t := d.time.tai
  toBE 4 x.id ++ toBE 2 x.index ++ toBE 1 x.sub ++ toBE 3 x.row ++ toBE 6 t.sec ++ toBE 4 t.ns ++ toBE 2 t.sub ++
    toBE 2 (min 0xFFFF changes) ++ toBE 2 value.length ++ value

/-- A watched value is looked at: a notice is due, waits for its interval, or is dropped for the session's rate. -/
def Dev.notice (m : Mem) (d : Dev) (x : Subscription) (ses : Session) : Dev :=
  let a : Asker := ⟨ses.id, ses.role, 0, false, 0⟩
  let r := d.dictRead m a x.index x.sub x.row x.count [] noticeRoom
  let d := r.2
  let changed := r.1.data ≠ x.value
  let due := d.past x.last x.interval
  let n := x.coalesced + bit changed
  let seen := { x with value := r.1.data }
  if x.onChange && !changed && !x.pending then d
  else if !due then (if x.onChange then d.setSub { seen with coalesced := n, pending := true } else d)
  else
    let recent := ses.noticed.filter (fun t => !d.past t 1000)
    let base := if x.onChange then n - 1 else x.coalesced
    if d.noticeRate ≤ recent.length then
      (d.setSub { seen with coalesced := base + 1, pending := false, last := d.time.cycles }).odpCount 4
    else
      let d := d.setSub { seen with coalesced := 0, pending := false, last := d.time.cycles }
      d.sendSession { ses with noticed := recent ++ [d.time.cycles] } 7 (d.noticeBody x base r.1.data)

/-- NOTICE (R352): a subscription's value changed, or its interval elapsed. -/
def execNotice (id : BitVec 32) (s : State) : Host.Outcome State Fault Refusal :=
  s.act fun d =>
    match d.odp.subs.find? (fun x => x.id = id.toNat) with
    | some x => (match d.session x.session with
      | some ses => if d.odpPort ses.port then d.notice s.mem x ses else d
      | none => d)
    | none => d

/-! ### One request (R347) -/

/-- Run a request body whose length fits its value, and answer it. `room` is the data an answer may hold. -/
def Box.perform (b : Box) (a : Asker) (body : List Byte) (reqSeq room : Nat) : Box :=
  let op := beAt body 0 1
  let count := beAt body 2 2
  let index := beAt body 4 2
  let sub := beAt body 6 1
  let row := beAt body 7 3
  let value := body.drop 12
  let reply := fun (st : Status) (rows jseq : Nat) (data : List Byte) (d : Dev) => d.answer a.origin reqSeq op st rows jseq data
  let frozen := b.dev.isFrozen a.master
  if op = 1 then
    b.up (fun d => let r := d.dictRead b.mem a index sub row count value room; reply r.1.status r.1.rows 0 r.1.data r.2)
  else if frozen then b.up (reply .frozen 0 0 [])
  else if op = 2 || op = 3 then
    let b := if op = 2 then b.almWritesFirst index sub else b
    let r := b.ask a (op = 3) index sub row value reqSeq
    if r.2.wait then r.1 else r.1.up (reply r.2.status r.2.rows r.2.jseq r.2.data)
  else b.up (fun d =>
    match op with
    | 4 => let r := d.domainBegin a index sub row value; reply r.2 0 0 [] r.1
    | 5 => let r := d.domainSegment a value; reply r.2 0 0 [] r.1
    | 6 => let r := d.domainEnd a value; reply r.2.1 0 r.2.2 [] r.1
    | 7 =>
      if a.origin < 2 || 2 ^ 31 ≤ a.origin then reply .range 0 0 [] d
      else let r := d.subscribe b.mem a index sub row count (bitAt (beAt body 1 1) 0) value; reply r.2.1 0 0 r.2.2 r.1
    | 8 =>
      if a.origin < 2 || 2 ^ 31 ≤ a.origin then reply .range 0 0 [] d
      else let r := d.unsubscribe a value; reply r.2 0 0 [] r.1
    | _ => reply .range 0 0 [] d)

/-- Pass a request for another rank down the cascade (R325): its target, the session and its role, the request's number and body.
DESIGN CHOICE (log 87). -/
def Dev.proxy (d : Dev) (x : Session) (g : Dgram) : Dev :=
  let job : ProxyJob := ⟨d.odp.nextJob, d.time.cycles, 2 + x.id % 32, g.seq, beAt g.body 0 1, g.target⟩
  let d := d.setOdp { d.odp with proxies := d.odp.proxies ++ [job], nextJob := (d.odp.nextJob + 1) % 256 }
  d.casDown (toBE 1 6 ++ toBE 2 g.target ++ toBE 4 x.id ++ toBE 1 x.role.code ++ toBE 8 g.seq ++ g.body)

/-- A request of the right length goes to its target (R355): this device, or, at rank 0, another rank. -/
def Box.route (b : Box) (x : Session) (a : Asker) (g : Dgram) : Box :=
  let say := fun (st : Status) (d : Dev) => d.answer a.origin g.seq (beAt g.body 0 1) st 0 0 []
  if g.body.length ≠ 12 + beAt g.body 10 2 then b.up (fun d => (say .typeMismatch d).odpCount 1)
  else if g.target = 0xFFFF || g.target = b.dev.rank then b.perform a g.body g.seq 1380
  else if b.dev.isFrozen x.id then b.up (say .frozen)
  else if b.dev.rank ≠ 0 then b.up (say .range)
  else b.up (fun d => d.proxy x g)

/-- A REQUEST of a session, once authenticated: its place in the window, its form, its target. A retry of a READ is executed again. -/
def Box.sessionRequest (b : Box) (x : Session) (g : Dgram) : Box :=
  let op := beAt g.body 0 1
  let a : Asker := ⟨x.id, x.role, 2 + x.id % 32, false, 0⟩
  let sequence := fun (d : Dev) => (d.sendSession x 6 (responseBody op .sequence 0 g.seq 0 [])).odpCount 2
  match x.classOf g.seq with
  | .old => b.up sequence
  | .retry =>
    if op = 1 then b.route x a g
    else match x.cache.find? (fun c => c.1 = g.seq) with
      | some c => b.up (·.sendSession x 6 c.2)
      | none => b.up sequence
  | .fresh => (b.up (·.setSession (x.noteSeq g.seq))).route x a g

/-- A REQUEST datagram whose operation a command names. DESIGN CHOICE (log 152). -/
def Box.request (b : Box) (port : Port) (source datagram : List Byte) (ops : Nat → Bool) : Box :=
  match Dgram.parse datagram with
  | none => b
  | some g =>
    if b.dev.odpPort port && g.kind = 5 && ops (beAt g.body 0 1) then
      let r := b.dev.sessionIn port source g
      let b := b.up (fun _ => r.1)
      match r.2 with
      | some x => b.sessionRequest x g
      | none => b
    else b

/-- ODP_READ (R348): a REQUEST that reads. -/
def execOdpRead (port : Port) (source datagram : List Byte) (s : State) : Host.Outcome State Fault Refusal :=
  s.actBox fun b => b.request port source datagram (· == 1)

/-- ODP_WRITE (R349): a REQUEST that writes or executes, or whose operation does not exist. -/
def execOdpWrite (port : Port) (source datagram : List Byte) (s : State) : Host.Outcome State Fault Refusal :=
  s.actBox fun b => b.request port source datagram (fun op => decide (op = 0 ∨ op = 2 ∨ op = 3 ∨ 8 < op))

/-- DOMAIN_BEGIN (R351). -/
def execDomainBegin (port : Port) (source datagram : List Byte) (s : State) : Host.Outcome State Fault Refusal :=
  s.actBox fun b => b.request port source datagram (· == 4)

/-- DOMAIN_SEGMENT (R351). -/
def execDomainSegment (port : Port) (source datagram : List Byte) (s : State) : Host.Outcome State Fault Refusal :=
  s.actBox fun b => b.request port source datagram (· == 5)

/-- DOMAIN_END (R351). -/
def execDomainEnd (port : Port) (source datagram : List Byte) (s : State) : Host.Outcome State Fault Refusal :=
  s.actBox fun b => b.request port source datagram (· == 6)

/-- SUBSCRIBE (R352). -/
def execSubscribe (port : Port) (source datagram : List Byte) (s : State) : Host.Outcome State Fault Refusal :=
  s.actBox fun b => b.request port source datagram (· == 7)

/-- UNSUBSCRIBE (R352). -/
def execUnsubscribe (port : Port) (source datagram : List Byte) (s : State) : Host.Outcome State Fault Refusal :=
  s.actBox fun b => b.request port source datagram (· == 8)

/-! ### The mailbox (R353) -/

/-- The request body that stands in DMB_REQ. -/
def Dev.dmbBody (d : Dev) (n : Nat) : List Byte :=
  ((List.range 112).flatMap (fun w => toLE 4 (d.rd (F.DMB_REQ_BYTES.at [w])))).take n

/-- A Q0 item is taken: a bad one is answered TYPE_MISMATCH at once, another becomes the request in progress, answered with 448 bytes of data
at most. DEDUCED (log 208). -/
def Box.mailbox (b : Box) (item : List Byte) : Box :=
  let w := leAt item 0 4
  let n := w % 512
  let body := b.dev.dmbBody n
  let b := b.up (fun d =>
    (d.wr F.DMB_STATUS_BUSY 1).setOdp { d.odp with dmb := some (fieldAt w 16 12) })
  if w / 2 ^ 28 ≠ 0 || n < 12 || 448 < n || n ≠ 12 + beAt body 10 2 then
    b.up (fun d => (d.mailboxDone .typeMismatch (toBE 1 (beAt (d.dmbBody 1) 0 1) ++ toBE 1 Status.typeMismatch.code ++ List.replicate 18 0)).odpCount 1)
  else b.perform hostAsker body 0 448

/-- DMB_REQUEST (R353): the device takes the item at the head of Q0. -/
def execDmbRequest (s : State) : Host.Outcome State Fault Refusal :=
  s.actBox fun b =>
    let d := b.dev
    match (d.que 0).items with
    | item :: rest =>
      if d.booted && d.pins.hostRole && !d.on F.DMB_STATUS_BUSY then
        (b.up (·.setQue 0 { d.que 0 with items := rest })).mailbox item
      else b
    | [] => b

/-! ### Operations that a command names -/

/-- An operation asked for by the host port or by the session in a slot, without a datagram. DESIGN CHOICE (log 158). -/
def Box.by_ (b : Box) (who : Who) (exec : Bool) (index row : Nat) (value : List Byte) : Box × Status :=
  if !b.dev.booted then (b, .mode)
  else match who with
    | .host =>
      if b.dev.pins.hostRole then
        let r := b.ask { hostAsker with origin := 0 } exec index 0 row value 0
        (if r.2.status = .accessDenied then r.1.up (·.denied 1) else r.1, r.2.status)
      else (b, .mode)
    | .session slot =>
      match b.dev.slotSession slot with
      | some x =>
        let b := if exec then b else b.almWritesFirst index 0
        let r := b.ask ⟨x.id, x.role, 0, false, 0⟩ exec index 0 row value 0
        (if r.2.status = .accessDenied then r.1.up (·.denied x.id) else r.1, r.2.status)
      | none => (b, .auth)

/-- An Almanac operation, whose status ALM_ENT_RESULT shows where the host asked (R161). DESIGN CHOICE (log 158). -/
def Box.almBy (b : Box) (who : Who) (exec : Bool) (index row : Nat) (value : List Byte) : Box :=
  let r := b.by_ who exec index row value
  match who with
  | .host => if b.dev.booted && b.dev.pins.hostRole then r.1.up (·.wr F.ALM_ENT_RESULT_STATUS r.2.code) else b
  | .session _ => r.1

/-- ALMANAC_WRITE (R148): an entry is written to a row. -/
def execAlmanacWrite (who : Who) (row : Fin 4096) (entry : List Byte) (s : State) : Host.Outcome State Fault Refusal :=
  s.actBox fun b => b.almBy who false 0x3000 row entry

/-- ALMANAC_CANCEL (R162): an occurrence or the entry is cancelled. -/
def execAlmanacCancel (who : Who) (row : Fin 4096) (whole : Bool) (s : State) : Host.Outcome State Fault Refusal :=
  s.actBox fun b => b.almBy who true 0x3020 0 (toBE 2 row ++ toBE 1 (bit whole))

/-- ALMANAC_CONFIRM (R162): a held occurrence is confirmed. -/
def execAlmanacConfirm (who : Who) (row : Fin 4096) (s : State) : Host.Outcome State Fault Refusal :=
  s.actBox fun b => b.almBy who true 0x3021 0 (toBE 2 row)

/-- STROBE_GROUPS (R350). -/
def execStrobeGroups (who : Who) (mask : BitVec 16) (s : State) : Host.Outcome State Fault Refusal :=
  s.actBox fun b => (b.by_ who true 0x1050 0 (toBE 2 mask.toNat)).1

/-- THAW (R359). -/
def execThaw (who : Who) (master : BitVec 32) (s : State) : Host.Outcome State Fault Refusal :=
  s.actBox fun b => (b.by_ who true 0x1110 0 (toBE 4 master.toNat)).1

/-- FREEZE (R357): by a SAFETY session. -/
def execFreeze (who : Who) (master : BitVec 32) (s : State) : Host.Outcome State Fault Refusal :=
  s.actBox fun b => (b.by_ who true 0x1111 0 (toBE 4 master.toNat)).1

/-- COMMIT (R365): accepted, or BUSY. -/
def execCommit (who : Who) (s : State) : Host.Outcome State Fault Refusal :=
  s.actBox fun b => (b.by_ who true 0x1210 0 []).1

/-- APPLY_PROPOSALS (R379). -/
def execApplyProposals (who : Who) (mask : BitVec 16) (s : State) : Host.Outcome State Fault Refusal :=
  s.actBox fun b => (b.by_ who true 0x9804 0 (toBE 2 mask.toNat)).1

/-- The request that a row's action makes: MODE its payload's, VIGIL_START one for VIGIL (R147). -/
def AlmRow.modeAsked (x : AlmRow) : Option Nat :=
  match almAction x.bytes with | 10 => some (leAt (almPayload x.bytes) 0 1) | 12 => some 9 | _ => none

/-- MODE_REQUEST (R55): what GCTL_MODE_REQ holds, a session's ModeRequest, or that of a row whose committed occurrence has come. -/
def execModeRequest (source : ModeSource) (s : State) : Host.Outcome State Fault Refusal :=
  s.actBox fun b =>
    if !b.dev.booted then b
    else match source with
      | .host =>
        if b.dev.pins.hostRole then b.up (fun d => d.modeReqWrite ⟨hostAsker, false⟩ (d.rd F.GCTL_MODE_REQ_TARGET) false) else b
      | .session slot value => (b.by_ (.session slot) false 0x1002 0 [value]).1
      | .almanac row value =>
        match b.dev.almRow row with
        | some x =>
          let due := match x.inst with | some t => x.state = 4 && t.le b.dev.time.tai | none => false
          if due && x.modeAsked = some value.toNat then b.up (fun d => (d.almModeRequest row x value.toNat).1) else b
        | none => b

end Sys2Proof.Machine
end

