-- ==== Sys2Proof/Machine/Cascade.lean ====
section
/-! DEFINITION. Machine/Cascade.lean: the cascade (R322 to R326): HELLO, copies of staged entries, answers, proxied requests. -/

namespace Sys2Proof.Machine

/-! ### Peers -/

/-- A device at the other end: the primary parent, the alternate, a child, or none of these. -/
inductive Peer where
  | primary | alternate | child (slot : Nat) | stranger
  deriving DecidableEq, Repr

/-- A parent's address: 16 bytes, zero where none is named. DESIGN CHOICE (log 161). -/
def Dev.parent (d : Dev) (alt : Bool) : List Byte :=
  let p := toBE 32 (d.obj 0x8800 3 0)
  if alt then p.drop 16 else p.take 16

/-- A parent is named. -/
def Dev.named (d : Dev) (alt : Bool) : Bool := ofBE (d.parent alt) ≠ 0

/-- Who sent a datagram, by its address. DESIGN CHOICE (log 84). -/
def Dev.peerOf (d : Dev) (source : List Byte) : Peer :=
  let a := slice source 0 16
  if d.named false && a = d.parent false then .primary
  else if d.named true && a = d.parent true then .alternate
  else match List.find? (fun c => slice c.2.address 0 16 = a) d.cas.children with
    | some c => .child c.1
    | none => .stranger

/-- The rank a peer has shown; 0xFFFF where it has shown none. DESIGN CHOICE (log 84). -/
def Dev.peerRank (d : Dev) (p : Peer) : Nat :=
  match p with
  | .primary => d.cas.primaryRank.getD 0xFFFF
  | .alternate => d.cas.alternateRank.getD 0xFFFF
  | .child n => match d.cas.children.find? n with | some c => c.rank | none => 0xFFFF
  | .stranger => 0xFFFF

/-- The master id of a cascade peer (R356). DEDUCED (log 160). -/
def peerMaster (rank : Nat) : Nat := 0x40000000 + rank

/-- A peer broke the rules (R357, cause 0x03). -/
def Dev.peerBreach (d : Dev) (p : Peer) : Dev := d.freeze (peerMaster (d.peerRank p)) 3

/-- The peer may send down: it is a parent. -/
def Peer.above : Peer → Bool
  | .primary | .alternate => true
  | _ => false

/-- Who counts a cascade message's SEQ (R354): the rank that a HELLO claims, else the rank its sender has shown, else its address.
DESIGN CHOICE (log 84). -/
def Dev.casKey (d : Dev) (source body : List Byte) : Nat :=
  let rank := if beAt body 0 1 = 1 then beAt body 1 2 else d.peerRank (d.peerOf source)
  if rank < 0xFFFF then rank else 2 ^ 129 + ofBE (slice source 0 16)

/-- A cascade datagram with its message code is authenticated (R354): the sender and the body after the code. DESIGN CHOICE (log 86). -/
def Dev.casIn (d : Dev) (source datagram : List Byte) (code : Nat) : Dev × Option (Peer × List Byte) :=
  match Dgram.parse datagram with
  | none => (d, none)
  | some g =>
    if !d.booted || d.standby || d.rank = 0xFFFF || !(List.range 4).any d.inServicePort || g.kind ≠ 0x11 ||
        beAt g.body 0 1 ≠ code then (d, none)
    else
      let key := d.casKey source g.body
      let last := d.odp.peerSeq.find? key
      let old : Bool := match last with | some n => decide (g.seq ≤ n) | none => false
      if hmac16 d.cascadeKey g.signed ≠ g.tag || old then (d.tally (F.PAIR_CAS_COUNT_COUNT.at [1]), none)
      else
        let d := d.setOdp { d.odp with peerSeq := d.odp.peerSeq.put key g.seq }
        (d, some (d.peerOf source, g.body.drop 1))

/-- The messages of a frozen peer are discarded. -/
def Dev.peerFrozen (d : Dev) (p : Peer) : Bool := d.isFrozen (peerMaster (d.peerRank p))

/-- Pass a message down to every child. -/
def Dev.casPassDown (d : Dev) (body : List Byte) : Dev :=
  if d.cas.children.isEmpty then d else (d.casDown body).tally (F.PAIR_CAS_COUNT_COUNT.at [0])

/-- Pass a message up. -/
def Dev.casPassUp (d : Dev) (body : List Byte) : Dev := (d.casSend d.parentAddress body).tally (F.PAIR_CAS_COUNT_COUNT.at [0])

/-! ### HELLO (R322) -/

/-- The body of a HELLO. DESIGN CHOICE (log 83). -/
def Dev.helloBody (d : Dev) : List Byte :=
  toBE 1 1 ++ toBE 2 d.rank ++ toBE 2 (d.rd F.PAIR_CAS_STATUS_DEPTH) ++ slice d.cas.master 0 8

/-- A parent answers: it is heard, and the parent in use gives depth and master. -/
def Dev.parentHeard (d : Dev) (alt : Bool) (rank depth : Nat) (master : List Byte) : Dev :=
  let now := d.time.cycles
  let c := d.cas
  let gap : Bool := match c.primary with | some t => d.past t 3000 | none => true
  let c := if alt then { c with alternate := some now, alternateRank := some rank }
    else { c with primary := some now, primaryRank := some rank, since := if gap then some now else c.since }
  if c.useAlt = alt then
    (({ d with cas := { c with master := master } }).wr F.PAIR_CAS_STATUS_DEPTH (min 0xFFFF (depth + 1))).wr F.PAIR_CAS_STATUS_PARENT_OK 1
  else { d with cas := c }

/-- A child says hello: a known one is noted, a new one takes a free place among 32; both are answered. -/
def Dev.childHello (d : Dev) (source : List Byte) (known : Option Nat) (rank : Nat) : Dev :=
  let place := match known with
    | some n => some n
    | none => (List.range 32).find? (fun n => (d.cas.children.find? n).isNone)
  match place with
  | none => d
  | some n =>
    let d := { d with cas := { d.cas with children := d.cas.children.put n ⟨rank, slice source 0 16, d.time.tai⟩ } }
    d.casSend (slice source 0 16) d.helloBody

/-- What an authenticated HELLO does: from a parent an answer, from another device that of a child. -/
def Dev.takeHello (d : Dev) (source b : List Byte) : Dev :=
  let p := d.peerOf source
  let rank := beAt b 0 2
  let depth := beAt b 2 2
  let shown := d.peerRank p
  let taken := d.cas.children.any (fun c => c.2.rank = rank && p ≠ .child c.1)
  if d.peerFrozen p then d
  else if rank = d.rank || (shown ≠ 0xFFFF && shown ≠ rank && p ≠ .stranger) || taken then
    d.freeze (peerMaster (if shown = 0xFFFF then rank else shown)) 3
  else match p with
    | .primary => if rank < d.rank then d.parentHeard false rank depth (slice b 4 8) else d
    | .alternate => if rank < d.rank then d.parentHeard true rank depth (slice b 4 8) else d
    | .child n => if d.rank < rank then d.childHello source (some n) rank else d
    | .stranger => if d.rank < rank then d.childHello source none rank else d

/-- The active passes a cascade message on to its standby, which holds the same state (R322). DESIGN CHOICE (log 135). -/
def Dev.casForward (d : Dev) (body : List Byte) : Dev := d.forward ⟨0, .observer, 0, false, 0⟩ 0x22 0x3000 0 0 body 0

/-- CASCADE_HELLO (R322, R323, R357). -/
def execCascadeHello (source datagram : List Byte) (s : State) : Host.Outcome State Fault Refusal :=
  s.act fun d =>
    let r := d.casIn source datagram 1
    match r.2 with
    | none => r.1
    | some (_, b) => (r.1.casForward (toBE 1 1 ++ slice source 0 16 ++ b)).takeHello source b

/-- CASCADE_HELLO_TX (R322): every second to the primary, and to the alternate while it is in use. DESIGN CHOICE (log 85). -/
def execCascadeHelloTx (s : State) : Host.Outcome State Fault Refusal :=
  s.act fun d =>
    if d.booted && d.rank ≠ 0xFFFF && d.rank ≠ 0 then
      let d := if d.named false then d.casSend (d.parent false) d.helloBody else d
      if d.cas.useAlt && d.named true then d.casSend (d.parent true) d.helloBody else d
    else d

/-- CASCADE_PARENT_TIMEOUT (R322): the parent in use has not answered for 3 s. -/
def execCascadeParentTimeout (s : State) : Host.Outcome State Fault Refusal :=
  s.act fun d =>
    let heard := (if d.cas.useAlt then d.cas.alternate else d.cas.primary).getD 0
    if d.booted && !d.standby && d.rank ≠ 0xFFFF && d.named d.cas.useAlt && d.past heard 3000 then
      let d := if d.on F.PAIR_CAS_STATUS_PARENT_OK then (d.wr F.PAIR_CAS_STATUS_PARENT_OK 0).irq F.PAIR_IRQ_STATUS_PARENT_LOST else d
      if !d.cas.useAlt && d.named true then
        ({ d with cas := { d.cas with useAlt := true, alternate := some d.time.cycles, since := none } }).wr F.PAIR_CAS_STATUS_ALT_IN_USE 1
      else d
    else d

/-- CASCADE_PRIMARY_RETURN (R322): the primary has answered for 60 s. -/
def execCascadePrimaryReturn (s : State) : Host.Outcome State Fault Refusal :=
  s.act fun d =>
    let steady : Bool := match d.cas.since with | some t => d.past t 60000 | none => false
    let recent : Bool := match d.cas.primary with | some t => !d.past t 3000 | none => false
    if d.booted && d.cas.useAlt && steady && recent then
      (({ d with cas := { d.cas with useAlt := false } }).wr F.PAIR_CAS_STATUS_ALT_IN_USE 0).wr F.PAIR_CAS_STATUS_PARENT_OK 1
    else d

/-! ### Copies of staged entries (R153) -/

/-- The copy of an origin's row. -/
def Dev.copyOf (d : Dev) (rank row : Nat) : Option (Nat × AlmRow) :=
  List.find? (fun r => r.2.copy && r.2.originRank = rank && r.2.originRow = row) d.alm.rows

/-- The highest-numbered EMPTY row. -/
def Dev.emptyRow (d : Dev) : Option Nat := ((List.range 4096).reverse).find? (fun r => (d.almRow r).isNone)

/-- An entry's payload is invalid on this device: out of range, or a context not configured. -/
def View.almInvalidHere (v : View) (b : List Byte) : Bool :=
  v.almPayloadBad b || ((almAction b = 3) && (almContexts b).any (fun c => v.dev.ctxCh c = 0))

/-- The instant of a copy's current occurrence. -/
def Dev.copyInstant (d : Dev) (b : List Byte) (tod occ : Nat) : Tai :=
  match almRepeat b with
  | 1 => almPeriodic b occ
  | 2 =>
    let t := d.dailyFrom b tod (d.utcOf d.time.tai / 86400)
    let u := if d.time.tai.lt t then t else d.dailyFrom b tod (d.utcOf d.time.tai / 86400 + 1)
    if d.time.tai.lt (d.almFirst b) then d.almFirst b else u
  | _ => almLaunch b

/-- A STAGE places or renews a copy and stages it, or is refused. DESIGN CHOICE (log 79). -/
def View.takeCopy (v : View) (b : List Byte) : Dev :=
  let d := v.dev
  let rank := leAt b 50 2
  let row := leAt b 52 2
  let occ := leAt b 56 4
  let place := match d.copyOf rank row with | some c => some c.1 | none => d.emptyRow
  let tod := match d.copyOf rank row with | some c => c.2.tod | none => d.almTod b
  if almScope b = 2 && almTarget b ≠ d.rank then d
  else if d.almHeld then d.casAnswer rank row occ 1 .mode
  else if v.almInvalidHere b then d.casAnswer rank row occ 1 .range
  else match place with
    | none => d.casAnswer rank row occ 1 .capacity
    | some n =>
      let x : AlmRow := { bytes := b, author := leAt b 44 4, role := leAt b 48 1, originRank := rank, originRow := row, copy := true,
                          guard := leAt b 54 2, occ := occ, n := occ, inst := some (d.copyInstant b tod occ), tod := tod }
      (d.setAlm n x).almStage n

/-- A CONFIRM marks the copy where it comes before the cutoff (R153). -/
def Dev.takeConfirm (d : Dev) (b : List Byte) : Dev :=
  match d.copyOf (beAt b 0 2) (beAt b 2 2) with
  | some (n, x) =>
    let early : Bool := match x.inst with | some t => d.time.tai.lt (d.almCutoff x t) | none => false
    if x.occ = beAt b 4 4 && early then d.setAlm n { x with confirmed := true } else d
  | none => d

/-- A RETRACT cancels a copy up to its instant and is acknowledged; one that finds it launched is TOO_LATE (R153). -/
def Dev.takeRetract (d : Dev) (b : List Byte) : Dev :=
  let rank := beAt b 0 2
  let row := beAt b 2 2
  let occ := beAt b 4 4
  let gone := fun (d : Dev) =>
    if d.alm.ended.contains (rank, row, occ, true) then d.casAnswer rank row occ 3 .tooLate
    else if d.alm.ended.contains (rank, row, occ, false) then d.casAnswer rank row occ 2 .ok
    else d
  match d.copyOf rank row with
  | some (n, x) =>
    if x.occ = occ then
      let late : Bool := match x.inst with | some t => t.le d.time.tai | none => true
      if late then d.casAnswer rank row occ 3 .tooLate else (d.almResolve n 3 .ok).casAnswer rank row occ 2 .ok
    else gone d
  | none => gone d

/-- A peer's acknowledgement reaches the origin: the last one lets the occurrence's item go to Q4. -/
def Dev.takeAck (d : Dev) (row occ : Nat) : Dev :=
  let mine := fun (r : Retract) => r.row = row && r.occ = occ
  let rs := d.alm.retracting.map (fun r => if mine r then { r with waiting := r.waiting - 1 } else r)
  let d' : Dev := { d with alm := { d.alm with retracting := rs.filter (fun r => r.waiting ≠ 0) } }
  (rs.filter (fun r => r.waiting = 0)).foldl (fun d r => match r.item with | some item => d.almItem item | none => d) d'

/-- A peer's answer reaches the origin: counted for the row's occurrence, or against a RETRACT. -/
def Dev.takeAnswer (d : Dev) (row occ kind : Nat) : Dev :=
  if kind = 2 || kind = 3 then d.almUnacked.takeAck row occ
  else match d.almRow row with
    | some x =>
      if x.occ ≠ occ || !x.sent then d
      else if kind = 0 then d.setAlm row { x with staged := x.staged + 1 }
      else ((d.setAlm row { x with refused := x.refused + 1 }).almCount 7).irq F.ALM_IRQ_STATUS_PEER_REFUSED row
    | none => d

/-- What a cascade message does to the state: HELLO, with its source before it, to the peers, STAGE, CONFIRM and RETRACT to the copy, an
ANSWER to the origin's row. -/
def View.takeCascade (v : View) (code : Nat) (b : List Byte) : Dev :=
  match code with
  | 1 => v.dev.takeHello (b.take 16) (b.drop 16)
  | 2 => v.takeCopy (slice b 0 128)
  | 3 => v.dev.takeConfirm b
  | 4 => v.dev.takeRetract b
  | 5 => v.dev.takeAnswer (beAt b 2 2) (beAt b 4 4) (beAt b 10 1)
  | _ => v.dev

/-- A message that changes a row is forwarded to the standby (R152), and takes its effect here. DESIGN CHOICE (log 135). -/
def View.cascadeRow (v : View) (code : Nat) (b : List Byte) : Dev :=
  View.takeCascade { v with dev := v.dev.casForward (toBE 1 code ++ b) } code b

/-- CASCADE_STAGE (R153): a parent sends an entry down. DESIGN CHOICE (log 79). -/
def execCascadeStage (source datagram : List Byte) (s : State) : Host.Outcome State Fault Refusal :=
  s.act fun d =>
    let r := d.casIn source datagram 2
    let d := r.1
    match r.2 with
    | none => d
    | some (p, b) =>
      if d.peerFrozen p then d
      else if !p.above then d.peerBreach p
      else View.cascadeRow ⟨s.mem, d.casPassDown (toBE 1 2 ++ b), 0⟩ 2 b

/-- CASCADE_CONFIRM (R153): a copy is confirmed before its cutoff. -/
def execCascadeConfirm (source datagram : List Byte) (s : State) : Host.Outcome State Fault Refusal :=
  s.act fun d =>
    let r := d.casIn source datagram 3
    let d := r.1
    match r.2 with
    | none => d
    | some (p, b) =>
      if d.peerFrozen p then d
      else if !p.above then d.peerBreach p
      else View.cascadeRow ⟨s.mem, d.casPassDown (toBE 1 3 ++ b), 0⟩ 3 b

/-- CASCADE_RETRACT (R153): a copy is cancelled up to its instant, and the RETRACT acknowledged; one that has launched is TOO_LATE. -/
def execCascadeRetract (source datagram : List Byte) (s : State) : Host.Outcome State Fault Refusal :=
  s.act fun d =>
    let r := d.casIn source datagram 4
    let d := r.1
    match r.2 with
    | none => d
    | some (p, b) =>
      if d.peerFrozen p then d
      else if !p.above then d.peerBreach p
      else View.cascadeRow ⟨s.mem, d.casPassDown (toBE 1 4 ++ b), 0⟩ 4 b

/-! ### Answers -/

/-- The row was never sent as STAGE. -/
def Dev.neverStaged (d : Dev) (row : Nat) : Bool :=
  !(d.alm.retracting.any (fun r => r.row = row)) &&
  (match d.almRow row with
   | some x => x.copy || almScope x.bytes = 0 || (!x.sent && x.occ = 0)
   | none => true)

/-- CASCADE_ANSWER (R323): passed up to the origin; a frozen peer's counts as REFUSED. DESIGN CHOICE (log 85). -/
def execCascadeAnswer (source datagram : List Byte) (s : State) : Host.Outcome State Fault Refusal :=
  s.act fun d =>
    let r := d.casIn source datagram 5
    let d := r.1
    match r.2 with
    | none => d
    | some (p, b) =>
      let row := beAt b 2 2
      let frozen := d.peerFrozen p || d.isFrozen (peerMaster (beAt b 8 2))
      if beAt b 0 2 ≠ d.rank then (if frozen then d else d.casPassUp (toBE 1 5 ++ b))
      else if d.neverStaged row then (if frozen then d else d.peerBreach p)
      else View.cascadeRow ⟨s.mem, d, 0⟩ 5 (b.take 10 ++ [if frozen then 1 else b.getD 10 0])

/-! ### Proxied requests (R325) -/

/-- The status of a code (R440); one never sent is a failure. -/
def statusOf (n : Nat) : Status :=
  [Status.ok, .range, .mode, .busy, .accessDenied, .noObject, .noSubindex, .typeMismatch, .locked, .frozen, .sequence, .auth, .capacity,
    .stoppedOnly, .tooLate, .budget, .markOverrun].getD n .range

/-- CASCADE_PROXY_REQ (R325): the target applies the request with the session's role; another rank passes it down. -/
def execCascadeProxyReq (source datagram : List Byte) (s : State) : Host.Outcome State Fault Refusal :=
  s.actBox fun b =>
    let r := b.dev.casIn source datagram 6
    let b := b.up (fun _ => r.1)
    match r.2 with
    | none => b
    | some (p, m) =>
      let session := beAt m 2 4
      let seq := beAt m 7 8
      let body := m.drop 15
      if b.dev.peerFrozen p then b
      else if !p.above then b.up (·.peerBreach p)
      else if beAt m 0 2 ≠ b.dev.rank then b.up (·.casPassDown (toBE 1 6 ++ m))
      else match roleOf (beAt m 6 1) with
        | none => b
        | some role =>
          if session < 2 ^ 31 then b
          else if body.length ≠ 12 + beAt body 10 2 then
            b.up (fun d => (d.answer session seq (beAt body 0 1) .typeMismatch 0 0 []).odpCount 1)
          else b.perform ⟨session, role, session, false, 2⟩ body seq 1380

/-- A proxied answer reaches rank 0: the request that waits for it is answered in its session. -/
def Dev.proxyAnswer (d : Dev) (session : Nat) (body : List Byte) : Dev :=
  let seq := beAt body 4 8
  match d.odp.proxies.find? (fun j => j.origin = 2 + session % 32 && j.reqSeq = seq) with
  | none => d
  | some j =>
    let d := d.setOdp { d.odp with proxies := d.odp.proxies.filter (fun k => k ≠ j) }
    match d.slotSession (session % 32) with
    | some x =>
      if x.id = session then d.answer j.origin seq (beAt body 0 1) (statusOf (beAt body 1 1)) (beAt body 2 2) (beAt body 12 8) (body.drop 20)
      else d
    | none => d

/-- CASCADE_PROXY_RESP (R325): passed up to rank 0. DESIGN CHOICE (log 87). -/
def execCascadeProxyResp (source datagram : List Byte) (s : State) : Host.Outcome State Fault Refusal :=
  s.act fun d =>
    let r := d.casIn source datagram 7
    let d := r.1
    match r.2 with
    | none => d
    | some (p, b) =>
      if d.peerFrozen p then d
      else if d.rank ≠ 0 then d.casPassUp (toBE 1 7 ++ b)
      else d.proxyAnswer (beAt b 0 4) (b.drop 4)

/-- PROXY_TIMEOUT (R325): no answer has come within 100 ms. -/
def execProxyTimeout (job : BitVec 8) (s : State) : Host.Outcome State Fault Refusal :=
  s.act fun d =>
    match d.odp.proxies.find? (fun j => j.id = job.toNat) with
    | some j =>
      if d.booted && d.past j.started 100 then
        let d := d.setOdp { d.odp with proxies := d.odp.proxies.filter (fun k => k ≠ j) }
        (d.answer j.origin j.reqSeq j.op .busy 0 0 []).tally (F.PAIR_CAS_COUNT_COUNT.at [2])
      else d
    | none => d

end Sys2Proof.Machine
end

