-- ==== Sys2Proof/Machine/Commit.lean ====
section
/-! DEFINITION. Machine/Commit.lean: the journal's way to MRAM (R361, R362, R407) and the writing of the configuration store (R365). -/

namespace Sys2Proof.Machine

/-- Once room returns, a GAP entry names the entries that were lost (R361). DESIGN CHOICE (log 147). -/
def Dev.stageGap (d : Dev) : Dev :=
  let j := d.odp.journal
  match j.lostRange with
  | none => d
  | some (a, b) =>
    if j.staged.length < stagingCap then
      let d := d.setJournal { j with lostRange := none, gaps := j.gaps ++ [(a, b)] }
      (d.journalDevice 0x25 (toLE 8 a ++ toLE 8 b)).q7 5
    else d

/-- JOURNAL_DRAIN (R361): four entries a millisecond become durable. -/
def execJournalDrain (s : State) : Host.Outcome State Fault Refusal :=
  s.act fun d => if d.alive then (d.setJournal (d.odp.journal.write 4)).stageGap else d

/-- JOURNAL_PROGRESS (R407): once per second, the entries made in it. -/
def execJournalProgress (s : State) : Host.Outcome State Fault Refusal :=
  s.act fun d =>
    if d.alive then
      let n := d.odp.journal.madeThisSecond
      let d := d.setJournal { d.odp.journal with rate := n, madeThisSecond := 0 }
      if n = 0 then d else d.q7 0
    else d

/-- A Commit ends: its answer, its Q7 item. -/
def Dev.commitEnd (d : Dev) (job : CommitJob) (st : Status) : Dev :=
  let d := d.setOdp { d.odp with commit := none, commitStatus := st }
  (d.q7 2).answer job.origin job.reqSeq 3 st 0 job.seq []

/-- The records are written and read back; `bad` are the objects whose records still fail. One that configures class S work stops the
header. DESIGN CHOICE (log 149). -/
def Dev.commitWrite (d : Dev) (job : CommitJob) (bad : List Nat) : Dev :=
  let failed := d.uncommitted.filter bad.contains
  if failed.any classSObjects.contains then d.commitEnd job .range
  else
    let records := d.recordsNow.map (fun r => if failed.contains r.object then { r with bad := true } else r)
    let generation := (match d.odp.store with | some s => s.generation | none => 0) + 1
    let d := failed.foldl (fun d i => d.objEvent 0 noUnit i 0 0) d
    let d := d.setOdp { d.odp with store := some ⟨true, generation % 2 ^ 32, d.time.tai, records⟩, commitDone := some d.time.cycles }
    d.commitEnd job .ok

/-- COMMIT_WRITE (R365): once every entry up to its own is durable. -/
def execCommitWrite (bad : List (BitVec 16)) (s : State) : Host.Outcome State Fault Refusal :=
  s.act fun d =>
    match d.odp.commit with
    | some job => if d.alive && decide (job.seq ≤ d.odp.journal.durable) then d.commitWrite job (bad.map (·.toNat)) else d
    | none => d

end Sys2Proof.Machine
end

