-- ==== Sys2Proof/Machine/Boot.lean ====
section
/-! DEFINITION. Machine/Boot.lean: power, RST_N and the power-up sequence (R41 to R53, R59): straps, image check, memory, the restore of
the configuration, the essential library and the mode decision. -/

namespace Sys2Proof.Machine

/-! ### Power and resets -/

/-- POWER_ON (R43): with RST_N low the device stands in RESET; the next RST_N rise is the first since the supplies became valid.
DESIGN CHOICE (log 12). -/
def execPowerOn (s : State) : Host.Outcome State Fault Refusal :=
  s.actTime fun d =>
    if d.pins.supplies then d
    else
      let d := d.resetVolatile
      { d with pins := { d.pins with supplies := true, rstN := false, firstRise := true, mramInhibit := false } }

/-- POWER_FAIL (R430, R363): no write to MRAM begins any more, staged entries are lost, and every pin stands as in RESET (R54).
DESIGN CHOICE (log 12). -/
def execPowerFail (s : State) : Host.Outcome State Fault Refusal :=
  s.actTime fun d =>
    if !d.pins.supplies then d
    else
      let d := (d.setJournal { d.odp.journal with staged := [] }).resetVolatile
      let d := { d with pins := { d.pins with supplies := false, mramInhibit := true, rstN := false } }
      { d with jtag := {} }

/-- RST_N_LOW (R41): the transition is recorded before the reset; what it stages is lost when BOOTSTRAP clears the SRAM (R363).
DESIGN CHOICE (log 13). -/
def execRstNLow (s : State) : Host.Outcome State Fault Refusal :=
  s.actTime fun d =>
    if !d.pins.supplies || !d.pins.rstN then d
    else
      let d := if d.mode.mode = .reset then d else d.recordTransition .reset 0x01 0
      let d := d.resetVolatile
      { d with pins := { d.pins with rstN := false } }

/-- RST_N_HIGH (R41, R44): the straps are sampled and BOOTSTRAP begins. -/
def execRstNHigh (bootSel : Fin 4) (pairSide hostRole testEn : Bool) (s : State) : Host.Outcome State Fault Refusal :=
  s.act fun d =>
    if !d.pins.supplies || d.pins.rstN then d
    else
      let cause := if d.pins.firstRise then 0 else 1
      let pins := { d.pins with rstN := true, firstRise := false, bootSel := bootSel, pairSide := pairSide, hostRole := hostRole,
                                testEn := testEn }
      { d with pins := pins }.startBootstrap cause

/-- CONTROL_CORE_WATCHDOG (R41, R53): an internal reset with cause 0x11. -/
def execControlCoreWatchdog (s : State) : Host.Outcome State Fault Refusal :=
  s.actTime fun d => if d.alive then d.internalReset 0x11 else d

/-- The auto-restarts that lie in the present window of 3600 s (R59). -/
def Dev.recentRestarts (d : Dev) : List Nat := d.mode.restarts.filter (fun c => !d.past c 3600000)

/-- SAFE_HOLD_AUTO_RESTART (R59): the cause has been clear for 10 s and fewer than three restarts lie in the window; once three do, none
occurs during this stay. -/
def execSafeHoldAutoRestart (s : State) : Host.Outcome State Fault Refusal :=
  s.actTime fun d =>
    let clear := match d.mode.clearSince with | some c => d.past c 10000 | none => false
    if d.alive && d.mode.mode = .safeHold && d.mode.decided.isNone && d.mode.cause ≠ 0x02 && clear && !d.mode.spent &&
        d.obj 0x1041 0 0 1 = 1 then
      let keep := d.mode.restarts ++ [d.time.cycles]
      { d with mode := { d.mode with restarts := keep.drop (keep.length - 3) } }.internalReset 0x12
    else d

/-! ### Firmware images (R46) -/

/-- A slot's version as its header gives it. -/
def Image.version (i : Image) : Nat := leAt i.header 4 4

/-- A slot verifies: magic and length, body hash, signature, rollback floor. -/
def Image.verifies (i : Image) (floor : Nat) : Bool :=
  leAt i.header 0 4 = 0x4F564657 && decide (leAt i.header 8 4 ≤ 4194048) && i.bodyHash = slice i.header 16 32 &&
  decide (leAt i.header 12 1 ≤ 3) &&
  ecdsaVerify (Config.firmwareKey (leAt i.header 12 1)) (sha256 (slice i.header 0 48)) (slice i.header 48 64) &&
  decide (floor ≤ i.version)

/-- The slot that runs (true: B) and whether it is the fallback; none where no image verifies. BOOT_SEL 0b10 boots the one image that the
controller wrote through the host port, 0b11 considers slot B only (R44). DESIGN CHOICE (log 15). -/
def Dev.pickImage (d : Dev) (a b : Image) : Option (Bool × Bool) :=
  let floor := d.obj 0x1040 6 0
  let bFirst := decide (a.version < b.version)
  let ok := fun (isB : Bool) => if isB then b.verifies floor else a.verifies floor
  if d.rd F.GCTL_BOOT_STATUS_BOOT_SEL = 2 then (if ok false then some (false, false) else none)
  else if d.rd F.GCTL_BOOT_STATUS_BOOT_SEL = 3 then (if ok true then some (true, false) else none)
  else if ok bFirst then some (bFirst, false)
  else if ok !bFirst then some (!bFirst, true)
  else none

/-! ### Memory layout (R25 to R28) -/

/-- The default library and recorder sizes for a fitted memory, in MiB (R28). -/
def defaultParts (fitted : Nat) : Nat × Nat :=
  if fitted ≤ 2048 then (512, 256) else if fitted ≤ 4096 then (2048, 768) else (4096, 2048)

/-- Sizes lowered until the reserve is 256 MiB: the recorder first, then the library, in steps of 64 MiB (R28). -/
def fitParts (fitted library recorder : Nat) : Nat × Nat :=
  let room := fitted - 1280
  let excess := library + recorder - room
  let cutR := min recorder (ceilDiv excess 64 * 64)
  let cutL := min library (ceilDiv (library + (recorder - cutR) - room) 64 * 64)
  (library - cutL, recorder - cutR)

/-- A layout point (R27, R241): the matrix rate and the partition sizes come into force. A new library size reloads the library; a new
recorder size discards the ring and its marks. DESIGN CHOICE (log 18, 162). -/
def Dev.layOut (d : Dev) : Dev :=
  let d := d.wr F.MTX_RATE_RATE_NOW (d.rd F.MTX_RATE_RATE_NEXT)
  if !d.boot.dram then d
  else
    let dflt := defaultParts d.boot.fitted
    let want := (d.obj 0x1020 1 0 dflt.1, d.obj 0x1020 2 0 dflt.2)
    let got := fitParts d.boot.fitted want.1 want.2
    let d := if got = want then d
      else ((d.setObj 0x1020 1 0 got.1).setObj 0x1020 2 0 got.2).objEvent 0 noUnit 0x1020 1 0
    let newLib := got.1 ≠ d.boot.library
    let newRec := got.2 ≠ d.boot.recorder
    let d := { d with boot := { d.boot with library := got.1, recorder := got.2 } }
    let d := if newLib then
        let d := d.setLib { d.lib with msgs := d.lib.msgs.map (fun r => (r.1, { r.2 with dram := none })) }
        let d := d.libRoom
        d.setLib { d.lib with order := d.libOrder }
      else d
    if newRec then (d.setLib { d.lib with recd := {} }).spoilMarks (fun _ => true) else d

/-! ### The restore of the configuration (R48) -/

/-- A restored register field: in force at once, and buffered where the field is. DESIGN CHOICE (log 16). -/
def Dev.restoreField (d : Dev) (r : Nat × Nat) : Dev :=
  match fieldOf r.1 with
  | some f => if f.acc = .b then d.wrBoth f r.2 else d.wr f r.2
  | none => d

/-- A restored value that no register holds: an Almanac row (R151), the run number, a self-test result, or an object's. DESIGN CHOICE (log 16). -/
def Dev.restoreObject (d : Dev) (key v : Nat) : Dev :=
  let i := objIndex key
  let row := key / 64 % 4194304
  if i = 0x3000 then d.almRestore row (toLE 128 v) (v / 2 ^ 1024 % 2 ^ 32)
  else if i = 0x2400 then d.wr F.TIM_STATUS_UTC_OFFSET v
  else if i = 0x2401 then
    let l := Leap.unpack v
    let d := { d with tim := { d.tim with leap := some l } }
    ((d.wr F.TIM_STATUS_LEAP_ARMED 1).wrBit F.TIM_STATUS_LEAP_DIR (l.new < l.old)).wrBit F.TIM_LEAP_CFG_SOURCE l.byPtp
  else if i = 0x7011 then d.setSup { d.sup with run := v }
  else if i = 0x7020 then d.setSup { d.sup with results := d.sup.results.put row (TestResult.unpack v) }
  else { d with odp := { d.odp with objs := d.odp.objs.put key v } }

/-- What restored settings bring before any service starts: outputs that wait for their start, slots that qualify, the offset in
manual operation, paths that are watched. -/
def Dev.restoreStarts (old d : Dev) : Dev :=
  let d := Dev.refStarts old (Dev.clkStarts old d)
  let d := if d.on F.TIM_UTC_CFG_SRC then d.wr F.TIM_STATUS_UTC_OFFSET (unsgn 16 (d.rdS F.TIM_UTC_CFG_MANUAL_OFFSET)) else d
  (List.range 1536).foldl (fun d z =>
    if d.pathOn z then (d.setPath z { watching := true }).wr (F.SUP_PATH_STATUS_STATE.un z) 1 else d) d

/-- The store's records, each but the failed ones; the index of a failed record is posted. -/
def Dev.restoreStore (d : Dev) : Dev :=
  match d.odp.store with
  | none => d
  | some st =>
    if !st.headerOk then d
    else
      let bad := st.records.filter (·.bad)
      let good := st.records.filter (fun r => !r.bad)
      let d := bad.foldl (fun d r => (d.flag F.GCTL_IRQ_STATUS_CONFIG_DEFAULTED).objEvent 0 noUnit r.object 0 0) d
      let old := d
      let d := good.foldl (fun d r => r.vals.foldl (fun d v =>
        if v.1 % 2 = 0 then d.restoreField (v.1 / 2, v.2) else d.restoreObject (v.1 / 2) v.2) d) d
      Dev.restoreStarts old d

/-- Values that the device itself keeps in MRAM (R105, R339): the model's frequency seeds the steering word. -/
def Dev.restoreKept (d : Dev) : Dev :=
  let y0 := sgn 32 (d.obj 0x2040 7 0)
  let slope := sgn 32 (d.obj 0x2040 8 0)
  let d := { d with ref := { d.ref with learn := { d.ref.learn with model := { y0 := y0 * 65536, slope := slope }, kept := d.time.cycles } } }
  let d := (((d.wr F.REF_HO_Y_Y0 (d.obj 0x2040 7 0)).wr F.REF_HO_D_D (d.obj 0x2040 8 0)).setWord (y0 * 65536)).reseed
  ((d.wr F.PWR_LIFE_AVG_AVG (d.obj 0x9020 1 0)).wr F.PWR_LIFE_HOURS_HOURS (d.obj 0x9020 2 0)).wr F.PWR_HOURS_HOT_HOT (d.obj 0x9020 3 0)

/-- Step 7: the store is restored and judged, then the partitions are laid out. -/
def Dev.restoreStep (d : Dev) : Dev :=
  let code := d.configCode
  let d := d.restoreStore.restoreKept
  let d := { d with boot := { d.boot with configCause := code } }.wrBit F.GCTL_BOOT_STATUS_CONFIG_VALID (code = 5)
  let d := if d.rank = 0 then { d with cas := { d.cas with master := Config.eui64 } } else d
  let d := if d.boot.dram then d.setObj 0x1020 3 0 d.boot.fitted else d
  d.layOut

/-! ### Steps 1, 5 and 9 -/

/-- The root has not locked (R45, R61): the boot ROM goes on with the backup oscillator. -/
def Dev.bootOnBackup (d : Dev) : Dev :=
  let d := (d.wr F.CLK_ROOT_STATUS_ROOT_LOCKED 0).wr F.CLK_ROOT_STATUS_ON_BACKUP 1
  let d := { d with clk := { d.clk with rootLost := true }, boot := { d.boot with onBackup := true, dram := false } }
  (d.wr F.GCTL_BOOT_STATUS_BOOT_STEP 1).holdCause 0x06

/-- Step 1 (R61): XO_IN is 10 MHz or 48 MHz by its count over 100 µs. -/
def Dev.rootStep (d : Dev) (edges : Nat) : Dev :=
  let freq := if decide (900 ≤ edges ∧ edges ≤ 1100) then 1 else if decide (4320 ≤ edges ∧ edges ≤ 5280) then 2 else 0
  let d := (d.wr F.CLK_ROOT_STATUS_XO_FREQ freq).wrBit F.CLK_ROOT_STATUS_XO_PRESENT (edges ≠ 0)
  if freq = 0 then d.bootOnBackup
  else (d.wr F.CLK_ROOT_STATUS_ROOT_LOCKED 1).wr F.GCTL_BOOT_STATUS_BOOT_STEP 1

/-- The fitted size that the store holds (R25). DESIGN CHOICE (log 17). -/
def Dev.storedFitted (d : Dev) : Option Nat :=
  match d.odp.store with
  | none => none
  | some st => if !st.headerOk then none else
    match st.records.find? (fun r => r.object = 0x1020 && !r.bad) with
    | some r => r.vals.find? (2 * objKey 0x1020 3 0 0 + 1)
    | none => none

/-- Step 5 (R25, R45): the trained size, or the smaller of it and the stored one. DESIGN CHOICE (log 17, 18). -/
def Dev.trainStep (d : Dev) (trained : Nat) : Dev :=
  if trained = 0 then
    ((d.wr F.GCTL_BOOT_STATUS_DDR_TRAIN_FAIL 1).objEvent 0 noUnit 0x1020 3 0).holdCause 0x16
  else
    let stored := d.storedFitted.getD trained
    let d := { d with boot := { d.boot with dram := true, fitted := min stored trained } }
    if stored = trained then d
    else (d.wr F.GCTL_BOOT_STATUS_DDR_SIZE_MISMATCH 1).irq F.GCTL_IRQ_STATUS_DDR_SIZE_MISMATCH

/-- Step 9 (R49): essential messages load in index order, within their first 128 MiB. DESIGN CHOICE (log 19). -/
def Dev.essentialStep (d : Dev) : Dev :=
  let rows := d.lib.msgs.filter (fun r => r.2.essential)
  let fits := rows.foldl (fun (acc : List Nat × Nat) r =>
    let n := acc.2 + 3 * r.2.length
    if n ≤ 134217728 then (acc.1 ++ [r.1], n) else (acc.1, n)) ([], 0)
  let d := { d with boot := { d.boot with essentialOver := decide (134217728 < fits.2) } }
  let d := if d.noNand then d else fits.1.foldl (fun d r => d.loadMsg r true) d
  let all := (d.lib.msgs.filter (fun r => r.2.essential)).all (fun r => r.2.dram.isSome)
  let d := d.wrBit F.GCTL_BOOT_STATUS_LIB_ESSENTIAL_OK all
  d.setLib { d.lib with order := d.libOrder }

/-! ### The mode decision (R41, R45, R52) -/

/-- The pair start rule (R52): a low ROLE_CLAIM_N means RESYNC; side A claims at once, side B waits 2 s and looks again, in BOOTSTRAP
with no mode decided yet. DESIGN CHOICE (log 21, 22). -/
def Dev.pairStart (d : Dev) (claimLow : Bool) (master : Nat := 0) : Dev :=
  let d := d.claimReads claimLow
  if claimLow then d.goTo .resync 0x15 master
  else if d.rd F.GCTL_BOOT_STATUS_PAIR_SIDE = 0 then
    { d.goTo .active 0x15 master with pair := { d.pair with claiming := true } }
  else { d with boot := { d.boot with pairWait := some d.time.cycles } }

/-- The SAFE_HOLD cause that goes first among those held: R45 gives 0x06 at step 10 whatever else is held, then 0x16. DEDUCED (log 20). -/
def firstCause (held : List Nat) : Option Nat := [0x06, 0x16, 0x08, 0x07, 0x09].find? held.contains

/-- Step 10: held causes first, then the configuration. DEDUCED (log 20). DESIGN CHOICE (log 21). -/
def Dev.decideMode (d : Dev) (claimLow : Bool) : Dev :=
  match firstCause d.mode.held with
  | some c => d.goTo .safeHold c
  | none =>
    if d.boot.configCause ≠ 5 then d.goTo .commission d.boot.configCause
    else if d.paired then d.pairStart claimLow
    else d.goTo .solo 0x05

/-- The step that follows the last completed one; steps that need DRAM are left out when there is none (R45). -/
def Dev.nextBootStep (d : Dev) : Nat :=
  let n := d.rd F.GCTL_BOOT_STATUS_BOOT_STEP
  let skip := fun (k : Nat) => (d.boot.onBackup && (k = 5 || k = 6 || k = 9)) ||
    (d.on F.GCTL_BOOT_STATUS_DDR_TRAIN_FAIL && (k = 6 || k = 9))
  if !skip (n + 1) then n + 1 else if !skip (n + 2) then n + 2 else n + 3

/-- One step of the power-up sequence ends. LIB_BG_DONE is set at step 10 where nothing waits to be loaded, whether or not step 9 ran.
DESIGN CHOICE (log 14, 15, 189). -/
def Dev.bootStepEnd (d : Dev) (input : BootInput) : Dev :=
  let n := d.nextBootStep
  let done := fun (d : Dev) => d.wr F.GCTL_BOOT_STATUS_BOOT_STEP n
  match n with
  | 1 => d.rootStep input.xoEdges
  | 2 => done (d.setObj 0x1040 7 0 ((d.bootCount + 1) % 2 ^ 32))
  | 4 =>
    match d.pickImage input.slotA input.slotB with
    | none => d.goTo .maintenance 0x13
    | some (isB, fallback) =>
      let d := (d.wrBit F.GCTL_BOOT_STATUS_IMAGE_SLOT isB).wrBit F.GCTL_BOOT_STATUS_IMAGE_FALLBACK fallback
      done { d with boot := { d.boot with slotB := some isB, version := (if isB then input.slotB else input.slotA).version },
                    pins := { d.pins with rstOut := true } }
  | 5 => done (d.trainStep input.trainedMiB)
  | 7 => done d.restoreStep
  | 9 => done d.essentialStep
  | 10 =>
    let d := { done d with boot := { d.boot with ms := input.elapsedMs } }
    let d := if d.lib.order.isEmpty then d.wr F.GCTL_BOOT_STATUS_LIB_BG_DONE 1 else d
    d.decideMode input.claimLow
  | _ => done d

/-- The power-up sequence is under way: BOOTSTRAP, TEST_EN low (R43), its mode not decided. -/
def Dev.booting (d : Dev) : Bool :=
  d.alive && d.mode.mode = .bootstrap && !d.pins.testEn && d.mode.decided.isNone && d.boot.pairWait.isNone &&
  decide (d.rd F.GCTL_BOOT_STATUS_BOOT_STEP < 10)

/-- BOOT_STEP_END (R45): step 2 clears the packet memory with the rest of the SRAM. -/
def execBootStepEnd (input : BootInput) (s : State) : Host.Outcome State Fault Refusal :=
  s.actMem fun m d =>
    if !d.booting then ([], d)
    else (if d.nextBootStep = 2 then m.map (fun c => (c.1, 0)) else [], d.bootStepEnd input)

/-- ROOT_LOCK_TIMEOUT (R45). DESIGN CHOICE (log 3). -/
def execRootLockTimeout (s : State) : Host.Outcome State Fault Refusal :=
  s.act fun d => if d.booting && d.rd F.GCTL_BOOT_STATUS_BOOT_STEP = 0 then d.bootOnBackup else d

/-- PAIR_START_RESAMPLE (R52): after its wait, side B enters RESYNC or claims. A SAFE_HOLD cause held in BOOTSTRAP goes first. -/
def execPairStartResample (claimLow : Bool) (s : State) : Host.Outcome State Fault Refusal :=
  s.act fun d =>
    match d.boot.pairWait with
    | none => d
    | some since =>
      if !d.alive || !d.past since 2000 then d
      else
        let d : Dev := { d with boot := { d.boot with pairWait := none } }
        let d := d.claimReads claimLow
        match (if d.mode.mode = .bootstrap then firstCause d.mode.held else none) with
        | some c => d.goTo .safeHold c
        | none =>
          let master := (d.mode.decided.map (·.master)).getD 0
          if claimLow then d.goTo .resync 0x15 master
          else { d.goTo .active 0x15 master with pair := { d.pair with claiming := true } }

end Sys2Proof.Machine
end

