-- ==== Sys2Proof/Machine/Transition.lean ====
section
/-! DEFINITION. Machine/Transition.lean: how a decided transition takes effect and what each mode brings (R38 to R42, R54, R59, R209,
R236, R267), the island watch and Lantern triggers (R56 to R58). -/

namespace Sys2Proof.Machine

/-! ### What the pins show (R54) -/

/-- FAULT_OK, where it is driven: low in BOOTSTRAP, MAINTENANCE and SAFE_HOLD, high in every other mode but RESET. A device brought up with
TEST_EN high drives no output (R43). -/
def Dev.faultOk (d : Dev) : Option Bool :=
  if !d.alive || d.pins.testEn then none
  else some (d.mode.mode != .bootstrap && d.mode.mode != .maintenance && d.mode.mode != .safeHold)

/-! ### Parts of a mode change -/

/-- NET0 to NET3 are in service in a mode (R173). -/
def Mode.netServes : Mode → Bool
  | .reset | .bootstrap | .maintenance | .safeHold => false
  | _ => true

/-- The watch for the island starts afresh (R56). -/
def Dev.islandAfresh (d : Dev) : Dev :=
  { d with island := { d.island with islanded := false, heard := d.time.cycles, clearAt := none, byRequest := false } }

/-- An islanded device in SOLO or ACTIVE, or in a VIGIL entered from one, enters LANTERN at the next boundary (R41, R56). DEDUCED
(log 182): LanternEnable = 0 keeps a VIGIL out of LANTERN too. -/
def Dev.lanternCheck (d : Dev) : Dev :=
  if d.island.islanded && (d.mode.mode = .solo || d.mode.mode = .active ||
      (d.mode.mode = .vigil && (d.roleMode = .solo || d.roleMode = .active))) && d.obj 0x1030 3 0 1 = 1 then
    d.arises .lantern 0x0A
  else d

/-- Every unit enabled for service starts at the boundary of the mode change (R209, R236, R267). -/
def Dev.audioStart (d : Dev) : Dev :=
  let d := { d with mtx := { d.mtx with outGain := 256 } }
  (((d.strStartAll).aptStartAll).mtxStartAll).libStartAll

/-- Audio work that the budget shed leaves its list where audio stops: it starts anew with the rest. -/
def Dev.unshedAudio (d : Dev) : Dev :=
  { d with pwr := { d.pwr with shed := d.pwr.shed.filter (fun u => match u with
      | .context _ | .port _ | .row _ | .tone _ | .recorder => false | _ => true) } }

/-- Every context, port, row, tone, voice and the recorder stops. DESIGN CHOICE (log 27). -/
def Dev.audioStop (d : Dev) : Dev :=
  let d := ((((d.strStopAll).aptStopAll).mtxStopAll).libStopAll).unshedAudio
  { d with mtx := { d.mtx with outGain := 0 } }

/-- What a transition does to tests (R294, R296, R321): a Vigil left by islanding or take-over ends ABORTED_FOR_SERVICE, by a SAFE_HOLD
cause INCOMPLETE; a drill that a fault meets ends INCOMPLETE; a lone test in MAINTENANCE gives way. DESIGN CHOICE (log 117). -/
def Dev.leaveTests (d : Dev) (target : Mode) : Dev :=
  let d := if d.pair.drill ≠ 0 && target = .safeHold then
      { d.cutTest 2 12 with pair := { (d.cutTest 2 12).pair with drill := 0 } } else d
  if d.mode.mode = .vigil then
    match target with
    | .lantern | .active => d.endVigil (if d.sup.vigil.isSome && (target = .lantern || d.roleMode = .marionette) then some (3, 10) else none) false
    | .safeHold => d.endVigil (some (2, 10)) false
    | _ => d
  else if d.mode.mode = .maintenance then d.cutTest 3 4 else d

/-- Since when the cause of SAFE_HOLD is clear, on entry (R59): single events and a failed training from entry, a lost root where it
has relocked before. -/
def Dev.clearOnEntry (d : Dev) (cause : Nat) : Option Nat :=
  if cause = 0x07 || cause = 0x08 || cause = 0x16 || (cause = 0x06 && d.on F.CLK_ROOT_STATUS_ROOT_LOCKED) then some d.time.cycles
  else none

/-- The unit's part in a pair (PAIR_STATUS ROLE). -/
def Dev.pairRole (d : Dev) : Nat :=
  if d.roleMode = .active then 1 else if d.standby then 2 else 0

/-- Sessions opened at the service address lapse when the unit leaves the active role (R345). DESIGN CHOICE (log 35). -/
def Dev.lapseSessions (d : Dev) : Dev :=
  (d.odp.sessions.filter (·.service)).foldl (fun d s => d.closeSession s.id) d

/-- RESYNC begins (R317, R318). -/
def Dev.startResync (d : Dev) : Dev :=
  let d := { d with pair := { d.pair with resyncFrom := d.time.cycles, named := none, good := 0, halted := false } }
  (d.wr F.PAIR_STATUS_RESYNC_STEP 1).tally (F.PAIR_COUNT_COUNT.at [6])

/-- The causes still held are judged in the new mode (R40). DESIGN CHOICE (log 24). -/
def Dev.judgeHeld (d : Dev) : Dev :=
  if d.mode.mode = .safeHold then { d with mode := { d.mode with held := [] } }
  else match firstCause d.mode.held with
    | some c => { d.goTo .safeHold c with mode := { (d.goTo .safeHold c).mode with held := d.mode.held.filter (· ≠ c) } }
    | none => d

/-- The mode changes (R41, R42). `keepClaim` leaves ROLE_CLAIM_N pulled until its own release, 10 µs after a handover. DESIGN CHOICE (log 21, 27). -/
def Dev.changeMode (d0 : Dev) (target : Mode) (cause : Nat) (master : Nat := 0) (keepClaim : Bool := false) : Dev :=
  let old := d0.mode.mode
  let ran := d0.audioRuns
  let drove := d0.drives
  let wasActive := d0.roleMode = .active
  let entry := d0.roleMode
  let d := d0.leaveTests target
  let d := if (old = .commission || old = .maintenance) && (target = .solo || target = .active || target = .resync) then d.layOut.capEvents d 8 noUnit else d
  let d := d.recordTransition target cause master
  let d := if target = .lantern || target = .vigil then { d with mode := { d.mode with origin := entry } } else d
  let d := if old = .bootstrap then (d.flag F.GCTL_IRQ_STATUS_BOOT_DONE).islandAfresh else d
  let d := if target.netServes && !old.netServes then d.islandAfresh else d
  -- audio
  let d := if target = .safeHold then
      let d := { d with mtx := { d.mtx with outGain := if drove then d.mtx.outGain else 0 } }
      ((List.range 256).filter (fun c => d.ctxTx c && d.ctxRuns c)).foldl (fun d c => d.ctxEnd c) d
    else d
  let d := if !ran && d.audioRuns then d.audioStart else if ran && !d.audioRuns then d.audioStop else d
  let d := if ran && (old = .resync || old = .estranged) && target = .active then { d with mtx := { d.mtx with outGain := 0 } } else d
  let d := (d.schedule).clkService d0.outService
  -- the pair
  let nowActive := d.roleMode = .active
  let d := d.wr F.PAIR_STATUS_ROLE d.pairRole
  let d := if old = .resync then ((d.wr F.PAIR_STATUS_RESYNC_STEP 0).wr F.PAIR_STATUS_RESYNC_BLOCKED 0) else d
  let d := { d with pair := { d.pair with claiming := nowActive || (keepClaim && d.pair.claiming),
                                          frames := if d.follows then d.pair.frames else [] } }
  let d := if d.standby then d else d.clearSigns
  let d := if wasActive && !nowActive then d.lapseSessions else d
  let d := if target = .resync then d.startResync else d
  let d := { d with ref := { d.ref with tookOver := decide (target = Mode.active) && d0.standby } }
  let d := if nowActive then d.note [8, byteOf (modeCode target), byteOf cause] else d
  -- each mode's own
  let d := if target = .vigil then d.startVigil else d
  let d := if target = .lantern && cause = 0x02 then
      { d with island := { d.island with clearAt := if d.island.islanded then none else some d.time.cycles } } else d
  let d := if old = .lantern then
      let d := d.setLib { d.lib with waiting := [] }
      { d with island := { d.island with byRequest := false }, contacts := d.contacts.map (fun c => (c.1, { c.2 with voice := none })) }
    else d
  let d := if target = .commission || target = .maintenance || target = .safeHold then d.almHoldAll else d
  let d := if target = .safeHold then
      { d with mode := { d.mode with clearSince := d.clearOnEntry cause, spent := decide (3 ≤ d.recentRestarts.length) } } else d
  let d := if target = .maintenance && cause = 0x02 then { d with mode := { d.mode with restarts := [], spent := false } } else d
  let d := { d with pins := { d.pins with rstOut := true } }
  let d := d.bypass.ptpServe
  d.judgeHeld.lanternCheck

/-- A decided transition takes effect (R42). Service is left for COMMISSION or MAINTENANCE only after the 256-sample ramp of R55; a
handover waits for its token boundary; the pair start rule is applied as ACTIVE is entered from COMMISSION or MAINTENANCE. -/
def Dev.takeEffect (d : Dev) (claimLow : Bool) : Dev :=
  match d.mode.decided with
  | none => d
  | some x =>
    match x.target with
    | .reset => { d with mode := { d.mode with restarts := [] } }.internalReset 0x02 x.master
    | .commission | .maintenance =>
      if d.serving && decide (0 < d.mtx.outGain) then d else d.changeMode x.target x.cause x.master
    | .marionette => if d.roleMode = .active then d else d.changeMode .marionette x.cause x.master
    | .active =>
      if x.cause = 0x15 && !d.pair.claiming then
        if d.boot.pairWait.isSome then d
        else
          let d := d.pairStart claimLow x.master
          match d.boot.pairWait, d.mode.decided with
          | none, some y => d.changeMode y.target y.cause y.master
          | _, _ => d
      else d.changeMode .active x.cause x.master
    | t => d.changeMode t x.cause x.master

/-- MODE_TRANSITION (R42): at an audio frame boundary where audio output changes, else at the next control cycle. A transition into
RESET has its record written first. -/
def execModeTransition (claimLow : Bool) (s : State) : Host.Outcome State Fault Refusal :=
  s.actTime fun d => if d.alive then d.takeEffect claimLow else d

/-! ### The island (R56) -/

/-- LanternDetect in seconds. -/
def Dev.lanternDetect (d : Dev) : Nat := d.obj 0x1030 1 0 5

/-- LanternReturn in seconds. -/
def Dev.lanternReturn (d : Dev) : Nat := d.obj 0x1030 2 0 30

/-- ISLAND_DETECT (R56): nothing has reached the watch for LanternDetect. A VIGIL entered from SOLO or ACTIVE is left for LANTERN. -/
def execIslandDetect (s : State) : Host.Outcome State Fault Refusal :=
  s.act fun d =>
    if !d.booted || !d.mode.mode.netServes || d.island.islanded || !d.past d.island.heard (d.lanternDetect * 1000) then d
    else
      { d with island := { d.island with islanded := true, clearAt := none } }.lanternCheck

/-- LANTERN_RETURN (R56): the island has stayed cleared for LanternReturn, which is not 0. -/
def execLanternReturn (s : State) : Host.Outcome State Fault Refusal :=
  s.act fun d =>
    match d.island.clearAt with
    | some t =>
      if d.booted && d.mode.mode = .lantern && !d.island.islanded && d.lanternReturn ≠ 0 &&
          d.past t (d.lanternReturn * 1000) then d.arises d.mode.origin 0x0B
      else d
    | none => d

/-! ### Contact-input triggers (R57, R58) -/

/-- A trigger row's field. DESIGN CHOICE (log 33). -/
def Dev.trigger (d : Dev) (row col : Nat) (dflt : Nat := 0) : Nat := d.obj 0x1031 col row dflt

/-- The play that a trigger row asks for. DESIGN CHOICE (log 33). -/
def Dev.triggerPlay (d : Dev) (row : Nat) : Play :=
  let zones := d.zoneSet (d.trigger row 5)
  let safe := zones.any (fun z => d.levelSafe z (d.trigger row 6))
  { source := .message (d.trigger row 4), voice := 255, level := d.trigger row 6, zoneSet := d.trigger row 5, classS := safe,
    origin := 3, due := d.time.cycles }

/-- A trigger's action begins: its voice is kept with the contact; a message that is not resident goes to the head of the load order
and starts when it is. Each action is journalled as session 0. -/
def Dev.triggerPlays (d : Dev) (row : Nat) : Dev :=
  let p := d.triggerPlay row
  let r := d.playRequest p
  let d := r.1
  let c := d.contacts.get {} row
  let d := if r.2.1 = .ok then { d with contacts := d.contacts.put row { c with voice := some r.2.2 } }
    else if r.2.1 = .busy then d.setLib { d.lib with waiting := d.lib.waiting.filter (fun w => w.1 ≠ row) ++ [(row, p)] }
    else d
  d.journal 0 0xFF 0x22 r.2.1 0 0 0 0 ([byteOf row, byteOf (d.trigger row 3)] ++ toLE 4 (d.trigger row 4))

/-- A trigger's voice ramps out over 32 samples. -/
def Dev.triggerStops (d : Dev) (row : Nat) : Dev :=
  let c := d.contacts.get {} row
  let d := d.setLib { d.lib with waiting := d.lib.waiting.filter (fun w => w.1 ≠ row),
                                 plays := d.lib.plays.filter (fun p => !(p.origin = 3 && some p.voice = c.voice)) }
  let d := match c.voice with
    | some v => (match d.voice v with
      | some x => if x.source = VoiceSource.message (d.trigger row 4) then d.voiceFade v 1 else d
      | none => d)
    | none => d
  let d := { d with contacts := d.contacts.put row { c with voice := none } }
  d.journal 0 0xFF 0x22 .ok 0 0 0 0 ([byteOf row, byteOf (d.trigger row 3)] ++ toLE 4 (d.trigger row 4))

/-- The contact still holds what it started: a voice that plays its message, or a message that is awaited. -/
def Dev.triggerHolds (d : Dev) (row : Nat) : Bool :=
  d.lib.waiting.any (fun w => w.1 = row) ||
  match (d.contacts.get {} row).voice with
  | none => false
  | some v => d.lib.plays.any (fun p => p.origin = 3 && p.voice = v) ||
      (match d.voice v with | some x => x.source = VoiceSource.message (d.trigger row 4) | none => false)

/-- LANTERN_TRIGGER (R58): the input has been stable at a level for the row's debounce time. Only LANTERN honours it (R57). -/
def execLanternTrigger (gpio : Fin 16) (level : Bool) (s : State) : Host.Outcome State Fault Refusal :=
  s.act fun d =>
    let closed : Bool := level == (d.trigger gpio 2 == 1)
    let c := d.contacts.get {} gpio
    if !d.booted || c.closed == closed then d
    else
      let d := { d with contacts := d.contacts.put gpio { c with closed := closed } }
      if d.mode.mode ≠ .lantern || d.trigger gpio 1 ≠ 1 then d
      else match d.trigger gpio 3, closed with
        | 0, true => d.triggerPlays gpio
        | 1, true => d.triggerPlays gpio
        | 1, false => d.triggerStops gpio
        | 2, true => if d.triggerHolds gpio then d.triggerStops gpio else d.triggerPlays gpio
        | _, _ => d

end Sys2Proof.Machine
end

