-- ==== Sys2Proof/Machine/Contain.lean ====
section
/-! DEFINITION. Machine/Contain.lean: how an uncorrectable memory error is contained by its region (R30), and the record that tells the
standby of it (R306). -/

namespace Sys2Proof.Machine

/-- The number of a region in the event and the counts of R30. DESIGN CHOICE (log 122). -/
def Region.code : Region → Nat
  | .library _ => 0 | .recorder _ => 1 | .streamBuffer _ _ _ => 2 | .delayLine _ _ => 3 | .clientEntry _ _ => 4 | .queue _ _ => 5
  | .descriptor _ _ => 6 | .portBuffer _ _ _ => 7 | .staging _ => 8 | .reserve => 9 | .critical => 10 | .journalStaging _ => 11
  | .correlator _ _ => 12

/-- The unit that an error concerns. -/
def Region.unit : Region → Nat
  | .library r => r.val | .recorder _ => noUnit | .streamBuffer c _ _ => c.val | .delayLine z _ => z.val | .clientEntry _ _ => noUnit
  | .queue q _ => q.val | .descriptor p _ => p.num | .portBuffer p _ _ => p.val | .staging b => b.val | .reserve => noUnit
  | .critical => noUnit | .journalStaging _ => noUnit | .correlator n _ => n.val

/-- The region lies in DRAM alone. -/
def Region.dram : Region → Bool
  | .library _ | .recorder _ | .streamBuffer _ _ _ | .delayLine _ _ | .clientEntry _ _ => true
  | _ => false

/-- A library message loses its audio: voices fade it out and it loads again from NAND; with no copy there it is BAD. DESIGN CHOICE (log 121). -/
def Dev.loseMessage (d : Dev) (row : Nat) : Dev :=
  match d.lib.msgs.find? row with
  | none => d
  | some m => match m.dram with
    | none => d
    | some audio =>
      let d := (d.lib.voices.filter (fun v => v.2.source = VoiceSource.message m.id)).foldl (fun d v => d.voiceFade v.1 3) d
      if m.nand.isNone then d.msgBad row { m with stale := audio }
      else
        let d := d.setMsg row { m with dram := none, stale := audio }
        d.setLib { d.lib with order := d.lib.order.filter (· ≠ row) ++ [row] }

/-- A recorded position is lost: marks at or before it become INVALID (R265), and what a voice reads there is open. DESIGN CHOICE (log 111). -/
def Dev.loseRecorded (d : Dev) (position : Nat) : Dev :=
  if position < d.recOldest || d.lib.recd.w ≤ position then d
  else
    let r := d.draw .memory
    let values := (List.range 64).map (fun c => sgn 24 (r.1 / 2 ^ (24 * c)))
    let d := r.2.setLib { r.2.lib with recd := { r.2.lib.recd with ring := r.2.lib.recd.ring.put position values } }
    d.spoilMarks (fun m => decide (m ≤ position))

/-- One item of a queue, counted from the oldest, is discarded and counted; the frame of a receive item returns its buffers (R404). -/
def Dev.loseItem (d : Dev) (q item : Nat) : Dev :=
  match (d.que q).items[item]? with
  | none => d
  | some i =>
    let d := if 8 ≤ q && q ≤ 12 then d.returnChain (leAt i 8 4) else d
    (d.setQue q { d.que q with items := (d.que q).items.eraseIdx item }).count (F.QUE_LOSS_LOSS.at [q])

/-- A staged journal entry is discarded and counted; its number reads as holding no entry, and a GAP entry names it (R361, R362).
DESIGN CHOICE (log 121). -/
def Dev.loseStaged (d : Dev) (item : Nat) : Dev :=
  let j := d.odp.journal
  match j.staged[item]? with
  | none => d
  | some e =>
    let d := d.setJournal { j with staged := j.staged.eraseIdx item, lost := j.lost + 1, gaps := j.gaps ++ [(e.seq, e.seq)] }
    (d.journalDevice 0x25 (toLE 8 e.seq ++ toLE 8 e.seq)).q7 5

/-- A sense sample that a correlator holds is treated as lost (R30). -/
def Dev.loseSense (d : Dev) (n position : Nat) : Dev :=
  match d.sup.corrs.find? n with
  | none => d
  | some x =>
    if (x.xs.find? position).isNone then d
    else { d with sup := { d.sup with corrs := d.sup.corrs.put n { x with xs := x.xs.put position none } } }

/-- A packet buffer is lost: the frame it holds is discarded, received or waiting to be sent. -/
def Dev.loseBuffer (d : Dev) (b : Nat) : Dev :=
  match List.find? (fun (c : Nat × RxChain) => c.2.bufs.contains b) d.net.chains with
  | some c =>
    let q := 8 + c.2.queue / 16
    let x := d.que q
    let d := if x.items.any (fun i => leAt i 8 4 = c.1) then
        (d.setQue q { x with items := x.items.filter (fun i => leAt i 8 4 ≠ c.1) }).count (F.QUE_LOSS_LOSS.at [q])
      else d
    d.returnChain c.1
  | none =>
    let d := (List.range 5).foldl (fun d p =>
      let x := d.port p
      d.setPort p { x with txq := x.txq.filter (fun f => f.buffer ≠ some b) }) d
    { d with net := { d.net with txAlloc := d.net.txAlloc.filter (· ≠ b) } }

/-- An uncorrectable error is contained by its region (R30). DESIGN CHOICE (log 121). -/
def Dev.contain (d : Dev) : Region → Dev
  | .library row => d.loseMessage row.val
  | .recorder position => d.loseRecorded position
  | .streamBuffer c copyB slot =>
    let x := d.ctx c.val
    d.setCtx c.val (if copyB then { x with ringB := x.ringB.del slot } else { x with ringA := x.ringA.del slot })
  | .delayLine z position =>
    let x := d.zone z.val
    if (x.line.find? position).isSome then d.setZone z.val { x with line := x.line.put position none } else d
  | .clientEntry set way => { d with tim := { d.tim with clients := d.tim.clients.del (set * 4 + way) } }
  | .queue q item => d.loseItem q.val item
  | .descriptor p item => d.loseItem (8 + p.num) item
  | .journalStaging e => d.loseStaged e
  | .correlator n position => d.loseSense n.val position
  | .portBuffer p transmit position =>
    let x := d.apo p.val
    let lose := fun (y : PortDir) => match y.ring.find? position with
      | some e => { y with ring := y.ring.put position { e with missing := true } }
      | none => y
    d.setApo p.val (if transmit then { x with tx := lose x.tx } else { x with rx := lose x.rx })
  | .staging b => d.loseBuffer b.val
  | .reserve => d
  | .critical => d

/-- The record that carries a region's error to the standby (R306, type 0x09); none where the error has no visible effect. DESIGN CHOICE (log 122). -/
def Region.record (g : Region) : List Byte :=
  let r := fun (position : Nat) (copy : Bool) => [9, byteOf (16 + g.code)] ++ toBE 2 g.unit ++ toBE 6 position ++ [byteOf (bit copy)]
  match g with
  | .library _ => r 0 false
  | .recorder p => r p false
  | .streamBuffer _ c slot => r slot c
  | .delayLine _ p => r p false
  | .portBuffer _ t p => r p t
  | _ => []

/-- The region that a record names. -/
def regionOf (r : List Byte) : Option Region :=
  let unit := beAt r 2 2
  let position := beAt r 4 6
  let copy := decide (beAt r 10 1 = 1)
  match beAt r 1 1 with
  | 16 => some (.library (Fin.ofNat 15360 unit))
  | 17 => some (.recorder position)
  | 18 => some (.streamBuffer (Fin.ofNat 256 unit) copy position)
  | 19 => some (.delayLine (Fin.ofNat 1536 unit) position)
  | 23 => some (.portBuffer (Fin.ofNat 16 unit) copy position)
  | _ => none

end Sys2Proof.Machine
end

