-- ==== Sys2Proof/Machine/PairLink.lean ====
section
/-! DEFINITION. Machine/PairLink.lean: what runs over the Irmon link (R302 to R310, R312): the step token and its records, forwarded
commands, digests and TIME frames. -/

namespace Sys2Proof.Machine

/-- The index of the 48 kHz grid at or before an instant (R17, R305). -/
def grid48 (t : Tai) : Nat := t.toSub * 48000 / subPerSec

/-- The millisecond that an instant lies in. -/
def msOf (t : Tai) : Nat := t.toSub / 65536 / 1000000

/-- The unit watches for the signs of R314: MARIONETTE, RESYNC, ESTRANGED, or a VIGIL entered from MARIONETTE. -/
def Dev.watches (d : Dev) : Bool := d.paired && d.standby

/-- Replace the pair's state. -/
def Dev.setPair (d : Dev) (x : PairSt) : Dev := { d with pair := x }

/-- The Irmon lane serves: its unit is not lost (R33). -/
def Dev.irmonUp (d : Dev) : Bool := !d.isLost 8 0

/-- A frame with a good FCS has arrived (R314). -/
def Dev.irmonHeard (d : Dev) : Dev := (d.wr F.PAIR_STATUS_IRMON_UP 1).wr F.PAIR_STATUS_SIGN_IRMON 0

/-! ### The active's token (R305, R306) -/

/-- The Almanac outcomes of a boundary as bitmaps, one per RESULT, where more than 64 rows resolve on it. DESIGN CHOICE (log 134). -/
def bitmapForm (records : List (List Byte)) : List (List Byte) :=
  let outcomes := records.filter (fun r => leAt r 0 1 = 1)
  if outcomes.length ≤ 64 then records
  else
    let rest := records.filter (fun r => leAt r 0 1 ≠ 1)
    (List.range 9).foldl (fun acc result =>
      let rows := (outcomes.filter (fun r => beAt r 3 1 = result)).map (fun r => beAt r 1 2)
      if rows.isEmpty then acc
      else
        let byte := fun (i : Nat) => byteOf (((List.range 8).map (fun j => bit (rows.contains (8 * i + j)) * 2 ^ j)).sum)
        acc ++ [slice [2, byteOf result] 0 16] ++ (List.range 32).map (fun k => (List.range 16).map (fun i => byte (16 * k + i)))) rest

/-- One TOKEN frame. DESIGN CHOICE (log 60, 134). -/
def tokenFrame (n frames flags b head : Nat) (records : List (List Byte)) : List Byte :=
  let p := [1, byteOf n, byteOf frames, byteOf flags] ++ toBE 6 b ++ toBE 2 records.length ++ toBE 8 head ++ records.flatten
  p ++ toBE 4 (crc32c p)

/-- The flags of the next token: what was asked, and VIGIL_ENTRY where the active is about to enter VIGIL (R295). -/
def Dev.tokenFlags (d : Dev) : Nat :=
  let vigil : Bool := match d.mode.decided with | some x => x.target == .vigil | none => false
  setBit d.pair.flags 4 vigil

/-- TOKEN_SEND (R305): at most 16 frames of 92 records for the next boundary of the 48 kHz grid. -/
def execTokenSend (s : State) : Host.Outcome State Fault Refusal :=
  s.act fun d =>
    if !d.booted || !d.paired || d.roleMode ≠ .active || !d.irmonUp then d
    else
      let records := (bitmapForm d.pair.records).take (16 * 92)
      let frames := max 1 (ceilDiv records.length 92)
      let flags := d.tokenFlags
      let b := grid48 d.time.tai + 1
      let d := (List.range frames).foldl (fun d i =>
        d.emit (.irmon 1 (tokenFrame i frames flags b d.odp.journal.head ((records.drop (92 * i)).take 92)))) d
      d.setPair { d.pair with records := [], flags := 0, sent := flags }

/-! ### Two actives (R320) -/

/-- The partner shows itself ACTIVE to an ACTIVE unit: side B lets go and asks for an internal reset. -/
def Dev.dualActive (d : Dev) : Dev :=
  let d := (d.sticky F.PAIR_STICKY_DUAL_ACTIVE_SEEN noUnit).irq F.PAIR_IRQ_STATUS_DUAL_ACTIVE
  if d.rd F.GCTL_BOOT_STATUS_PAIR_SIDE = 1 && d.yields 1 then
    let d := d.setPair { d.pair with claiming := false }
    (d.deviceEvent 5).arises .reset 0x02
  else d

/-! ### The standby's token (R307) -/

/-- TOKEN_RX (R307): a frame for a coming boundary is held; a bad one and a late one are not. DESIGN CHOICE (log 86). -/
def execTokenRx (payload : List Byte) (fcsOk : Bool) (s : State) : Host.Outcome State Fault Refusal :=
  s.act fun d =>
    if !d.booted || !d.paired || !d.irmonUp then d
    else if !fcsOk then d.tally (F.PAIR_COUNT_COUNT.at [7])
    else
      let d := d.irmonHeard
      let n := payload.length - 4
      let count := beAt payload 10 2
      if payload.length < 24 || beAt payload 0 1 ≠ 1 || beAt payload n 4 ≠ crc32c (payload.take n) || n ≠ 20 + 16 * count then d
      else if d.mode.mode = .active then d.dualActive
      else if !d.follows then d
      else
        let d := d.tally (F.PAIR_COUNT_COUNT.at [0])
        let b := beAt payload 4 6
        let late := decide (b ≤ grid48 (d.time.tai.addNs 1000))
        if late then d
        else
          let x := if d.pair.boundary = b then d.pair else { d.pair with boundary := b, frames := [], want := 0, inFlags := 0 }
          let recs := (List.range count).map (fun i => slice payload (20 + 16 * i) 16)
          d.setPair { x with frames := x.frames.put (beAt payload 1 1) recs, want := beAt payload 2 1,
                             inFlags := beAt payload 3 1, head := beAt payload 12 8 }

/-- A port event of the active (R237). DESIGN CHOICE (log 133). -/
def Dev.followPort (d : Dev) (p what pos : Nat) (phase : Int) : Dev :=
  match what with
  | 1 =>
    let edge := (d.gridAt pos).addNs phase
    let d := d.setApo p { d.apo p with told := some (pos, edge) }
    if d.aptState p = 0 && (d.apo p).frame.isSome then d.anchorTold p (d.lastEdge p) else d
  | 2 => (d.slipRx p true).notFollowing p 1
  | 3 => (d.slipRx p false).notFollowing p 2
  | 4 => (d.slipTx p true).notFollowing p 3
  | 5 => (d.slipTx p false).notFollowing p 4
  | 6 => d.relayRx p pos
  | 7 => d.relayTx p pos
  | 8 => d.clockOut p
  | _ => d

/-- A budget decision of the active (R337): a refused start, a shed, a restore, the admission of a sweep (R295). DESIGN CHOICE (log 135). -/
def Dev.followBudget (d : Dev) (kind n action : Nat) : Dev :=
  match action with
  | 0 => if kind = 0 then d.ctxDrop n .budget else if kind = 6 then d.aptDrop n .budget
    else if kind = 14 then d.leaveStep n 4 7 else d
  | 1 => match ShedUnit.ofKey kind n with | some u => d.shedOne u | none => d
  | 2 => match ShedUnit.ofKey kind n with | some u => d.restoreOne u | none => d
  | 4 => if kind = 14 then d.leaveStep n 3 6 else d
  | _ => if kind = 14 ∧ n = 75 then d.followSweep else d

/-- The active changes its mode: where it leaves VIGIL, the steps that it had still to decide are not run (R294, R295). DESIGN CHOICE (log 205). -/
def Dev.followMode (d : Dev) (mode : Nat) : Dev :=
  let d := d.wr F.PAIR_PARTNER_MODE mode
  if mode = modeCode .vigil then d else (d.leaveStep 75 3 11).leaveStep 76 3 11

/-- A voice choice of the active (R261): the play that waits for it leaves the list and begins at its position. -/
def Dev.followVoice (d : Dev) (r : List Byte) : Dev :=
  let level := beAt r 2 1
  let p : Play := { source := .message (beAt r 6 4), voice := beAt r 1 1 % 64, level := level % 8, zoneSet := beAt r 4 2 % 256,
                    classS := decide (128 ≤ level), origin := 2, due := d.time.cycles }
  let d := d.setLib { d.lib with plays := match d.lib.plays.findIdx? (fun q => q.source = p.source) with
    | some i => d.lib.plays.eraseIdx i | none => d.lib.plays }
  d.voiceStart p (beAt r 10 6)

/-- The loop tick that a phase-step record names (R306): its place in the interval of the 48 kHz grid nearest to the token's boundary that
has the number's low byte. DESIGN CHOICE (log 60). -/
def dueTick (boundary place low : Nat) : Nat :=
  let interval := ((boundary : Int) - sgn 8 ((boundary + 256 - low % 256) % 256)).toNat
  ceilDiv (4 * interval) 3 + place

/-- One record applies (R306). A phase step waits for its loop tick. -/
def Box.followRecord (b : Box) (r : List Byte) : Box :=
  match beAt r 0 1 with
  | 1 => b.almFollow (beAt r 1 2) (beAt r 3 1) (some (statusOf (beAt r 4 1), beAt r 5 4))
  | 3 => b.up (·.followVoice r)
  | 4 => b.up (·.followPort (beAt r 1 1 % 16) (beAt r 2 1) (beAt r 4 6) (sgn 32 (beAt r 10 4)))
  | 5 => b.up (·.followBudget (beAt r 1 1) (beAt r 2 2) (beAt r 5 1))
  | 6 => b.up fun d =>
      let n := beAt r 2 2
      let place := some (beAt r 4 1)
      if beAt r 1 1 = 1 then (match d.xp n with | some x => d.setXp n { x with place := place } | none => d)
      else d.setCtx (n % 256) { d.ctx (n % 256) with place := place }
  | 7 => b.up fun d =>
      if beAt r 1 1 = 1 then d.setPair { d.pair with setTai := some ⟨beAt r 4 6, beAt r 10 4 % 1000000000, beAt r 14 2⟩ }
      else { d with ref := { d.ref with due := some (dueTick d.pair.boundary (beAt r 2 1) (beAt r 3 1), sgn 64 (beAt r 4 8)) } }
  | 8 => b.up (·.followMode (beAt r 1 1))
  | 9 => b.up fun d =>
      if beAt r 1 1 = 0 then (match d.lib.msgs.find? (beAt r 2 2) with | some m => d.msgBad (beAt r 2 2) m | none => d)
      else (match regionOf r with | some g => d.contain g | none => d)
  | _ => b

/-- The records of a boundary in order; a bitmap takes the 32 records that follow it. -/
def Box.followRecords : Nat → Box → List (List Byte) → Box
  | 0, b, _ => b
  | _, b, [] => b
  | n + 1, b, r :: rest =>
    if beAt r 0 1 = 2 then
      let map := ((rest.take 32).flatten).toArray
      let result := beAt r 1 1
      let rows := (List.range 4096).filter (fun i => bitAt (map.getD (i / 8) 0).toNat (i % 8))
      followRecords n (rows.foldl (fun b i => b.almFollow i result none) b) (rest.drop 32)
    else followRecords n (b.followRecord r) rest

/-! ### Forwarded commands (R308) -/

/-- Objects whose commands concern the unit they were given to alone: mode requests, MDIO, tests and the drill. -/
def unitLocal (index : Nat) : Bool := index = 0x1002 || index = 0x4011 || index = 0x7021 || index = 0x8003

/-- A forwarded command takes effect and is journalled under the active's number; a forwarded cascade message takes the effect that it
had on the active. DESIGN CHOICE (log 135). -/
def Box.follow (b : Box) (c : Command) : Box :=
  let a : Asker := ⟨c.master, c.role, 0, false, c.flags⟩
  if c.op = 0x22 then b.up (fun d => View.takeCascade ⟨b.mem, d, 0⟩ (beAt c.value 0 1) (c.value.drop 1))
  else
  let b :=
    if unitLocal c.index then b
    else if c.op = 1 || c.op = 3 then
      match objAt c.index c.sub with
      | some o => (b.writeObj a (View.request ⟨b.mem, b.dev, c.master⟩ o c.index c.sub c.row c.value)).1
      | none => b
    else if c.op = 2 || c.op = 4 || c.op = 0x18 then b.up (fun d => (d.execObj a c.index c.value 0 c.seq).1)
    else b
  b.up fun d =>
    let d := if d.odp.journal.head < c.seq then d.setJournal { d.odp.journal with head := c.seq - 1 } else d
    d.journal c.master c.role.code c.op .ok (setBit c.flags 3 true) c.index c.sub c.row c.value

/-- The commands whose boundary has come apply. -/
def Box.followDue (b : Box) (k : Nat) : Box :=
  let due := b.dev.pair.commands.filter (fun c => decide (c.boundary ≤ k))
  let b := b.up fun d => d.setPair { d.pair with commands := d.pair.commands.filter (fun c => decide (k < c.boundary)) }
  due.foldl (fun b c => b.follow c) b

/-- The journal entry as a COMMAND frame's content. -/
def Entry.command (e : Entry) (boundary : Nat) : Command :=
  ⟨e.master, (roleOf e.role).getD .observer, e.op, e.index, e.sub, e.row, e.value, e.flags, e.seq, boundary⟩

/-- Step 2 of RESYNC on the active (R317): every entry of its journal after the standby's head, where it still holds them all; else its
configuration store goes in STATE frames. DESIGN CHOICE (log 143). -/
def Dev.sendJournal (d : Dev) (head : Nat) : Dev :=
  let j := d.odp.journal
  if head + 1 < j.oldest then d
  else
    let rows := (j.ring ++ j.staged).filter (fun e => decide (head < e.seq))
    rows.foldl (fun d e => d.emit (.irmon 4 (e.command (d.indexAt d.time.tai + 1)).bytes)) d

/-- COMMAND_FRAME_RX (R308): a command is held until its boundary. In RESYNC the active's journal arrives the same way (R317).
DESIGN CHOICE (log 136). -/
def execCommandFrameRx (command : Command) (s : State) : Host.Outcome State Fault Refusal :=
  s.actBox fun b =>
    let d := b.dev
    if !d.booted || !d.watches || !d.irmonUp then b
    else
      let d := d.irmonHeard
      let b := { b with dev := d.setPair { d.pair with commands := d.pair.commands ++ [command], head := max d.pair.head command.seq } }
      b.followDue (d.indexAt d.time.tai)

/-- TOKEN_DEADLINE (R307): at b − 1 µs the standby applies the decisions for b, or sets TOKEN_MISS and applies none. A unit in RESYNC
applies tokens from the boundary that the active named. -/
def execTokenDeadline (s : State) : Host.Outcome State Fault Refusal :=
  s.actBox fun b =>
    let d := b.dev
    let k := grid48 (d.time.tai.addNs 1000)
    let inStep : Bool := d.roleMode = .marionette || (match d.pair.named with | some n => decide (n ≤ k) | none => false)
    if !d.booted || !d.watches || !d.follows || !inStep then b
    else
      let b := b.followDue (d.indexAt (d.time.tai.addNs 1000))
      let d := b.dev
      let x := d.pair
      let whole := x.boundary = k && decide (0 < x.want) && (List.range x.want).all (fun i => (x.frames.find? i).isSome)
      let d := if d.rd F.PAIR_STATUS_RESYNC_STEP = 5 then d.wr F.PAIR_STATUS_RESYNC_STEP 6 else d
      if !whole then
        { b with dev := ((d.tally (F.PAIR_COUNT_COUNT.at [1])).sticky F.PAIR_STICKY_TOKEN_MISS_SEEN noUnit).setPair
                    { d.pair with inFlags := 0, frames := [] } }
      else
        let recs := (List.range x.want).flatMap (fun i => x.frames.get [] i)
        let b := Box.followRecords recs.length { b with dev := d.setPair { d.pair with frames := [] } } recs
        b.up fun d =>
          if bitAt x.inFlags 4 && d.mode.mode = .marionette then d.arises .vigil 0x0F else d

/-! ### Digests (R309, R310, R312) -/

/-- The mode that both units can agree on: a standby takes the active's. DESIGN CHOICE (log 137). -/
def Dev.pairMode (d : Dev) : Nat := if d.standby then d.rd F.PAIR_PARTNER_MODE else modeCode d.mode.mode

/-- GCTL_CAPACITY as a word. -/
def Dev.capacityWord (d : Dev) : Nat :=
  ([F.GCTL_CAPACITY_MTX_SLICES, F.GCTL_CAPACITY_MTX_SPARE_FREE, F.GCTL_CAPACITY_STR_SLICES, F.GCTL_CAPACITY_STR_SPARE_FREE,
    F.GCTL_CAPACITY_NET_LANES, F.GCTL_CAPACITY_IRM_LANE, F.GCTL_CAPACITY_CORRELATORS, F.GCTL_CAPACITY_APT_PORTS,
    F.GCTL_CAPACITY_TS_UNITS].map (fun f => d.gctlCapacity f * 2 ^ f.lo)).sum

/-- The digest record of millisecond m. DESIGN CHOICE (log 137). -/
def Dev.digest (d : Dev) (m : Nat) : List Byte :=
  let lo := ceilDiv (m * d.fs) 1000
  let hi := ceilDiv ((m + 1) * d.fs) 1000
  let ports := List.range 16
  let audio := ports.flatMap (fun p =>
    (d.dig.audio.filter (fun a => a.1 = p && decide (lo ≤ a.2.1 ∧ a.2.1 < hi))).flatMap (fun a => a.2.2.flatMap (toBE 4 ·)))
  let streams := (List.range 256).flatMap (fun c =>
    (d.dig.packets.filter (fun q => q.1 = m && q.2.1 = c)).flatMap (·.2.2))
  let times := (List.range 4).flatMap (fun p =>
    (d.tim.series.filter (fun q => msOf q.1 = m && q.2.1 = p)).flatMap (·.2.2))
  let ctrl := toBE 8 d.odp.journal.head ++ toBE 1 d.pairMode ++ toBE 4 d.capacityWord ++
    (d.alm.posted.filter (fun q => q.1 = m)).flatMap (·.2)
  let flags := bit (d.pair.imperfect.contains m) + 2 * bit (d.pair.accused.contains m)
  let b := toBE 8 m ++ toBE 4 (crc32c audio) ++ toBE 4 (crc32c streams) ++ toBE 4 (crc32c times) ++ toBE 4 (crc32c ctrl) ++
    [byteOf flags, 0, 0, 0]
  b ++ toBE 4 (crc32c b)

/-- The CRC words in which two records differ (PAIR_MM_MASK). -/
def digestDiff (a b : List Byte) : Nat :=
  ((List.range 4).map (fun i => bit (slice a (8 + 4 * i) 4 != slice b (8 + 4 * i) 4) * 2 ^ i)).sum

/-- A mismatch in millisecond m is excused: either unit was IMPERFECT from m − EXCUSE_MS to m. DESIGN CHOICE (log 138). -/
def Dev.excused (d : Dev) (m : Nat) : Bool :=
  d.pair.imperfect.any (fun i => decide (i ≤ m ∧ m ≤ i + d.rd F.PAIR_CFG_EXCUSE_MS))

/-- The run of mismatches ends. -/
def Dev.endRun (d : Dev) : Dev := (d.wr F.PAIR_STATUS_MISMATCH_RUN 0).setPair { d.pair with runStart := none }

/-- A run of three (R312): an accusation in its window clears it; else a standby enters RESYNC, and one in RESYNC returns to step 4. -/
def Dev.decideRun (d : Dev) (m : Nat) : Dev :=
  let first := d.pair.runStart.getD m
  if d.pair.accused.any (fun a => decide (first ≤ a + 8)) then d.endRun
  else if d.mode.mode = .resync then
    (d.endRun.wr F.PAIR_STATUS_RESYNC_STEP 4).setPair { d.endRun.pair with named := none, good := 0 }
  else if d.mode.mode = .marionette && d.yields 3 then d.endRun.arises .resync 0x0E
  else d

/-- The comparison for millisecond m (R310): `mask` are the words that differ, 0 for a match. -/
def Dev.judgeDigest (d : Dev) (m mask : Nat) : Dev :=
  let settled : Bool := d.mode.mode ≠ .resync || (match d.pair.named with | some b => decide (b + 1920 ≤ 48 * m) | none => false)
  if !settled || !d.paired then d
  else if mask = 0 then
    let d := d.endRun
    let good := d.pair.good + 1
    let d := d.setPair { d.pair with good := good }
    if d.mode.mode = .resync && 16 ≤ good && d.yields 3 then
      ((d.sticky F.PAIR_STICKY_RESYNC_DONE_SEEN noUnit).irq F.PAIR_IRQ_STATUS_RESYNC_DONE).arises .marionette 0x14
    else d
  else if d.excused m then
    let d := (d.tally (F.PAIR_COUNT_COUNT.at [3])).wr F.PAIR_STATUS_EXCUSED 1
    d.endRun.setPair { d.endRun.pair with good := 0 }
  else
    let d := (d.tally (F.PAIR_COUNT_COUNT.at [2])).wr F.PAIR_STATUS_EXCUSED 0
    let d := ((d.wr F.PAIR_MM_MS_MS m).wr F.PAIR_MM_MASK_MASK mask).count F.PAIR_STATUS_MISMATCH_RUN
    let d := (d.sticky F.PAIR_STICKY_MISMATCH_SEEN noUnit).irq F.PAIR_IRQ_STATUS_MISMATCH
    let d := d.setPair { d.pair with good := 0, runStart := some (d.pair.runStart.getD m) }
    if 3 ≤ d.rd F.PAIR_STATUS_MISMATCH_RUN then d.decideRun m else d

/-- Compare millisecond m once both records are there, and keep no more than is needed. -/
def Dev.compareDigests (d : Dev) (m : Nat) : Dev :=
  match d.pair.own.find? m, d.pair.theirs.find? m with
  | some a, some b =>
    let d := d.judgeDigest m (digestDiff a b)
    d.setPair { d.pair with own := d.pair.own.filter (fun r => decide (m < r.1)), theirs := d.pair.theirs.filter (fun r => decide (m < r.1)) }
  | _, _ => d

/-- DIGEST_COMPUTE (R309): the record of the millisecond just ended, kept and sent. -/
def execDigestCompute (s : State) : Host.Outcome State Fault Refusal :=
  s.act fun d =>
    let m := msOf d.time.tai - 1
    if !d.booted || !d.paired || !d.audioRuns then d
    else
      let r := d.digest m
      let lo := ceilDiv ((m + 1) * d.fs) 1000
      let dig : DigestSt := { audio := d.dig.audio.filter (fun a => decide (lo ≤ a.2.1)),
                              packets := d.dig.packets.filter (fun q => decide (m < q.1)) }
      let series := d.tim.series.filter (fun q => decide (m < msOf q.1))
      let d := { d with dig := dig, tim := { d.tim with series := series } }
      let flawed := d.pair.imperfect.filter (fun i => decide (m ≤ i + 10000))
      let accused := d.pair.accused.filter (fun i => decide (m ≤ i + 1000))
      let d := d.setPair { d.pair with own := d.pair.own.put m r, imperfect := flawed, accused := accused }
      let d := if d.irmonUp then d.emit (.irmon 2 r) else d
      d.compareDigests m

/-- DIGEST_RX (R310). -/
def execDigestRx (record : List Byte) (s : State) : Host.Outcome State Fault Refusal :=
  s.act fun d =>
    if !d.booted || !d.paired || !d.irmonUp then d
    else
      let d := d.irmonHeard
      if record.length ≠ 32 || beAt record 28 4 ≠ crc32c (record.take 28) then d
      else
        let m := beAt record 0 8
        let flags := beAt record 24 1
        let x := d.pair
        let x := if bitAt flags 0 && !x.imperfect.contains m then { x with imperfect := x.imperfect ++ [m] } else x
        let x := if bitAt flags 1 && !x.accused.contains m then { x with accused := x.accused ++ [m] } else x
        (d.setPair { x with theirs := x.theirs.put m record }).compareDigests m

/-- DIGEST_MISSING (R310): the partner's record of a millisecond has not come by the end of the next: every word counts as different.
DESIGN CHOICE (log 138). -/
def execDigestMissing (ms : BitVec 64) (s : State) : Host.Outcome State Fault Refusal :=
  s.act fun d =>
    let m := ms.toNat
    if !d.booted || !d.paired || (d.pair.own.find? m).isNone || (d.pair.theirs.find? m).isSome || msOf d.time.tai < m + 2 then d
    else
      let d := d.judgeDigest m 15
      d.setPair { d.pair with own := d.pair.own.filter (fun r => decide (m < r.1)) }

/-! ### TIME frames (R304, R85) -/

/-- TIME_FRAME_TX (R304): the transmit timestamp, the partner's last with our receive timestamp, and what R85 and R124 use. -/
def execTimeFrameTx (s : State) : Host.Outcome State Fault Refusal :=
  s.act fun d =>
    if !d.booted || !d.paired || !d.irmonUp then d
    else
      let t := d.time.tai
      let echo := match d.pair.timeRx with | some r => r.2 | none => ⟨0, 0, 0⟩
      let stamp := fun (t : Tai) => toBE 6 t.sec ++ toBE 4 t.ns ++ toBE 2 t.sub
      let rank := d.rd F.REF_SEL_STATUS_TIME_RANK
      let d := d.emit (.irmon 3 ([3] ++ stamp t ++ stamp echo ++ [byteOf rank] ++ toBE 4 (d.rd F.TIM_BOUND_NOW_BOUND) ++
        [byteOf d.timeSource]))
      d.setPair { d.pair with timeTx := some t, timeTxOld := d.pair.timeTx }

/-- The rank that slot 14 takes from the partner's (R85), while the partner offers its reference. -/
def partnerRank (rank : Nat) : Nat := if rank = 255 then 255 else min 254 (rank + 1)

/-- The own frame that the partner's frame answers: both units send at the same millisecond, so the last one may still be under way: the
later of the last two for which the derived delay is not negative. DEDUCED (log 69). -/
def Dev.timeSent (d : Dev) (frame : TimeFrame) : Option Tai :=
  let round := fun (t : Tai) =>
    (frame.echoed.toSub : Int) - t.toSub + (frame.received.toSub - frame.sent.toSub)
  match d.pair.timeTx with
  | some t => if 0 ≤ round t then some t else d.pair.timeTxOld
  | none => none

/-- TIME_FRAME_RX (R304): the two-way offset and delay feed slot 14. Slot 14 is LOST in ESTRANGED. DESIGN CHOICE (log 69). -/
def execTimeFrameRx (frame : TimeFrame) (s : State) : Host.Outcome State Fault Refusal :=
  s.act fun d =>
    if !d.booted || !d.paired || !d.irmonUp then d
    else
      let d := d.irmonHeard
      let d := d.setPair { d.pair with timeRx := some (frame.sent, frame.received) }
      let d := { d with tim := { d.tim with partnerSource := frame.timeSource.toNat } }
      let d := d.setSlot 14 { d.slot 14 with advRank := partnerRank frame.rank.toNat }
      let d := d.wr (F.REF_SLOT_ADV_BOUND_RO_ADV_BOUND.at [9]) (boundSum [frame.bound.toNat, 32])
      match d.timeSent frame with
      | none => d
      | some t1 =>
        let ahead := (frame.echoed.toSub : Int) - t1.toSub
        let behind := (frame.received.toSub : Int) - frame.sent.toSub
        let offset := (ahead - behind) / 8192 - d.rdS F.PAIR_IRM_CAL_CAL
        let delay := (ahead + behind) / 8192
        let d := (d.wrS F.PAIR_IRM_OFFSET_OFFSET offset).wrS F.PAIR_IRM_DELAY_DELAY delay
        if d.mode.mode = .estranged then d
        else (d.setPhase 14 offset).wr (F.REF_SLOT_STATUS_ACTIVITY.at [14]) 1

end Sys2Proof.Machine
end

