-- ==== Sys2Proof/Machine/PairRole.lean ====
section
/-! DEFINITION. Machine/PairRole.lean: who holds the active role (R311 to R321): heartbeats and signs, take-over, handover, abdication, the
drill, RESYNC, and the PAIR block's apply point (R327). -/

namespace Sys2Proof.Machine

/-! ### Heartbeats (R314, R354) -/

/-- PairKey. -/
def Dev.pairKey (d : Dev) : List Byte := toBE 32 (d.obj 0x8004 0 0)

/-- HEARTBEAT_TX (R314): one on every NET port in service with LINK. DESIGN CHOICE (log 139). -/
def execHeartbeatTx (s : State) : Host.Outcome State Fault Refusal :=
  s.act fun d =>
    if !d.booted || !d.paired then d
    else
      let body := [byteOf (d.rd F.GCTL_BOOT_STATUS_PAIR_SIDE), byteOf (modeCode d.mode.mode)] ++ toBE 6 (grid48 d.time.tai) ++
        toBE 8 d.odp.journal.head ++ toBE 4 d.boot.version ++ toBE 4 0
      ((List.range 4).filter (fun p => d.inServicePort p && d.linkUp p)).foldl (fun d p =>
        let m := sealedDatagram 0x10 d.pairKey d.bootCount d.pair.hbSeq body
        (d.send p clsOdp (.datagram (portOf p) [] m)).setPair { d.pair with hbSeq := d.pair.hbSeq + 1 }) d

/-- HEARTBEAT_RX (R314, R320): authenticated under PairKey, its SEQ above every one seen from its sender. DESIGN CHOICE (log 139). -/
def execHeartbeatRx (port : Fin 4) (source datagram : List Byte) (s : State) : Host.Outcome State Fault Refusal :=
  s.act fun d =>
    match Dgram.parse datagram with
    | none => d
    | some g =>
      if !d.paired || !d.inServicePort port || g.kind ≠ 0x10 then d
      else
        let key := 2 ^ 128 + ofBE (slice source 0 16)
        let old : Bool := match d.odp.peerSeq.find? key with | some n => decide (g.seq ≤ n) | none => false
        if hmac16 d.pairKey g.signed ≠ g.tag || old || g.body.length ≠ 24 then d.odpCount 3
        else
          let d := d.setOdp { d.odp with peerSeq := d.odp.peerSeq.put key g.seq }
          let d := (d.tally (F.PAIR_COUNT_COUNT.at [8])).islandHeard
          let d := (d.wr F.PAIR_STATUS_HB_HEARD 1).wr F.PAIR_STATUS_SIGN_HB 0
          let d := d.wr F.PAIR_PARTNER_VER_VER (beAt g.body 16 4)
          let d := if d.roleMode = .active && d.irmonUp && beAt g.body 1 1 = modeCode .resync && d.rd F.PAIR_PARTNER_MODE ≠ modeCode .resync then
              d.sendJournal (beAt g.body 8 8) else d
          let d := (d.wr F.PAIR_PARTNER_MODE (beAt g.body 1 1)).setPair { d.pair with head := beAt g.body 8 8 }
          if d.mode.mode = .active && beAt g.body 1 1 % 16 = 4 then d.dualActive else d

/-! ### Signs (R314, R315) -/

/-- The signs present. -/
def Dev.signs (d : Dev) : Nat :=
  d.rd F.PAIR_STATUS_SIGN_CLAIM + d.rd F.PAIR_STATUS_SIGN_IRMON + d.rd F.PAIR_STATUS_SIGN_HB

/-- CLAIM_SIGN (R314): ROLE_CLAIM_N has read high for 50 µs. -/
def execClaimSign (s : State) : Host.Outcome State Fault Refusal :=
  s.act fun d =>
    if !d.booted || !d.watches then d
    else
      let d := d.claimReads false
      (d.wr F.PAIR_STATUS_SIGN_CLAIM 1).irq F.PAIR_IRQ_STATUS_SIGN

/-- IRMON_SIGN (R314, R315): slot 14 is LOST; alone, the sign takes a unit from MARIONETTE to ESTRANGED and halts RESYNC. -/
def execIrmonSign (s : State) : Host.Outcome State Fault Refusal :=
  s.act fun d =>
    if !d.booted || !d.paired then d
    else
      let d := (d.wr F.PAIR_STATUS_IRMON_UP 0).sticky F.PAIR_STICKY_IRMON_LOSS_SEEN noUnit
      let d := (d.setSlot 14 { d.slot 14 with advRank := 255 }).loseSlot 14
      if !d.watches then d
      else
        let d := (d.wr F.PAIR_STATUS_SIGN_IRMON 1).irq F.PAIR_IRQ_STATUS_SIGN
        if d.signs ≠ 1 then d
        else if d.mode.mode = .marionette then d.arises .estranged 0x0D
        else if d.mode.mode = .resync then d.setPair { d.pair with halted := true }
        else d

/-- HEARTBEAT_SIGN (R314): only while one of this unit's NET ports has LINK. -/
def execHeartbeatSign (s : State) : Host.Outcome State Fault Refusal :=
  s.act fun d =>
    if !d.booted || !d.paired then d
    else
      let d := (d.wr F.PAIR_STATUS_HB_HEARD 0).sticky F.PAIR_STICKY_HB_LOSS_SEEN noUnit
      let d := d.wr F.PAIR_PARTNER_MODE 0xF
      if d.watches && (List.range 4).any d.linkUp then (d.wr F.PAIR_STATUS_SIGN_HB 1).irq F.PAIR_IRQ_STATUS_SIGN else d

/-- IRMON_LINK_UP (R41, R317): an ESTRANGED unit enters RESYNC; a halted RESYNC goes on. DESIGN CHOICE (log 28). -/
def execIrmonLinkUp (s : State) : Host.Outcome State Fault Refusal :=
  s.act fun d =>
    if !d.booted || !d.paired || !d.irmonUp then d
    else
      let d := d.irmonHeard
      let d := d.setPair { d.pair with halted := false }
      if d.mode.mode = .estranged then d.arises .resync 0x0D else d

/-! ### The role changes (R41, R313, R316) -/

/-- The unit takes or leaves the active role: its mode changes, or, in LANTERN and VIGIL, its mode of entry (R41). DESIGN CHOICE (log 30). -/
def Dev.changeRole (d : Dev) (active : Bool) (cause : Nat) : Dev :=
  let target : Mode := if active then .active else .marionette
  if d.mode.mode = .lantern || d.mode.mode = .vigil then
    let d := { d with mode := { d.mode with origin := target, decided := none } }
    let d := d.wr F.PAIR_STATUS_ROLE (if active then 1 else 2)
    let d := d.setPair { d.pair with claiming := active || d.pair.claiming, frames := [] }
    let d := if active then d.clearSigns else d
    let d := if active || d.pair.drill ≠ 0 then d else d.lapseSessions
    d.ptpServe
  else d.changeMode target cause 0 true

/-- Every command still held applies: the unit decides for itself from now on. -/
def Box.followAll (b : Box) : Box := (b.dev.pair.commands.foldl (fun b c => b.follow c)
  (b.up fun d => d.setPair { d.pair with commands := [] }))

/-- TAKE_OVER (R316): at the first boundary after two signs. The selectors leave slot 14, which is LOST. -/
def execTakeOver (s : State) : Host.Outcome State Fault Refusal :=
  s.actBox fun b =>
    let d := b.dev
    if !d.booted || !d.watches || d.signs < 2 || d.bound then b
    else
      let b := b.followAll
      b.up fun d =>
        let d := (d.setSlot 14 { d.slot 14 with advRank := 255 }).loseSlot 14
        let d := d.wr F.PAIR_PARTNER_MODE 0xF
        let d := (d.changeMode .active 0x0C).tally (F.PAIR_COUNT_COUNT.at [4])
        ((d.sticky F.PAIR_STICKY_TAKEOVER_SEEN noUnit).irq F.PAIR_IRQ_STATUS_TAKEOVER).announceService

/-- A handover takes effect on this unit. DESIGN CHOICE (log 30). -/
def Dev.handed (d : Dev) : Dev :=
  ((d.tally (F.PAIR_COUNT_COUNT.at [5])).sticky F.PAIR_STICKY_HANDOVER_SEEN noUnit).irq F.PAIR_IRQ_STATUS_HANDOVER

/-- The flags that change roles: HANDOVER, ABDICATE, DRILL, DRILL_RETURN. -/
def roleFlags (f : Nat) : Nat := f % 16

/-- The active gives its role away at the boundary of a token that carried one of the flags. -/
def Dev.giveRole (d : Dev) (flags : Nat) : Dev :=
  let drill := if bitAt flags 2 then 2 else if bitAt flags 3 then 0 else d.pair.drill
  let d := d.setPair { d.pair with sent := 0, abdicates := bitAt flags 1, drill := if bitAt flags 3 then 4 else drill }
  let d := (d.changeRole false (if bitAt flags 1 then 0x07 else 0x14)).handed
  let d := d.wr F.PAIR_PARTNER_MODE 4
  d.setPair { d.pair with drill := drill }

/-- The standby takes the role; in a drill it returns it with its next token. -/
def Dev.takeRole (d : Dev) (flags : Nat) : Dev :=
  let back := bitAt flags 3
  let d := if bitAt flags 2 then d.drillTaken else d
  let d := d.setPair { d.pair with inFlags := 0, drill := if bitAt flags 2 || back then 4 else d.pair.drill }
  let d := (d.changeRole true (if bitAt flags 1 then 0x07 else 0x14)).handed
  let d := d.wr F.PAIR_PARTNER_MODE 5
  let d := d.setPair { d.pair with drill := 0, flags := if bitAt flags 2 then setBit d.pair.flags 3 true else d.pair.flags }
  if bitAt flags 2 || back then d else d.announceService

/-- PLANNED_HANDOVER (R41, R313, R321): at the boundary b of a token with HANDOVER, ABDICATE, DRILL or DRILL_RETURN. -/
def execPlannedHandover (claimLow : Bool) (s : State) : Host.Outcome State Fault Refusal :=
  s.actBox fun b =>
    let d := b.dev
    if !d.booted || !d.paired || d.bound then b
    else if d.roleMode = .active then
      (if roleFlags d.pair.sent = 0 then b else b.up (·.giveRole d.pair.sent))
    else if d.roleMode = .marionette && roleFlags d.pair.inFlags ≠ 0 then
      let flags := d.pair.inFlags
      b.followAll.up fun d => (d.claimReads claimLow).takeRole flags
    else b

/-- ROLE_CLAIM_RELEASE (R41, R313): 10 µs after the boundary; a unit that abdicated enters SAFE_HOLD, one that left for MAINTENANCE
goes there. -/
def execRoleClaimRelease (s : State) : Host.Outcome State Fault Refusal :=
  s.act fun d =>
    if !d.booted || !d.pair.claiming || d.roleMode = .active || (d.mode.decided.isSome && d.roleMode ≠ .marionette) then d
    else
      let x := d.pair
      let d := d.setPair { x with claiming := false, abdicates := false, thenMaintenance := none }
      let d := d.claimReads true
      if x.abdicates then d.safeHoldCause 0x07
      else match x.thenMaintenance with
        | some m => d.arises .maintenance 0x02 m
        | none => d

/-- PASSED_ACTIVE_REQUEST (R41): the partner in MARIONETTE passes a request for ACTIVE: the next token carries HANDOVER. DESIGN CHOICE (log 140). -/
def execPassedActiveRequest (s : State) : Host.Outcome State Fault Refusal :=
  s.act fun d =>
    if d.booted && d.irmonUp && d.mode.mode = .active && d.partnerMarionette && d.yields 3 then d.handOver 0 0x14 0 false
    else d

/-- SELF_ACCUSATION (R311, R313): an active with its partner in MARIONETTE abdicates; any other unit enters SAFE_HOLD. DESIGN CHOICE (log 31). -/
def execSelfAccusation (s : State) : Host.Outcome State Fault Refusal :=
  s.act fun d =>
    if !d.alive then d
    else
      let d := d.sticky F.PAIR_STICKY_ACCUSE_SEEN noUnit
      let d := d.setPair { d.pair with accused := d.pair.accused ++ [msOf d.time.tai] }
      if d.booted && d.roleMode = .active && d.partnerMarionette && d.irmonUp && d.yields 3 then d.handOver 1 0x07 0 false
      else d.safeHoldCause 0x07

/-- MARIONETTE_DRILL (R321): PairDrill or PAIR_CMD DRILL. DESIGN CHOICE (log 35). -/
def execMarionetteDrill (s : State) : Host.Outcome State Fault Refusal :=
  s.act fun d => if d.booted then d.pairDrill.1 else d

/-! ### RESYNC (R317, R318) -/

/-- RESYNC_CHECK (R317, step 1): a difference blocks RESYNC. DESIGN CHOICE (log 141). -/
def execResyncCheck (partner : PairFacts) (s : State) : Host.Outcome State Fault Refusal :=
  s.act fun d =>
    if !d.booted || d.mode.mode ≠ .resync || d.pair.halted || d.rd F.PAIR_STATUS_RESYNC_STEP ≠ 1 then d
    else
      let same := partner.version.toNat = d.boot.version && partner.rate96 == d.is96 && partner.library.toNat = d.boot.library &&
        partner.recorder.toNat = d.boot.recorder && partner.fitted.toNat = d.boot.fitted
      if same then (d.wr F.PAIR_STATUS_RESYNC_BLOCKED 0).wr F.PAIR_STATUS_RESYNC_STEP 2
      else d.wr F.PAIR_STATUS_RESYNC_BLOCKED 1

/-- RESYNC_TIMEOUT (R318): RESYNC restarts from step 2, and the restart is counted. DESIGN CHOICE (log 141). -/
def execResyncTimeout (s : State) : Host.Outcome State Fault Refusal :=
  s.act fun d =>
    if !d.booted || d.mode.mode ≠ .resync || !d.past d.pair.resyncFrom (1000 * d.rd F.PAIR_RESYNC_LIMIT_LIMIT) then d
    else
      let d := d.setPair { d.pair with resyncFrom := d.time.cycles, named := none, good := 0 }
      (d.wr F.PAIR_STATUS_RESYNC_STEP (min 2 (d.rd F.PAIR_STATUS_RESYNC_STEP))).tally (F.PAIR_COUNT_COUNT.at [6])

/-- A step of RESYNC ends. DESIGN CHOICE (log 28). -/
def Dev.resyncStep (d : Dev) (from_ next : Nat) : Dev :=
  if d.rd F.PAIR_STATUS_RESYNC_STEP = from_ then d.wr F.PAIR_STATUS_RESYNC_STEP next else d

/-- The store takes one value that the active sent in place of a journal too old (R317, step 2). -/
def Dev.storeValue (d : Dev) (key value : Nat) : Dev :=
  let object := if key % 2 = 0 then ((fieldOf (key / 2)).bind fieldObject).getD 0 else objIndex (key / 2)
  let st := d.odp.store.getD ⟨true, 1, d.time.tai, []⟩
  let old := (st.records.find? (fun r => r.object = object)).getD ⟨object, false, []⟩
  let records := st.records.filter (fun r => r.object ≠ object) ++ [{ old with bad := false, vals := old.vals.put key value }]
  let d := d.setOdp { d.odp with store := some { st with records := records } }
  if key % 2 = 0 then d.restoreField (key / 2, value) else d.restoreObject (key / 2) value

/-- One piece of state that the active sent (R317). DESIGN CHOICE (log 143). -/
def Dev.takeState (d : Dev) (item : StateItem) : Dev :=
  match item with
  | .journalDone => d.resyncStep 2 3
  | .storeRecord key value => d.storeValue key value
  | .libraryRow row entry audio =>
    let m : Message := { entry := entry, dram := some audio, nand := if d.noNand then none else some audio }
    ((d.setMsg row m).libRoom).startAwaited row
  | .libraryDone => d.resyncStep 3 4
  | .crosspoint row from43 to43 steps done release => d.setXp row ⟨from43, to43, steps, done, release, none⟩
  | .zoneDelay zone delay => d.setZone zone { d.zone zone with delay := delay.toNat }
  | .zoneClaim zone level ended => d.setZone zone { d.zone zone with ended := (d.zone zone).ended.put level ended }
  | .delayLine zone position value =>
    d.setZone zone { d.zone zone with line := (d.zone zone).line.put position (some value.toInt) }
  | .contextSlot ctx copyB slot position values =>
    let x := d.ctx ctx
    let entry := (position, values.map (·.toInt))
    d.setCtx ctx (if copyB then { x with ringB := x.ringB.put slot entry } else { x with ringA := x.ringA.put slot entry })
  | .contextNext ctx index => d.setCtx ctx { d.ctx ctx with nextK := index }
  | .almanac row bytes state occurrence number guard instant =>
    let b := slice bytes 0 128
    if state = 0 then d.dropAlm row
    else d.setAlm row { bytes := b, state := state, author := leAt b 44 4, role := leAt b 48 1, originRank := leAt b 50 2, originRow := row,
                        guard := guard, occ := occurrence, n := number, inst := if state = 6 then none else some instant }
  | .correlator n path lagBase want =>
    d.setSup { d.sup with corrs := d.sup.corrs.put n { path := path, began := d.time.cycles, lagBase := lagBase, want := want } }
  | .correlatorSample n position value =>
    match d.sup.corrs.find? n with
    | some x => d.setSup { d.sup with corrs := d.sup.corrs.put n { x with xs := x.xs.put position (some value.toInt) } }
    | none => d
  | .portNumber port frame rxShift txShift =>
    let d := d.setApo port { d.apo port with frame := some frame, rxNext := some frame }
    (d.wr (F.APT_SHIFT_RX_SHIFT.at [port]) (unsgn 16 rxShift)).wr (F.APT_SHIFT_TX_SHIFT.at [port]) (unsgn 16 txShift)
  | .portRing port transmit position epoch words =>
    let x := d.apo port
    let e : RingEntry := ⟨epoch, false, words.map (·.toNat)⟩
    d.setApo port (if transmit then { x with tx := { x.tx with ring := x.tx.ring.put position e } }
      else { x with rx := { x.rx with ring := x.rx.ring.put position e } })
  | .recorder position values w oldest =>
    d.setLib { d.lib with recd := { d.lib.recd with ring := d.lib.recd.ring.put position (values.map (fun v => v.toInt * 256)), w := w, oldest := oldest } }
  | .client set way entry =>
    let table := match Client.ofBytes entry with
      | some c => d.tim.clients.put (set * 4 + way) c
      | none => d.tim.clients.del (set * 4 + way)
    { d with tim := { d.tim with clients := table } }
  | .ptpSeries port announce sync => d.setPtp port { d.ptp port with annSeq := announce, syncSeq := sync }
  | .boundary b =>
    if d.rd F.PAIR_STATUS_RESYNC_STEP = 4 && d.tpath = 2 && d.timeNow = some 14 then
      (d.wr F.PAIR_STATUS_RESYNC_STEP 5).setPair { d.pair with named := some b, good := 0 }
    else d

/-- STATE_FRAME_RX (R317): only in RESYNC, and not while an IRMON sign halts it. DESIGN CHOICE (log 143). -/
def execStateFrameRx (item : StateItem) (s : State) : Host.Outcome State Fault Refusal :=
  s.act fun d =>
    if d.booted && d.mode.mode = .resync && !d.pair.halted && d.irmonUp && 2 ≤ d.rd F.PAIR_STATUS_RESYNC_STEP then d.irmonHeard.takeState item
    else d

/-! ### The block's apply point (R327) -/

/-- The PAIR block reaches its apply point: EN and RANK are applied only in COMMISSION and MAINTENANCE. DESIGN CHOICE (log 142). -/
def Dev.applyPair (d : Dev) (group : Nat) (vals : Tbl Nat) : Dev × Status :=
  let bad := fun (f : Fld) (v : Nat) => (f.off = 0 && f.lo = 0 && decide (10000 < v)) || (f.off = 0x10 && decide (v < 10 ∨ 3600 < v))
  let isBad := vals.any (fun r => match fieldOf r.1 with | some f => bad f r.2 | none => false)
  let vals := dropVals vals (fun f => f.off = 0 && f.lo = 0 && isBad && bad f (d.proposed vals f) || f.off = 0x10 && bad f (d.proposed vals f))
  let guarded := fun (f : Fld) => (f.off = 0 && f.lo = 31) || f.off = 0x200
  let fits := d.mode.mode = .commission || d.mode.mode = .maintenance
  let touched := vals.any (fun r => match fieldOf r.1 with | some f => guarded f && r.2 ≠ d.rd f | none => false)
  let vals := if fits then vals else dropVals vals guarded
  let d := (d.applyVals (fun _ => false) group vals).1
  let d := if d.rank = 0 && ofBE d.cas.master ≠ ofBE Config.eui64 then
      { d with cas := { d.cas with master := Config.eui64 } }.wr F.PAIR_CAS_STATUS_DEPTH 0 else d
  (d, if isBad then .range else if touched && !fits then .mode else .ok)

end Sys2Proof.Machine
end

