-- ==== Sys2Proof/Machine/Audio.lean ====
section
/-! DEFINITION. Machine/Audio.lean: the audio frame boundary (R17 to R19, R194, R218, R244), the budget scheduler's tick (R334) and
the end of an MDIO frame (R165). -/

namespace Sys2Proof.Machine

/-- A rewind's boundary has decided it (R266, R269): its answer goes where the request came from. -/
def Dev.rewindAnswer (d : Dev) (p : Play) (st : Status) (voice : Nat) : Dev :=
  let d := if p.origin = 2 then (d.libResult st (some voice)).wr F.LIB_CMD_RESULT_BUSY 0 else d
  match p.reply with
  | some r => d.answer r.1 r.2.1 3 st 0 r.2.2 (if st = .ok then [byteOf voice] else [])
  | none => d

/-- Where no audio is computed, a rewind whose boundary comes is refused with MODE. DESIGN CHOICE (log 204). -/
def Dev.rewindsRefused (d : Dev) : Dev :=
  d.lib.plays.foldl (fun d p => if p.mark.isSome then d.rewindAnswer p .mode 255 else d) (d.setLib { d.lib with plays := [] })

/-- What starts and stops at boundary k: contexts, ports, plays and the recorder. DESIGN CHOICE (log 81). -/
def Dev.frameStarts (d : Dev) (k : Nat) : Dev :=
  let r := ((d.strBoundary k).aptBoundary k).libStarts k
  (r.2.foldl (fun d x => d.rewindAnswer x.1 x.2.1 x.2.2) r.1).recBoundary k

/-- The gather stage of frame k (R19): contexts, ports, voices and tones present their positions. Answers the matrix inputs, and what
the voices contribute to zones. DESIGN CHOICE (log 99, 100). -/
def Dev.gather (d : Dev) (k : Nat) : Dev × Tbl (Int × Bool) × List Part :=
  let a := d.strGather k
  let b := a.1.aptGather k
  let v := b.1.voicesStep k
  let t := v.1.tonesStep k
  let ins := (a.2 ++ b.2 ++ v.2.1 ++ t.2).foldl (fun (m : Tbl (Int × Bool)) x => m.put x.1 x.2) []
  (t.1, ins, v.2.2)

/-- A position presented with a gain below 1 or missing marks the millisecond IMPERFECT (R309). DESIGN CHOICE (log 105). -/
def Dev.markImperfect (d : Dev) : Dev :=
  let m := msOf d.time.tai
  if d.paired && !d.pair.imperfect.contains m then d.setPair { d.pair with imperfect := d.pair.imperfect ++ [m] } else d

/-- The mix of what frame k gathered (R244), with the recorder and the correlators that take the same positions. Answers the zone
outputs after the pilot. DESIGN CHOICE (log 100). -/
def Dev.mix (d : Dev) (k : Nat) : Dev × Frame :=
  let g := d.gather k
  let d := if g.2.1.any (fun x => !x.2.2) then g.1.markImperfect else g.1
  let claims := d.rowClaims
  let rows := d.rowsStep g.2.1
  let parts := rows.2 ++ g.2.2
  let z := rows.1.zonesStep k parts (claims ++ g.2.2.map (fun p => (p.zone, p.level)))
  let d := (z.1.recStep k g.2.1 z.2.1).feedCorrs k g.2.1 z.2.2
  (d, z.2.2)

/-- The gain with which outputs leave service for COMMISSION and MAINTENANCE (R55: 256 samples) and for SAFE_HOLD (R59: 32), and
enter it (256 samples). DESIGN CHOICE (log 26). -/
def Dev.fadeStep (d : Dev) : Dev :=
  let g := d.mtx.outGain
  let leaving : Bool := match d.mode.decided with
    | some x => d.serving && (x.target == .commission || x.target == .maintenance)
    | none => false
  let g := if d.mode.mode = .safeHold then g - 8 else if leaving then g - 1 else min 256 (g + 1)
  { d with mtx := { d.mtx with outGain := g } }

/-- The distribute stage (R19, R194): what was gathered two frames before leaves with index k. DESIGN CHOICE (log 26). -/
def Dev.distribute (d : Dev) (k : Nat) : Dev :=
  let out : Frame := d.mtx.pipe2.map (fun r => (r.1, scale256 d.mtx.outGain r.2))
  (d.strTake k out).aptTake k out

/-- Frame k on the sample exchange: starts, gather and mix, distribute. -/
def Dev.audioFrame (d : Dev) (k : Nat) : Dev :=
  let m := (d.frameStarts k).mix k
  let d := (m.1.fadeStep).distribute k
  let d := { d with mtx := { d.mtx with pipe1 := m.2, pipe2 := d.mtx.pipe1, last := some k } }
  if d.mode.mode = .safeHold && d.mtx.outGain = 0 then d.audioStop else d

/-- AUDIO_FRAME_BOUNDARY (R17, R19): boundary k is the one nearest to the TAI counter; an islanded device decides for LANTERN
(R56), and audio actions of the Almanac that wait take effect (R18). -/
def execAudioFrameBoundary (s : State) : Host.Outcome State Fault Refusal :=
  s.actBox fun b =>
    if !b.dev.booted then b
    else
      let b := (b.up Dev.lanternCheck).almAudioLaunch
      if b.dev.audioRuns then b.up (fun d => d.audioFrame (d.indexNear d.time.tai)) else b.up Dev.rewindsRefused

/-- BUDGET_TICK (R334). -/
def execBudgetTick (power tj : BitVec 16) (railsOk : Bool) (s : State) : Host.Outcome State Fault Refusal :=
  s.act fun d => if d.alive && decide (1 ≤ d.rd F.GCTL_BOOT_STATUS_BOOT_STEP) then d.budgetTick power.toNat tj.toNat railsOk else d

/-- MDIO_COMPLETE (R165): GO falls, a read's data stands in the data register, and the EXEC that waits is answered. DESIGN CHOICE (log 95). -/
def execMdioComplete (data : BitVec 16) (s : State) : Host.Outcome State Fault Refusal :=
  s.act fun d =>
    if !d.alive || !d.on F.MGT_MDIO_CMD_GO then d
    else
      let d := d.wr F.MGT_MDIO_CMD_GO 0
      let d := if d.net.mdioRead then d.wr F.MGT_MDIO_DATA_DATA data.toNat else d
      match d.net.mdioReply with
      | some r =>
        let d := { d with net := { d.net with mdioReply := none } }
        d.answer r.1 r.2.1 3 .ok 0 r.2.2 (toBE 2 (d.rd F.MGT_MDIO_DATA_DATA))
      | none => d

end Sys2Proof.Machine
end

