-- ==== Sys2Proof/Machine/HostPort.lean ====
section
/-! DEFINITION. Machine/HostPort.lean: frames of the host port (R381 to R386), the register accesses they carry (R387 to R396, R400 to
R404), the blocks' apply points (R350, R396 to R398) and the TAP (R425). -/

namespace Sys2Proof.Machine

/-! ### One word -/

/-- The port is there and takes a new frame (R43, R44, R403): a push that waits holds HOST_RDY low. -/
def Dev.hostPort (d : Dev) : Bool := d.alive && d.pins.hostRole && !d.pins.testEn && d.host.stalled.isEmpty

/-- The outcome of a word (R386), with what it counts (GCTL_HOST_ERR) and charges against ACCESS_LIMIT (R395). -/
def Dev.hostOutcome (d : Dev) (o : Nat) : Dev :=
  let d := { d with host := { d.host with outcome := o } }
  match o with
  | 1 => d.count F.GCTL_HOST_ERR_IGNORED
  | 3 => (d.count F.GCTL_HOST_ERR_DENIED).denied 1
  | 4 => d.count F.GCTL_HOST_ERR_ABANDONED
  | 6 => (d.count F.GCTL_HOST_ERR_BAD_OPCODE).denied 1
  | _ => d

/-- The register that an address reaches, alias or not: its block and folded offset. -/
def reaches (addr : Nat) : Nat × Nat :=
  if bitAt addr 23 then ((aliasOf (addr % 0x80000)).1, (aliasOf (addr % 0x80000)).2.1) else decodeAddr addr

/-- BOOTSTRAP before step 10: the port answers GCTL_ID, GCTL_MODE and GCTL_BOOT_STATUS alone (R45). DESIGN CHOICE (log 170). -/
def Dev.hostEarly (d : Dev) : Bool := d.mode.mode = .bootstrap && decide (d.rd F.GCTL_BOOT_STATUS_BOOT_STEP < 10)

/-- The registers that the port reads before step 10. DESIGN CHOICE (log 170). -/
def earlyReg (r : Nat × Nat) : Bool := r.1 = 0 && (r.2 = 0 || r.2 = 8 || r.2 = 0x14)

/-- The registers that SAFE_HOLD lets the port write (R39): GCTL_MODE_REQ, SNAP_CMD, LKF_LOCK, QUE and DMB. -/
def holdReg (r : Nat × Nat) : Bool := (r.1 = 0 && (r.2 = 0xC || r.2 = 0x1100 || r.2 = 0x2000)) || r.1 = 13 || r.1 = 15

/-- The registers that bit 10 of LKF_LOCK leaves open (R394): LKF_LOCK, QUE_0PORT and DMB_REQ. DESIGN CHOICE (log 169). -/
def openReg (r : Nat × Nat) : Bool := r = (0, 0x2000) || r = (13, 0x110) || (r.1 = 15 && 0x40 ≤ r.2 && r.2 < 0x200)

/-- The port reads a word. -/
def Box.hostRead (b : Box) (addr : Nat) : Box × Word :=
  let d := b.dev
  let r := reaches addr
  if d.isFrozen 1 && r ≠ (0, 0x2004) then (b.up (·.hostOutcome 5), 0)
  else if d.hostEarly && !earlyReg r then (b.up (·.hostOutcome 0), 0)
  else
    let x := d.readWord b.mem true addr
    (b.up (fun _ => x.2.hostOutcome 0), BitVec.ofNat 32 x.1)

/-- The port writes a word. DESIGN CHOICE (log 169). -/
def Box.hostWrite (b : Box) (addr data : Nat) : Box :=
  let d := b.dev
  let r := reaches addr
  if d.isFrozen 1 then b.up (·.hostOutcome 5)
  else if d.hostEarly || (d.mode.mode = .safeHold && !holdReg r) then b.up (·.hostOutcome 1)
  else if bitAt (d.rd F.LKF_LOCK_LOCK) 10 && !openReg r then b.up (fun d => d.lockDenied.hostOutcome 2)
  else
    let x := b.writeWord { asker := hostAsker, raw := false } addr data
    let o := match x.2 with | .ok => 0 | .ignored => 1 | .locked => 2 | .denied => 3
    x.1.up (·.hostOutcome o)

/-- The next address of a burst (R384): a queue port's does not advance. -/
def nextAddr (addr : Nat) : Nat :=
  if !bitAt addr 23 && (portQueue (decodeAddr addr).1 (decodeAddr addr).2).isSome then addr else (addr + 4) % 2 ^ 24

/-- A burst of `n` reads. -/
def Box.readBurst (b : Box) (addr : Nat) : Nat → Box × List Word
  | 0 => (b, [])
  | n + 1 =>
    let x := b.hostRead addr
    let y := x.1.readBurst (nextAddr addr) n
    (y.1, x.2 :: y.2)

/-- A burst of writes. DESIGN CHOICE (log 171). -/
def Box.writeBurst (b : Box) (addr : Nat) : List Word → Box
  | [] => b
  | w :: ws => (b.hostWrite addr w.toNat).writeBurst (nextAddr addr) ws

/-! ### Frames -/

/-- A frame that reads words, which the device drives. -/
def State.hostReads (s : State) (addr n : Nat) : Host.Outcome State Fault Refusal :=
  s.actBox fun b =>
    if !b.dev.hostPort then b
    else
      let x := b.readBurst addr n
      x.1.up (·.emit (.hostWords x.2))

/-- A frame that writes words. -/
def State.hostWrites (s : State) (addr : Nat) (ws : List Word) : Host.Outcome State Fault Refusal :=
  s.actBox fun b => if b.dev.hostPort then b.writeBurst addr ws else b

/-- READ_WORD (R381). -/
def execReadWord (address : BitVec 24) (s : State) : Host.Outcome State Fault Refusal := s.hostReads address.toNat 1

/-- READ_BURST (R381, R384). -/
def execReadBurst (address : BitVec 24) (words : BitVec 16) (s : State) : Host.Outcome State Fault Refusal :=
  s.hostReads address.toNat words.toNat

/-- WRITE_WORD (R381). -/
def execWriteWord (address : BitVec 24) (data : Word) (s : State) : Host.Outcome State Fault Refusal :=
  s.hostWrites address.toNat [data]

/-- WRITE_BURST (R381, R384). -/
def execWriteBurst (address : BitVec 24) (data : List Word) (s : State) : Host.Outcome State Fault Refusal :=
  s.hostWrites address.toNat data

/-- Word 0 of the port status frame (R386). -/
def Dev.portStatus (d : Dev) : Word :=
  BitVec.ofNat 32 (bit (d.isFrozen 1) * 2 ^ 31 + bit d.hostIrq * 2 ^ 30 + d.rd F.DMB_STATUS_BUSY * 2 ^ 29 +
    d.rd F.SNAP_STATUS_VIEW * 2 ^ 28 + modeCode d.mode.mode * 2 ^ 24 + d.host.outcome % 256)

/-- READ_PORT_STATUS (R386): the outcome field keeps the last frame's. -/
def execReadPortStatus (s : State) : Host.Outcome State Fault Refusal :=
  s.actBox fun b =>
    if !b.dev.hostPort then b
    else b.up (fun d => d.emit (.hostWords [d.portStatus, BitVec.ofNat 32 (d.fieldNow b.mem F.QUE_NONEMPTY_MAP)]))

/-- BAD_OPCODE (R381). DESIGN CHOICE (log 172). -/
def execBadOpcode (s : State) : Host.Outcome State Fault Refusal :=
  s.act fun d => if d.hostPort then d.hostOutcome 6 else d

/-- ABANDONED (R385, R403): the access awaited has no effect; a push that waits for room is discarded with what was written of its item.
DESIGN CHOICE (log 171). -/
def execAbandoned (s : State) : Host.Outcome State Fault Refusal :=
  s.act fun d =>
    if !d.alive || !d.pins.hostRole || d.pins.testEn then d
    else
      let d := if d.host.stalled.isEmpty then d
        else
          let d := (d.setQue 0 { d.que 0 with part := [] }).count (F.QUE_ABANDON_COUNT.at [0])
          { d with host := { d.host with stalled := [] } }
      d.hostOutcome 4

/-! ### Accesses that have rows of their own -/

/-- REGISTER_WRITE (R8). -/
def execRegisterWrite (address : BitVec 24) (data : Word) (s : State) : Host.Outcome State Fault Refusal :=
  s.hostWrites address.toNat [data]

/-- ROC_READ (R391). -/
def execRocRead (address : BitVec 24) (s : State) : Host.Outcome State Fault Refusal := s.hostReads address.toNat 1

/-- LATCHING_READ (R392). -/
def execLatchingRead (address : BitVec 24) (s : State) : Host.Outcome State Fault Refusal := s.hostReads address.toNat 1

/-- BIT_ALIAS_READ (R390): the address within the bit-alias region. -/
def execBitAliasRead (address : BitVec 23) (s : State) : Host.Outcome State Fault Refusal := s.hostReads (0x800000 + address.toNat) 1

/-- BIT_ALIAS_WRITE (R390). -/
def execBitAliasWrite (address : BitVec 23) (value : Bool) (s : State) : Host.Outcome State Fault Refusal :=
  s.hostWrites (0x800000 + address.toNat) [if value then 1 else 0]

/-- UPD_STROBE (R396). -/
def execUpdStrobe (groups : BitVec 16) (s : State) : Host.Outcome State Fault Refusal := s.hostWrites 0x1000 [groups.setWidth 32]

/-- TAKE (R400). -/
def execTake (clear : Bool) (s : State) : Host.Outcome State Fault Refusal := s.hostWrites 0x1100 [if clear then 3 else 1]

/-- VIEW_ON (R400). -/
def execViewOn (s : State) : Host.Outcome State Fault Refusal := s.hostWrites 0x1100 [0x10]

/-- VIEW_OFF (R400). -/
def execViewOff (s : State) : Host.Outcome State Fault Refusal := s.hostWrites 0x1100 [0x20]

/-- LOCK_SET (R394). -/
def execLockSet (bits : BitVec 11) (s : State) : Host.Outcome State Fault Refusal := s.hostWrites 0x2000 [bits.setWidth 32]

/-- QUEUE_POP (R402). -/
def execQueuePop (queue : Fin 32) (s : State) : Host.Outcome State Fault Refusal := s.hostReads (0xD0110 + queue.val * 0x20) 1

/-- QUEUE_PUSH (R403). -/
def execQueuePush (data : Word) (s : State) : Host.Outcome State Fault Refusal := s.hostWrites 0xD0110 [data]

/-- QUEUE_FLUSH (R404). -/
def execQueueFlush (queue : Fin 32) (s : State) : Host.Outcome State Fault Refusal := s.hostWrites (0xD0118 + queue.val * 0x20) [1]

/-- QUEUE_ROOM (R403): the words of a push that wait enter when Q0 has room. -/
def execQueueRoom (s : State) : Host.Outcome State Fault Refusal :=
  s.act fun d => if d.alive && !d.host.stalled.isEmpty then d.pushWords d.host.stalled else d

/-- QUEUE_ITEM_OFFER (R404): the held item enters when its queue has room; a mailbox answer that waited ends BUSY (R353). DESIGN CHOICE (log 163). -/
def execQueueItemOffer (queue : Fin 32) (s : State) : Host.Outcome State Fault Refusal :=
  s.act fun d =>
    let q := queue.val
    let x := d.que q
    match x.held with
    | none => d
    | some i =>
      if !d.alive then d
      else
        let d := d.setQue q { x with held := none }
        let d := if 8 ≤ q ∧ q ≤ 12 then d.enqueueRx (q - 8) i else d.enqueue q i
        if q = 1 && (d.que 1).held.isNone && d.odp.dmb.isNone then d.wr F.DMB_STATUS_BUSY 0 else d

/-! ### Apply points (R350, R396 to R398) -/

/-- The unit that a captured value belongs to, where its block applies unit by unit: a context, a port, a tone. -/
def unitOfKey (blk key : Nat) : Nat :=
  match fieldOf key with
  | none => 0xFFFF
  | some f =>
    match blk with
    | 5 => f.off / 0x4000
    | 7 => aptPortOf f
    | 9 => if 0x200 ≤ f.off ∧ f.off < 0x400 then toneOf f else 0xFFFF
    | _ => f.unit

/-- A block applies captured values by its own rules, and says whether any were refused. The global block, ALM, QUE and DMB hold no
buffered fields. DESIGN CHOICE (log 173). -/
def Dev.applyBlock (d : Dev) (blk group : Nat) (vals : Tbl Nat) : Dev × Status :=
  match blk with
  | 1 => d.applyClk group vals
  | 2 => d.applyRef group vals
  | 3 => d.applyTim group vals
  | 5 => d.applyNet group vals
  | 6 => d.applyStr group vals
  | 7 => d.applyApt group vals
  | 8 => d.applyMtx group vals
  | 9 => d.applyLib group vals
  | 10 => d.applySup group vals
  | 11 => d.applyPair group vals
  | 12 => d.applyPwr group vals
  | 14 => d.applyMid group vals
  | _ => (d, .ok)

/-- StrobeGroups requests that the block was awaited by: a held value makes the answer STOPPED_ONLY, else a refusal at the apply point is
the answer (R66, R73, R75), and the last block sends it. DESIGN CHOICE (log 118). -/
def Dev.strobeAnswers (d : Dev) (blk group : Nat) (st : Status) : Dev :=
  let held := d.regs.held.any (fun h => h.2 = group && h.1 / 32 / 65536 % 16 = blk)
  let jobs := d.odp.strobes.map (fun j =>
    if bitAt j.mask group then { j with answer := if held then .stoppedOnly else j.answer.orElse st } else j)
  let waits := fun (j : StrobeJob) => d.regs.caps.any (fun c => bitAt j.mask c.group)
  let d := d.setOdp { d.odp with strobes := jobs.filter waits }
  (jobs.filter (fun j => !waits j)).foldl (fun d j => d.answer j.origin j.reqSeq 3 j.answer 0 j.jseq []) d

/-- UPDATE_APPLY (R397, R398): a block's apply point, or that of one of its units; captured values of other units go on waiting.
DESIGN CHOICE (log 173). -/
def execUpdateApply (blk : Fin 16) (unit : Option Nat) (s : State) : Host.Outcome State Fault Refusal :=
  s.act fun d =>
    match d.regs.caps.find? (fun c => c.blk = blk.val) with
    | none => d
    | some c =>
      if !d.booted then d
      else
        let mine := fun (r : Nat × Nat) => match unit with | some u => decide (unitOfKey blk.val r.1 = u) | none => true
        let rest := c.vals.filter (fun r => !mine r)
        let others := d.regs.caps.filter (fun x => x.blk ≠ blk.val)
        let caps := if rest.isEmpty then others else others ++ [{ c with vals := rest }]
        let d := { d with regs := { d.regs with caps := caps } }
        let vals := c.vals.filter mine
        if blk.val = 5 && d.netRefused c.vals then
          ({ d with regs := { d.regs with caps := others } }).strobeAnswers 5 c.group .range
        else
          let r := (d.serviceStrobe vals).applyBlock blk.val c.group vals
          r.1.strobeAnswers blk.val c.group r.2

/-! ### The TAP (R425) -/

/-- A shift through a register: what leaves it, and what it then holds. -/
def shiftBits (reg tdi : List Bool) : List Bool × List Bool :=
  let all := reg ++ tdi
  (all.take tdi.length, all.drop tdi.length)

/-- The TAP runs while its supplies are within range. -/
def Dev.tap (d : Dev) (f : Dev → Dev) : Dev := if d.pins.supplies then f d else d

/-- BYPASS (R425): one bit of delay. -/
def execBypass (tdi : List Bool) (s : State) : Host.Outcome State Fault Refusal :=
  s.act fun d => d.tap fun d => { d.emit (.tdo (shiftBits [false] tdi).1) with jtag := { d.jtag with drives := false } }

/-- IDCODE (R425): 0x1484_0E6B, least significant bit first. -/
def execIdcode (s : State) : Host.Outcome State Fault Refusal :=
  s.act fun d => d.tap fun d =>
    { d.emit (.tdo ((List.range 32).map (bitAt 0x14840E6B))) with jtag := { d.jtag with drives := false } }

/-- The boundary scan: the balls as sampled leave, and the bits shifted in are preloaded. DESIGN CHOICE (log 174). -/
def Dev.scan (d : Dev) (balls tdi : List Bool) (drives : Bool) : Dev :=
  let r := shiftBits balls tdi
  { d.emit (.tdo r.1) with jtag := { preload := r.2, drives := drives } }

/-- SAMPLE_PRELOAD (R425). -/
def execSamplePreload (balls tdi : List Bool) (s : State) : Host.Outcome State Fault Refusal :=
  s.act fun d => d.tap fun d => d.scan balls tdi false

/-- EXTEST (R425): it takes the balls only in RESET. DESIGN CHOICE (log 174). -/
def execExtest (balls tdi : List Bool) (s : State) : Host.Outcome State Fault Refusal :=
  s.act fun d => d.tap fun d => d.scan balls tdi (d.mode.mode = .reset)

end Sys2Proof.Machine
end

