-- ==== Sys2Proof/Machine/Faults.lean ====
section
/-! DEFINITION. Machine/Faults.lean: uncorrectable memory errors and scrub (R30, R336). -/

namespace Sys2Proof.Machine

/-- UNCORRECTABLE_ERROR (R30, R311): posted and counted; a critical region makes the unit accuse itself and enter SAFE_HOLD. -/
def execUncorrectableError (region : Region) (s : State) : Host.Outcome State Fault Refusal :=
  s.act fun d =>
    if !d.alive || (region.dram && d.boot.fitted = 0) then d
    else
      let k := region.code
      let d := { d with pwr := { d.pwr with errors := d.pwr.errors.put k (d.pwr.errors.get 0 k + 1) } }
      let d := d.irq F.GCTL_IRQ_STATUS_MEM_UNCORRECTABLE region.unit (toLE 1 k)
      if k = 10 then
        let d := d.sticky F.PAIR_STICKY_ACCUSE_SEEN noUnit
        (d.setPair { d.pair with accused := d.pair.accused ++ [msOf d.time.tai] }).safeHoldCause 0x08
      else
        let d := d.markImperfect.contain region
        if region.record.isEmpty then d else d.note region.record

/-- SCRUB (R30, R334, R336): a granule of the DRAM or the SRAM is read, with single-bit errors corrected, while class B work may run;
the last granule ends the pass. DESIGN CHOICE (log 123). -/
def execScrub (dram last : Bool) (s : State) : Host.Outcome State Fault Refusal :=
  s.act fun d =>
    if !d.booted || d.isShed .scrub || d.bBarred || d.headroom < 0 || (dram && d.boot.fitted = 0) || !last then d
    else if dram then { d.wr F.PWR_STATUS_SCRUB_LATE 0 with pwr := { d.pwr with scrubbed := d.time.cycles } }
    else { d with pwr := { d.pwr with sramScrubbed := d.time.cycles } }

end Sys2Proof.Machine
end

