-- ==== Sys2Proof/Machine/Loop.lean ====
section
/-! DEFINITION. Machine/Loop.lean: the loop tick (R96): selection and the two paths (R91, R97), phase steps (R100, R101, R195) and the first
setting of TAI (R441). -/

namespace Sys2Proof.Machine

/-! ### Phase steps (R100, R101, R195) -/

/-- Δ × fs to the nearest integer, halves away from 0 (R195); Δ in 1/16 ns. -/
def Dev.jumpOf (d : Dev) (delta : Int) : Int :=
  let n := (2 * delta.natAbs * d.fs + 16000000000) / 32000000000
  if 0 ≤ delta then n else -n

/-- A position moved by a jump of the grid. -/
def movePos (m : Int) (k : Nat) : Nat := ((k : Int) + m).toNat

/-- What counts positions and goes on through a jump of the grid: tones with the next sample of their content, the claims and fades of
zones (R249, R256). DESIGN CHOICE (log 56). -/
def Dev.movePositions (d : Dev) (m : Int) : Dev :=
  let tones := d.lib.tones.map (fun r => (r.1, { r.2 with start := r.2.start.map (movePos m), stop := r.2.stop.map (movePos m) }))
  let zones := d.mtx.zones.map (fun r => (r.1, { r.2 with change := r.2.change.map (movePos m),
                                                            ended := r.2.ended.map (fun e => (e.1, movePos m e.2)) }))
  { d with lib := { d.lib with tones := tones }, mtx := { d.mtx with zones := zones, last := d.mtx.last.map (movePos m) } }

/-- The index of the sample exchange jumps by m (R195, R235, R275). DESIGN CHOICE (log 56). -/
def Dev.indexJump (d : Dev) (m : Int) : Dev := if m = 0 then d else (((d.movePositions m).strJump m).aptJump m).supJump

/-- Record an applied step (R101). DESIGN CHOICE (log 57, 60). -/
def Dev.recordStep (d : Dev) (delta : Int) (old : Option Nat) (dest : Nat) : Dev :=
  let count := match d.ref.log.getLast? with | some r => (r.count + 1) % 65536 | none => 1
  let r : StepRec := { tai := d.time.tai, delta := delta, from_ := old, dest := dest, count := count }
  ({ d with ref := { d.ref with log := (d.ref.log ++ [r]).drop (d.ref.log.length + 1 - 16) } }).irq F.REF_IRQ_STATUS_STEP_DONE dest

/-- What a change of TAI does to the loop itself: PERR from before it does not count, its second gives no sample, an accepted step is
spent (R100, R105, R109); instants kept of pulses move with the counter. -/
def Dev.loopMoved (d : Dev) (sub : Int) (n : Nat) : Dev :=
  let slots := d.ref.slots.map (fun r => (r.1, { r.2 with pulse := r.2.pulse.map (·.addSub sub) }))
  let d := { d with ref := { d.ref with slots := slots, perrs := [], learn := { d.ref.learn with clean := false },
                                        timers := { d.ref.timers with perrSmall := none, perrLarge := none },
                                        pathT := { d.ref.pathT with last := 0 } } }
  d.setSlot n { d.slot n with accept := false }

/-- Add a phase step to the TAI counter (R100, R72, R102, R159, R195). -/
def Dev.phaseStep (d : Dev) (delta : Int) (old : Option Nat) (dest : Nat) : Dev :=
  if delta = 0 then d
  else
    let before := d.time.tai
    let after := before.addSub (delta * 4096)
    let d := { d with time := { d.time with tai := after } }
    let d := (d.stepOutputs (delta * 4096)).stepPulses delta
    let d := if d.jumpOf delta = 0 then d else d.mediaMoved (delta * 4096)
    let d := (d.indexJump (d.jumpOf delta)).almStepped before after
    (d.loopMoved (delta * 4096) dest).recordStep delta old dest

/-! ### The first setting of TAI (R441) -/

/-- A context on the grid of the new TAI: packets resume at its first packet boundary, and every position held is missing. -/
def Dev.rebaseCtx (d : Dev) (c k : Nat) : Dev :=
  let x := d.ctx c
  if d.ctxState c = 4 then
    let n := d.ctxN c
    d.setCtx c { x with tx := [], top := none, nextK := ceilDiv k n * n }
  else if d.ctxState c = 0 then d
  else (d.setCtx c { x with ringA := [], ringB := [], presented := none }).wr (F.STR_CTX_STATUS_G_NOW.un c) 0

/-- A port that has anchored anchors afresh, both of its gains at 0. -/
def Dev.rebasePort (d : Dev) (p : Nat) : Dev :=
  let x := d.apo p
  if x.frame.isNone && x.txFrame.isNone then d
  else
    d.setApo p { x with frame := none, txFrame := none, rxNext := none, gathered := none, discard := 0, slip := none,
                        rx := { x.rx with g := 0, ring := [] }, tx := { x.tx with g := 0, ring := [] },
                        afresh := if x.frame.isSome then 1 else x.afresh }

/-- A zone's delay line holds no position of the new grid; its claims go on. DESIGN CHOICE (log 55). -/
def Dev.rebaseZones (d : Dev) : Dev :=
  { d with mtx := { d.mtx with zones := d.mtx.zones.map (fun r => (r.1, { r.2 with line := [] })) } }

/-- The recorder goes on at the new grid's positions, holding none of the old. DESIGN CHOICE (log 55). -/
def Dev.rebaseRecorder (d : Dev) (k : Nat) : Dev :=
  if d.lib.recd.running then
    (d.setLib { d.lib with recd := { d.lib.recd with w := k, oldest := k, ring := [] } }).spoilMarks (fun _ => true)
  else d

/-- Running outputs are gated until the next alignment instant of the new TAI, which every instant that waits is counted from, and
media clocks in locked operation lock again. -/
def Dev.rebaseClocks (d : Dev) : Dev :=
  let d := (List.range 8).foldl (fun d n =>
    if d.on (F.CLK_OUT_STATUS_RUNNING.at [n]) then
      let d := (d.wr (F.CLK_OUT_STATUS_RUNNING.at [n]) 0).wr (F.CLK_OUT_STATUS_GATED.at [n]) 1
      let d := ({ d with clk := { d.clk with moves := d.clk.moves.del n } }).awaitStart n d.time.tai
      d.irq { F.CLK_IRQ_STATUS_OUT_GATED0 with lo := 8 + n } n
    else d) d
  let d := (List.range 4).foldl (fun d s => d.wr (F.CLK_SYN_STATUS_ALIGNED.at [s]) 0) d
  let d := { d with clk := { d.clk with waiting := d.clk.waiting.map (fun r => (r.1, d.time.tai)),
                                        locked := d.clk.locked.map (fun r => (r.1, d.time.tai)),
                                        pendFrom := d.time.tai.addNs 100000,
                                        moves := d.clk.moves.filter (fun r => decide (r.1 < 8)) } }
  (List.range 8).foldl (fun d g =>
    if d.groupLocked g then (d.wr (F.CLK_MCLK_STATUS_LOCKED.at [g]) 0).wr (F.CLK_MCLK_STATUS_ALIGNED.at [g]) 0 else d) d

/-- Occurrences at or before the new TAI resolve as SKIPPED_HELD, with STEPPED set. -/
def Dev.rebaseAlmanac (d : Dev) (old new : Tai) : Dev :=
  let d := d.almStepped old new
  (d.alm.rows.map (·.1)).foldl (fun d row =>
    match d.almRow row with
    | some x => match x.inst with
      | some t => if t.le new then (d.setAlm row { x with stepped := true }).almPass row else d
      | none => d
    | none => d) d

/-- The first selection of a time slot sets TAI, and every block re-bases on it (R441). DESIGN CHOICE (log 54). -/
def Dev.taiSet (d : Dev) (new : Tai) (n : Nat) : Dev :=
  let old := d.time.tai
  let d := { d with time := { d.time with tai := new } }
  let d := d.wr F.REF_SEL_STATUS_TIME_VALID 1
  let d := d.deviceEvent 7 (toLE 6 old.sec ++ toLE 4 old.ns ++ toLE 6 new.sec ++ toLE 4 new.ns)
  let d := d.objEvent 2 n 0x2010 2 0
  let k := ceilDiv (new.toSub * d.fs) subPerSec
  let m : Int := (k : Int) - d.indexNear old
  let d := (d.str.map (·.1)).foldl (fun d c => d.rebaseCtx c k) d
  let d := (d.apt.map (·.1)).foldl Dev.rebasePort d
  let d := ((d.movePositions m).rebaseZones).rebaseRecorder k
  let d := (d.rebaseClocks.supJump).rebaseAlmanac old new
  d.loopMoved ((new.toSub : Int) - old.toSub) n

/-- A loop tick in sub-nanoseconds: 15.625 µs (R96). -/
def tickSub : Nat := 15625 * 65536

/-- The number of the loop tick at or before an instant: the ticks lie at whole multiples after the epoch (R96). -/
def loopTickNo (t : Tai) : Nat := t.toSub / tickSub

/-! ### Paths (R97) -/

/-- What NTP shows of a time-selected slot (R131); the partner's code follows its timeSource. DESIGN CHOICE (log 57). -/
def Dev.refCode (d : Dev) (n : Nat) : List Byte :=
  if n < 4 then [0x50, 0x50, 0x53, 0]
  else if n = 4 then [0x47, 0x4E, 0x53, 0x53]
  else if n < 14 then [0x50, 0x54, 0x50, 0]
  else match d.tim.partnerSource with
    | 0x20 => [0x47, 0x4E, 0x53, 0x53]
    | 0x40 => [0x50, 0x54, 0x50, 0]
    | 0x90 => [0x50, 0x50, 0x53, 0]
    | _ => d.tim.refId

/-- Enter time HOLDOVER (R97, R106, R109): the terms freeze, growth starts, and a prediction of 0 expires it at once (R107). DESIGN CHOICE (log 59). -/
def Dev.enterTimeHoldover (d : Dev) : Dev :=
  let d := (d.evalBound 0).startGrowth
  let d := { d with tim := { d.tim with refTime := d.time.tai } }
  let d := d.setTpath 3
  if d.remaining = 0 then
    let d := d.wr F.REF_HO_REMAIN_REMAIN 0
    if d.on F.REF_HO_STATUS_HO_EXPIRED then d else (d.wr F.REF_HO_STATUS_HO_EXPIRED 1).irq F.REF_IRQ_STATUS_HO_EXPIRED
  else d

/-- The time path at a loop tick, given the slot in force. -/
def Dev.tpathTick (d : Dev) (t : Option Nat) : Dev :=
  let st := d.tpath
  match t with
  | some n =>
    let d := { d with tim := { d.tim with refId := d.refCode n, refTime := d.time.tai } }
    if st = 1 then (if d.ran d.ref.timers.perrSmall 10000 then d.setTpath 2 else d)
    else if st = 2 then d
    else (if st = 3 then d.clearGrowth else d).setTpath 1
  | none => if st = 1 || st = 2 then d.enterTimeHoldover else d

/-- The selection that applies at a tick: none under LOOP_MODE HOLD, which leaves both paths without a reference. DESIGN CHOICE (log 52). -/
def Dev.choiceNow (d : Dev) : Choice := if d.rd F.REF_LOOP_CFG_LOOP_MODE = 1 then {} else d.ref.choice

/-- How TAI moves at a loop tick: not at all, set to a time with the slot that gives it, or by a step in 1/16 ns with its slot. -/
inductive TaiMove where
  | stay | set (new : Tai) (slot : Nat) | step (delta : Int) (slot : Nat)
  deriving DecidableEq, Repr

/-- The move of TAI at this tick: its first setting, or the step that goes with a switch, as the last tick decided (R100, R441). A standby takes both
from its partner: a step at the tick of its record, the setting at once, and one that was never told of the setting takes TAI from
slot 14. DESIGN CHOICE (log 54, 60). -/
def Dev.taiMove (d : Dev) : TaiMove :=
  let valid := d.on F.REF_SEL_STATUS_TIME_VALID
  let c := d.choiceNow
  let own := match c.time, c.delta with
    | some n, some x => if valid then .step x n else .set (d.time.tai.addSub (x * 4096)) n
    | _, _ => TaiMove.stay
  if !d.follows then own
  else if valid then (match d.ref.due with | some (k, x) => if k ≤ loopTickNo d.time.tai then .step x 14 else .stay | none => .stay)
  else match d.pair.setTai with | some t => .set t 14 | none => own

/-- The TAI counter after a tick. -/
def Dev.tickTai (d : Dev) : Tai :=
  match d.taiMove with
  | .stay => d.time.tai
  | .set t _ => t
  | .step x _ => d.time.tai.addSub (x * 4096)

/-- TAI moves, and what was told of a setting or a step is spent; a unit that follows nobody keeps none. -/
def Dev.applyTime (d : Dev) : Dev :=
  let clear := fun (d : Dev) => { d with pair := { d.pair with setTai := none }, ref := { d.ref with due := none } }
  match d.taiMove with
  | .stay => if d.follows then d else clear d
  | .set t n => (clear d).taiSet t n
  | .step x n => (clear d).phaseStep x (if d.tpath = 3 then none else d.timeNow) n

/-- The selection decided at the last tick applies (R91, R97, R98). -/
def Dev.applyChoice (d : Dev) : Dev :=
  let c := d.choiceNow
  let oldF := d.freqNow
  let oldT := d.timeNow
  let d := d.applyTime
  let time := if d.on F.REF_SEL_STATUS_TIME_VALID then c.time else none
  let d := (d.fpathTick c.freq time).tpathTick time
  let d := d.showSelection c.freq time
  (d.postSwitch oldF c.freq F.REF_IRQ_STATUS_F_SWITCH).postSwitch oldT time F.REF_IRQ_STATUS_T_SWITCH

/-! ### The tick -/

/-- A slot's source is present at a tick (R83, R84, R88): edges of a FREQ or ATOM input since the last one, the link of a port that
recovers a clock, a port in the SLAVE state, XO_IN. Pulses and TIME frames show the others. -/
def Dev.sourceAt (d : Dev) (edges n : Nat) : Bool :=
  if n < 4 then !d.isPps n && bitAt edges n
  else if n = 5 then bitAt edges 5
  else if 6 ≤ n && n < 10 then d.on (F.NET_STATUS_LINK.at [n - 6]) && d.rd (F.NET_STATUS_SPEED_ACTIVE.at [n - 6]) % 2 = 0
  else if 10 ≤ n && n < 14 then d.rd (F.TIM_PTP_STATUS_PORT_STATE.at [n - 10]) = 9
  else n = 15 && d.on F.CLK_ROOT_STATUS_XO_PRESENT

/-- A source that is present gives its slot activity (R88). -/
def Dev.activityTick (d : Dev) (edges n : Nat) : Dev :=
  if d.sourceAt edges n && d.slotState n ≠ 0 then d.wr (F.REF_SLOT_STATUS_ACTIVITY.at [n]) 1 else d

/-- FERR in ppt and PERR in 1/16 ns show in their registers (R111). -/
def Dev.showErrors (d : Dev) (ferr perr : Int) : Dev := (d.wrS F.REF_LOOP_FERR_FERR ferr).wrS F.REF_LOOP_PERR_PERR perr

/-- The durations of R97 run on: FERR in ppt, PERR in 1/16 ns, and the PERRs of the last second. -/
def Dev.timersTick (d : Dev) (ferr perr : Nat) : Dev :=
  let t := d.ref.timers
  let now := d.time.cycles
  let f := d.fpath = 1 || d.fpath = 2
  let p := d.tpath = 1 || d.tpath = 2
  let t : HoldTimers :=
    { ferrSmall := runTimer t.ferrSmall (f && decide (ferr ≤ 1000)) now
      ferrLarge := runTimer t.ferrLarge (f && decide (10000 < ferr)) now
      perrSmall := runTimer t.perrSmall (p && decide (perr ≤ 1600)) now
      perrLarge := runTimer t.perrLarge (p && decide (16000 < perr)) now }
  let perrs := if p then d.ref.perrs.filter (fun x => !d.past x.1 1000) ++ [(now, perr)] else []
  { d with ref := { d.ref with timers := t, perrs := perrs } }

/-- A follower's decision: slot 14, and the offset that would set its TAI where it has none and the partner's bound shows that the partner
has (R97, R441). DESIGN CHOICE (log 54). -/
def Dev.followTime (d : Dev) : Option Nat × Option Int :=
  let t := (d.forced true).join
  let told := d.rd (F.REF_SLOT_ADV_BOUND_RO_ADV_BOUND.at [9]) < boundSat
  (t, if t.isSome && !d.on F.REF_SEL_STATUS_TIME_VALID && told then some (d.slot 14).offset else none)

/-- The time selector's decision with what it adds to TAI: the slot's offset at the first setting (R441), else the step of a switch. A rerun,
where |PERR| has stood above 1 µs for 1 s, steps by MEAS_PHASE as R100 says. A standby takes its steps from the active; the
first choice after a take-over passes none (R316). DESIGN CHOICE (log 43, 58, 193). -/
def Dev.decideTime (d : Dev) : Dev × Option Nat × Option Int :=
  if d.follows then (d, d.followTime)
  else
    let rerun := (d.tpath = 1 || d.tpath = 2) && d.ran d.ref.timers.perrLarge 1000
    match (if rerun then d.timeNow else none) with
    | some n =>
      let d := { d with ref := { d.ref with timers := { d.ref.timers with perrLarge := none } } }
      if d.qualified n && d.stepAllowed n (d.measPhase n) then (d, some n, some (d.measPhase n))
      else if d.qualified n then Dev.chooseTime 16 (d.refuseStep n)
      else Dev.chooseTime 16 d
    | none =>
      let r := Dev.chooseTime 16 d
      if !d.on F.REF_SEL_STATUS_TIME_VALID then (r.1, r.2.1, r.2.1.map (fun n => (d.slot n).offset))
      else if d.ref.tookOver then ({ r.1 with ref := { r.1.ref with tookOver := false } }, r.2.1, none)
      else r

/-- What the standby is told of the move that applies at the next tick (R101, R306, R441): the step or the TAI to set, with the tick's
place in its interval of the 48 kHz grid and the interval's number. DESIGN CHOICE (log 60). -/
def Dev.noteMove (d : Dev) (delta : Option Int) : Dev :=
  let tick := loopTickNo d.time.tai + 1
  let interval := 3 * tick / 4
  let head := [byteOf (tick - ceilDiv (4 * interval) 3), byteOf interval]
  match delta with
  | none => d
  | some x =>
    if d.follows then d
    else if !d.on F.REF_SEL_STATUS_TIME_VALID then
      let new := Tai.ofSub (((tick * tickSub : Nat) : Int) + x * 4096).toNat
      d.note ([7, 1] ++ head ++ toBE 6 new.sec ++ toBE 4 new.ns ++ toBE 2 new.sub)
    else if x = 0 then d
    else d.note ([7, 0] ++ head ++ toBE 8 (unsgn 64 x))

/-- Both selectors decide (R91); what they decide applies at the next tick. DESIGN CHOICE (log 52). -/
def Dev.decideChoice (d : Dev) : Dev :=
  let f := d.chooseFreq
  let r := d.decideTime
  let d := r.1.noteMove r.2.2
  { d with ref := { d.ref with choice := { freq := f, time := r.2.1, delta := r.2.2 } } }

/-- The sums of the present second's mean word (R105). -/
def Dev.learnTick (d : Dev) : Dev :=
  let l := d.ref.learn
  { d with ref := { d.ref with learn := { l with sum := l.sum + d.ref.word, ticks := l.ticks + 1, clean := l.clean && d.learning } } }

/-- A changed UTC offset applies (R114). -/
def Dev.utcTick (d : Dev) : Dev :=
  match d.tim.utcNext with
  | some v => ({ d with tim := { d.tim with utcNext := none } }).setUtcOffset v
  | none => d

/-- The loop runs: after loss of the root it stands (R64, R85). -/
def Dev.loopRuns (d : Dev) : Bool := d.booted && !d.clk.rootLost

/-- LOOP_TICK (R96): what the last tick decided applies, the monitors and slots move on, the selectors decide, and the loop steers. -/
def execLoopTick (edges : BitVec 16) (ferr perr : Int) (s : State) : Host.Outcome State Fault Refusal :=
  s.actTo (fun d => if d.loopRuns then d.tickTai else d.time.tai) fun d =>
    if !d.loopRuns then d
    else
      let d := d.almUnacked.utcTick.applyChoice
      let d := (List.range 16).foldl (fun d n => ((d.activityTick edges.toNat n).rankTick n).slotTick n) d
      let d := ((d.showErrors ferr perr).timersTick ferr.natAbs perr.natAbs).decideChoice
      (d.steer ferr perr).learnTick

end Sys2Proof.Machine
end

