-- ==== Sys2Proof/Machine/Dispatch.lean ====
section
/-! DEFINITION. Machine/Dispatch.lean: the meaning of each command, one arm per constructor. -/

namespace Sys2Proof.Machine

/-- A command's effect on everything but the queue of waiting commands. DESIGN CHOICE (log 11). -/
def exec (i : Instr) (s : State) : Host.Outcome State Fault Refusal :=
  match i with
  | .powerOn => Sys2Proof.Machine.execPowerOn s
  | .powerFail => Sys2Proof.Machine.execPowerFail s
  | .rstNLow => Sys2Proof.Machine.execRstNLow s
  | .rstNHigh bootSel pairSide hostRole testEn => Sys2Proof.Machine.execRstNHigh bootSel pairSide hostRole testEn s
  | .bootStepEnd input => Sys2Proof.Machine.execBootStepEnd input s
  | .rootLockTimeout => Sys2Proof.Machine.execRootLockTimeout s
  | .pairStartResample claimLow => Sys2Proof.Machine.execPairStartResample claimLow s
  | .controlCoreWatchdog => Sys2Proof.Machine.execControlCoreWatchdog s
  | .safeHoldAutoRestart => Sys2Proof.Machine.execSafeHoldAutoRestart s
  | .modeTransition claimLow => Sys2Proof.Machine.execModeTransition claimLow s
  | .modeRequest source => Sys2Proof.Machine.execModeRequest source s
  | .islandDetect => Sys2Proof.Machine.execIslandDetect s
  | .lanternReturn => Sys2Proof.Machine.execLanternReturn s
  | .lanternTrigger gpio level => Sys2Proof.Machine.execLanternTrigger gpio level s
  | .criticalLimit rail => Sys2Proof.Machine.execCriticalLimit rail s
  | .rootLockLost xoLost => Sys2Proof.Machine.execRootLockLost xoLost s
  | .rootRelock => Sys2Proof.Machine.execRootRelock s
  | .backupTrim offset trimmed => Sys2Proof.Machine.execBackupTrim offset trimmed s
  | .synthLockLost synth => Sys2Proof.Machine.execSynthLockLost synth s
  | .synthRelock synth => Sys2Proof.Machine.execSynthRelock synth s
  | .synthAligned synth => Sys2Proof.Machine.execSynthAligned synth s
  | .mclkLockLost group => Sys2Proof.Machine.execMclkLockLost group s
  | .clkoutStart output => Sys2Proof.Machine.execClkoutStart output s
  | .dividerSwitch => Sys2Proof.Machine.execDividerSwitch s
  | .dllLock dll loopDelay => Sys2Proof.Machine.execDllLock dll loopDelay s
  | .dllTrack dll loopDelay => Sys2Proof.Machine.execDllTrack dll loopDelay s
  | .dllFbLost dll => Sys2Proof.Machine.execDllFbLost dll s
  | .loopTick edges ferr perr => Sys2Proof.Machine.execLoopTick edges ferr perr s
  | .monitorUpdate ppt => Sys2Proof.Machine.execMonitorUpdate ppt s
  | .activityLoss slot => Sys2Proof.Machine.execActivityLoss slot s
  | .qualWinElapsed slot => Sys2Proof.Machine.execQualWinElapsed slot s
  | .wtrElapsed slot => Sys2Proof.Machine.execWtrElapsed slot s
  | .refPulseEdge slot stamp => Sys2Proof.Machine.execRefPulseEdge slot stamp s
  | .nmeaSentence sentence => Sys2Proof.Machine.execNmeaSentence sentence s
  | .atomLockLoss => Sys2Proof.Machine.execAtomLockLoss s
  | .esmcTimeout port => Sys2Proof.Machine.execEsmcTimeout port s
  | .modelSample => Sys2Proof.Machine.execModelSample s
  | .modelPersist => Sys2Proof.Machine.execModelPersist s
  | .holdoverTimerUpdate => Sys2Proof.Machine.execHoldoverTimerUpdate s
  | .pulseEmit output => Sys2Proof.Machine.execPulseEmit output s
  | .pulseRealign mask => Sys2Proof.Machine.execPulseRealign mask s
  | .ncoWrite word byHost => Sys2Proof.Machine.execNcoWrite word byHost s
  | .stepAccept mask => Sys2Proof.Machine.execStepAccept mask s
  | .referenceHistoryClear mask => Sys2Proof.Machine.execReferenceHistoryClear mask s
  | .errorBoundEval => Sys2Proof.Machine.execErrorBoundEval s
  | .leapArm deletion leapAt => Sys2Proof.Machine.execLeapArm deletion leapAt s
  | .leapCancel => Sys2Proof.Machine.execLeapCancel s
  | .leapTakesEffect => Sys2Proof.Machine.execLeapTakesEffect s
  | .ptpAnnounceRx port message => Sys2Proof.Machine.execPtpAnnounceRx port message s
  | .ptpSyncRx port message detected => Sys2Proof.Machine.execPtpSyncRx port message detected s
  | .ptpFollowUpRx port message => Sys2Proof.Machine.execPtpFollowUpRx port message s
  | .ptpDelayReqRx port message detected unicast => Sys2Proof.Machine.execPtpDelayReqRx port message detected unicast s
  | .ptpDelayRespRx port message => Sys2Proof.Machine.execPtpDelayRespRx port message s
  | .ptpMessageDiscard port management => Sys2Proof.Machine.execPtpMessageDiscard port management s
  | .announceReceiptTimeout port => Sys2Proof.Machine.execAnnounceReceiptTimeout port s
  | .qualificationTimeout port => Sys2Proof.Machine.execQualificationTimeout port s
  | .ptpAnnounceTx port => Sys2Proof.Machine.execPtpAnnounceTx port s
  | .ptpSyncTx port launch => Sys2Proof.Machine.execPtpSyncTx port launch s
  | .ptpDelayReqTx port launch => Sys2Proof.Machine.execPtpDelayReqTx port launch s
  | .ntpRequest port source packet detected launch => Sys2Proof.Machine.execNtpRequest port source packet detected launch s
  | .ntsKeyActivate row => Sys2Proof.Machine.execNtsKeyActivate row s
  | .ntsKeyExpire row => Sys2Proof.Machine.execNtsKeyExpire row s
  | .gpioCapture gpio falling => Sys2Proof.Machine.execGpioCapture gpio falling s
  | .almanacWrite who row entry => Sys2Proof.Machine.execAlmanacWrite who row entry s
  | .almanacEntryRead row => Sys2Proof.Machine.execAlmanacEntryRead row s
  | .almanacCancel who row whole => Sys2Proof.Machine.execAlmanacCancel who row whole s
  | .almanacConfirm who row => Sys2Proof.Machine.execAlmanacConfirm who row s
  | .almanacStage row => Sys2Proof.Machine.execAlmanacStage row s
  | .almanacStagingComplete row => Sys2Proof.Machine.execAlmanacStagingComplete row s
  | .almanacCutoff row => Sys2Proof.Machine.execAlmanacCutoff row s
  | .almanacLaunch row => Sys2Proof.Machine.execAlmanacLaunch row s
  | .almanacSkipHeld row => Sys2Proof.Machine.execAlmanacSkipHeld row s
  | .almanacDeferRetest row => Sys2Proof.Machine.execAlmanacDeferRetest row s
  | .almanacDeferExpiry row => Sys2Proof.Machine.execAlmanacDeferExpiry row s
  | .cascadeHello source datagram => Sys2Proof.Machine.execCascadeHello source datagram s
  | .cascadeHelloTx => Sys2Proof.Machine.execCascadeHelloTx s
  | .cascadeParentTimeout => Sys2Proof.Machine.execCascadeParentTimeout s
  | .cascadePrimaryReturn => Sys2Proof.Machine.execCascadePrimaryReturn s
  | .cascadeStage source datagram => Sys2Proof.Machine.execCascadeStage source datagram s
  | .cascadeConfirm source datagram => Sys2Proof.Machine.execCascadeConfirm source datagram s
  | .cascadeRetract source datagram => Sys2Proof.Machine.execCascadeRetract source datagram s
  | .cascadeAnswer source datagram => Sys2Proof.Machine.execCascadeAnswer source datagram s
  | .cascadeProxyReq source datagram => Sys2Proof.Machine.execCascadeProxyReq source datagram s
  | .cascadeProxyResp source datagram => Sys2Proof.Machine.execCascadeProxyResp source datagram s
  | .proxyTimeout job => Sys2Proof.Machine.execProxyTimeout job s
  | .linkDown port => Sys2Proof.Machine.execLinkDown port s
  | .linkUp port => Sys2Proof.Machine.execLinkUp port s
  | .frameRx port frame fcsOk detected => Sys2Proof.Machine.execFrameRx port frame fcsOk detected s
  | .pauseExpiry port => Sys2Proof.Machine.execPauseExpiry port s
  | .txFrameSelect port => Sys2Proof.Machine.execTxFrameSelect port s
  | .txLateDrop port => Sys2Proof.Machine.execTxLateDrop port s
  | .netTxAlloc => Sys2Proof.Machine.execNetTxAlloc s
  | .netTxPost port cls buffer length => Sys2Proof.Machine.execNetTxPost port cls buffer length s
  | .netRxReturn first => Sys2Proof.Machine.execNetRxReturn first s
  | .esmcTx port event => Sys2Proof.Machine.execEsmcTx port event s
  | .arpRefresh context copyB => Sys2Proof.Machine.execArpRefresh context copyB s
  | .bypassSettleExpiry relayB => Sys2Proof.Machine.execBypassSettleExpiry relayB s
  | .phyPoll status => Sys2Proof.Machine.execPhyPoll status s
  | .mdioCommand clause45 op phy reg data => Sys2Proof.Machine.execMdioCommand clause45 op phy reg data s
  | .mdioComplete data => Sys2Proof.Machine.execMdioComplete data s
  | .audioFrameBoundary => Sys2Proof.Machine.execAudioFrameBoundary s
  | .mediaPacketRx port vid flow rtp detected => Sys2Proof.Machine.execMediaPacketRx port vid flow rtp detected s
  | .mediaPacketLaunch context => Sys2Proof.Machine.execMediaPacketLaunch context s
  | .streamTimeout context => Sys2Proof.Machine.execStreamTimeout context s
  | .copyTimeout context copyB => Sys2Proof.Machine.execCopyTimeout context copyB s
  | .streamHistoryClear context => Sys2Proof.Machine.execStreamHistoryClear context s
  | .portFrame port part edge period bclks good slots => Sys2Proof.Machine.execPortFrame port part edge period bclks good slots s
  | .portClockLoss port => Sys2Proof.Machine.execPortClockLoss port s
  | .audioBlockBoundary => Sys2Proof.Machine.execAudioBlockBoundary s
  | .trimClampHold group => Sys2Proof.Machine.execTrimClampHold group s
  | .notFollowingClear port => Sys2Proof.Machine.execNotFollowingClear port s
  | .portStopRelease port => Sys2Proof.Machine.execPortStopRelease port s
  | .audioPortHistoryClear port => Sys2Proof.Machine.execAudioPortHistoryClear port s
  | .zoneHangExpiry zone level => Sys2Proof.Machine.execZoneHangExpiry zone level s
  | .libraryPlay message voice level zoneSet safety => Sys2Proof.Machine.execLibraryPlay message voice level zoneSet safety s
  | .voiceStop voices safety => Sys2Proof.Machine.execVoiceStop voices safety s
  | .recorderRewind mark channel voice level zoneSet length safety => Sys2Proof.Machine.execRecorderRewind mark channel voice level zoneSet length safety s
  | .recorderMarkSet row position label session => Sys2Proof.Machine.execRecorderMarkSet row position label session s
  | .libraryIndexWrite row entry => Sys2Proof.Machine.execLibraryIndexWrite row entry s
  | .libraryLoadComplete row readOk => Sys2Proof.Machine.execLibraryLoadComplete row readOk s
  | .libraryPersistComplete row => Sys2Proof.Machine.execLibraryPersistComplete row s
  | .uncorrectableError region => Sys2Proof.Machine.execUncorrectableError region s
  | .scrub dram last => Sys2Proof.Machine.execScrub dram last s
  | .pilotIntegrationEnd correlator => Sys2Proof.Machine.execPilotIntegrationEnd correlator s
  | .pilotNoQuietTimeout correlator => Sys2Proof.Machine.execPilotNoQuietTimeout correlator s
  | .pilotLearn zone => Sys2Proof.Machine.execPilotLearn zone s
  | .selfTestStart => Sys2Proof.Machine.execSelfTestStart s
  | .selfTestEnd outcome => Sys2Proof.Machine.execSelfTestEnd outcome s
  | .vigilAdmissionTimeout => Sys2Proof.Machine.execVigilAdmissionTimeout s
  | .vigilWindowEnd => Sys2Proof.Machine.execVigilWindowEnd s
  | .vigilAbort => Sys2Proof.Machine.execVigilAbort s
  | .selfTestRun test inst => Sys2Proof.Machine.execSelfTestRun test inst s
  | .tokenSend => Sys2Proof.Machine.execTokenSend s
  | .tokenRx payload fcsOk => Sys2Proof.Machine.execTokenRx payload fcsOk s
  | .tokenDeadline => Sys2Proof.Machine.execTokenDeadline s
  | .digestCompute => Sys2Proof.Machine.execDigestCompute s
  | .digestRx record => Sys2Proof.Machine.execDigestRx record s
  | .digestMissing ms => Sys2Proof.Machine.execDigestMissing ms s
  | .timeFrameTx => Sys2Proof.Machine.execTimeFrameTx s
  | .timeFrameRx frame => Sys2Proof.Machine.execTimeFrameRx frame s
  | .commandFrameRx command => Sys2Proof.Machine.execCommandFrameRx command s
  | .stateFrameRx item => Sys2Proof.Machine.execStateFrameRx item s
  | .heartbeatTx => Sys2Proof.Machine.execHeartbeatTx s
  | .heartbeatRx port source datagram => Sys2Proof.Machine.execHeartbeatRx port source datagram s
  | .claimSign => Sys2Proof.Machine.execClaimSign s
  | .irmonSign => Sys2Proof.Machine.execIrmonSign s
  | .heartbeatSign => Sys2Proof.Machine.execHeartbeatSign s
  | .takeOver => Sys2Proof.Machine.execTakeOver s
  | .plannedHandover claimLow => Sys2Proof.Machine.execPlannedHandover claimLow s
  | .selfAccusation => Sys2Proof.Machine.execSelfAccusation s
  | .irmonLinkUp => Sys2Proof.Machine.execIrmonLinkUp s
  | .resyncCheck partner => Sys2Proof.Machine.execResyncCheck partner s
  | .resyncTimeout => Sys2Proof.Machine.execResyncTimeout s
  | .marionetteDrill => Sys2Proof.Machine.execMarionetteDrill s
  | .budgetTick power tj railsOk => Sys2Proof.Machine.execBudgetTick power tj railsOk s
  | .budgetShed => Sys2Proof.Machine.execBudgetShed s
  | .budgetRestore => Sys2Proof.Machine.execBudgetRestore s
  | .thermCapUpdate => Sys2Proof.Machine.execThermCapUpdate s
  | .pwrSrcChange battery => Sys2Proof.Machine.execPwrSrcChange battery s
  | .reserveStale => Sys2Proof.Machine.execReserveStale s
  | .energyReserveWrite mwh => Sys2Proof.Machine.execEnergyReserveWrite mwh s
  | .lifeUpdate => Sys2Proof.Machine.execLifeUpdate s
  | .moduleInsert row => Sys2Proof.Machine.execModuleInsert row s
  | .moduleSettleExpiry row => Sys2Proof.Machine.execModuleSettleExpiry row s
  | .moduleRecordRead row record nacks => Sys2Proof.Machine.execModuleRecordRead row record nacks s
  | .moduleRemove row => Sys2Proof.Machine.execModuleRemove row s
  | .moduleReread row => Sys2Proof.Machine.execModuleReread row s
  | .sfpRead cage page => Sys2Proof.Machine.execSfpRead cage page s
  | .sfpPoll cage page => Sys2Proof.Machine.execSfpPoll cage page s
  | .applyProposals who mask => Sys2Proof.Machine.execApplyProposals who mask s
  | .openReq port source service datagram => Sys2Proof.Machine.execOpenReq port source service datagram s
  | .openProof port source datagram => Sys2Proof.Machine.execOpenProof port source datagram s
  | .openProofTimeout id => Sys2Proof.Machine.execOpenProofTimeout id s
  | .keepalive port source datagram => Sys2Proof.Machine.execKeepalive port source datagram s
  | .close port source datagram => Sys2Proof.Machine.execClose port source datagram s
  | .sessionIdleExpiry slot => Sys2Proof.Machine.execSessionIdleExpiry slot s
  | .odpMalformed port datagram => Sys2Proof.Machine.execOdpMalformed port datagram s
  | .odpRead port source datagram => Sys2Proof.Machine.execOdpRead port source datagram s
  | .odpWrite port source datagram => Sys2Proof.Machine.execOdpWrite port source datagram s
  | .domainBegin port source datagram => Sys2Proof.Machine.execDomainBegin port source datagram s
  | .domainSegment port source datagram => Sys2Proof.Machine.execDomainSegment port source datagram s
  | .domainEnd port source datagram => Sys2Proof.Machine.execDomainEnd port source datagram s
  | .domainTimeout slot => Sys2Proof.Machine.execDomainTimeout slot s
  | .subscribe port source datagram => Sys2Proof.Machine.execSubscribe port source datagram s
  | .unsubscribe port source datagram => Sys2Proof.Machine.execUnsubscribe port source datagram s
  | .notice id => Sys2Proof.Machine.execNotice id s
  | .strobeGroups who mask => Sys2Proof.Machine.execStrobeGroups who mask s
  | .thaw who master => Sys2Proof.Machine.execThaw who master s
  | .freeze who master => Sys2Proof.Machine.execFreeze who master s
  | .commit who => Sys2Proof.Machine.execCommit who s
  | .commitWrite bad => Sys2Proof.Machine.execCommitWrite bad s
  | .journalDrain => Sys2Proof.Machine.execJournalDrain s
  | .journalProgress => Sys2Proof.Machine.execJournalProgress s
  | .dmbRequest => Sys2Proof.Machine.execDmbRequest s
  | .readWord address => Sys2Proof.Machine.execReadWord address s
  | .readBurst address words => Sys2Proof.Machine.execReadBurst address words s
  | .writeWord address data => Sys2Proof.Machine.execWriteWord address data s
  | .writeBurst address data => Sys2Proof.Machine.execWriteBurst address data s
  | .readPortStatus => Sys2Proof.Machine.execReadPortStatus s
  | .badOpcode => Sys2Proof.Machine.execBadOpcode s
  | .abandoned => Sys2Proof.Machine.execAbandoned s
  | .registerWrite address data => Sys2Proof.Machine.execRegisterWrite address data s
  | .rocRead address => Sys2Proof.Machine.execRocRead address s
  | .latchingRead address => Sys2Proof.Machine.execLatchingRead address s
  | .bitAliasRead address => Sys2Proof.Machine.execBitAliasRead address s
  | .bitAliasWrite address value => Sys2Proof.Machine.execBitAliasWrite address value s
  | .updStrobe groups => Sys2Proof.Machine.execUpdStrobe groups s
  | .updateApply blk unit => Sys2Proof.Machine.execUpdateApply blk unit s
  | .take clear => Sys2Proof.Machine.execTake clear s
  | .viewOn => Sys2Proof.Machine.execViewOn s
  | .viewOff => Sys2Proof.Machine.execViewOff s
  | .lockSet bits => Sys2Proof.Machine.execLockSet bits s
  | .queuePop queue => Sys2Proof.Machine.execQueuePop queue s
  | .queuePush data => Sys2Proof.Machine.execQueuePush data s
  | .queueRoom => Sys2Proof.Machine.execQueueRoom s
  | .queueItemOffer queue => Sys2Proof.Machine.execQueueItemOffer queue s
  | .queueFlush queue => Sys2Proof.Machine.execQueueFlush queue s
  | .bypass tdi => Sys2Proof.Machine.execBypass tdi s
  | .idcode => Sys2Proof.Machine.execIdcode s
  | .samplePreload balls tdi => Sys2Proof.Machine.execSamplePreload balls tdi s
  | .extest balls tdi => Sys2Proof.Machine.execExtest balls tdi s
  | .atomLockReturn => Sys2Proof.Machine.execAtomLockReturn s
  | .mclkSynthLock group => Sys2Proof.Machine.execMclkSynthLock group s
  | .dllFbRestored dll => Sys2Proof.Machine.execDllFbRestored dll s
  | .roleClaimRelease => Sys2Proof.Machine.execRoleClaimRelease s
  | .passedActiveRequest => Sys2Proof.Machine.execPassedActiveRequest s
  | .unitLostToFault unit => Sys2Proof.Machine.execUnitLostToFault unit s

end Sys2Proof.Machine
end

