-- ==== Sys2Proof/Machine/Tick.lean ====
section
/-! DEFINITION. Machine/Tick.lean: one cycle of the datapath clock (R11, R15), which passes where no command waits. -/

namespace Sys2Proof.Machine

/-- 2.5 ns in units of 2⁻¹⁶ ns. -/
def cycleSub : Nat := 163840

/-- How many units of `TimeSt.frac` make one unit of 2⁻¹⁶ ns: the steering word counts 2⁻¹⁶ ppt. -/
def fracPerSub : Nat := 65536 * 10 ^ 12

/-- One cycle of the TAI counter (R15): 2.5 ns × (1 + s), with s the steering word; what lies below the counter's last bit is carried
on, so that nothing is lost. -/
def TimeSt.advance (t : TimeSt) (word : Int) : TimeSt :=
  let sum : Int := (t.frac : Int) + cycleSub * word
  { tai := t.tai.addSub (cycleSub + sum / fracPerSub), frac := (sum % fracPerSub).toNat, cycles := t.cycles + 1 }

/-- One datapath cycle passes: the TAI counter advances where the device is powered and out of RESET (R15, R441), and the cycle is
counted. DESIGN CHOICE (log 1). -/
def Dev.tick (d : Dev) : Dev :=
  if d.alive then { d with time := d.time.advance d.ref.word } else { d with time := { d.time with cycles := d.time.cycles + 1 } }

end Sys2Proof.Machine
end

