-- ==== Sys2Proof/Machine/Pins.lean ====
section
/-! DEFINITION. Machine/Pins.lean: what each signal pin shows (R43, R54, R69, R102, R425), a view of the state: no command reads it. -/

namespace Sys2Proof.Machine

/-- What a pin shows: high-impedance, a level, an input, or what its unit drives there (a link, a clock, data, a bus). -/
inductive PinLevel where
  | highZ | low | high | input | runs
  deriving DecidableEq, Repr

/-- The signals of R54 and R425 whose pins have a state of their own. -/
inductive Signal where
  | netTx (n : Fin 4) | irmTx | bypassA | bypassB | dout (port : Fin 16) | portIn (port : Fin 16) | mclk (group : Fin 8)
  | clkout (n : Fin 8) | pulse (n : Fin 4) | roleClaimN | faultOk | rstOutN | host | idBus | mgt | mdio | gpio | flash | ddr
  | ddrCke | ddrResetN | gnssTxd | hostRdy | serdesRef
  deriving DecidableEq, Repr

/-- A level. -/
def drivenTo (high : Bool) : PinLevel := if high then .high else .low

/-- DIS_STATE of an output that is disabled: 0 low, 1 high-impedance (R77). -/
def disState (v : Bool) : PinLevel := if v then .highZ else .low

/-- An output clock's pin (R54, R69, R70): driven low outside service; a running one drives its clock, a gated one is low, and one that
is disabled or has not started takes DIS_STATE. -/
def Dev.clkoutPin (d : Dev) (n : Nat) : PinLevel :=
  if d.mode.mode = .bootstrap then .highZ
  else if !d.outService then .low
  else if d.on (F.CLK_OUT_STATUS_RUNNING.at [n]) then .runs
  else if d.on (F.CLK_OUT_STATUS_GATED.at [n]) then .low
  else disState (d.on (F.CLK_OUT_CFG_DIS_STATE.at [n]))

/-- A media clock's pin (R54, R64, R75): a fade into SAFE_HOLD keeps it running, and then it is driven low. -/
def Dev.mclkPin (d : Dev) (g : Nat) : PinLevel :=
  if d.mode.mode = .bootstrap then .highZ
  else if d.mode.mode = .safeHold && !d.fading then .low
  else if d.on (F.CLK_MCLK_CFG_EN.at [g]) then .runs
  else disState (d.on (F.CLK_MCLK_CFG_DIS_STATE.at [g]))

/-- A pulse output's pin (R54, R102): driven in service alone, active from each leading edge for WIDTH × 10 µs. -/
def Dev.pulsePin (d : Dev) (p : Nat) : PinLevel :=
  if !d.serving then .highZ
  else
    let active := match (d.pulseSt p).last with
      | some e => e.le d.time.tai && d.time.tai.lt (d.pulseEnd p e)
      | none => false
    drivenTo (active != d.on (F.REF_PULSE_CFG_POLARITY.at [p]))

/-- What a signal's pin shows. Unpowered, in RESET or with TEST_EN high the device drives nothing (R43, R54). DESIGN CHOICE (log 191). -/
def Dev.pin (d : Dev) (x : Signal) : PinLevel :=
  if !d.alive || d.pins.testEn then (match x with | .portIn _ => .input | _ => .highZ)
  else match x with
    | .netTx _ | .irmTx | .mgt | .mdio | .idBus => .runs
    | .flash => if d.rd F.GCTL_BOOT_STATUS_BOOT_STEP < 1 then .highZ else .runs
    | .bypassA => drivenTo (!d.on F.NET_BYPASS_STATUS_A_ENERGISED)
    | .bypassB => drivenTo (!d.on F.NET_BYPASS_STATUS_B_ENERGISED)
    | .dout p => if d.drives && 2 ≤ d.aptState p.val then .runs else .highZ
    | .portIn _ => .input
    | .mclk g => d.mclkPin g.val
    | .clkout n => d.clkoutPin n.val
    | .pulse n => d.pulsePin n.val
    | .roleClaimN => if d.pair.claiming then .low else .highZ
    | .faultOk => (match d.faultOk with | some b => drivenTo b | none => .highZ)
    | .rstOutN => drivenTo d.pins.rstOut
    | .host => if d.pins.hostRole then .runs else .highZ
    | .gpio => if d.mode.mode = .bootstrap then .input else .runs
    | .ddr => if d.rd F.GCTL_BOOT_STATUS_BOOT_STEP < 4 then .highZ else .runs
    | .ddrCke => if d.rd F.GCTL_BOOT_STATUS_BOOT_STEP < 4 then .highZ else if d.clk.rootLost then .low else .runs
    | .ddrResetN => if d.rd F.GCTL_BOOT_STATUS_BOOT_STEP < 4 then .highZ else if d.clk.rootLost then .high else .runs
    | .gnssTxd => if d.mode.mode = .bootstrap then .high else .runs
    | .hostRdy => .low
    | .serdesRef =>
      if d.mode.mode = .bootstrap then .highZ
      else if d.on F.CLK_ROOT_CTL_SRD_REF_EN && !d.on F.CLK_ROOT_STATUS_ON_BACKUP then .runs else .low

end Sys2Proof.Machine
end

