-- ==== Sys2Proof/Safety.lean ====
section
/-! DEFINITION. Safety.lean: what a state owes to be in order whatever command acts, and what a safe run is. -/

namespace Sys2Proof.Machine

/-- What every step keeps: the TAI counter stays within its 48, 30 and 16 bits with fewer than 10⁹ nanoseconds (R6), and the packet
memory stays in its canonical form. -/
def State.inv (s : State) : Prop := s.dev.time.tai.wf = true ∧ s.mem.wf = true

/-- The machine goes on: a step answers a next state. -/
def State.goesOn (s : State) : Prop := ∃ t, step s = .next t

/-- The states that `k` steps lead through are all in order. -/
def State.safeFor : Nat → State → Prop
  | 0, s => s.inv
  | k + 1, s => s.inv ∧ ∀ t, step s = .next t → State.safeFor k t

end Sys2Proof.Machine
end

