-- ==== Sys2Proof/WellFormed.lean ====
section
/-! DEFINITION. WellFormed.lean: what a command's operands owe one another beyond their types. The meanings are total and answer on
every operand; a command that is not well formed says something that no event of the device says. -/

namespace Sys2Proof.Machine

/-- A firmware slot's header is 256 bytes and the hash of its body 32 (R46). -/
def Image.wf (i : Image) : Bool := i.header.length == 256 && i.bodyHash.length == 32

/-- DRAM training ends with 2, 4 or 8 GiB, or with none (R25, R45). -/
def BootInput.wf (b : BootInput) : Bool := [0, 2048, 4096, 8192].contains b.trainedMiB && b.slotA.wf && b.slotB.wf

/-- The stamps of a TIME frame are times (R304). -/
def TimeFrame.wf (f : TimeFrame) : Bool := f.sent.wf && f.echoed.wf && f.received.wf

/-- An index, a subindex, a row and a sequence number have the widths of a journal entry (R360). -/
def Command.wf (c : Command) : Bool :=
  decide (c.master < 2 ^ 32 ∧ c.op < 2 ^ 8 ∧ c.index < 2 ^ 16 ∧ c.sub < 2 ^ 8 ∧ c.row < 2 ^ 24 ∧ c.seq < 2 ^ 64)

/-- What the active sends in RESYNC has the sizes of what it copies (R317). -/
def StateItem.wf : StateItem → Bool
  | .libraryRow _ entry _ => entry.length == 64
  | .contextSlot _ _ _ _ values => decide (values.length ≤ 64)
  | .almanac _ bytes _ _ _ _ instant => bytes.length == 128 && instant.wf
  | .portRing _ _ _ _ words => decide (words.length ≤ 32)
  | .recorder _ values _ _ => decide (values.length ≤ 64)
  | .client set way entry => decide (set < 524288 ∧ way < 4) && entry.length == 64
  | .ptpSeries _ announce sync => decide (announce < 65536 ∧ sync < 65536)
  | _ => true

end Sys2Proof.Machine

namespace Sys2Proof

open Machine

/-- The commands whose operands hold together. -/
def Instr.wf : Instr → Bool
  | .bootStepEnd input => input.wf
  | .monitorUpdate ppt => decide (ppt.length ≤ 15)
  | .refPulseEdge _ stamp => stamp.wf
  | .leapArm _ leapAt => leapAt.wf
  | .ptpSyncRx _ _ detected => detected.wf
  | .ptpDelayReqRx _ _ detected _ => detected.wf
  | .ptpSyncTx _ launch => launch.wf
  | .ptpDelayReqTx _ launch => launch.wf
  | .ntpRequest _ _ _ detected launch => detected.wf && launch.wf
  | .almanacWrite _ _ entry => entry.length == 128
  | .frameRx _ _ _ detected => detected.wf
  | .mediaPacketRx _ vid flow _ detected =>
    decide (vid < 4096 ∧ flow.source < 2 ^ 128 ∧ flow.dest < 2 ^ 128 ∧ flow.udp < 65536) && detected.wf
  | .portFrame _ _ edge _ _ _ slots => edge.wf && decide (slots.length ≤ 32)
  | .libraryIndexWrite _ entry => entry.length == 64
  | .timeFrameRx frame => frame.wf
  | .commandFrameRx command => command.wf
  | .stateFrameRx item => item.wf
  | .sfpRead _ page => page.length == 0 || page.length == 128
  | .readBurst _ words => decide (0 < words.toNat)
  | .writeBurst _ data => decide (0 < data.length)
  | .updateApply blk unit => unit.isNone || decide (5 ≤ blk.val ∧ blk.val ≤ 10)
  | .extest balls tdi => decide (tdi.length ≤ balls.length)
  | .samplePreload balls tdi => decide (tdi.length ≤ balls.length)
  | _ => true

end Sys2Proof
end

