-- ==== Sys2Proof/Certificates/Slice0/Obligations.lean ====
section
/-! DEFINITION. Certificates/Slice0/Obligations.lean: the statements about the model. `Sys2Proof.Claims` holds what several of them say. -/

namespace Sys2Proof.Claims

open Sys2Proof.Machine

/-- Apart from the registers, the event queues and the event number, the state is the one before: what a command leaves that only
writes register fields and posts events. -/
def onlyRegisters (s t : State) : Prop :=
  t = { s with dev := { s.dev with regs := t.dev.regs, ques := t.dev.ques, evSeq := t.dev.evSeq } }

/-- Every register field outside block QUE (which holds the queues' own levels) reads as before, but for the fields named. -/
def registersBut (s t : State) (fs : List Fld) : Prop :=
  ∀ g : Fld, g.key / 2097152 % 16 ≠ 13 → g.key ∉ fs.map Fld.key → t.dev.rd g = s.dev.rd g

/-- A transition has been decided: its target, cause and master, in force when it takes effect (R40). -/
def decides (t : State) (target : Mode) (cause master : Nat) : Prop :=
  t.dev.mode.decided = some ⟨target, cause, master⟩

/-- What a device sends on a port in a class (R179): it leaves at once where the transmitter is free for the class, and otherwise it
waits in the port’s queue. -/
def sends (d : Dev) (t : State) (p cls : Nat) (o : Out) : Prop :=
  (d.txFree p cls = true → t.dev.out = d.out ++ [o]) ∧
  (d.txFree p cls = false → t.dev.out = d.out ∧ (t.dev.port p).txq = (d.port p).txq ++ [⟨cls, none, o⟩])

/-- A cascade message to an address, by the port that carries them (R322). -/
def sendsCascade (d : Dev) (t : State) (address m : List Byte) : Prop :=
  sends d t d.casPort 4 (.datagram (portOf d.casPort) address m)

/-- The counter of the frames that a port has sent (R185). -/
def transmitted (p : Port) : List Fld := [if p.num = 4 then F.MGT_COUNT_COUNT.at [14] else F.NET_COUNT_COUNT.at [p.num, 14]]

/-- Apart from the registers, the event queues and the event number, the device is `d`, and the rest of the state is the one before. -/
def asBut (t : State) (s : State) (d : Dev) : Prop :=
  t = { s with dev := { d with regs := t.dev.regs, ques := t.dev.ques, evSeq := t.dev.evSeq } }

/-- The device and its packet memory, as a command of the Dictionary works on them. -/
def boxOf (s : State) : Box := { base := s.mem, dev := s.dev }

/-- The host port may ask for a WRITE or EXEC that passes checks 1 to 8 of R349 and finds room in the journal (R362, R393). -/
def hostMay (s : State) (exec : Bool) (index sub row : Nat) (value : List Byte) : Prop :=
  s.dev.booted = true ∧ s.dev.pins.hostRole = true ∧ s.dev.isFrozen 1 = false ∧ s.dev.journalRoom = true ∧
  (if exec then s.dev.execChecks { hostAsker with origin := 0 } index sub row value
   else View.writeChecks ⟨(boxOf s).mem, s.dev, 1⟩ { hostAsker with origin := 0 } index sub row value) = .ok

/-- The same for a session in a slot (R349). -/
def sessionMay (s : State) (slot : Nat) (x : Session) (exec : Bool) (index sub row : Nat) (value : List Byte) : Prop :=
  s.dev.booted = true ∧ s.dev.slotSession slot = some x ∧ s.dev.isFrozen x.id = false ∧ s.dev.journalRoom = true ∧
  (if exec then s.dev.execChecks ⟨x.id, x.role, 0, false, 0⟩ index sub row value
   else View.writeChecks ⟨(boxOf s).mem, s.dev, x.id⟩ ⟨x.id, x.role, 0, false, 0⟩ index sub row value) = .ok

/-- A datagram of one kind that a port takes and that bears the tag of an open session. -/
def authentic (s : State) (port : Port) (datagram : List Byte) (kind : Nat) (g : Dgram) (x : Session) : Prop :=
  Dgram.parse datagram = some g ∧ s.dev.odpPort port = true ∧ g.kind = kind ∧ s.dev.session g.session = some x ∧
  s.dev.slotSession (x.id % 32) = some x ∧ hmac16 x.key g.signed = g.tag

/-- A REQUEST for this device under a fresh SEQ, its length as its value has it (R346, R347). -/
def asks (s : State) (port : Port) (datagram : List Byte) (op : Nat) (g : Dgram) (x : Session) : Prop :=
  authentic s port datagram 5 g x ∧ beAt g.body 0 1 = op ∧ x.classOf g.seq = .fresh ∧ g.body.length = 12 + beAt g.body 10 2 ∧
  (g.target = 0xFFFF ∨ g.target = s.dev.rank)

/-- The device once a session's fresh datagram has been noted (R345, R346). -/
def noted (s : State) (port : Port) (source : List Byte) (g : Dgram) (x : Session) : Dev :=
  (s.dev.sessionIn port source g).1.setSession (({ x with heard := s.dev.time.cycles } : Session).noteSeq g.seq)

/-- The asker of a session's datagram. -/
def askerOf (x : Session) : Asker := ⟨x.id, x.role, 2 + x.id % 32, false, 0⟩

/-- A row of the Almanac whose only occurrence has resolved: DONE, with its result (R150, R152). -/
def rowDone (t : State) (row : Nat) (x : AlmRow) (result : Nat) : Prop :=
  ∃ y, t.dev.almRow row = some y ∧ y.state = 6 ∧ y.inst = none ∧ y.occ = x.occ + 1 ∧ y.result = result

/-- A row that the device's own entry occupies, its current occurrence at an instant, with no RETRACT outstanding anywhere. -/
def ownRow (s : State) (row : Nat) (x : AlmRow) (at_ : Tai) : Prop :=
  s.dev.booted = true ∧ s.dev.almRow row = some x ∧ x.inst = some at_ ∧ x.copy = false ∧ s.dev.alm.retracting = []

end Sys2Proof.Claims

open Sys2Proof Sys2Proof.Machine Sys2Proof.Claims

/-- R41, R43, R44: the supplies and RST_N. Valid supplies with RST_N low place the device in RESET with every register at its reset
value; a failing supply inhibits MRAM writes and loses what the journal staged (R430, R363); RST_N low enters RESET from any mode;
RST_N high samples the straps and starts BOOTSTRAP. The configuration store survives each (R53).
Where the spec leaves a point open, the model’s choice stands (log 12, 13). -/
def Obligations.SuppliesAndResetPin : Prop :=
  ∀ s : State,
    (s.dev.pins.supplies = false →
      ∃ t, exec .powerOn s = .next t ∧ t.dev.pins.supplies = true ∧ t.dev.pins.rstN = false ∧ t.dev.mode.mode = .reset ∧
        t.dev.regs = {} ∧ t.dev.time.tai = ⟨0, 0, 0⟩ ∧ t.dev.odp.store = s.dev.odp.store ∧ t.dev.odp.journal = s.dev.odp.journal) ∧
    (s.dev.pins.supplies = true →
      ∃ t, exec .powerFail s = .next t ∧ t.dev.pins.supplies = false ∧ t.dev.pins.mramInhibit = true ∧ t.dev.mode.mode = .reset ∧
        t.dev.odp.journal.staged = [] ∧ t.dev.odp.journal.ring = s.dev.odp.journal.ring ∧
        t.dev.odp.store = s.dev.odp.store) ∧
    (s.dev.pins.supplies = true → s.dev.pins.rstN = true →
      ∃ t, exec .rstNLow s = .next t ∧ t.dev.pins.rstN = false ∧ t.dev.mode.mode = .reset ∧ t.dev.regs = {} ∧
        t.dev.time.tai = ⟨0, 0, 0⟩ ∧ t.dev.odp.store = s.dev.odp.store) ∧
    (∀ (sel : Fin 4) (side host test : Bool), s.dev.pins.supplies = true → s.dev.pins.rstN = false →
      ∃ t, exec (.rstNHigh sel side host test) s = .next t ∧ t.dev.mode.mode = .bootstrap ∧ t.dev.mode.prev = s.dev.mode.mode ∧
        t.dev.mode.cause = (if s.dev.pins.firstRise then 0 else 1) ∧ t.dev.mode.count = (s.dev.mode.count + 1) % 256 ∧
        t.dev.rd F.GCTL_BOOT_STATUS_PAIR_SIDE = bit side ∧ t.dev.rd F.GCTL_BOOT_STATUS_HOST_ROLE = bit host ∧
        t.dev.rd F.GCTL_IRQ_STATUS_MODE_CHANGE = 1 ∧ t.dev.odp.store = s.dev.odp.store)

/-- R45, R46, R61: steps of the power-up sequence. Step 2 clears the SRAM and counts the boot; step 4 with no image that verifies
decides MAINTENANCE with cause 0x13; step 10 decides SAFE_HOLD for a held cause, else COMMISSION where no valid configuration is stored;
a root that has not locked is left for the backup oscillator, with cause 0x06 held.
Where the spec leaves a point open, the model’s choice stands (log 15, 20). -/
def Obligations.PowerUpSequenceSteps : Prop :=
  (∀ (s : State) (input : BootInput), s.dev.booting = true → s.dev.nextBootStep = 2 → s.mem.wf = true →
    ∃ t, exec (.bootStepEnd input) s = .next t ∧ t.dev.rd F.GCTL_BOOT_STATUS_BOOT_STEP = 2 ∧ (∀ a, t.mem.read a = 0) ∧
      t.dev.obj 0x1040 7 0 = (s.dev.bootCount + 1) % 2 ^ 32) ∧
  (∀ (s : State) (input : BootInput), s.dev.booting = true → s.dev.nextBootStep = 4 →
    s.dev.pickImage input.slotA input.slotB = none →
    ∃ t, exec (.bootStepEnd input) s = .next t ∧ decides t .maintenance 0x13 0 ∧ t.mem = s.mem) ∧
  (∀ (s : State) (input : BootInput) (c : Nat), s.dev.booting = true → s.dev.nextBootStep = 10 → firstCause s.dev.mode.held = some c →
    ∃ t, exec (.bootStepEnd input) s = .next t ∧ t.dev.rd F.GCTL_BOOT_STATUS_BOOT_STEP = 10 ∧ decides t .safeHold c 0) ∧
  (∀ (s : State) (input : BootInput), s.dev.booting = true → s.dev.nextBootStep = 10 → firstCause s.dev.mode.held = none →
    s.dev.boot.configCause ≠ 5 →
    ∃ t, exec (.bootStepEnd input) s = .next t ∧ t.dev.rd F.GCTL_BOOT_STATUS_BOOT_STEP = 10 ∧
      decides t .commission s.dev.boot.configCause 0) ∧
  (∀ s : State, s.dev.booting = true → s.dev.rd F.GCTL_BOOT_STATUS_BOOT_STEP = 0 →
    ∃ t, exec .rootLockTimeout s = .next t ∧ t.dev.rd F.GCTL_BOOT_STATUS_BOOT_STEP = 1 ∧ t.dev.rd F.CLK_ROOT_STATUS_ON_BACKUP = 1 ∧
      t.dev.rd F.CLK_ROOT_STATUS_ROOT_LOCKED = 0 ∧ 0x06 ∈ t.dev.mode.held)

/-- R52, R53, R59, R42: the pair start rule looks again after 2 s; the watchdog and an allowed auto-restart are internal resets with
their causes; a decided transition to RESET takes effect as an internal reset with the requester's master in its record, and clears
the record of auto-restarts.
Where the spec leaves a point open, the model’s choice stands (log 22). -/
def Obligations.InternalResetsAndPairStart : Prop :=
  (∀ (s : State) (low : Bool) (since : Nat), s.dev.boot.pairWait = some since → s.dev.alive = true → s.dev.past since 2000 = true →
    (s.dev.mode.mode = .bootstrap → firstCause s.dev.mode.held = none) →
    ∃ t, exec (.pairStartResample low) s = .next t ∧ t.dev.boot.pairWait = none ∧
      t.dev.mode.decided = some ⟨if low then .resync else .active, 0x15, (s.dev.mode.decided.map (·.master)).getD 0⟩ ∧
      (low = false → t.dev.pair.claiming = true)) ∧
  (∀ s : State, s.dev.alive = true →
    ∃ t, exec .controlCoreWatchdog s = .next t ∧ t.dev.mode.mode = .bootstrap ∧ t.dev.mode.cause = 0x11 ∧ t.dev.mode.count = 1 ∧
      t.dev.mode.prev = .reset ∧ t.dev.mode.restarts = s.dev.mode.restarts ∧ t.dev.odp.store = s.dev.odp.store) ∧
  (∀ (s : State) (since : Nat), s.dev.alive = true → s.dev.mode.mode = .safeHold → s.dev.mode.decided = none →
    s.dev.mode.cause ≠ 0x02 → s.dev.mode.clearSince = some since → s.dev.past since 10000 = true → s.dev.mode.spent = false →
    s.dev.obj 0x1041 0 0 1 = 1 → s.dev.mode.restarts.length < 3 →
    ∃ t, exec .safeHoldAutoRestart s = .next t ∧ t.dev.mode.mode = .bootstrap ∧ t.dev.mode.cause = 0x12 ∧
      t.dev.mode.restarts = s.dev.mode.restarts ++ [s.dev.time.cycles]) ∧
  (∀ (s : State) (low : Bool) (cause master : Nat), s.dev.alive = true → s.dev.mode.decided = some ⟨.reset, cause, master⟩ →
    ∃ t, exec (.modeTransition low) s = .next t ∧ t.dev.mode.mode = .bootstrap ∧ t.dev.mode.cause = 0x02 ∧
      t.dev.mode.restarts = [] ∧ t.dev.odp.store = s.dev.odp.store)

/-- R55 to R58, R332: a launched MODE action is judged by the tests of R55, and an accepted request for SAFE_HOLD decides it with cause
0x02; the watch of R56 sets the island, and LANTERN is decided where it is enabled; the island cleared for LanternReturn decides the
return to the mode of entry; a contact's stable level is taken; TJ or a rail past its limit is SAFE_HOLD cause 0x09.
Where the spec leaves a point open, the model’s choice stands (log 25, 33). -/
def Obligations.RequestsIslandAndLimits : Prop :=
  (∀ (s : State) (row : Fin 4096) (value : Byte) (x : AlmRow) (at_ : Tai), s.dev.booted = true → s.dev.almRow row = some x →
    x.state = 4 → x.inst = some at_ → at_.le s.dev.time.tai = true → x.modeAsked = some value.toNat →
    ∃ t, exec (.modeRequest (.almanac row value)) s = .next t ∧
      t.dev.mode.lastStatus = s.dev.judgeRequest value.toNat ((roleOf x.role).getD .observer) ∧
      (requestable (value.toNat % 16) = some .safeHold → s.dev.mode.mode ≠ .safeHold → t.dev.mode.lastStatus = .ok →
        decides t .safeHold 0x02 0)) ∧
  (∀ s : State, s.dev.booted = true → s.dev.mode.mode.netServes = true → s.dev.island.islanded = false →
    s.dev.past s.dev.island.heard (s.dev.lanternDetect * 1000) = true →
    ∃ t, exec .islandDetect s = .next t ∧ t.dev.island.islanded = true ∧ t.dev.regs = s.dev.regs ∧
      (s.dev.mode.mode = .solo → s.dev.obj 0x1030 3 0 1 = 1 → s.dev.mode.decided = none → decides t .lantern 0x0A 0)) ∧
  (∀ (s : State) (since : Nat), s.dev.booted = true → s.dev.mode.mode = .lantern → s.dev.island.islanded = false →
    s.dev.mode.decided = none → s.dev.island.clearAt = some since → s.dev.lanternReturn ≠ 0 →
    s.dev.past since (s.dev.lanternReturn * 1000) = true →
    ∃ t, exec .lanternReturn s = .next t ∧ decides t s.dev.mode.origin 0x0B 0 ∧ t.dev.regs = s.dev.regs) ∧
  (∀ (s : State) (gpio : Fin 16) (level : Bool), s.dev.booted = true → s.dev.mode.mode ≠ .lantern →
    ∃ t, exec (.lanternTrigger gpio level) s = .next t ∧
      (t.dev.contacts.get {} gpio).closed = (level == (s.dev.trigger gpio 2 == 1)) ∧ t.dev.lib = s.dev.lib) ∧
  (∀ (s : State) (gpio : Fin 16) (level : Bool), s.dev.booted = true → s.dev.mode.mode = .lantern → s.dev.trigger gpio 1 = 1 →
    s.dev.trigger gpio 3 = 1 → (s.dev.contacts.get {} gpio).closed = true → (level == (s.dev.trigger gpio 2 == 1)) = false →
    ∃ t, exec (.lanternTrigger gpio level) s = .next t ∧ t.dev.contacts.get {} gpio = { closed := false, voice := none }) ∧
  (∀ (s : State) (rail : Bool), s.dev.alive = true → (rail = true ∨ 10 ≤ s.dev.pwr.hot) → s.dev.mode.mode ≠ .safeHold →
    s.dev.mode.mode ≠ .bootstrap → s.dev.mode.decided = none →
    ∃ t, exec (.criticalLimit rail) s = .next t ∧ decides t .safeHold 0x09 0 ∧ t.dev.regs = s.dev.regs)

/-- R62 to R65: losing the root switches the domains to the backup, saturates the bound and is SAFE_HOLD cause 0x06; a relock sets
ROOT_LOCKED again, starts the clearing of cause 0x06, or releases a device held in reset; each second the backup's offset before its
trim is reported, and a backup that cannot be trimmed is at fault.
Where the spec leaves a point open, the model’s choice stands (log 23, 40). -/
def Obligations.RootClockAndItsBackup : Prop :=
  (∀ (s : State) (xo : Bool), s.dev.alive = true → s.dev.on F.CLK_ROOT_STATUS_ROOT_LOCKED = true →
    s.dev.on F.CLK_ROOT_STATUS_BACKUP_FAULT = false → s.dev.mode.mode ≠ .bootstrap → s.dev.mode.mode ≠ .safeHold →
    s.dev.mode.decided = none →
    ∃ t, exec (.rootLockLost xo) s = .next t ∧ t.dev.rd F.CLK_ROOT_STATUS_ROOT_LOCKED = 0 ∧
      t.dev.rd F.CLK_ROOT_STATUS_ON_BACKUP = 1 ∧ t.dev.rd F.TIM_BOUND_NOW_BOUND = boundSat ∧ t.dev.clk.rootLost = true ∧
      decides t .safeHold 0x06 0) ∧
  (∀ s : State, s.dev.alive = true → s.dev.clk.heldInReset = false → s.dev.on F.CLK_ROOT_STATUS_ROOT_LOCKED = false →
    ∃ t, exec .rootRelock s = .next t ∧ t.dev.rd F.CLK_ROOT_STATUS_ROOT_LOCKED = 1 ∧ t.dev.rd F.CLK_ROOT_STATUS_XO_PRESENT = 1 ∧
      registersBut s t [F.CLK_ROOT_STATUS_ROOT_LOCKED, F.CLK_ROOT_STATUS_XO_PRESENT] ∧
      (s.dev.mode.mode = .safeHold → s.dev.mode.cause = 0x06 → s.dev.mode.clearSince = none →
        t.dev.mode.clearSince = some s.dev.time.cycles)) ∧
  (∀ s : State, s.dev.pins.supplies = true → s.dev.clk.heldInReset = true →
    ∃ t, exec .rootRelock s = .next t ∧ t.dev.mode.mode = .bootstrap ∧ t.dev.mode.cause = 0x06 ∧ t.dev.clk.heldInReset = false) ∧
  (∀ (s : State) (offset : Int) (trimmed : Bool), s.dev.alive = true → s.dev.on F.CLK_ROOT_STATUS_ROOT_LOCKED = true →
    -32768 ≤ offset → offset ≤ 32767 →
    ∃ t, exec (.backupTrim offset trimmed) s = .next t ∧ t.dev.rdS F.CLK_ROOT_STATUS_BACKUP_OFFSET = offset ∧
      t.dev.rd F.CLK_ROOT_STATUS_BACKUP_FAULT = bit (!trimmed) ∧ onlyRegisters s t ∧
      registersBut s t [F.CLK_ROOT_STATUS_BACKUP_OFFSET, F.CLK_ROOT_STATUS_BACKUP_FAULT, F.CLK_IRQ_STATUS_BACKUP_FAULT,
        F.CLK_ROOT_STICKY_BACKUP_FAULT_SEEN])

/-- R67 to R71: a synthesizer that loses lock loses LOCKED and ALIGNED, counts the loss and gates its outputs; it locks again; at its
alignment instant it is ALIGNED; an enabled output whose synthesizer is aligned starts at an edge of its grid; pending dividers switch together at their instant. -/
def Obligations.SynthesizersAndOutputs : Prop :=
  (∀ (s : State) (n : Fin 4), s.dev.alive = true → s.dev.on (F.CLK_SYN_STATUS_LOCKED.at [n]) = true →
    ∃ t, exec (.synthLockLost n) s = .next t ∧ t.dev.rd (F.CLK_SYN_STATUS_LOCKED.at [n]) = 0 ∧
      t.dev.rd (F.CLK_SYN_STATUS_ALIGNED.at [n]) = 0 ∧
      t.dev.rd (F.CLK_SYN_STATUS_UNLOCK_COUNT.at [n]) = satAdd 8 (s.dev.rd (F.CLK_SYN_STATUS_UNLOCK_COUNT.at [n])) 1 ∧
      (∀ k ∈ s.dev.outputsOf n, t.dev.rd (F.CLK_OUT_STATUS_RUNNING.at [k]) = 0 ∧ t.dev.rd (F.CLK_OUT_STATUS_GATED.at [k]) = 1)) ∧
  (∀ (s : State) (n : Fin 4), s.dev.alive = true → s.dev.on F.CLK_ROOT_STATUS_ON_BACKUP = false →
    ∃ t, exec (.synthRelock n) s = .next t ∧ t.dev.rd (F.CLK_SYN_STATUS_LOCKED.at [n]) = 1 ∧
      registersBut s t [F.CLK_SYN_STATUS_LOCKED.at [n]] ∧
      (s.dev.on (F.CLK_SYN_STATUS_LOCKED.at [n]) = false → t.dev.clk.locked.find? n = some s.dev.time.tai)) ∧
  (∀ (s : State) (n : Fin 4), s.dev.alive = true → s.dev.on (F.CLK_SYN_STATUS_LOCKED.at [n]) = true →
    s.dev.alignDue n = true →
    ∃ t, exec (.synthAligned n) s = .next t ∧ t.dev.rd (F.CLK_SYN_STATUS_ALIGNED.at [n]) = 1 ∧
      registersBut s t [F.CLK_SYN_STATUS_ALIGNED.at [n]]) ∧
  (∀ (s : State) (n : Fin 8), s.dev.alive = true → s.dev.outService = true → s.dev.startDue n = true →
    s.dev.on (F.CLK_OUT_CFG_EN.at [n]) = true →
    s.dev.on (F.CLK_SYN_STATUS_ALIGNED.at [s.dev.rd (F.CLK_OUT_CFG_SRC.at [n])]) = true →
    s.dev.on (F.CLK_OUT_CFG_WAIT_DLL.at [n]) = false →
    ∃ t, exec (.clkoutStart n) s = .next t ∧ t.dev.rd (F.CLK_OUT_STATUS_RUNNING.at [n]) = 1 ∧
      t.dev.rd (F.CLK_OUT_STATUS_GATED.at [n]) = 0 ∧ t.dev.clk.waiting.find? n = none ∧
      registersBut s t [F.CLK_OUT_STATUS_RUNNING.at [n], F.CLK_OUT_STATUS_GATED.at [n]]) ∧
  (∀ (s : State) (n : Fin 8) (v : BitVec 24), s.dev.alive = true →
    s.dev.clk.pend = [((F.CLK_OUT_DIV_DIV.at [n]).key, v.toNat)] →
    s.dev.switchAt ≤ s.dev.time.tai.toSub →
    ∃ t, exec .dividerSwitch s = .next t ∧ t.dev.rd (F.CLK_OUT_DIV_DIV.at [n]) = v.toNat ∧ t.dev.clk.pend = [] ∧
      ∀ k : Fin 8, t.dev.rd (F.CLK_OUT_STATUS_PENDING_DIV.at [k]) = 0)

/-- R73, R74: a DLL locks on the delay it needs, or at the end of its line with RANGE_ERR; a locked one moves by at most one step in 1 ms; a
lost feedback holds the delay, and 16 good periods resume tracking.
Where the spec leaves a point open, the model’s choice stands (log 38, 39). -/
def Obligations.DelayLockedLines : Prop :=
  (∀ (s : State) (k : Fin 2) (loop : BitVec 16), s.dev.alive = true → s.dev.on (F.CLK_DLL_CFG_EN.at [k]) = true →
    s.dev.on (F.CLK_DLL_STATUS_FB_LOST.at [k]) = false → s.dev.dllMeasures k = true → s.dev.dllNeed k loop.toNat ≤ 1536 →
    ∃ t, exec (.dllLock k loop) s = .next t ∧ t.dev.rd (F.CLK_DLL_STATUS_DELAY.at [k]) = s.dev.dllNeed k loop.toNat ∧
      t.dev.rd (F.CLK_DLL_STATUS_LOCKED.at [k]) = 1 ∧ t.dev.rd (F.CLK_DLL_STATUS_RANGE_ERR.at [k]) = 0 ∧
      t.dev.rd (F.CLK_DLL_LOOP_LOOP_DELAY.at [k]) = loop.toNat ∧ onlyRegisters s t) ∧
  (∀ (s : State) (k : Fin 2) (loop : BitVec 16), s.dev.alive = true → s.dev.on (F.CLK_DLL_CFG_EN.at [k]) = true →
    s.dev.on (F.CLK_DLL_STATUS_FB_LOST.at [k]) = false → s.dev.dllMeasures k = true → 1536 < s.dev.dllNeed k loop.toNat →
    ∃ t, exec (.dllLock k loop) s = .next t ∧ t.dev.rd (F.CLK_DLL_STATUS_DELAY.at [k]) = 1536 ∧
      t.dev.rd (F.CLK_DLL_STATUS_RANGE_ERR.at [k]) = 1 ∧ onlyRegisters s t) ∧
  (∀ (s : State) (k : Fin 2) (loop : BitVec 16), s.dev.alive = true → s.dev.on (F.CLK_DLL_CFG_EN.at [k]) = true →
    s.dev.on (F.CLK_DLL_STATUS_LOCKED.at [k]) = true → s.dev.on (F.CLK_DLL_STATUS_FB_LOST.at [k]) = false →
    s.dev.rd (F.CLK_DLL_STATUS_DELAY.at [k]) ≤ 1536 →
    ∃ t, exec (.dllTrack k loop) s = .next t ∧ t.dev.rd (F.CLK_DLL_LOOP_LOOP_DELAY.at [k]) = loop.toNat ∧
      t.dev.rd (F.CLK_DLL_STATUS_DELAY.at [k]) ≤ s.dev.rd (F.CLK_DLL_STATUS_DELAY.at [k]) + 1 ∧
      s.dev.rd (F.CLK_DLL_STATUS_DELAY.at [k]) ≤ t.dev.rd (F.CLK_DLL_STATUS_DELAY.at [k]) + 1 ∧
      ((s.dev.clk.tracked.find? k).all (fun c => s.dev.past c 1) = true →
        s.dev.rd (F.CLK_DLL_STATUS_DELAY.at [k]) < s.dev.dllNeed k loop.toNat → s.dev.rd (F.CLK_DLL_STATUS_DELAY.at [k]) < 1536 →
        t.dev.rd (F.CLK_DLL_STATUS_DELAY.at [k]) = s.dev.rd (F.CLK_DLL_STATUS_DELAY.at [k]) + 1) ∧
      t = { s with dev := { s.dev with regs := t.dev.regs, ques := t.dev.ques, evSeq := t.dev.evSeq,
                                       clk := { s.dev.clk with tracked := t.dev.clk.tracked } } }) ∧
  (∀ (s : State) (k : Fin 2), s.dev.alive = true → s.dev.on (F.CLK_DLL_CFG_EN.at [k]) = true →
    ∃ t, exec (.dllFbLost k) s = .next t ∧ t.dev.rd (F.CLK_DLL_STATUS_FB_LOST.at [k]) = 1 ∧
      t.dev.rd (F.CLK_DLL_STATUS_DELAY.at [k]) = s.dev.rd (F.CLK_DLL_STATUS_DELAY.at [k]) ∧ onlyRegisters s t) ∧
  (∀ (s : State) (k : Fin 2), s.dev.alive = true → s.dev.on (F.CLK_DLL_CFG_EN.at [k]) = true →
    ∃ t, exec (.dllFbRestored k) s = .next t ∧ t.dev.rd (F.CLK_DLL_STATUS_FB_LOST.at [k]) = 0 ∧ onlyRegisters s t ∧
      registersBut s t [F.CLK_DLL_STATUS_FB_LOST.at [k]])

/-- R96, R97, R100, R101, R441: at a loop tick the TAI counter moves only with what the last tick decided. A unit that follows no
partner moves it by the step of its selection, or, before TIME_VALID, sets it by the slot’s offset; without a selection, or under
LOOP_MODE HOLD, it stays. A standby steps by what its partner told it, from the tick that the record names on; before TIME_VALID it
takes the time that its partner set, or, told of none, the offset of its own selection.
Where the spec leaves a point open, the model’s choice stands (log 52, 54, 58, 60). -/
def Obligations.LoopTickMovesTaiOnlyBySelection : Prop :=
  ∀ (s : State) (edges : BitVec 16) (ferr perr : Int), s.dev.loopRuns = true → s.dev.time.tai.wf = true →
    ∃ t, exec (.loopTick edges ferr perr) s = .next t ∧ t.dev.time.cycles = s.dev.time.cycles ∧ t.mem = s.mem ∧
      (s.dev.follows = false → (s.dev.rd F.REF_LOOP_CFG_LOOP_MODE = 1 ∨ s.dev.ref.choice.time = none ∨ s.dev.ref.choice.delta = none) →
        t.dev.time.tai = s.dev.time.tai) ∧
      (∀ n x, s.dev.follows = false → s.dev.rd F.REF_LOOP_CFG_LOOP_MODE ≠ 1 → s.dev.ref.choice.time = some n →
        s.dev.ref.choice.delta = some x → t.dev.time.tai = s.dev.time.tai.addSub (x * 4096)) ∧
      (s.dev.follows = true → s.dev.on F.REF_SEL_STATUS_TIME_VALID = true → s.dev.ref.due = none →
        t.dev.time.tai = s.dev.time.tai) ∧
      (∀ k x, s.dev.follows = true → s.dev.on F.REF_SEL_STATUS_TIME_VALID = true → s.dev.ref.due = some (k, x) →
        t.dev.time.tai = if k ≤ loopTickNo s.dev.time.tai then s.dev.time.tai.addSub (x * 4096) else s.dev.time.tai) ∧
      (∀ m, s.dev.follows = true → s.dev.on F.REF_SEL_STATUS_TIME_VALID = false → s.dev.pair.setTai = some m → m.wf = true →
        t.dev.time.tai = m) ∧
      (∀ n x, s.dev.follows = true → s.dev.on F.REF_SEL_STATUS_TIME_VALID = false → s.dev.pair.setTai = none →
        s.dev.rd F.REF_LOOP_CFG_LOOP_MODE ≠ 1 → s.dev.ref.choice.time = some n → s.dev.ref.choice.delta = some x →
        t.dev.time.tai = s.dev.time.tai.addSub (x * 4096))

/-- R88 to R90: each second an active slot's monitor shows its measured frequency, saturated; a loss of activity makes a slot that was
qualifying, qualified or waiting LOST; a window passed makes a qualifying slot QUALIFIED; WTR restores a slot or starts again.
Where the spec leaves a point open, the model’s choice stands (log 41). -/
def Obligations.SlotMonitorsAndQualification : Prop :=
  (∀ (s : State) (ppt : List Int) (n : Fin 16), s.dev.booted = true → s.dev.slotState n ≠ 0 →
    s.dev.on (F.REF_SLOT_STATUS_ACTIVITY.at [n]) = true →
    ∃ t, exec (.monitorUpdate ppt) s = .next t ∧
      t.dev.rdS (F.REF_SLOT_MEAS_FREQ_MEAS_FREQ.at [n]) = clampInt (-2147483648) 2147483647 (ppt.getD n 0)) ∧
  (∀ (s : State) (n : Fin 16), s.dev.booted = true → (s.dev.slotState n = 2 ∨ s.dev.slotState n = 3 ∨ s.dev.slotState n = 4) →
    s.dev.pulsesMissing n = true →
    ∃ t, exec (.activityLoss n) s = .next t ∧ t.dev.slotState n = 1 ∧ t.dev.rd (F.REF_SLOT_STATUS_ACTIVITY.at [n]) = 0 ∧
      t.dev.rd (F.REF_SLOT_STICKY_LOS_SEEN.at [n]) = 1 ∧ (t.dev.slot n).pulse = none ∧
      t.dev.rd (F.REF_SLOT_STATUS_DISAGREE.at [n]) = 0 ∧
      registersBut s t [F.REF_SLOT_STATUS_STATE.at [n], F.REF_SLOT_STATUS_ACTIVITY.at [n], F.REF_SLOT_STATUS_DISAGREE.at [n],
        F.REF_SLOT_STICKY_LOS_SEEN.at [n]]) ∧
  (∀ (s : State) (n : Fin 16), s.dev.booted = true → s.dev.slotState n = 2 → (s.dev.slot n).failed = false →
    s.dev.past (s.dev.slot n).winStart s.dev.qualWinMs = true →
    ∃ t, exec (.qualWinElapsed n) s = .next t ∧ t.dev.slotState n = 3 ∧ t.dev.rd (F.REF_SLOT_STICKY_QUALIFIED_SEEN.at [n]) = 1 ∧
      onlyRegisters s t ∧ registersBut s t [F.REF_SLOT_STATUS_STATE.at [n], F.REF_SLOT_STICKY_QUALIFIED_SEEN.at [n]]) ∧
  (∀ (s : State) (n : Fin 16), s.dev.booted = true → s.dev.slotState n = 4 →
    s.dev.past (s.dev.slot n).wtrStart (1000 * s.dev.rd F.REF_QUAL_CFG_WTR) = true →
    ((s.dev.slot n).updated = true ∨ s.dev.rd F.REF_QUAL_CFG_WTR ≠ 0) →
    ∃ t, exec (.wtrElapsed n) s = .next t ∧
      (s.dev.passedWindow n = true → t.dev.slotState n = 3 ∧ registersBut s t [F.REF_SLOT_STATUS_STATE.at [n]]) ∧
      (s.dev.passedWindow n = false → t.dev.regs = s.dev.regs ∧ (t.dev.slot n).wtrStart = s.dev.time.cycles))

/-- R80 to R83: a pulse is timestamped and, on a PPS slot, labelled with the nearest second; a sentence is kept until its pair arrives,
and one whose status is not A holds the GNSS rank at 255; ATOM_LOCK gates the ATOM rank; without ESMC for 5 s the rank is that of
QL-FAILED.
Where the spec leaves a point open, the model’s choice stands (log 50). -/
def Obligations.PulsesSentencesAndGates : Prop :=
  (∀ (s : State) (n : Fin 5) (stamp : Tai), n.val < 4 → s.dev.booted = true → s.dev.on (F.REF_SLOT_CFG_EN.at [n]) = true →
    s.dev.pulseSlot n = true →
    ∃ t, exec (.refPulseEdge n stamp) s = .next t ∧ t.dev.rd (F.REF_SLOT_STATUS_ACTIVITY.at [n]) = 1 ∧
      (t.dev.slot n).pulse = some stamp ∧
      (t.dev.slot n).offset = s.dev.phaseOf n (stamp.sec + (if 500000000 ≤ stamp.ns then 1 else 0)) stamp) ∧
  (∀ (s : State) (utc : Nat) (leap : Bool), s.dev.booted = true → s.dev.secondOk leap = true → s.dev.ref.gnss.rmc = none →
    ∃ t, exec (.nmeaSentence (.zda utc leap)) s = .next t ∧ t.dev.ref.gnss.zda = some (utc, s.dev.time.cycles) ∧
      t.dev.ref.gnss.zdaTai = s.dev.labelTai utc leap ∧ t.dev.regs = s.dev.regs) ∧
  (∀ (s : State) (utc : Nat), s.dev.booted = true → s.dev.ref.gnss.rmc = none →
    ∃ t, exec (.nmeaSentence (.rmc utc false)) s = .next t ∧ (t.dev.slot 4).gated = true ∧ t.dev.regs = s.dev.regs) ∧
  (∀ s : State, s.dev.booted = true → ∃ t, exec .atomLockLoss s = .next t ∧ (t.dev.slot 5).gated = true ∧ t.dev.regs = s.dev.regs) ∧
  (∀ s : State, s.dev.booted = true → ∃ t, exec .atomLockReturn s = .next t ∧ (t.dev.slot 5).gated = false ∧ t.dev.regs = s.dev.regs) ∧
  (∀ (s : State) (p : Fin 4), s.dev.booted = true →
    ∃ t, exec (.esmcTimeout p) s = .next t ∧ (t.dev.slot (6 + p)).advRank = 255 ∧ t.dev.regs = s.dev.regs)

/-- R105, R107: each whole second the mean word of a clean, learning second joins the samples, of which the newest 86,400 stand, and
any other second gives none; y0 and D are kept in MRAM every 3600 s; the remaining holdover is shown, and at 0 in time HOLDOVER HO_EXPIRED is set.
Where the spec leaves a point open, the model’s choice stands (log 46, 53). -/
def Obligations.HoldoverModelAndTimer : Prop :=
  (∀ s : State, s.dev.booted = true → s.dev.ref.learn.clean = true → 0 < s.dev.ref.learn.ticks → s.dev.learning = true →
    ∃ t, exec .modelSample s = .next t ∧ t.dev.ref.learn.sum = 0 ∧ t.dev.ref.learn.ticks = 0 ∧ t.dev.ref.learn.clean = true ∧
      t.dev.ref.learn.samples = (s.dev.ref.learn.samples ++
        [(s.dev.time.tai.sec, Config.openDiv 8 s.dev.ref.learn.sum s.dev.ref.learn.ticks)]).drop (s.dev.ref.learn.samples.length + 1 - 86400)) ∧
  (∀ s : State, s.dev.booted = true → s.dev.learning = false →
    ∃ t, exec .modelSample s = .next t ∧ t.dev.ref.learn = { s.dev.ref.learn with sum := 0, ticks := 0, clean := true } ∧
      t.dev.regs = s.dev.regs) ∧
  (∀ s : State, s.dev.booted = true → s.dev.pins.mramInhibit = false → s.dev.past s.dev.ref.learn.kept 3600000 = true →
    ∃ t, exec .modelPersist s = .next t ∧ t.dev.obj 0x2040 7 0 = s.dev.rd F.REF_HO_Y_Y0 ∧ t.dev.obj 0x2040 8 0 = s.dev.rd F.REF_HO_D_D ∧
      t.dev.regs = s.dev.regs ∧ t.dev.ref.learn.kept = s.dev.time.cycles) ∧
  (∀ s : State, s.dev.booted = true →
    ∃ t, exec .holdoverTimerUpdate s = .next t ∧ t.dev.rd F.REF_HO_REMAIN_REMAIN = s.dev.remaining % 2 ^ 32 ∧ onlyRegisters s t ∧
      (s.dev.tpath = 3 → s.dev.remaining = 0 → t.dev.rd F.REF_HO_STATUS_HO_EXPIRED = 1))

/-- R99, R100, R102, R103, R110: an enabled output emits at its instant; a realignment is commanded
for each enabled output of its mask, and takes the grid instant 1 ms after its command and half a period after the last pulse;
a write commits the steering word within ±200 ppm, from which the paths go on; one step is accepted for each slot of a mask; the sticky history of the slots of a
mask is cleared.
Where the spec leaves a point open, the model’s choice stands (log 48, 49). -/
def Obligations.PulsesAndReferenceCommands : Prop :=
  (∀ (s : State) (n : Fin 4), s.dev.booted = true → s.dev.on (F.REF_PULSE_CFG_EN.at [n]) = true →
    s.dev.on F.REF_SEL_STATUS_TIME_VALID = true → (s.dev.pulseSt n).realignAt = none →
    ((s.dev.pulseSt n).last = none → ((s.dev.pulseSt n).enabledAt.addNs 1000000).le (s.dev.pulseEdge n) = true) →
    (∀ e, (s.dev.pulseSt n).last = some e → e.lt (s.dev.pulseEdge n) = true) →
    ∃ t, exec (.pulseEmit n) s = .next t ∧ t.dev.rd (F.REF_PULSE_CTL_RUNNING.at [n]) = 1 ∧
      s.dev.pulseEdge n = gridEdge s.dev.time.tai (s.dev.pulsePeriod n) (s.dev.pulseSt n).offset ∧
      t.dev.pulseSt n = { s.dev.pulseSt n with last := some (s.dev.pulseEdge n) } ∧
      t.dev.out = s.dev.out ++ (if s.dev.serving then [.pulse n (s.dev.pulseEdge n) (s.dev.pulseEnd n (s.dev.pulseEdge n))
        (s.dev.on (F.REF_PULSE_CFG_POLARITY.at [n]))] else [])) ∧
  (∀ (s : State) (n : Fin 4) (c e : Tai), s.dev.booted = true → s.dev.on (F.REF_PULSE_CFG_EN.at [n]) = true →
    s.dev.on F.REF_SEL_STATUS_TIME_VALID = true → (s.dev.pulseSt n).realignAt = some c → (s.dev.pulseSt n).last = some e →
    (c.addNs 1000000).le (s.dev.pulseEdge n) = true →
    (e.addSub (s.dev.pulsePeriod n / 2 * 4096 : Nat)).le (s.dev.pulseEdge n) = true →
    ∃ t, exec (.pulseEmit n) s = .next t ∧ s.dev.pulseEdge n = gridEdge s.dev.time.tai (s.dev.pulsePeriod n) 0 ∧
      (t.dev.pulseSt n).offset = 0 ∧ (t.dev.pulseSt n).realignAt = none ∧ (t.dev.pulseSt n).last = some (s.dev.pulseEdge n) ∧
      t.dev.rd (F.REF_PULSE_CTL_REALIGN_PENDING.at [n]) = 0) ∧
  (∀ (s : State) (n : Fin 4) (c : Tai), (s.dev.pulseSt n).realignAt = some c →
    (c.addNs 1000000).le (s.dev.pulseEdge n) = false →
    ∃ t, exec (.pulseEmit n) s = .next t ∧ t = s) ∧
  (∀ (s : State) (mask : BitVec 4) (n : Fin 4), s.dev.booted = true → bitAt mask.toNat n = true →
    s.dev.on (F.REF_PULSE_CFG_EN.at [n]) = true →
    ∃ t, exec (.pulseRealign mask) s = .next t ∧ t.dev.rd (F.REF_PULSE_CTL_REALIGN_PENDING.at [n]) = 1 ∧
      (t.dev.pulseSt n).realignAt = some s.dev.time.tai) ∧
  (∀ (s : State) (word : BitVec 48), s.dev.booted = true →
    ∃ t, exec (.ncoWrite word true) s = .next t ∧ t.dev.ref.word = clampInt (-ncoLimit) ncoLimit word.toInt ∧
      t.dev.ref.slots = s.dev.ref.slots ∧ t.dev.ref.pathF.word + t.dev.ref.pathT.word = t.dev.ref.word) ∧
  (∀ (s : State) (word : BitVec 48), s.dev.booted = true → ncoLimit < word.toInt →
    ∃ t, exec (.ncoWrite word false) s = .next t ∧ t = s) ∧
  (∀ (s : State) (mask : BitVec 16) (n : Fin 5), s.dev.booted = true → bitAt mask.toNat n = true →
    ∃ t, exec (.stepAccept mask) s = .next t ∧ (t.dev.slot n).accept = true ∧ t.dev.rd (F.REF_SLOT_STATUS_STEP_LIMIT.at [n]) = 0) ∧
  (∀ (s : State) (mask : BitVec 16) (n : Fin 16), s.dev.booted = true → bitAt mask.toNat n = true →
    ∃ t, exec (.referenceHistoryClear mask) s = .next t ∧ onlyRegisters s t ∧ t.dev.ques = s.dev.ques ∧
      ∀ f ∈ refStickies, t.dev.rd (f.at [n]) = 0)

/-- R7, R64, R117: an evaluation of the bound leaves ErrorBoundNow equal to the saturating sum of the terms that stand beside it; before
TAI has been set, and after the root is lost, it is saturated.
Where the spec leaves a point open, the model’s choice stands (log 51). -/
def Obligations.ErrorBoundIsTheSumOfItsTerms : Prop :=
  ∀ s : State, s.dev.booted = true →
    ∃ t, exec .errorBoundEval s = .next t ∧
      (s.dev.on F.REF_SEL_STATUS_TIME_VALID = true → s.dev.clk.rootLost = false →
        t.dev.rd F.TIM_BOUND_NOW_BOUND = boundSum t.dev.terms) ∧
      ((s.dev.on F.REF_SEL_STATUS_TIME_VALID = false ∨ s.dev.clk.rootLost = true) → t.dev.rd F.TIM_BOUND_NOW_BOUND = boundSat) ∧
      t.dev.rd F.TIM_BOUND_NOW_BOUND ≤ boundSat

/-- R115, R116: a leap event that passes its checks is armed, one that fails is refused with LEAP_REFUSED; CANCEL disarms it, and within
1 s of LEAP_AT changes nothing; at LEAP_AT the new offset is in force, and a second later the event is done.
Where the spec leaves a point open, the model’s choice stands (log 61). -/
def Obligations.LeapEvents : Prop :=
  (∀ (s : State) (deletion : Bool) (a : Tai), s.dev.booted = true → a.ns = 0 → s.dev.leapRefused a.sec deletion false = false →
    ∃ t, exec (.leapArm deletion a) s = .next t ∧ t.dev.rd F.TIM_STATUS_LEAP_ARMED = 1 ∧
      t.dev.rd F.TIM_STATUS_LEAP_DIR = bit deletion ∧
      t.dev.tim.leap = some ⟨a.sec, s.dev.utcOffset, if deletion then s.dev.utcOffset - 1 else s.dev.utcOffset + 1, false, false⟩) ∧
  (∀ (s : State) (deletion : Bool) (a : Tai), s.dev.booted = true → (a.ns ≠ 0 ∨ s.dev.leapRefused a.sec deletion false = true) →
    ∃ t, exec (.leapArm deletion a) s = .next t ∧ t.dev.rd F.TIM_IRQ_STATUS_LEAP_REFUSED = 1 ∧ onlyRegisters s t ∧
      registersBut s t [F.TIM_IRQ_STATUS_LEAP_REFUSED]) ∧
  (∀ (s : State) (l : Leap), s.dev.booted = true → s.dev.tim.leap = some l → s.dev.cancelTooLate = false →
    ∃ t, exec .leapCancel s = .next t ∧ t.dev.tim.leap = none ∧ t.dev.rd F.TIM_STATUS_LEAP_ARMED = 0 ∧
      t.dev.rd F.TIM_IRQ_STATUS_LEAP_CANCELLED = 1 ∧ t.dev.rd F.TIM_STATUS_UTC_OFFSET = s.dev.rd F.TIM_STATUS_UTC_OFFSET) ∧
  (∀ s : State, s.dev.cancelTooLate = true → ∃ t, exec .leapCancel s = .next t ∧ t = s) ∧
  (∀ (s : State) (l : Leap), s.dev.booted = true → s.dev.tim.leap = some l → l.stepped = false → l.at_ = s.dev.time.tai.sec →
    ∃ t, exec .leapTakesEffect s = .next t ∧ t.dev.rd F.TIM_STATUS_UTC_OFFSET = unsgn 16 l.new ∧
      t.dev.tim.leap = some { l with stepped := true } ∧ t.dev.rd F.TIM_IRQ_STATUS_OFFSET_CHANGE = 1) ∧
  (∀ (s : State) (l : Leap), s.dev.booted = true → s.dev.tim.leap = some l → l.stepped = true → l.at_ + 1 ≤ s.dev.time.tai.sec →
    ∃ t, exec .leapTakesEffect s = .next t ∧ t.dev.tim.leap = none ∧ t.dev.tim.lastLeap = some l ∧
      t.dev.rd F.TIM_STATUS_LEAP_ARMED = 0 ∧ t.dev.rd F.TIM_IRQ_STATUS_LEAP_DONE = 1)

/-- R119, R122, R123: messages received. An accepted Announce is remembered for its sender; a two-step Sync waits for its Follow_Up,
which gives the sample, as a one-step Sync does at once; an accepted Delay_Resp to the last Delay_Req gives a path sample; Pdelay and
management messages are discarded, counted and shown by their sticky bits.
Where the spec leaves a point open, the model’s choice stands (log 66). -/
def Obligations.PtpReception : Prop :=
  (∀ (s : State) (p : Fin 4) (m : List Byte), s.dev.booted = true → (s.dev.ptpAccept p 0xB m).2 = true →
    ∃ t, exec (.ptpAnnounceRx p m) s = .next t ∧
      ∃ f ∈ (t.dev.ptp p).foreigns, f.data.sender = (ptpHead m).id ∧ f.last = s.dev.time.cycles) ∧
  (∀ (s : State) (p : Fin 4) (m : List Byte) (detected : Tai), s.dev.booted = true → (s.dev.ptpAccept p 0 m).2 = true →
    s.dev.fromMaster p (ptpHead m) = true →
    ∃ t, exec (.ptpSyncRx p m detected) s = .next t ∧
      (bitAt (ptpHead m).flags 9 = true →
        (t.dev.ptp p).waiting = some ((ptpHead m).seq, s.dev.ingress p detected, (ptpHead m).corr)) ∧
      (bitAt (ptpHead m).flags 9 = false → (t.dev.ptp p).waiting = none ∧
        (t.dev.ptp p).syncDiff = some (((s.dev.ingress p detected).toSub : Int) - (ptpStamp m).toSub - (ptpHead m).corr))) ∧
  (∀ (s : State) (p : Fin 4) (m : List Byte) (t2 : Tai) (corr : Int), s.dev.booted = true → (s.dev.ptpAccept p 8 m).2 = true →
    s.dev.fromMaster p (ptpHead m) = true → (s.dev.ptp p).waiting = some ((ptpHead m).seq, t2, corr) →
    ∃ t, exec (.ptpFollowUpRx p m) s = .next t ∧ (t.dev.ptp p).waiting = none ∧
      (t.dev.ptp p).syncDiff = some ((t2.toSub : Int) - (ptpStamp m).toSub - corr - (ptpHead m).corr)) ∧
  (∀ (s : State) (p : Fin 4) (m : List Byte) (t3 : Tai) (diff : Int), s.dev.booted = true → (s.dev.ptpAccept p 9 m).2 = true →
    s.dev.fromMaster p (ptpHead m) = true → beAt m 44 8 = s.dev.clockId p → beAt m 52 2 = p.val + 1 →
    (s.dev.ptp p).req = some ((ptpHead m).seq, t3) → (s.dev.ptp p).syncDiff = some diff →
    ∃ t, exec (.ptpDelayRespRx p m) s = .next t ∧ (t.dev.ptp p).req = none ∧
      (t.dev.ptp p).resps = (s.dev.ptp p).resps + 1) ∧
  (∀ (s : State) (p : Fin 4) (management : Bool), s.dev.booted = true → 4 ≤ s.dev.ptpState p →
    ∃ t, exec (.ptpMessageDiscard p management) s = .next t ∧
      asBut t s (s.dev.setPtp p (if management then { s.dev.ptp p with managements := (s.dev.ptp p).managements + 1 }
        else { s.dev.ptp p with pdelays := (s.dev.ptp p).pdelays + 1 })) ∧
      t.dev.rd ((if management then F.TIM_PTP_STICKY_MGMT_DISCARD_SEEN else F.TIM_PTP_STICKY_PDELAY_SEEN).at [p]) = 1 ∧
      t.dev.ptpState p = s.dev.ptpState p)

/-- R119, R122, R124, R129, R179: messages sent and the state machine's timeouts. A unicast Delay_Req is answered to its sender; a
master that is no standby sends Announce and Sync, a two-step Sync with its Follow_Up; a slave sends Delay_Req and keeps when; each goes
to the port’s multicast destination in its class; the announce receipt timeout returns a slave to LISTENING and the qualification
timeout makes PRE_MASTER a MASTER.
Where the spec leaves a point open, the model’s choice stands (log 74). -/
def Obligations.PtpTransmissionAndTimeouts : Prop :=
  (∀ (s : State) (p : Fin 4) (m source : List Byte) (detected : Tai), s.dev.booted = true → (s.dev.ptpAccept p 1 m).2 = true →
    s.dev.mastersOn p = true → s.dev.standby = false →
    ∃ t r, exec (.ptpDelayReqRx p m detected (some source)) s = .next t ∧ sends s.dev t p 6 (.ptp p source r) ∧ (ptpHead r).kind = 9) ∧
  (∀ (s : State) (p : Fin 4), s.dev.booted = true → s.dev.mastersOn p = true → s.dev.standby = false →
    s.dev.on F.REF_SEL_STATUS_TIME_VALID = true →
    ∃ t r, exec (.ptpAnnounceTx p) s = .next t ∧ sends s.dev t p 6 (.ptp p (s.dev.ptpDest p) r) ∧ (ptpHead r).kind = 0xB ∧
      (t.dev.ptp p).annSeq = ((s.dev.ptp p).annSeq + 1) % 65536 ∧ registersBut s t [F.NET_COUNT_COUNT.at [p, 14]]) ∧
  (∀ (s : State) (p : Fin 4) (launch : Tai), s.dev.booted = true → s.dev.mastersOn p = true → s.dev.standby = false →
    s.dev.on (F.TIM_PTP_CFG_ONE_STEP.at [p]) = true →
    ∃ t r, exec (.ptpSyncTx p launch) s = .next t ∧ sends s.dev t p 7 (.ptp p (s.dev.ptpDest p) r) ∧ (ptpHead r).kind = 0 ∧
      (t.dev.ptp p).syncSeq = ((s.dev.ptp p).syncSeq + 1) % 65536 ∧ registersBut s t [F.NET_COUNT_COUNT.at [p, 14]]) ∧
  (∀ (s : State) (p : Fin 4) (launch : Tai), s.dev.booted = true → s.dev.mastersOn p = true → s.dev.standby = false →
    s.dev.on (F.TIM_PTP_CFG_ONE_STEP.at [p]) = false →
    ∃ t r r', exec (.ptpSyncTx p launch) s = .next t ∧ (ptpHead r).kind = 0 ∧ (ptpHead r').kind = 8 ∧
      (s.dev.txFree p 6 = true →
        t.dev.out = s.dev.out ++ [.ptp p (s.dev.ptpDest p) r, .ptp p (s.dev.ptpDest p) r']) ∧
      (s.dev.txFree p 7 = true → s.dev.txFree p 6 = false → t.dev.out = s.dev.out ++ [.ptp p (s.dev.ptpDest p) r] ∧
        (t.dev.port p).txq = (s.dev.port p).txq ++ [⟨6, none, .ptp p (s.dev.ptpDest p) r'⟩]) ∧
      (s.dev.txFree p 7 = false → t.dev.out = s.dev.out ∧ (t.dev.port p).txq = (s.dev.port p).txq ++
        [⟨7, none, .ptp p (s.dev.ptpDest p) r⟩, ⟨6, none, .ptp p (s.dev.ptpDest p) r'⟩]) ∧
      (t.dev.ptp p).syncSeq = ((s.dev.ptp p).syncSeq + 1) % 65536 ∧ registersBut s t [F.NET_COUNT_COUNT.at [p, 14]]) ∧
  (∀ (s : State) (p : Fin 4) (launch : Tai), s.dev.booted = true → (s.dev.ptpState p = 8 ∨ s.dev.ptpState p = 9) →
    ∃ t r, exec (.ptpDelayReqTx p launch) s = .next t ∧ sends s.dev t p 7 (.ptp p (s.dev.ptpDest p) r) ∧ (ptpHead r).kind = 1 ∧
      (t.dev.ptp p).req = some ((s.dev.ptp p).reqSeq, s.dev.egress p launch) ∧ registersBut s t [F.NET_COUNT_COUNT.at [p, 14]]) ∧
  (∀ (s : State) (p : Fin 4), s.dev.booted = true → (s.dev.ptpState p = 8 ∨ s.dev.ptpState p = 9) →
    ∃ t, exec (.announceReceiptTimeout p) s = .next t ∧ t.dev.ptpState p = 4 ∧ (t.dev.ptp p).master = none ∧
      t.dev.rd (F.TIM_PTP_STICKY_TIMEOUT_SEEN.at [p]) = 1) ∧
  (∀ (s : State) (p : Fin 4), s.dev.booted = true → s.dev.ptpState p = 5 → s.dev.masterMode = true →
    ∃ t, exec (.qualificationTimeout p) s = .next t ∧ t.dev.ptpState p = 6 ∧ t.dev.tim = s.dev.tim)

/-- R130, R137, R141, R143: a plain request with a token is answered and counted; a waiting key row issues at its time and an expired one
is zeroised; a selected GPIO edge is stamped and posted on Q3.
Where the spec leaves a point open, the model’s choice stands (log 71, 72). -/
def Obligations.NtpKeysAndCaptures : Prop :=
  (∀ (s : State) (p : Fin 4) (source packet : List Byte) (detected launch : Tai), s.dev.booted = true → s.dev.ntpAnswers = true →
    packet.length = 48 → beAt packet 0 1 % 8 = 3 → beAt packet 0 1 / 8 % 8 = 4 →
    s.dev.stepBetween (s.dev.ingress p detected) launch = false → s.dev.on F.TIM_NTP_CFG_PLAIN_EN = true →
    256 ≤ ((s.dev.tally (ntpCount 0)).ntpTick.findClient (clientKey source)).2.2.tokens →
    ((s.dev.tally (ntpCount 0)).ntpTick.findClient (clientKey source)).1.tim.served + 1 ≤
      200 * ((s.dev.tally (ntpCount 0)).ntpTick.findClient (clientKey source)).1.tsUnits →
    ∃ t r, exec (.ntpRequest p source packet detected launch) s = .next t ∧ sends s.dev t p 5 (.ntp (portOf p) source r)) ∧
  (∀ (s : State) (row : Fin 4), s.dev.booted = true → s.dev.ntsWaits row = 2 →
    (Tai.of80 (s.dev.obj 0x2500 4 row)).le s.dev.time.tai = true →
    ∃ t, exec (.ntsKeyActivate row) s = .next t ∧ t.dev.ntsState row = 2 ∧ t.dev.ntsWaits row = 0 ∧
      t.dev.rd F.TIM_IRQ_STATUS_NTS_KEY_ROTATED = 1) ∧
  (∀ (s : State) (row : Fin 4), s.dev.booted = true → s.dev.obj 0x2500 5 row ≠ 0 → s.dev.ntsState row ≠ 0 →
    (Tai.of80 (s.dev.obj 0x2500 5 row)).le s.dev.time.tai = true →
    ∃ t, exec (.ntsKeyExpire row) s = .next t ∧ (∀ f : Fin 6, t.dev.obj 0x2500 (f + 1) row = 0) ∧
      t.dev.rd F.TIM_IRQ_STATUS_NTS_KEY_EXPIRED = 1) ∧
  (∀ (s : State) (g : Fin 16) (falling : Bool), s.dev.booted = true →
    bitAt (s.dev.rd (if falling then F.TIM_CAP_CFG_FALL else F.TIM_CAP_CFG_RISE)) g = true → s.dev.tim.captured.find? g = none →
    (s.dev.que 3).items.length < queueCap 3 → (s.dev.que 3).held = none →
    ∃ t, exec (.gpioCapture g falling) s = .next t ∧ t.dev.tim.capSeq = (s.dev.tim.capSeq + 1) % 65536 ∧
      t.dev.tim.captured.find? g = some s.dev.time.cycles ∧ (t.dev.que 3).items.length = (s.dev.que 3).items.length + 1) ∧
  (∀ (s : State) (g : Fin 16) (falling : Bool) (c : Nat), s.dev.booted = true →
    bitAt (s.dev.rd (if falling then F.TIM_CAP_CFG_FALL else F.TIM_CAP_CFG_RISE)) g = true → s.dev.tim.captured.find? g = some c →
    s.dev.time.cycles < c + 400 →
    ∃ t, exec (.gpioCapture g falling) s = .next t ∧ t.dev.rd F.TIM_IRQ_STATUS_CAP_LOST = 1 ∧ onlyRegisters s t ∧
      t.dev.rd F.TIM_CAP_LOST_LOST = satAdd 32 (s.dev.rd F.TIM_CAP_LOST_LOST) 1)


/-- R148, R154, R161, R162: an entry that passes the checks is in its row; a read shows a row in the window; a cancel of an ARMED entry
ends it CANCELLED; a confirm before the cutoff marks a HOLD_CONFIRM occurrence.
Where the spec leaves a point open, the model’s choice stands (log 75 to 77). -/
def Obligations.AlmanacIsWrittenReadCancelledConfirmed : Prop :=
  (∀ (s : State) (row : Fin 4096) (entry : List Byte), hostMay s false 0x3000 0 row entry →
    (objAt 0x3000 0).map (fun o => (View.request ⟨(boxOf s).mem, s.dev, 1⟩ o 0x3000 0 row entry).checked.isEmpty) = some false →
    View.almStatus ⟨(boxOf s).mem, s.dev, 1⟩ row entry = .ok → almAction entry ≠ 0 →
    ∃ t y, exec (.almanacWrite .host row entry) s = .next t ∧ t.dev.almRow row = some y ∧ y.bytes = entry ∧ y.author = 1 ∧
      y.copy = false ∧ y.occ = 0 ∧ t.dev.rd F.ALM_ENT_RESULT_STATUS = 0) ∧
  (∀ (s : State) (row : Fin 4096), s.dev.booted = true →
    ∃ t, exec (.almanacEntryRead row) s = .next t ∧ onlyRegisters s t ∧ t.dev.rd F.ALM_ENT_RESULT_STATUS = 0 ∧
      ∀ w : Fin 32, t.dev.rd (F.ALM_ENT_DATA_DATA.at [w]) = leAt (s.dev.almShown row) (4 * w) 4) ∧
  (∀ (s : State) (row : Fin 4096) (x : AlmRow) (at_ : Tai),
    hostMay s true 0x3020 0 0 (toBE 2 row ++ toBE 1 1) → ownRow s row x at_ → x.state = 1 → x.sent = false →
    ∃ t, exec (.almanacCancel .host row true) s = .next t ∧ rowDone t row x 3 ∧ t.dev.rd F.ALM_ENT_RESULT_STATUS = 0) ∧
  (∀ (s : State) (row : Fin 4096) (x : AlmRow) (at_ : Tai), hostMay s true 0x3021 0 0 (toBE 2 row) → ownRow s row x at_ →
    x.state = 3 → almHold x.bytes = true → (s.dev.almCutoff x at_).le s.dev.time.tai = false →
    ∃ t, exec (.almanacConfirm .host row) s = .next t ∧ t.dev.almRow row = some { x with confirmed := true } ∧
      t.dev.rd F.ALM_ENT_RESULT_STATUS = 0)

/-- R152: an ARMED occurrence enters STAGING at its lead and latches the guard time; staged, it is confirmed unless it holds for a
confirm; at its cutoff it is COMMITTED, or resolves UNCONFIRMED, or NOT_READY. -/
def Obligations.AlmanacOccurrencesStage : Prop :=
  (∀ (s : State) (row : Fin 4096) (x : AlmRow) (at_ : Tai), ownRow s row x at_ → x.state = 1 → s.dev.almHeld = false →
    (msBefore at_ (s.dev.almLeadMs x.bytes)).le s.dev.time.tai = true →
    ∃ t y, exec (.almanacStage row) s = .next t ∧ t.dev.almRow row = some y ∧ y.state = 2 ∧
      y.guard = s.dev.rd F.ALM_CFG_GUARD_MS ∧ y.sent = decide (almScope x.bytes ≠ 0) ∧ y.confirmed = false ∧ y.inst = some at_ ∧
      (s.dev.sup.testing = none → registersBut s t [F.NET_COUNT_COUNT.at [s.dev.casPort, 14]])) ∧
  (∀ (s : State) (row : Fin 4096) (x : AlmRow) (at_ : Tai), ownRow s row x at_ → x.state = 2 → s.dev.almReady x.bytes = true →
    ∃ t y, exec (.almanacStagingComplete row) s = .next t ∧ t.dev.almRow row = some y ∧ y.state = 3 ∧
      (almHold x.bytes = false → y.confirmed = true) ∧ (almHold x.bytes = true → y.confirmed = x.confirmed) ∧
      registersBut s t [F.NET_COUNT_COUNT.at [s.dev.casPort, 14]]) ∧
  (∀ (s : State) (row : Fin 4096) (x : AlmRow) (at_ : Tai), ownRow s row x at_ → x.state = 3 →
    (s.dev.almCutoff x at_).le s.dev.time.tai = true → (almHold x.bytes = true → x.confirmed = true) →
    ∃ t, exec (.almanacCutoff row) s = .next t ∧ t.dev.almRow row = some { x with state := 4 } ∧ t.dev.regs = s.dev.regs) ∧
  (∀ (s : State) (row : Fin 4096) (x : AlmRow) (at_ : Tai), ownRow s row x at_ → almRepeat x.bytes = 0 →
    (s.dev.almCutoff x at_).le s.dev.time.tai = true →
    ∃ t, exec (.almanacCutoff row) s = .next t ∧
      (x.state = 3 → almHold x.bytes = true → x.confirmed = false → rowDone t row x 4) ∧ (x.state = 2 → rowDone t row x 5))

/-- R38, R147, R155 to R158: a COMMITTED occurrence launches at its instant where the mode permits it and the budget admits it: an
audio action waits for the frame boundary, a MARKER is LAUNCHED, a 65th control action of one control edge waits for the next; a mode that does not permit it skips it; the budget defers a class T or B entry
that allows it, which launches late on a later test or resolves BUDGET when its time is up. A held entry whose instant passes is skipped, with one item on
Q4.
Where the spec leaves a point open, the model’s choice stands (log 80, 81). -/
def Obligations.AlmanacOccurrencesLaunch : Prop :=
  (∀ (s : State) (row : Fin 4096) (x : AlmRow) (at_ : Tai), ownRow s row x at_ → s.dev.follows = false → x.state = 4 →
    at_.le s.dev.time.tai = true → s.dev.alm.audio = [] → s.dev.almBefore row = [] →
    ∃ t, exec (.almanacLaunch row) s = .next t ∧
      (bitAt (almModes x.bytes) s.dev.almModeBit = true → (s.dev.almAdmit x).1 = true →
        (almAudio (almAction x.bytes) = true → t.dev.alm.audio = [row.val] ∧ t.dev.almRow row = some x) ∧
        (almAudio (almAction x.bytes) = false → 64 ≤ s.dev.edgeLaunched → t.dev.almRow row = some { x with spilled := true }) ∧
        (almAction x.bytes = 13 → almRepeat x.bytes = 0 → s.dev.edgeLaunched < 64 → x.deferred = none → x.spilled = false →
          s.dev.lateness at_ < 5 → rowDone t row x 0)) ∧
      (bitAt (almModes x.bytes) s.dev.almModeBit = true → (s.dev.almAdmit x).1 = false →
        (2 ≤ almClass x.bytes → almDefer x.bytes ≠ 0 →
          t.dev.almRow row = some { x with state := 5, deferred := some s.dev.time.cycles }) ∧
        (almDefer x.bytes = 0 → almRepeat x.bytes = 0 → rowDone t row x 6)) ∧
      (bitAt (almModes x.bytes) s.dev.almModeBit = false → almRepeat x.bytes = 0 → rowDone t row x 2)) ∧
  (∀ (s : State) (row : Fin 4096) (x : AlmRow) (at_ : Tai) (since : Nat), ownRow s row x at_ → s.dev.follows = false → x.state = 5 →
    x.deferred = some since → s.dev.almHeld = false → s.dev.past since (almDefer x.bytes) = false → (s.dev.almAdmit x).1 = true → s.dev.alm.audio = [] →
    ∃ t, exec (.almanacDeferRetest row) s = .next t ∧
      (almAudio (almAction x.bytes) = true → t.dev.alm.audio = [row.val]) ∧
      (almAction x.bytes = 13 → almRepeat x.bytes = 0 → s.dev.edgeLaunched < 64 → rowDone t row x 1)) ∧
  (∀ (s : State) (row : Fin 4096) (x : AlmRow) (at_ : Tai) (since : Nat), ownRow s row x at_ → s.dev.follows = false → x.state = 5 →
    x.deferred = some since → s.dev.past since (almDefer x.bytes) = true → s.dev.alm.audio = [] → almRepeat x.bytes = 0 →
    ∃ t, exec (.almanacDeferExpiry row) s = .next t ∧ rowDone t row x 6) ∧
  (∀ (s : State) (row : Fin 4096) (x : AlmRow) (at_ : Tai), ownRow s row x at_ → s.dev.follows = false → x.state = 1 →
    at_.le s.dev.time.tai = true → almRepeat x.bytes = 0 → (s.dev.que 4).items.length < queueCap 4 → (s.dev.que 4).held = none →
    ∃ t item, exec (.almanacSkipHeld row) s = .next t ∧ rowDone t row x 2 ∧ item ∈ (t.dev.que 4).items ∧
      leAt item 0 4 = 4 * 2 ^ 28 + 2 * 2 ^ 24 + row.val ∧ leAt item 8 4 = (x.occ + 1) % 2 ^ 32 ∧
      t.dev.rd (F.ALM_COUNT_COUNT.at [2]) = satAdd 32 (s.dev.rd (F.ALM_COUNT_COUNT.at [2])) 1)

/-- R322, R323: a HELLO from the primary parent is kept, with its depth plus one and its master; one of a stranger makes it a child and
is answered. A HELLO goes to the primary; a parent silent for 3 s is lost and the alternate used; a primary steady for 60 s returns.
Where the spec leaves a point open, the model’s choice stands (log 83 to 85). -/
def Obligations.CascadeFindsItsParent : Prop :=
  (∀ (s : State) (source datagram b : List Byte), (s.dev.casIn source datagram 1).2 = some (.primary, b) →
    s.dev.peerFrozen .primary = false → beAt b 0 2 < s.dev.rank → s.dev.cas.useAlt = false → s.dev.cas.children = [] →
    (s.dev.cas.primaryRank = none ∨ s.dev.cas.primaryRank = some (beAt b 0 2)) →
    ∃ t, exec (.cascadeHello source datagram) s = .next t ∧ t.dev.rd F.PAIR_CAS_STATUS_PARENT_OK = 1 ∧
      t.dev.rd F.PAIR_CAS_STATUS_DEPTH = min 0xFFFF (beAt b 2 2 + 1) ∧ t.dev.cas.master = slice b 4 8 ∧
      t.dev.cas.primary = some s.dev.time.cycles ∧
      t.dev.out = (s.dev.casForward (toBE 1 1 ++ slice source 0 16 ++ b)).out) ∧
  (∀ (s : State) (source datagram b : List Byte), (s.dev.casIn source datagram 1).2 = some (.stranger, b) →
    s.dev.peerFrozen .stranger = false → s.dev.rank < beAt b 0 2 → s.dev.cas.children = [] →
    ∃ t c m, exec (.cascadeHello source datagram) s = .next t ∧ t.dev.cas.children.find? 0 = some c ∧ c.rank = beAt b 0 2 ∧
      c.address = slice source 0 16 ∧ sendsCascade (s.dev.casForward (toBE 1 1 ++ slice source 0 16 ++ b)) t (slice source 0 16) m ∧
      registersBut s t [F.NET_COUNT_COUNT.at [s.dev.casPort, 14]]) ∧
  (∀ s : State, s.dev.booted = true → s.dev.rank ≠ 0xFFFF → s.dev.rank ≠ 0 → s.dev.named false = true → s.dev.cas.useAlt = false →
    s.dev.standby = false →
    ∃ t m, exec .cascadeHelloTx s = .next t ∧ sendsCascade s.dev t (s.dev.parent false) m ∧ registersBut s t [F.NET_COUNT_COUNT.at [s.dev.casPort, 14]]) ∧
  (∀ s : State, s.dev.booted = true → s.dev.standby = false → s.dev.rank ≠ 0xFFFF → s.dev.cas.useAlt = false →
    s.dev.named false = true → s.dev.past (s.dev.cas.primary.getD 0) 3000 = true → s.dev.on F.PAIR_CAS_STATUS_PARENT_OK = true →
    ∃ t, exec .cascadeParentTimeout s = .next t ∧ t.dev.rd F.PAIR_CAS_STATUS_PARENT_OK = 0 ∧
      t.dev.rd F.PAIR_IRQ_STATUS_PARENT_LOST = 1 ∧
      (s.dev.named true = true → t.dev.cas.useAlt = true ∧ t.dev.rd F.PAIR_CAS_STATUS_ALT_IN_USE = 1) ∧
      (s.dev.named true = false → t.dev.cas = s.dev.cas)) ∧
  (∀ (s : State) (since last : Nat), s.dev.booted = true → s.dev.cas.useAlt = true → s.dev.cas.since = some since →
    s.dev.past since 60000 = true → s.dev.cas.primary = some last → s.dev.past last 3000 = false →
    ∃ t, exec .cascadePrimaryReturn s = .next t ∧ t.dev.cas.useAlt = false ∧ t.dev.rd F.PAIR_CAS_STATUS_ALT_IN_USE = 0 ∧
      t.dev.rd F.PAIR_CAS_STATUS_PARENT_OK = 1 ∧ registersBut s t [F.PAIR_CAS_STATUS_ALT_IN_USE, F.PAIR_CAS_STATUS_PARENT_OK])

/-- R153, R323, R325: a parent's STAGE places a copy, its CONFIRM marks it, its RETRACT frees it and is remembered; a child's STAGED is
counted by the origin. Proxied requests and answers for others pass on, counted as FORWARDED; an answer or its absence ends the wait at rank 0.
Where the spec leaves a point open, the model’s choice stands (log 79, 83, 87). -/
def Obligations.CascadeCarriesEntriesAndRequests : Prop :=
  (∀ (s : State) (source datagram b : List Byte) (p : Peer), (s.dev.casIn source datagram 2).2 = some (p, b) → p.above = true →
    s.dev.peerFrozen p = false → s.dev.cas.children = [] → almScope (slice b 0 128) = 1 → s.dev.almHeld = false →
    View.almInvalidHere ⟨s.mem, (s.dev.casIn source datagram 2).1, 0⟩ (slice b 0 128) = false → (s.dev.almRow 4095) = none →
    ∃ t n y, exec (.cascadeStage source datagram) s = .next t ∧ t.dev.almRow n = some y ∧ y.copy = true ∧
      y.originRank = leAt (slice b 0 128) 50 2 ∧ y.originRow = leAt (slice b 0 128) 52 2 ∧ y.occ = leAt (slice b 0 128) 56 4 ∧ y.bytes = slice b 0 128) ∧
  (∀ (s : State) (source datagram b : List Byte) (p : Peer) (n : Nat) (x : AlmRow) (at_ : Tai),
    (s.dev.casIn source datagram 3).2 = some (p, b) → p.above = true → s.dev.peerFrozen p = false → s.dev.cas.children = [] →
    s.dev.copyOf (beAt b 0 2) (beAt b 2 2) = some (n, x) → x.occ = beAt b 4 4 → x.inst = some at_ →
    s.dev.time.tai.lt (s.dev.almCutoff x at_) = true →
    ∃ t, exec (.cascadeConfirm source datagram) s = .next t ∧ t.dev.almRow n = some { x with confirmed := true } ∧
      t.dev.regs = s.dev.regs) ∧
  (∀ (s : State) (source datagram b : List Byte) (p : Peer) (n : Nat) (x : AlmRow) (at_ : Tai),
    (s.dev.casIn source datagram 4).2 = some (p, b) → p.above = true → s.dev.peerFrozen p = false → s.dev.cas.children = [] →
    s.dev.copyOf (beAt b 0 2) (beAt b 2 2) = some (n, x) → s.dev.almRow n = some x → x.occ = beAt b 4 4 → x.inst = some at_ →
    at_.le s.dev.time.tai = false → almRepeat x.bytes = 0 → s.dev.alm.retracting = [] →
    ∃ t m, exec (.cascadeRetract source datagram) s = .next t ∧ t.dev.almRow n = none ∧
      (beAt b 0 2, beAt b 2 2, beAt b 4 4, false) ∈ t.dev.alm.ended ∧
      sendsCascade (s.dev.casForward (toBE 1 4 ++ b)) t s.dev.parentAddress m) ∧
  (∀ (s : State) (source datagram b : List Byte) (p : Peer) (x : AlmRow), (s.dev.casIn source datagram 5).2 = some (p, b) →
    s.dev.peerFrozen p = false → s.dev.isFrozen (peerMaster (beAt b 8 2)) = false → beAt b 0 2 = s.dev.rank →
    s.dev.almRow (beAt b 2 2) = some x → x.copy = false → almScope x.bytes ≠ 0 → x.sent = true → x.occ = beAt b 4 4 → beAt b 10 1 = 0 →
    ∃ t, exec (.cascadeAnswer source datagram) s = .next t ∧ t.dev.almRow (beAt b 2 2) = some { x with staged := x.staged + 1 } ∧
      t.dev.regs = s.dev.regs) ∧
  (∀ (s : State) (source datagram m : List Byte) (p : Peer), (s.dev.casIn source datagram 6).2 = some (p, m) → p.above = true →
    s.dev.peerFrozen p = false → beAt m 0 2 ≠ s.dev.rank → s.dev.cas.children ≠ [] →
    ∃ t, exec (.cascadeProxyReq source datagram) s = .next t ∧
      t.dev.rd (F.PAIR_CAS_COUNT_COUNT.at [0]) = satAdd 32 (s.dev.rd (F.PAIR_CAS_COUNT_COUNT.at [0])) 1 ∧
      (s.dev.txFree s.dev.casPort 4 = true → t.dev.out.length = s.dev.out.length + s.dev.cas.children.length) ∧
      (s.dev.txFree s.dev.casPort 4 = false →
        (t.dev.port s.dev.casPort).txq.length = (s.dev.port s.dev.casPort).txq.length + s.dev.cas.children.length)) ∧
  (∀ (s : State) (source datagram b : List Byte) (p : Peer), (s.dev.casIn source datagram 7).2 = some (p, b) →
    s.dev.peerFrozen p = false →
    ∃ t m, exec (.cascadeProxyResp source datagram) s = .next t ∧
      (s.dev.rank ≠ 0 → t.dev.rd (F.PAIR_CAS_COUNT_COUNT.at [0]) = satAdd 32 (s.dev.rd (F.PAIR_CAS_COUNT_COUNT.at [0])) 1 ∧
        sendsCascade s.dev t s.dev.parentAddress m) ∧
      (s.dev.rank = 0 → ∀ j, s.dev.odp.proxies = [j] → j.origin = 2 + beAt b 0 4 % 32 → j.reqSeq = beAt (b.drop 4) 4 8 →
        t.dev.odp.proxies = [])) ∧
  (∀ (s : State) (job : BitVec 8) (j : ProxyJob), s.dev.booted = true → s.dev.odp.proxies = [j] → j.id = job.toNat →
    s.dev.past j.started 100 = true →
    ∃ t, exec (.proxyTimeout job) s = .next t ∧ t.dev.odp.proxies = [] ∧
      t.dev.rd (F.PAIR_CAS_COUNT_COUNT.at [2]) = satAdd 32 (s.dev.rd (F.PAIR_CAS_COUNT_COUNT.at [2])) 1)

/-- R164, R169, R176, R177, R180, R184: a link that goes down clears LINK and is counted, one that comes up takes the configured speed. A received
frame is a runt, an FCS error, not for this port, a PAUSE that stops the transmitter, or is stored and posted; a returned chain is free again; a PAUSE runs out; a settled
relay is settled.
Where the spec leaves a point open, the model’s choice stands (log 89, 91). -/
def Obligations.NetworkReception : Prop :=
  (∀ (s : State) (p : Fin 4), s.dev.hears p = true → s.dev.linkUp p = true →
    ∃ t, exec (.linkDown p) s = .next t ∧ t.dev.rd (F.NET_STATUS_LINK.at [p]) = 0 ∧ t.dev.rd (F.NET_STATUS_PCS_LOCK.at [p]) = 0 ∧
      t.dev.rd (F.NET_COUNT_COUNT.at [p, 18]) = satAdd 32 (s.dev.rd (F.NET_COUNT_COUNT.at [p, 18])) 1 ∧
      t.dev.rd (F.NET_STICKY_LINK_CHANGE_SEEN.at [p]) = 1) ∧
  (∀ (s : State) (p : Fin 4), s.dev.hears p = true → s.dev.linkUp p = false →
    ∃ t, exec (.linkUp p) s = .next t ∧ t.dev.rd (F.NET_STATUS_LINK.at [p]) = 1 ∧ t.dev.rd (F.NET_STATUS_PCS_LOCK.at [p]) = 1 ∧
      t.dev.rd (F.NET_STATUS_SPEED_ACTIVE.at [p]) = s.dev.rd (F.NET_CFG_SPEED.at [p]) ∧
      t.dev.rd (F.NET_STICKY_LINK_CHANGE_SEEN.at [p]) = 1) ∧
  (∀ (s : State) (p : Fin 4) (port : Port) (frame : List Byte) (fcsOk : Bool) (detected : Tai), port.num = p.val →
    s.dev.hears p = true →
    ∃ t, exec (.frameRx port frame fcsOk detected) s = .next t ∧
      (frame.length + 4 ≤ 63 → t.mem = s.mem ∧
        t.dev.rd (F.NET_COUNT_COUNT.at [p, 1]) = satAdd 32 (s.dev.rd (F.NET_COUNT_COUNT.at [p, 1])) 1) ∧
      (63 < frame.length + 4 → fcsOk = false → t.mem = s.mem ∧
        t.dev.rd (F.NET_COUNT_COUNT.at [p, 2]) = satAdd 32 (s.dev.rd (F.NET_COUNT_COUNT.at [p, 2])) 1) ∧
      (63 < frame.length + 4 → fcsOk = true → frame.length + 4 ≤ s.dev.maxFrame p → s.dev.inServicePort p = true →
        (s.dev.acceptsMac p (beAt frame 0 6) (frameHead frame).etype = false → t.mem = s.mem ∧
          t.dev.rd (F.NET_COUNT_COUNT.at [p, 4]) = satAdd 32 (s.dev.rd (F.NET_COUNT_COUNT.at [p, 4])) 1) ∧
        (s.dev.acceptsMac p (beAt frame 0 6) (frameHead frame).etype = true → beAt frame 12 2 = 0x8808 → beAt frame 14 2 = 1 →
          s.dev.on (F.NET_CFG_PAUSE_RX_EN.at [p]) = true → beAt frame 16 2 ≠ 0 →
          (t.dev.port p).pause = some (s.dev.time.cycles, beAt frame 16 2 * quantum (s.dev.portSpeed p)) ∧
            t.dev.rd (F.NET_STATUS_PAUSED.at [p]) = 1 ∧ t.dev.pauseLeft p = beAt frame 16 2) ∧
        (s.dev.acceptsMac p (beAt frame 0 6) (frameHead frame).etype = true → beAt frame 12 2 = 0x0900 → frame.length ≤ 2048 →
          ∀ k b rest, s.dev.filter p (frameHead frame) = some k → s.dev.rxDest k = true → s.dev.rxFree k = b :: rest →
            s.mem.wf = true → (s.dev.que (8 + p)).held = none → (s.dev.que (8 + p)).items.length < queueCap (8 + p) →
            (∀ i < frame.length, t.mem.read (bufAddr b i) = frame.getD i 0) ∧
            (∀ a, (∀ i < frame.length, a ≠ bufAddr b i) → t.mem.read a = s.mem.read a) ∧ t.dev.rxFree k = rest ∧
            t.dev.net.chains.find? b = some ⟨k, [b]⟩))) ∧
  (∀ (s : State) (first : BitVec 11) (c : RxChain), s.dev.booted = true → s.dev.net.chains.find? first.toNat = some c →
    s.mem.wf = true →
    ∃ t, exec (.netRxReturn first) s = .next t ∧ t.dev.rxFree c.queue = s.dev.rxFree c.queue ++ c.bufs ∧
      t.dev.net.chains.find? first.toNat = none ∧ t.dev.regs = s.dev.regs ∧ t.mem = s.mem) ∧
  (∀ (s : State) (p : Fin 4) (port : Port) (e : Nat × Nat), port.num = p.val → s.dev.booted = true → (s.dev.port p).pause = some e →
    s.dev.paused p = false →
    ∃ t, exec (.pauseExpiry port) s = .next t ∧ (t.dev.port p).pause = none ∧ t.dev.rd (F.NET_STATUS_PAUSED.at [p]) = 0 ∧
      t.dev.rd (F.NET_COUNT_COUNT.at [p, 16]) =
        satAdd 32 (s.dev.rd (F.NET_COUNT_COUNT.at [p, 16])) ((min s.dev.time.cycles (pauseEnd e) - (s.dev.port p).pausedAt) / 400)) ∧
  (∀ (s : State) (relayB : Bool), s.dev.booted = true → s.dev.settling (bit relayB) = true →
    s.dev.past (s.dev.net.settle.get 0 (bit relayB)) (s.dev.rd F.NET_BYPASS_CTL_SETTLE_MS) = true →
    ∃ t, exec (.bypassSettleExpiry relayB) s = .next t ∧ t.dev.settling (bit relayB) = false ∧ onlyRegisters s t)

/-- R165, R178, R179, R181, R183, R202: a transmit buffer is taken and a frame in it queued in its class; the transmitter sends a due media packet first, then the queue, and a
late packet is dropped and counted; the device's own ESMC and ARP frames are queued; an MDIO frame starts, shows GO until done, and its data is read.
Where the spec leaves a point open, the model’s choice stands (log 74, 94, 95). -/
def Obligations.NetworkTransmission : Prop :=
  (∀ (s : State) (b : Nat), s.dev.booted = true → 1536 ≤ b → b < 2048 → b ∉ s.dev.net.txAlloc →
    ∃ t b', exec .netTxAlloc s = .next t ∧ b' ∉ s.dev.net.txAlloc ∧ 1536 ≤ b' ∧ b' < 2048 ∧
      t.dev.net.txAlloc = s.dev.net.txAlloc ++ [b'] ∧ t.dev.out = s.dev.out ++ [.hostWords [BitVec.ofNat 32 b']] ∧
      t.dev.regs = s.dev.regs) ∧
  (∀ (s : State) (p : Fin 4) (port : Port) (cls : Fin 8) (buffer length : BitVec 11), port.num = p.val → s.dev.booted = true →
    ∃ t, exec (.netTxPost port cls buffer length) s = .next t ∧ t.mem = s.mem ∧
      (14 ≤ length.toNat → length.toNat ≤ 2044 → length.toNat ≤ s.dev.maxFrame p - 4 → s.dev.hostBuffer buffer.toNat = true →
        t.dev.rd (F.NET_TX_RESULT_STATUS.at [p]) = 0 ∧
        (t.dev.port p).txq = (s.dev.port p).txq ++
          [⟨cls, some buffer.toNat, .frame (portOf p) (padFrame ((List.range length.toNat).map (fun i => s.mem.read (bufAddr buffer.toNat i))))⟩]) ∧
      (length.toNat < 14 ∨ s.dev.hostBuffer buffer.toNat = false → t.dev.rd (F.NET_TX_RESULT_STATUS.at [p]) = Status.range.code ∧
        t.dev.net = s.dev.net)) ∧
  (∀ (s : State) (p : Fin 4) (port : Port), port.num = p.val → s.dev.mayTransmit p = true →
    ∃ t, exec (.txFrameSelect port) s = .next t ∧
      (∀ m, (s.dev.port p).media = [m] → m.launch.le s.dev.time.tai = true →
        s.dev.time.tai.le (m.launch.addNs (s.dev.rd (F.NET_LATE_TOL_LATE_TOL.at [p]) : Nat)) = true →
        t.dev.out = s.dev.out ++ [.media m.ctx m.copyB m.frame] ∧ (t.dev.port p).media = []) ∧
      (∀ f, (s.dev.port p).media = [] → (s.dev.port p).txq = [f] →
        t.dev.out = s.dev.out ++ [f.out] ∧ (t.dev.port p).txq = [] ∧
        (∀ b, f.buffer = some b → b ∉ t.dev.net.txAlloc) ∧
        t.dev.rd (F.NET_COUNT_COUNT.at [p, 14]) = satAdd 32 (s.dev.rd (F.NET_COUNT_COUNT.at [p, 14])) 1)) ∧
  (∀ (s : State) (p : Fin 4) (m : MediaTx), s.dev.booted = true → (s.dev.port p).media = [m] →
    (m.launch.addNs (s.dev.rd (F.NET_LATE_TOL_LATE_TOL.at [p]) : Nat)).le s.dev.time.tai = true →
    ∃ t, exec (.txLateDrop p) s = .next t ∧ (t.dev.port p).media = [] ∧ t.dev.rd (F.NET_STICKY_LATE_DROP_SEEN.at [p]) = 1 ∧
      t.dev.rd (F.NET_COUNT_COUNT.at [p, 15]) = satAdd 32 (s.dev.rd (F.NET_COUNT_COUNT.at [p, 15])) 1) ∧
  (∀ (s : State) (p : Fin 4) (event : Bool), s.dev.inServicePort p = true → s.dev.on (F.NET_CFG_ESMC_TX_EN.at [p]) = true →
    ∃ t bytes, exec (.esmcTx p event) s = .next t ∧ (t.dev.port p).txq = (s.dev.port p).txq ++ [⟨6, none, .frame (portOf p) bytes⟩] ∧
      beAt bytes 0 6 = 0x0180C2000002 ∧ beAt bytes 12 2 = 0x8809 ∧ t.dev.regs = s.dev.regs) ∧
  (∀ (s : State) (c : Fin 256), s.dev.booted = true → s.dev.ctxState c = 4 → s.dev.cf F.STR_CTX_CFG_IPV6 c = 0 →
    s.dev.inServicePort (s.dev.ctxDest c false).1 = true → isGroup false (s.dev.ctxDest c false).2 = false →
    (s.dev.ctxDest c false).2 ≠ 0 →
    ∃ t bytes, exec (.arpRefresh c false) s = .next t ∧ beAt bytes 0 6 = 2 ^ 48 - 1 ∧
      (s.dev.rd (F.NET_VLAN_SVC_VID.at [(s.dev.ctxDest c false).1]) = 0 → beAt bytes 12 2 = 0x0806) ∧
      (s.dev.rd (F.NET_VLAN_SVC_VID.at [(s.dev.ctxDest c false).1]) ≠ 0 → beAt bytes 12 2 = 0x8100 ∧ beAt bytes 16 2 = 0x0806) ∧
      (t.dev.port (s.dev.ctxDest c false).1).txq =
        (s.dev.port (s.dev.ctxDest c false).1).txq ++ [⟨3, none, .frame (portOf (s.dev.ctxDest c false).1) bytes⟩] ∧ t.dev.regs = s.dev.regs) ∧
  (∀ (s : State) (status : BitVec 16), s.dev.alive = true → s.dev.on F.MGT_CFG_EN = true → s.dev.on F.MGT_CFG_PHY_POLL_EN = true →
    ∃ t, exec (.phyPoll status) s = .next t ∧ t.dev.rd F.MGT_STATUS_LINK = bit (bitAt status.toNat 2)) ∧
  (∀ (s : State) (clause45 : Bool) (op : Fin 4) (phy reg : BitVec 5) (data : BitVec 16), s.dev.alive = true →
    s.dev.pins.testEn = false → s.dev.on F.MGT_MDIO_CMD_GO = false →
    ∃ t, exec (.mdioCommand clause45 op phy reg data) s = .next t ∧ t.dev.rd F.MGT_MDIO_CMD_GO = 1 ∧
      t.dev.rd F.MGT_MDIO_DATA_DATA = data.toNat ∧ t.dev.net.mdioRead = decide (2 ≤ op.val) ∧
      t.dev.out = s.dev.out ++ [.mdio clause45 op phy.toNat reg.toNat data.toNat]) ∧
  (∀ (s : State) (data : BitVec 16), s.dev.alive = true → s.dev.on F.MGT_MDIO_CMD_GO = true → s.dev.net.mdioReply = none →
    ∃ t, exec (.mdioComplete data) s = .next t ∧ t.dev.rd F.MGT_MDIO_CMD_GO = 0 ∧ onlyRegisters s t ∧
      (s.dev.net.mdioRead = true → t.dev.rd F.MGT_MDIO_DATA_DATA = data.toNat) ∧
      (s.dev.net.mdioRead = false → t.dev.rd F.MGT_MDIO_DATA_DATA = s.dev.rd F.MGT_MDIO_DATA_DATA))

/-- R193, R196, R198, R203, R205, R211: a packet that fits is placed at its index and counted, its context RUNNING; one of a wrong version is a
format error; a transmit context launches its packet and goes on; a silent context is LOST, a silent copy DEGRADED; the history is cleared.
Where the spec leaves a point open, the model’s choice stands (log 68, 97). -/
def Obligations.StreamContexts : Prop :=
  (∀ (s : State) (c : Fin 256) (p : Fin 4) (vid : Nat) (flow : MediaFlow) (rtp : List Byte) (detected : Tai) (m k : Nat),
    let d := s.dev; let r := Rtp.parse rtp; let l : Int := d.cf F.STR_CTX_MAP_LINK_OFFSET c
    let f : Int := d.indexAt (d.ingress p detected); let bytes := formatBytes (d.cf F.STR_CTX_CFG_FORMAT c)
    d.inServicePort p = true → d.mediaFor p vid flow r.pt = [(c.val, false)] →
    (r.version ≠ 2 → ∃ t, exec (.mediaPacketRx p vid flow rtp detected) s = .next t ∧
      t.dev.rd (F.STR_CTX_STICKY_FORMAT_ERR_SEEN.un c) = 1 ∧ t.dev.str = s.dev.str ∧
      t.dev.rd (copyCount false 5 c) = satAdd 32 (d.rd (copyCount false 5 c)) 1) ∧
    (r.version = 2 → r.pt = d.cf F.STR_CTX_NET_PT c → d.cf F.STR_CTX_CFG_SSRC_FLT_EN c = 0 →
      0 < m → m ≤ 192 → r.payload.length = m * d.ctxCh c * bytes → 0 < d.ctxCh c * bytes → r.ts < 2 ^ 32 →
      (k : Int) = placeIndex (f - l) (r.ts + 2 ^ 32 - d.cf F.STR_CTX_RTP_OFFSET_RTP_OFFSET c) →
      f - l + 2 ≤ k → (k : Int) + m - 1 < f - l + 1 + d.ringD → (d.ctx c).ringA = [] →
      ∃ t, exec (.mediaPacketRx p vid flow rtp detected) s = .next t ∧
        (t.dev.ctx c).ringA = ringWrite [] d.ringD k (payloadSamples bytes (d.ctxCh c) m r.payload) ∧
        t.dev.ctxState c = 2 ∧ t.dev.rd (F.STR_CTX_STATUS_COPY_A_OK.un c) = 1 ∧ t.dev.rd (F.STR_CTX_TS_LAST_TS.un c) = r.ts ∧
        t.dev.rd (copyCount false 0 c) = satAdd 32 (d.rd (copyCount false 0 c)) 1)) ∧
  (∀ (s : State) (c : Fin 256) (top : Nat) (mac : Nat), s.dev.booted = true → s.dev.ctxState c = 4 → (s.dev.ctx c).top = some top →
    (s.dev.ctx c).nextK + s.dev.ctxN c ≤ top + 1 → (s.dev.ctx c).endK = none → (s.dev.ctx c).jumpTo ≤ (s.dev.ctx c).nextK → s.dev.on F.PAIR_CFG_EN = false →
    s.dev.serving = true → s.dev.ctxPaired c = false → s.dev.ctxMac c false = some mac →
    ∃ t m, exec (.mediaPacketLaunch c) s = .next t ∧ (t.dev.ctx c).nextK = (s.dev.ctx c).nextK + s.dev.ctxN c ∧
      (t.dev.port (s.dev.ctxDest c false).1).media = (s.dev.port (s.dev.ctxDest c false).1).media ++ [m] ∧ m.ctx = c.val ∧
      m.copyB = false ∧ m.launch = (s.dev.gridAt ((s.dev.ctx c).nextK + s.dev.ctxN c)).addNs 4000 ∧
      t.dev.rd (copyCount false 0 c) = satAdd 32 (s.dev.rd (copyCount false 0 c)) 1) ∧
  (∀ (s : State) (c : Fin 256), s.dev.booted = true → s.dev.ctxState c = 2 → s.dev.ctxSilent c (s.dev.ctx c).heardA = true →
    s.dev.ctxSilent c (s.dev.ctx c).heardB = true →
    ∃ t, exec (.streamTimeout c) s = .next t ∧ t.dev.ctxState c = 3 ∧ t.dev.rd (F.STR_CTX_STICKY_LOST_SEEN.un c) = 1 ∧
      onlyRegisters s t) ∧
  (∀ (s : State) (c : Fin 256) (copyB : Bool), s.dev.booted = true →
    s.dev.on ((pick copyB F.STR_CTX_STATUS_COPY_A_OK F.STR_CTX_STATUS_COPY_B_OK).un c) = true →
    s.dev.ctxSilent c (pick copyB (s.dev.ctx c).heardA (s.dev.ctx c).heardB) = true →
    ∃ t, exec (.copyTimeout c copyB) s = .next t ∧ onlyRegisters s t ∧
      t.dev.rd ((pick copyB F.STR_CTX_STATUS_COPY_A_OK F.STR_CTX_STATUS_COPY_B_OK).un c) = 0 ∧
      (s.dev.ctxState c = 2 → s.dev.ctxPaired c = true → t.dev.rd (F.STR_CTX_STATUS_DEGRADED.un c) = 1 ∧
        t.dev.rd (F.STR_CTX_STICKY_COPY_LOST_SEEN.un c) = 1)) ∧
  (∀ (s : State) (c : Fin 256), s.dev.booted = true →
    ∃ t, exec (.streamHistoryClear c) s = .next t ∧ onlyRegisters s t ∧ t.dev.rd (F.STR_CTX_MARGIN_MIN_MARGIN.un c) = 0x7FFFFFFF ∧
      t.dev.rd (F.STR_CTX_STICKY_LOST_SEEN.un c) = 0 ∧ t.dev.rd (F.STR_CTX_STICKY_LATE_SEEN.un c) = 0)

/-- R70, R76, R215, R217, R219, R221 to R225, R239: a media group that loses lock loses ALIGNED too, and locks again, aligned where it is not steered; a
port's frame is checked and numbered; a lost clock unsettles the port; at a block boundary the fill means begin anew; a clamp held for a second is
NOT_FOLLOWING on both ports of the group, cleared after 60 s; a settled stop is STOPPED; the history is cleared.
Where the spec leaves a point open, the model’s choice stands (log 102). -/
def Obligations.AudioPortsAndMediaClocks : Prop :=
  (∀ (s : State) (g : Fin 8), s.dev.alive = true → s.dev.on (F.CLK_MCLK_STATUS_LOCKED.at [g]) = true →
    ∃ t, exec (.mclkLockLost g) s = .next t ∧ onlyRegisters s t ∧ t.dev.rd (F.CLK_MCLK_STATUS_LOCKED.at [g]) = 0 ∧
      t.dev.rd (F.CLK_MCLK_STATUS_ALIGNED.at [g]) = 0) ∧
  (∀ (s : State) (g : Fin 8), s.dev.alive = true → s.dev.mclkRuns g = true →
    ∃ t, exec (.mclkSynthLock g) s = .next t ∧ onlyRegisters s t ∧ t.dev.rd (F.CLK_MCLK_STATUS_LOCKED.at [g]) = 1 ∧
      t.dev.rd (F.CLK_MCLK_STATUS_ALIGNED.at [g]) = bit (!s.dev.on (F.APT_GRP_CFG_STEERED.at [g])) ∧
      registersBut s t [F.CLK_MCLK_STATUS_LOCKED.at [g], F.CLK_MCLK_STATUS_ALIGNED.at [g]]) ∧
  (∀ (s : State) (p : Fin 16) (edge : Tai) (period bclks : Nat) (good : Bool) (slots : List (BitVec 32)) (f : Nat),
    s.dev.booted = true → s.dev.isAes p = false → s.dev.aptState p = 0 → s.dev.pf F.APT_STATUS_SETTLED p = 1 →
    (s.dev.apo p).frame = some f → (s.dev.apo p).invalid = 0 →
    ∃ t, exec (.portFrame p .both edge period bclks good slots) s = .next t ∧ (t.dev.apo p).frame = some (f + 1) ∧
      t.dev.rd (F.APT_COUNT_COUNT.at [p, 0]) = satAdd 32 (s.dev.rd (F.APT_COUNT_COUNT.at [p, 0])) 1 ∧
      (s.dev.periodOk period = true → bclks = s.dev.pf F.APT_CFG_SLOTS p * widthBits (s.dev.pf F.APT_CFG_WIDTH p) →
        t.dev.pf F.APT_STATUS_CLK_VALID p = 1 ∧ (t.dev.apo p).valid = (s.dev.apo p).valid + 1) ∧
      (s.dev.periodOk period = false → t.dev.pf F.APT_STATUS_CLK_VALID p = 0 ∧ (t.dev.apo p).valid = 0 ∧
        t.dev.pf F.APT_STICKY_FRAME_ERR_SEEN p = 1)) ∧
  (∀ (s : State) (p : Fin 16) (at_ : Nat), s.dev.booted = true → (s.dev.apo p).edge = some at_ → at_ + s.dev.twoFrames ≤ s.dev.time.cycles →
    ∃ t, exec (.portClockLoss p) s = .next t ∧ t.dev.pf F.APT_STATUS_SETTLED p = 0 ∧ t.dev.pf F.APT_STATUS_CLK_VALID p = 0 ∧
      t.dev.pf F.APT_STICKY_CLOCK_LOSS_SEEN p = 1 ∧
      t.dev.rd (F.APT_COUNT_COUNT.at [p, 2]) = satAdd 32 (s.dev.rd (F.APT_COUNT_COUNT.at [p, 2])) 1) ∧
  (∀ s : State, s.dev.booted = true → (∀ p : Fin 16, s.dev.aptState p ≠ 2 ∧ (s.dev.apo p).pend = []) →
    ∃ t, exec .audioBlockBoundary s = .next t ∧ ∀ p : Fin 16, (t.dev.apo p).rx.fillCount = 0 ∧ (t.dev.apo p).tx.fillCount = 0 ∧
      (∀ m, (s.dev.apo p).rx.mean = some m → m < 256 → t.dev.pf F.APT_FILL_RX_FILL p = m)) ∧
  (∀ (s : State) (g : Fin 8) (at_ : Nat), s.dev.booted = true → s.dev.on (F.CLK_MCLK_STATUS_TRIM_CLAMPED.at [g]) = true →
    s.dev.clk.clamped.find? g = some at_ → s.dev.past at_ 1000 = true →
    ∃ t, exec (.trimClampHold g) s = .next t ∧ t.dev.rd (F.APT_GRP_STATUS_CLAMP_1S.at [g]) = 1 ∧
      t.dev.pf F.APT_STATUS_NOT_FOLLOWING (2 * g) = 1 ∧ t.dev.pf F.APT_STATUS_NOT_FOLLOWING (2 * g + 1) = 1) ∧
  (∀ (s : State) (p : Fin 16), s.dev.booted = true → (s.dev.apo p).lastSlip = none → (s.dev.apo p).clampSince = none →
    s.dev.on (F.CLK_MCLK_STATUS_TRIM_CLAMPED.at [p / 2]) = false →
    ∃ t, exec (.notFollowingClear p) s = .next t ∧ t.dev.pf F.APT_STATUS_NOT_FOLLOWING p = 0 ∧ onlyRegisters s t) ∧
  (∀ (s : State) (p : Fin 16), s.dev.booted = true → s.dev.aptState p = 3 →
    s.dev.pf F.APT_SETTLE_SETTLE p ≤ (s.dev.apo p).stopFrames →
    ∃ t, exec (.portStopRelease p) s = .next t ∧ t.dev.aptState p = 0 ∧ t.dev.pf F.APT_STICKY_STATE_CHANGE_SEEN p = 1) ∧
  (∀ (s : State) (p : Fin 16), s.dev.booted = true →
    ∃ t, exec (.audioPortHistoryClear p) s = .next t ∧ onlyRegisters s t ∧ t.dev.pf F.APT_STICKY_CLOCK_LOSS_SEEN p = 0 ∧
      t.dev.pf F.APT_STICKY_SLIP_SEEN p = 0)

/-- R158, R191, R219, R246: at a frame boundary the frame that is nearest the TAI instant is the one presented last; a level whose claim ended HANG_MS ago
is no longer ACTIVE in its zone.
Where the spec leaves a point open, the model’s choice stands (log 99, 100). -/
def Obligations.AudioFramesAndZoneLevels : Prop :=
  (∀ s : State, s.dev.booted = true → s.dev.audioRuns = true → s.dev.island.islanded = false → s.dev.alm.audio = [] →
    s.dev.mode.mode ≠ .safeHold →
    ∃ t, exec .audioFrameBoundary s = .next t ∧ t.dev.mtx.last = some (s.dev.indexNear s.dev.time.tai)) ∧
  (∀ s : State, s.dev.booted = true → s.dev.audioRuns = false → s.dev.island.islanded = false → s.dev.alm.audio = [] →
    (∀ p ∈ s.dev.lib.plays, p.mark = none) →
    ∃ t, exec .audioFrameBoundary s = .next t ∧ t = { s with dev := s.dev.setLib { s.dev.lib with plays := [] } }) ∧
  (∀ (s : State) (z : Fin 1536) (level : Fin 8) (e k : Nat), s.dev.booted = true → (s.dev.zone z).ended.find? level = some e →
    s.dev.mtx.last = some k → e + s.dev.zf F.MTX_ZN_CFG_HANG_MS z * s.dev.fs / 1000 ≤ k + 1 →
    ∃ t, exec (.zoneHangExpiry z level) s = .next t ∧
      t.dev.zf F.MTX_ZN_STATUS_ACTIVE z = setBit (s.dev.zf F.MTX_ZN_STATUS_ACTIVE z) level false ∧
      registersBut s t [F.MTX_ZN_STATUS_ACTIVE.un z] ∧ t.dev.out = s.dev.out)

/-- R257 to R262, R264 to R266: an accepted play waits for its boundary with its voice, one whose message is not resident is counted BUSY; a voice stops by a
fade; a rewind waits with its mark; a mark holds its position; an index row holds its message; a message read from NAND is resident, one written to
NAND persists.
Where the spec leaves a point open, the model’s choice stands (log 109). -/
def Obligations.LibraryVoicesAndRecorder : Prop :=
  (∀ (s : State) (message : BitVec 32) (voice level : BitVec 8) (zones : BitVec 16) (safety : Bool),
    let p : Play := { source := .message message.toNat, voice := voice.toNat, level := level.toNat, zoneSet := zones.toNat,
                      classS := safety, origin := 4, due := s.dev.playDue }
    s.dev.booted = true → s.dev.playArgs p = .ok → s.dev.claimRefused p = false →
    ∃ t, exec (.libraryPlay message voice level zones safety) s = .next t ∧
      (s.dev.msgStatus message.toNat = .ok → (s.dev.allot (if safety then .s else .a) (s.dev.cost 9 1)).1 = true →
        voice.toNat < 64 → s.dev.voice voice.toNat = none → (∀ q ∈ s.dev.lib.plays, q.voice ≠ voice.toNat) → t.dev.lib.plays = s.dev.lib.plays ++ [p]) ∧
      (s.dev.msgStatus message.toNat = .busy → t.dev.lib.plays = s.dev.lib.plays ∧ t.dev.lib.voices = s.dev.lib.voices ∧
        t.dev.pwr = s.dev.pwr)) ∧
  (∀ (s : State) (v : Fin 64) (safety : Bool) (x : Voice) (a b : Nat), s.dev.booted = true → s.dev.voice v = some x →
    x.source = .rewind a b 0 → x.fade = none → (x.classS = true → safety = true) →
    ∃ t y, exec (.voiceStop (BitVec.ofNat 64 (2 ^ v.val)) safety) s = .next t ∧ t.dev.voice v = some y ∧ y.fade = some (32, 1) ∧
      t.dev.regs = s.dev.regs) ∧
  (∀ (s : State) (mark : Fin 256) (channel voice level : BitVec 8) (zones : BitVec 16) (length : BitVec 32) (safety : Bool),
    let p : Play := { source := .rewind 0 channel.toNat length.toNat, voice := voice.toNat, level := level.toNat,
                      zoneSet := zones.toNat, classS := safety, origin := 4, due := s.dev.playDue, mark := some mark.val }
    s.dev.booted = true → channel.toNat < 64 → s.dev.playArgs p = .ok → s.dev.claimRefused p = false →
    (s.dev.allot (if safety then .s else .a) (s.dev.cost 9 1)).1 = true →
    ∃ t, exec (.recorderRewind mark channel voice level zones length safety) s = .next t ∧
      t.dev.lib.plays = s.dev.lib.plays ++ [p]) ∧
  (∀ (s : State) (row : Fin 256) (position : BitVec 64) (label session : BitVec 32), s.dev.booted = true → position.toNat ≠ 0 →
    s.dev.recOldest ≤ position.toNat → position.toNat < s.dev.lib.recd.w →
    ∃ t, exec (.recorderMarkSet row position label session) s = .next t ∧
      t.dev.lib.marks.find? row = some ⟨1, position.toNat, label.toNat, session.toNat⟩ ∧ t.dev.regs = s.dev.regs) ∧
  (∀ (s : State) (row : Fin 15360) (entry : List Byte), s.dev.booted = true → (s.dev.indexWrite row entry).2 = .ok →
    ∃ t, exec (.libraryIndexWrite row entry) s = .next t ∧ t.dev.regs = s.dev.regs ∧
      (leAt (slice entry 0 64) 0 4 = 0 → t.dev.lib.msgs.find? row = none) ∧
      (leAt (slice entry 0 64) 0 4 ≠ 0 → t.dev.lib.msgs.find? row = some { entry := slice entry 0 64 })) ∧
  (∀ (s : State) (row : Fin 15360) (m : Message) (audio : List Byte), s.dev.booted = true → s.dev.lib.order = [row.val] →
    s.dev.libMayLoad = true → s.dev.lib.msgs.find? row = some m → m.nand = some audio → m.dram = none → m.noRoom = false →
    crc32c audio = m.audioCrc → s.dev.lib.waiting = [] →
    ∃ t, exec (.libraryLoadComplete row true) s = .next t ∧
      t.dev.lib.msgs.find? row = some { m with dram := some audio, bad := false } ∧ t.dev.lib.order = [] ∧
      t.dev.rd F.GCTL_BOOT_STATUS_LIB_BG_DONE = 1) ∧
  (∀ (s : State) (row : Fin 15360) (m : Message), s.dev.booted = true → s.dev.noNand = false → s.dev.lib.msgs.find? row = some m →
    m.dram.isSome = true → s.dev.libMayLoad = true →
    ∃ t, exec (.libraryPersistComplete row) s = .next t ∧ t.dev.lib.msgs.find? row = some { m with nand := m.dram } ∧
      t.dev.regs = s.dev.regs)

/-- R30, R31, R33, R45: an uncorrectable error is counted, flagged and contained by its region, one of a critical region is SAFE_HOLD cause 0x08; a
scrub pass that ends is noted; a unit lost to a fault is out of service and raises its accusation.
Where the spec leaves a point open, the model’s choice stands (log 121 to 123). -/
def Obligations.MemoryErrorsAndScrub : Prop :=
  (∀ (s : State) (region : Region), s.dev.alive = true → (region.dram = true → s.dev.boot.fitted ≠ 0) →
    ∃ t, exec (.uncorrectableError region) s = .next t ∧
      t.dev.pwr.errors.get 0 region.code = s.dev.pwr.errors.get 0 region.code + 1 ∧
      t.dev.rd F.GCTL_IRQ_STATUS_MEM_UNCORRECTABLE = 1) ∧
  (∀ s : State, s.dev.alive = true → s.dev.mode.mode ≠ .reset → s.dev.mode.mode ≠ .safeHold → s.dev.mode.mode ≠ .bootstrap →
    s.dev.mode.decided = none →
    ∃ t, exec (.uncorrectableError .critical) s = .next t ∧ decides t .safeHold 0x08 0 ∧ t.dev.rd F.PAIR_STICKY_ACCUSE_SEEN = 1) ∧
  (∀ (s : State) (c : Fin 256) (slot : Nat), s.dev.alive = true → s.dev.boot.fitted ≠ 0 →
    ∃ t, exec (.uncorrectableError (.streamBuffer c false slot)) s = .next t ∧
      (t.dev.ctx c).ringA = (s.dev.ctx c).ringA.del slot) ∧
  (∀ (s : State) (dram : Bool), s.dev.booted = true → s.dev.isShed .scrub = false → s.dev.bBarred = false → 0 ≤ s.dev.headroom →
    s.dev.boot.fitted ≠ 0 →
    ∃ t, exec (.scrub dram true) s = .next t ∧ registersBut s t [F.PWR_STATUS_SCRUB_LATE] ∧
      (dram = true → t.dev.rd F.PWR_STATUS_SCRUB_LATE = 0 ∧ t.dev.pwr.scrubbed = s.dev.time.cycles) ∧
      (dram = false → t.dev.pwr.sramScrubbed = s.dev.time.cycles))

/-- R277, R278, R281: an integration with samples enough ends with the outcome of its measurement, one without them is NO_QUIET; a learn is marked
pending; and R33: a unit lost to a fault is noted, a lost lane takes its link down.
Where the spec leaves a point open, the model’s choice stands (log 120). -/
def Obligations.PilotOutcomesAndLostUnits : Prop :=
  (∀ (s : State) (i : Fin 128) (x : Corr), s.dev.booted = true → s.dev.sup.corrs.find? i = some x → x.want ≤ x.adm.length →
    x.band = none →
    ∃ t, exec (.pilotIntegrationEnd i) s = .next t ∧
      t.dev.zf F.SUP_PATH_STATUS_OUTCOME x.path = s.dev.outcome x.path (x.measure (s.dev.pilotSign x.path)
        (pilotAmplitude (s.dev.rdS (F.SUP_PATH_LEVEL_PILOT_LEVEL.un x.path)))) ∧
      t.dev.rd (F.SUP_COUNT_COUNT.at [0]) = satAdd 32 (s.dev.rd (F.SUP_COUNT_COUNT.at [0])) 1) ∧
  (∀ (s : State) (i : Fin 128) (x : Corr) (b : Nat), s.dev.booted = true → s.dev.sup.corrs.find? i = some x → x.band = some b → b < 8 →
    s.dev.past x.began (1000 * s.dev.sweepS) = true →
    ∃ t y, exec (.pilotIntegrationEnd i) s = .next t ∧ t.dev.sup.corrs.find? i = some y ∧ y.band = some (b + 1) ∧ y.adm = [] ∧
      y.began = s.dev.time.cycles) ∧
  (∀ (s : State) (i : Fin 128) (x : Corr), s.dev.booted = true → s.dev.sup.corrs.find? i = some x → x.adm.length < x.want →
    x.band = none → s.dev.past x.began (10000 * s.dev.zf F.SUP_PATH_INT_INT_S x.path) = true →
    ∃ t, exec (.pilotNoQuietTimeout i) s = .next t ∧ t.dev.zf F.SUP_PATH_STATUS_OUTCOME x.path = 7 ∧
      t.dev.rd (F.SUP_COUNT_COUNT.at [3]) = satAdd 32 (s.dev.rd (F.SUP_COUNT_COUNT.at [3])) 1) ∧
  (∀ (s : State) (z : Fin 1536), s.dev.booted = true →
    ∃ t, exec (.pilotLearn z) s = .next t ∧ t.dev.zf F.SUP_PATH_STATUS_LEARN_PENDING z = 1 ∧ onlyRegisters s t ∧
      registersBut s t [F.SUP_PATH_STATUS_LEARN_PENDING.un z]) ∧
  (∀ (s : State) (u : Unit33), s.dev.booted = true → s.dev.isLost u.kind u.number = false →
    ∃ t, exec (.unitLostToFault u) s = .next t ∧ t.dev.isLost u.kind u.number = true ∧
      (∀ n : Fin 4, u = .lane n → t.dev.linkUp n = false) ∧ (u = .irmon → t.dev.rd F.PAIR_STATUS_IRMON_UP = 0))

/-- R282 to R289, R294, R297: an instance of the run starts when its conditions and the budget allow it, is skipped with cause 6 when they do not, with cause
7 after a minute of waiting; a passed instance is recorded so, a faulted one INCOMPLETE; the window's end and an abort leave VIGIL; a named instance runs in MAINTENANCE alone.
Where the spec leaves a point open, the model’s choice stands (log 115 to 117). -/
def Obligations.VigilAndSelfTest : Prop :=
  (∀ (s : State) (v : VigilSt) (row : Nat) (rest : List Nat), s.dev.mode.mode = .vigil → s.dev.sup.vigil = some v →
    v.todo = row :: rest → s.dev.sup.testing = none → s.dev.activeStep row = false →
    ∃ t, exec .selfTestStart s = .next t ∧
      (s.dev.mayTest row = false → ∃ r, t.dev.sup.results.find? row = some r ∧ r.result = 3 ∧ r.cause = 6) ∧
      (s.dev.mayTest row = true → s.dev.bBarred = false → (s.dev.allot .b (s.dev.cost 11 1)).1 = true →
        t.dev.sup.testing = some ⟨row, s.dev.time.cycles, false⟩) ∧
      (s.dev.mayTest row = true → s.dev.bBarred = false → (s.dev.allot .b (s.dev.cost 11 1)).1 = false →
        t.dev.sup.testing = none ∧ t.dev.sup.vigil = some { v with waiting := some (v.waiting.getD s.dev.time.cycles) }) ∧
      (s.dev.mayTest row = true → s.dev.bBarred = true → ∃ r, t.dev.sup.results.find? row = some r ∧ r.result = 4 ∧ r.cause = 7)) ∧
  (∀ (s : State) (x : Testing) (stream : List Byte) (measured : BitVec 16), s.dev.sup.testing = some x → x.row < 75 →
    testSig stream (Config.selfTestCycles x.row (s.dev.testParam x.row)) true = s.dev.testExpect x.row →
    ∃ t r, exec (.selfTestEnd (.completed stream true measured true true)) s = .next t ∧ t.dev.sup.testing = none ∧
      t.dev.sup.results.find? x.row = some r ∧ r.result = 0 ∧ r.cause = 0 ∧ r.measured = measured.toNat) ∧
  (∀ (s : State) (x : Testing), s.dev.sup.testing = some x →
    ∃ t r, exec (.selfTestEnd .faulted) s = .next t ∧ t.dev.sup.testing = none ∧ t.dev.sup.results.find? x.row = some r ∧
      r.result = 2 ∧ r.cause = 12 ∧ r.sig ≠ r.expect) ∧
  (∀ (s : State) (v : VigilSt) (row since : Nat) (rest : List Nat), s.dev.sup.vigil = some v → v.todo = row :: rest →
    v.waiting = some since → s.dev.past since 60000 = true →
    ∃ t r, exec .vigilAdmissionTimeout s = .next t ∧ t.dev.sup.results.find? row = some r ∧ r.result = 4 ∧ r.cause = 7) ∧
  (∀ (s : State) (v : VigilSt), s.dev.mode.mode = .vigil → s.dev.sup.vigil = some v →
    s.dev.past v.began (v.plan.getD 1 240 * 60000) = true → s.dev.mode.decided = none →
    ∃ t, exec .vigilWindowEnd s = .next t ∧ t.dev.sup.vigil = none ∧ t.dev.sup.testing = none ∧
      decides t s.dev.mode.origin 0x10 0 ∧ t.dev.rd F.SUP_IRQ_STATUS_VIGIL_END = 1) ∧
  (∀ (s : State) (v : VigilSt), s.dev.booted = true → s.dev.mode.mode = .vigil → s.dev.sup.vigil = some v →
    s.dev.mode.decided = none →
    ∃ t, exec .vigilAbort s = .next t ∧ t.dev.sup.vigil = none ∧ t.dev.sup.testing = none ∧
      decides t s.dev.mode.origin 0x10 0 ∧ t.dev.rd F.SUP_IRQ_STATUS_VIGIL_END = 1) ∧
  (∀ (s : State) (test inst : BitVec 8) (row : Nat), s.dev.booted = true → testRow test.toNat inst.toNat = some row →
    ∃ t, exec (.selfTestRun test inst) s = .next t ∧ (s.dev.mode.mode ≠ .maintenance → t = s) ∧
      (s.dev.mode.mode = .maintenance → s.dev.sup.testing = none → s.dev.mayTest row = true →
        t.dev.sup.testing = some ⟨row, s.dev.time.cycles, true⟩) ∧
      (s.dev.mode.mode = .maintenance → s.dev.sup.testing = none → s.dev.mayTest row = false →
        ∃ r, t.dev.sup.results.find? row = some r ∧ r.result = 3 ∧ r.cause = 6))

/-- R284, R285, R288, R289: the run’s next instance starts where its conditions and the budget allow it; a completed instance with the
expected signature passes; after a minute of waiting the instance is skipped with result 4 and cause 7; the window’s end and an abort leave VIGIL; a
named instance starts in MAINTENANCE.
Where the spec leaves a point open, the model’s choice stands (log 115 to 117). -/
def Obligations.SelfTestRunGoesOn : Prop :=
  (∀ (s : State) (v : VigilSt) (row : Nat) (rest : List Nat), s.dev.mode.mode = .vigil → s.dev.sup.vigil = some v →
    v.todo = row :: rest → s.dev.sup.testing = none → s.dev.activeStep row = false → s.dev.mayTest row = true → s.dev.bBarred = false →
    (s.dev.allot .b (s.dev.cost 11 1)).1 = true →
    ∃ t, exec .selfTestStart s = .next t ∧ t.dev.sup.testing = some ⟨row, s.dev.time.cycles, false⟩ ∧
      t.dev.sup.vigil = some { v with todo := rest, waiting := none }) ∧
  (∀ (s : State) (x : Testing) (stream : List Byte) (measured : BitVec 16), s.dev.sup.testing = some x → x.row < 75 →
    testSig stream (Config.selfTestCycles x.row (s.dev.testParam x.row)) true = s.dev.testExpect x.row →
    ∃ t r, exec (.selfTestEnd (.completed stream true measured true true)) s = .next t ∧ t.dev.sup.testing = none ∧
      t.dev.sup.results.find? x.row = some r ∧ r.result = 0 ∧ r.cause = 0 ∧ r.measured = measured.toNat ∧ r.tai = s.dev.time.tai) ∧
  (∀ (s : State) (v : VigilSt) (row since : Nat) (rest : List Nat), s.dev.sup.vigil = some v → v.todo = row :: rest →
    v.waiting = some since → s.dev.past since 60000 = true → rest ≠ [] →
    ∃ t w r, exec .vigilAdmissionTimeout s = .next t ∧ t.dev.sup.vigil = some w ∧ w.todo = rest ∧ w.waiting = none ∧
      t.dev.sup.results.find? row = some r ∧ r.result = 4 ∧ r.cause = 7) ∧
  (∀ (s : State) (v : VigilSt), s.dev.mode.mode = .vigil → s.dev.sup.vigil = some v → s.dev.mode.decided = none →
    s.dev.past v.began (v.plan.getD 1 240 * 60000) = true →
    ∃ t, exec .vigilWindowEnd s = .next t ∧ t.dev.sup.vigil = none ∧ t.dev.sup.testing = none ∧ t.dev.sup.lastEntry = v.entry ∧
      t.dev.sup.lastEnd = s.dev.time.tai ∧ decides t s.dev.mode.origin 0x10 0) ∧
  (∀ (s : State) (v : VigilSt), s.dev.booted = true → s.dev.mode.mode = .vigil → s.dev.sup.vigil = some v → s.dev.mode.decided = none →
    ∃ t, exec .vigilAbort s = .next t ∧ t.dev.sup.vigil = none ∧ t.dev.sup.testing = none ∧ t.dev.sup.lastEntry = v.entry ∧
      t.dev.sup.lastEnd = s.dev.time.tai ∧ decides t s.dev.mode.origin 0x10 0) ∧
  (∀ (s : State) (test inst : BitVec 8) (row : Nat), s.dev.booted = true → testRow test.toNat inst.toNat = some row →
    s.dev.mode.mode = .maintenance → s.dev.sup.testing = none → s.dev.mayTest row = true →
    ∃ t, exec (.selfTestRun test inst) s = .next t ∧ t.dev.sup.testing = some ⟨row, s.dev.time.cycles, true⟩ ∧
      t.dev.mode = s.dev.mode)

/-- R330 to R336, R338: a tick takes its inputs, bounds SCALE and counts the ticks above CAP; ten of them shed the first unit; a steady surplus restores the last;
a change of source, a stale or new reserve and an hour's life are kept.
Where the spec leaves a point open, the model’s choice stands (log 124 to 127). -/
def Obligations.BudgetScheduler : Prop :=
  (∀ (s : State) (power tj : BitVec 16) (railsOk : Bool), s.dev.alive = true → 1 ≤ s.dev.rd F.GCTL_BOOT_STATUS_BOOT_STEP →
    ∃ t, exec (.budgetTick power tj railsOk) s = .next t ∧ t.dev.rd F.PWR_MEAS_P = power.toNat ∧ t.dev.rd F.PWR_MEAS_TJ = tj.toNat ∧
      t.dev.pwr.ticks = s.dev.pwr.ticks + 1 ∧ t.dev.rd F.PWR_SCALE_SCALE ≤ 1536 ∧ 768 ≤ t.dev.rd F.PWR_SCALE_SCALE ∧
      (t.dev.rd F.PWR_CAP_NOW_CAP < power.toNat → t.dev.pwr.high = s.dev.pwr.high + 1) ∧
      (power.toNat ≤ t.dev.rd F.PWR_CAP_NOW_CAP → t.dev.pwr.high = 0)) ∧
  (∀ s : State, s.dev.booted = true → s.dev.follows = false → 10 ≤ s.dev.pwr.high →
    let want : Int := (s.dev.rd F.PWR_MEAS_P : Int) - ((s.dev.rd F.PWR_CAP_NOW_CAP : Int) - s.dev.rd F.PWR_MARGIN_MARGIN)
    ∃ t, exec .budgetShed s = .next t ∧ t.dev.pwr.high = 0 ∧
      (∀ u, s.dev.pickShed s.dev.shedOrder want [] = [u] → u.ends = false → t.dev.pwr.shed = s.dev.pwr.shed ++ [u] ∧
        t.dev.rd (F.PWR_COUNT_COUNT.at [3]) = satAdd 32 (s.dev.rd (F.PWR_COUNT_COUNT.at [3])) 1) ∧
      (s.dev.pickShed s.dev.shedOrder want [] = [] → t.dev.rd F.PWR_STATUS_STARVED = 1 ∧ t.dev.pwr.shed = s.dev.pwr.shed)) ∧
  (∀ (s : State) (since : Nat) (u : ShedUnit), s.dev.booted = true → s.dev.follows = false → s.dev.pwr.low = some since →
    s.dev.nextRestore = some u → since + s.dev.rd F.PWR_RESTORE_RESTORE_HOLD ≤ s.dev.pwr.ticks →
    s.dev.pwr.restored + 100 ≤ s.dev.pwr.ticks → (s.dev.restoreCost u : Int) ≤ s.dev.headroom →
    ∃ t, exec .budgetRestore s = .next t ∧ t.dev.pwr.shed = s.dev.pwr.shed.erase u ∧ t.dev.pwr.restored = s.dev.pwr.ticks ∧
      t.dev.rd (F.PWR_COUNT_COUNT.at [4]) = satAdd 32 (s.dev.rd (F.PWR_COUNT_COUNT.at [4])) 1) ∧
  (∀ (s : State) (battery : Bool), s.dev.alive = true → s.dev.on F.PWR_STATUS_ON_BATTERY ≠ battery →
    ∃ t, exec (.pwrSrcChange battery) s = .next t ∧ t.dev.on F.PWR_STATUS_ON_BATTERY = battery ∧
      t.dev.rd F.PWR_IRQ_STATUS_SOURCE_CHANGE = 1) ∧
  (∀ s : State, s.dev.booted = true → s.dev.pwr.written = none → s.dev.on F.PWR_STATUS_RESERVE_STALE = false →
    1000 * s.dev.rd F.PWR_AUTONOMY_RESERVE_MAX_AGE ≤ s.dev.pwr.ticks →
    ∃ t, exec .reserveStale s = .next t ∧ t.dev.rd F.PWR_STATUS_RESERVE_STALE = 1 ∧ t.dev.pwr = s.dev.pwr) ∧
  (∀ (s : State) (at_ : Nat), s.dev.booted = true → s.dev.pwr.written = some at_ → s.dev.on F.PWR_STATUS_RESERVE_STALE = false →
    s.dev.past at_ (1000 * s.dev.rd F.PWR_AUTONOMY_RESERVE_MAX_AGE) = true →
    ∃ t, exec .reserveStale s = .next t ∧ t.dev.rd F.PWR_STATUS_RESERVE_STALE = 1 ∧ t.dev.pwr = s.dev.pwr) ∧
  (∀ (s : State) (mwh : BitVec 24), s.dev.booted = true →
    ∃ t, exec (.energyReserveWrite mwh) s = .next t ∧ t.dev.rd F.PWR_RESERVE_ENERGY_RESERVE = mwh.toNat ∧
      t.dev.rd F.PWR_STATUS_RESERVE_STALE = 0 ∧ t.dev.pwr.written = some s.dev.time.cycles ∧
      registersBut s t [F.PWR_RESERVE_ENERGY_RESERVE, F.PWR_STATUS_RESERVE_STALE]) ∧
  (∀ s : State, s.dev.booted = true → 3600000 ≤ s.dev.pwr.hourTicks → s.dev.odp.store.isSome = true →
    ∃ t, exec .lifeUpdate s = .next t ∧ t.dev.pwr.hourSum = 0 ∧ t.dev.pwr.hourTicks = 0 ∧
      t.dev.rd F.PWR_LIFE_HOURS_HOURS = (s.dev.rd F.PWR_LIFE_HOURS_HOURS + 1) % 2 ^ 32)

/-- R411 to R417, R419, R379: a module row settles, reads and is OK with its record's version, class and proposals, or ends with its ERROR; it is removed, or read again; a cage shows the page
read and the values polled; a proposal is taken into the buffered values of its port.
Where the spec leaves a point open, the model’s choice stands (log 131, 132). -/
def Obligations.ModulesAndCages : Prop :=
  (∀ (s : State) (m : Fin 8), s.dev.midRuns = true → s.dev.modState m = 0 →
    ∃ t, exec (.moduleInsert m) s = .next t ∧ t.dev.modState m = 1 ∧
      t.dev.rd F.MID_STATUS_PRESENT = setBit (s.dev.rd F.MID_STATUS_PRESENT) m true ∧
      t.dev.rd (modSticky F.MID_STICKY_INSERT_SEEN0 m) = 1 ∧ t.dev.rd F.MID_IRQ_STATUS_INSERTED = 1) ∧
  (∀ (s : State) (m : Fin 8), s.dev.midRuns = true → s.dev.modState m = 1 →
    ∃ t, exec (.moduleSettleExpiry m) s = .next t ∧
      (s.dev.modClash m = false → t.dev.modState m = 2 ∧ t.dev.rd (F.MID_MOD_STATUS_ERROR.at [m]) = 0) ∧
      (s.dev.modClash m = true → t.dev.modState m = 5 ∧ t.dev.rd (F.MID_MOD_STATUS_ERROR.at [m]) = 7)) ∧
  (∀ (s : State) (m : Fin 8) (record : List Byte) (nacks : Fin 4), s.dev.midRuns = true → s.dev.modState m = 2 →
    ∃ t, exec (.moduleRecordRead m record nacks) s = .next t ∧
      t.dev.rd F.MID_NACKS_COUNT = satAdd 32 (s.dev.rd F.MID_NACKS_COUNT) nacks ∧
      (nacks.val = 3 → t.dev.modState m = 4 ∧ t.dev.rd (F.MID_MOD_STATUS_ERROR.at [m]) = 1) ∧
      (nacks.val ≠ 3 → omirError record = 0 → t.dev.modState m = 3 ∧ t.dev.rd (F.MID_MOD_STATUS_ERROR.at [m]) = 0 ∧
        t.dev.rd (F.MID_MOD_STATUS_VERSION.at [m]) = leAt record 4 1 ∧ t.dev.rd (F.MID_MOD_STATUS_CLASS.at [m]) = leAt record 8 2 ∧
        t.dev.rd (F.MID_MOD_LENGTH_LENGTH.at [m]) = leAt record 6 2 ∧ (t.dev.mid.rows.get {} m).record = record.take (leAt record 6 2)) ∧
      (nacks.val ≠ 3 → omirError record ≠ 0 → t.dev.modState m = 4 ∧
        t.dev.rd (F.MID_MOD_STATUS_ERROR.at [m]) = omirError record)) ∧
  (∀ (s : State) (m : Fin 8), s.dev.midRuns = true → s.dev.modState m ≠ 0 →
    ∃ t, exec (.moduleRemove m) s = .next t ∧ t.dev.modState m = 0 ∧ t.dev.mid.props.find? (2 * m.val) = none ∧
      t.dev.mid.props.find? (2 * m.val + 1) = none ∧ t.dev.rd F.MID_IRQ_STATUS_REMOVED = 1) ∧
  (∀ (s : State) (m : Fin 8), s.dev.midRuns = true → 3 ≤ s.dev.modState m →
    ∃ t, exec (.moduleReread m) s = .next t ∧ t.dev.modState m = 1 ∧ t.dev.ques = s.dev.ques) ∧
  (∀ (s : State) (c : Fin 4) (page : List Byte), s.dev.midRuns = true → s.dev.on (F.NET_CFG_EN.at [c]) = true →
    ∃ t, exec (.sfpRead c page) s = .next t ∧
      (page ≠ [] → t.dev.rd (F.MID_SFP_STATUS_PRESENT.at [c]) = 1 ∧
        t.dev.rd (F.MID_SFP_STATUS_CC_OK.at [c]) = bit (sfpSumOk page) ∧
        (sfpSumOk page = false → t.dev.rd (F.MID_SFP_STATUS_SPEEDS.at [c]) = 0)) ∧
      (page = [] → t.dev.rd (F.MID_SFP_STATUS_PRESENT.at [c]) = 0 ∧
        t.dev.rd F.MID_NACKS_COUNT = satAdd 32 (s.dev.rd F.MID_NACKS_COUNT) 1)) ∧
  (∀ (s : State) (c : Fin 4) (page : List Byte), s.dev.midRuns = true → s.dev.on F.MID_CFG_SFP_POLL_EN = true →
    s.dev.on (F.MID_SFP_STATUS_DDM.at [c]) = true → s.dev.on (F.NET_CFG_EN.at [c]) = true → page ≠ [] →
    ∃ t, exec (.sfpPoll c page) s = .next t ∧ t.dev.rd (F.MID_SFP_TEMP_TEMP.at [c]) = beAt page 0 2 ∧
      t.dev.rd (F.MID_SFP_POWER_TX.at [c]) = beAt page 6 2 ∧ t.dev.rd (F.MID_SFP_POWER_RX.at [c]) = beAt page 8 2 ∧
      registersBut s t [F.MID_SFP_TEMP_TEMP.at [c], F.MID_SFP_POWER_TX.at [c], F.MID_SFP_POWER_RX.at [c]]) ∧
  (∀ (s : State) (mask : BitVec 16) (p : Nat) (x : Proposal), hostMay s true 0x9804 0 0 (toBE 2 mask.toNat) →
    bitList 16 mask.toNat = [p] → s.dev.mid.props.find? p = some x →
    ∃ t, exec (.applyProposals .host mask) s = .next t ∧
      t.dev.rdB (F.APT_CFG_MODE.at [p]) = x.mode % 2 ^ F.APT_CFG_MODE.w ∧
      t.dev.rdB (F.APT_CFG_SLOTS.at [p]) = x.slots % 2 ^ F.APT_CFG_SLOTS.w ∧
      t.dev.rdB (F.APT_TX_MASK_MASK.at [p]) = x.txMask % 2 ^ F.APT_TX_MASK_MASK.w ∧
      t.dev.rd (F.APT_CFG_MODE.at [p]) = s.dev.rd (F.APT_CFG_MODE.at [p]))

/-- R304 to R308, R316: the active's token carries its records and flags; a standby keeps a good token for its boundary and counts a bad FCS; at the deadline
a whole token is consumed and a missing one counted. TIME frames are sent and give the lane's offset and delay; a command waits for its boundary; RESYNC takes
the state it is sent.
Where the spec leaves a point open, the model’s choice stands (log 134, 136, 143). -/
def Obligations.PairLinkFrames : Prop :=
  (∀ s : State, s.dev.booted = true → s.dev.paired = true → s.dev.roleMode = .active → s.dev.irmonUp = true →
    ∃ t, exec .tokenSend s = .next t ∧ t.dev.pair.records = [] ∧ t.dev.pair.flags = 0 ∧ t.dev.pair.sent = s.dev.tokenFlags ∧
      t.dev.regs = s.dev.regs ∧ (s.dev.pair.records = [] → t.dev.out = s.dev.out ++
        [.irmon 1 (tokenFrame 0 1 s.dev.tokenFlags (grid48 s.dev.time.tai + 1) s.dev.odp.journal.head [])])) ∧
  (∀ (s : State) (payload : List Byte) (fcsOk : Bool), s.dev.booted = true → s.dev.paired = true → s.dev.irmonUp = true →
    ∃ t, exec (.tokenRx payload fcsOk) s = .next t ∧
      (fcsOk = false → t.dev.rd (F.PAIR_COUNT_COUNT.at [7]) = satAdd 32 (s.dev.rd (F.PAIR_COUNT_COUNT.at [7])) 1 ∧
        t.dev.pair = s.dev.pair) ∧
      (fcsOk = true → payload.length = 24 + 16 * beAt payload 10 2 → beAt payload 0 1 = 1 →
        beAt payload (payload.length - 4) 4 = crc32c (payload.take (payload.length - 4)) → s.dev.mode.mode ≠ .active →
        s.dev.follows = true → grid48 (s.dev.time.tai.addNs 1000) < beAt payload 4 6 →
        t.dev.pair.boundary = beAt payload 4 6 ∧ t.dev.pair.want = beAt payload 2 1 ∧ t.dev.pair.inFlags = beAt payload 3 1 ∧
        t.dev.pair.frames.find? (beAt payload 1 1) =
          some ((List.range (beAt payload 10 2)).map (fun i => slice payload (20 + 16 * i) 16)))) ∧
  (∀ s : State, s.dev.booted = true → s.dev.watches = true → s.dev.follows = true → s.dev.roleMode = .marionette → s.dev.pair.commands = [] →
    s.dev.rd F.PAIR_STATUS_RESYNC_STEP ≠ 5 →
    ∃ t, exec .tokenDeadline s = .next t ∧ t.dev.pair.frames = [] ∧
      (s.dev.pair.boundary = grid48 (s.dev.time.tai.addNs 1000) → s.dev.pair.want = 1 → s.dev.pair.frames.find? 0 = some [] →
        t.dev.regs = s.dev.regs ∧ (bitAt s.dev.pair.inFlags 4 = true → s.dev.mode.mode = .marionette →
          s.dev.mode.decided = none → decides t .vigil 0x0F 0)) ∧
      (s.dev.pair.boundary ≠ grid48 (s.dev.time.tai.addNs 1000) → t.dev.pair.inFlags = 0 ∧ t.dev.rd F.PAIR_STICKY_TOKEN_MISS_SEEN = 1 ∧
        t.dev.rd (F.PAIR_COUNT_COUNT.at [1]) = satAdd 32 (s.dev.rd (F.PAIR_COUNT_COUNT.at [1])) 1)) ∧
  (∀ s : State, s.dev.booted = true → s.dev.paired = true → s.dev.irmonUp = true →
    ∃ t m, exec .timeFrameTx s = .next t ∧ t.dev.out = s.dev.out ++ [.irmon 3 m] ∧ t.dev.pair.timeTx = some s.dev.time.tai ∧
      t.dev.regs = s.dev.regs) ∧
  (∀ (s : State) (f : TimeFrame) (t1 : Tai), s.dev.booted = true → s.dev.paired = true → s.dev.irmonUp = true →
    s.dev.timeSent f = some t1 →
    let ahead := (f.echoed.toSub : Int) - t1.toSub; let behind := (f.received.toSub : Int) - f.sent.toSub
    let offset := (ahead - behind) / 8192 - s.dev.rdS F.PAIR_IRM_CAL_CAL;
    (-2147483648 : Int) ≤ offset → offset < 2147483648 → (-2147483648 : Int) ≤ (ahead + behind) / 8192 → (ahead + behind) / 8192 < 2147483648 →
    ∃ t, exec (.timeFrameRx f) s = .next t ∧ t.dev.rdS F.PAIR_IRM_OFFSET_OFFSET = offset ∧
      t.dev.rdS F.PAIR_IRM_DELAY_DELAY = (ahead + behind) / 8192 ∧ t.dev.pair.timeRx = some (f.sent, f.received) ∧
      t.dev.rd F.PAIR_STATUS_IRMON_UP = 1) ∧
  (∀ (s : State) (c : Command), s.dev.booted = true → s.dev.watches = true → s.dev.irmonUp = true → s.dev.pair.commands = [] →
    s.dev.indexAt s.dev.time.tai < c.boundary →
    ∃ t, exec (.commandFrameRx c) s = .next t ∧ t.dev.pair.commands = [c] ∧ t.dev.pair.head = max s.dev.pair.head c.seq ∧
      t.mem = s.mem) ∧
  (∀ (s : State), s.dev.booted = true → s.dev.mode.mode = .resync → s.dev.pair.halted = false → s.dev.irmonUp = true →
    2 ≤ s.dev.rd F.PAIR_STATUS_RESYNC_STEP →
    (∀ (c : Fin 256) (i : Nat), ∃ t, exec (.stateFrameRx (.contextNext c i)) s = .next t ∧ (t.dev.ctx c).nextK = i) ∧
    (s.dev.rd F.PAIR_STATUS_RESYNC_STEP = 3 →
      ∃ t, exec (.stateFrameRx .libraryDone) s = .next t ∧ t.dev.rd F.PAIR_STATUS_RESYNC_STEP = 4) ∧
    (s.dev.rd F.PAIR_STATUS_RESYNC_STEP = 4 → s.dev.tpath = 2 → s.dev.timeNow = some 14 → ∀ b : Nat,
      ∃ t, exec (.stateFrameRx (.boundary b)) s = .next t ∧ t.dev.pair.named = some b ∧ t.dev.rd F.PAIR_STATUS_RESYNC_STEP = 5))

/-- R309, R310, R313, R314: each millisecond's record is kept and sent, the partner's kept, and a missing one is a mismatch; heartbeats go out on every port in service
and an authentic one is heard; each sign of a lost active is set.
Where the spec leaves a point open, the model’s choice stands (log 137 to 139). -/
def Obligations.PairDigestsAndSigns : Prop :=
  (∀ s : State, s.dev.booted = true → s.dev.paired = true → s.dev.audioRuns = true → s.dev.irmonUp = true →
    s.dev.pair.theirs.find? (msOf s.dev.time.tai - 1) = none →
    ∃ t, exec .digestCompute s = .next t ∧
      t.dev.pair.own.find? (msOf s.dev.time.tai - 1) = some (s.dev.digest (msOf s.dev.time.tai - 1)) ∧
      t.dev.out = s.dev.out ++ [.irmon 2 (s.dev.digest (msOf s.dev.time.tai - 1))] ∧ t.dev.regs = s.dev.regs) ∧
  (∀ (s : State) (record : List Byte), s.dev.booted = true → s.dev.paired = true → s.dev.irmonUp = true → record.length = 32 →
    beAt record 28 4 = crc32c (record.take 28) → s.dev.pair.own.find? (beAt record 0 8) = none →
    ∃ t, exec (.digestRx record) s = .next t ∧ t.dev.pair.theirs.find? (beAt record 0 8) = some record ∧
      (bitAt (beAt record 24 1) 0 = true → beAt record 0 8 ∈ t.dev.pair.imperfect)) ∧
  (∀ (s : State) (ms : BitVec 64) (r : List Byte), s.dev.booted = true → s.dev.paired = true → s.dev.mode.mode ≠ .resync →
    s.dev.pair.own.find? ms.toNat = some r → s.dev.pair.theirs.find? ms.toNat = none → ms.toNat + 2 ≤ msOf s.dev.time.tai →
    s.dev.excused ms.toNat = false → s.dev.rd F.PAIR_STATUS_MISMATCH_RUN = 0 →
    ∃ t, exec (.digestMissing ms) s = .next t ∧ t.dev.pair.own.find? ms.toNat = none ∧ t.dev.rd F.PAIR_STICKY_MISMATCH_SEEN = 1 ∧
      t.dev.rd F.PAIR_MM_MASK_MASK = 15 ∧ t.dev.rd F.PAIR_STATUS_MISMATCH_RUN = 1 ∧
      t.dev.rd (F.PAIR_COUNT_COUNT.at [2]) = satAdd 32 (s.dev.rd (F.PAIR_COUNT_COUNT.at [2])) 1) ∧
  (∀ s : State, s.dev.booted = true → s.dev.paired = true → (∀ p : Fin 4, s.dev.txFree p 4 = true) →
    let n := ((List.range 4).filter (fun p => s.dev.inServicePort p && s.dev.linkUp p)).length
    ∃ t, exec .heartbeatTx s = .next t ∧ t.dev.pair.hbSeq = s.dev.pair.hbSeq + n ∧ t.dev.out.length = s.dev.out.length + n ∧
      registersBut s t ((List.range 4).map (fun p => F.NET_COUNT_COUNT.at [p, 14]))) ∧
  (∀ (s : State) (p : Fin 4) (source datagram : List Byte) (g : Dgram), Dgram.parse datagram = some g → s.dev.paired = true →
    s.dev.inServicePort p = true → g.kind = 0x10 → hmac16 s.dev.pairKey g.signed = g.tag → g.body.length = 24 →
    s.dev.odp.peerSeq.find? (2 ^ 128 + ofBE (slice source 0 16)) = none → s.dev.mode.mode ≠ .active →
    ∃ t, exec (.heartbeatRx p source datagram) s = .next t ∧ t.dev.rd F.PAIR_STATUS_HB_HEARD = 1 ∧ t.dev.rd F.PAIR_STATUS_SIGN_HB = 0 ∧
      t.dev.rd F.PAIR_PARTNER_MODE = beAt g.body 1 1 % 16 ∧ t.dev.pair.head = beAt g.body 8 8 ∧
      t.dev.rd (F.PAIR_COUNT_COUNT.at [8]) = satAdd 32 (s.dev.rd (F.PAIR_COUNT_COUNT.at [8])) 1) ∧
  (∀ s : State, s.dev.booted = true → s.dev.watches = true →
    ∃ t, exec .claimSign s = .next t ∧ t.dev.rd F.PAIR_STATUS_SIGN_CLAIM = 1 ∧ t.dev.rd F.PAIR_IRQ_STATUS_SIGN = 1 ∧
      t.dev.mode = s.dev.mode) ∧
  (∀ s : State, s.dev.booted = true → s.dev.paired = true →
    ∃ t, exec .irmonSign s = .next t ∧ t.dev.rd F.PAIR_STATUS_IRMON_UP = 0 ∧ t.dev.rd F.PAIR_STICKY_IRMON_LOSS_SEEN = 1 ∧
      (s.dev.watches = true → t.dev.rd F.PAIR_STATUS_SIGN_IRMON = 1) ∧
      (s.dev.watches = true → s.dev.mode.mode = .marionette → s.dev.mode.decided = none → s.dev.rd F.PAIR_STATUS_SIGN_CLAIM = 0 →
        s.dev.rd F.PAIR_STATUS_SIGN_HB = 0 → decides t .estranged 0x0D 0)) ∧
  (∀ s : State, s.dev.booted = true → s.dev.paired = true →
    ∃ t, exec .heartbeatSign s = .next t ∧ t.dev.rd F.PAIR_STATUS_HB_HEARD = 0 ∧ t.dev.rd F.PAIR_PARTNER_MODE = 0xF ∧
      t.dev.rd F.PAIR_STICKY_HB_LOSS_SEEN = 1 ∧
      (s.dev.watches = true → (List.range 4).any s.dev.linkUp = true → t.dev.rd F.PAIR_STATUS_SIGN_HB = 1))

/-- R302, R311, R312, R314 to R321: two signs make the standby ACTIVE; a carried flag changes the roles at its boundary; a self-accusation hands over or is SAFE_HOLD; a link
that returns leads to RESYNC, whose first step compares the partners and which starts again at its limit; a drill asks for its flag; the claim's release lets a waiting
MAINTENANCE be entered; a passed request hands over.
Where the spec leaves a point open, the model’s choice stands (log 29, 31, 140, 141). -/
def Obligations.PairRolesChange : Prop :=
  (∀ s : State, s.dev.booted = true → s.dev.watches = true → 2 ≤ s.dev.signs → s.dev.bound = false → s.dev.pair.commands = [] →
    ∃ t, exec .takeOver s = .next t ∧ t.dev.mode.mode = .active ∧ t.dev.mode.cause = 0x0C ∧ t.dev.mode.prev = s.dev.mode.mode ∧
      t.dev.rd F.PAIR_STICKY_TAKEOVER_SEEN = 1) ∧
  (∀ (s : State) (claimLow : Bool), s.dev.booted = true → s.dev.paired = true → s.dev.bound = false →
    (s.dev.mode.mode = .active → roleFlags s.dev.pair.sent ≠ 0 →
      ∃ t, exec (.plannedHandover claimLow) s = .next t ∧ t.dev.mode.mode = .marionette ∧ t.dev.rd F.PAIR_PARTNER_MODE = 4 ∧
        t.dev.rd F.PAIR_STICKY_HANDOVER_SEEN = 1) ∧
    (s.dev.mode.mode = .marionette → roleFlags s.dev.pair.inFlags ≠ 0 → s.dev.pair.commands = [] →
      ∃ t, exec (.plannedHandover claimLow) s = .next t ∧ t.dev.mode.mode = .active ∧ t.dev.rd F.PAIR_PARTNER_MODE = 5 ∧
        t.dev.rd F.PAIR_STICKY_HANDOVER_SEEN = 1)) ∧
  (∀ s : State, s.dev.alive = true → s.dev.mode.decided = none →
    ∃ t, exec .selfAccusation s = .next t ∧ t.dev.rd F.PAIR_STICKY_ACCUSE_SEEN = 1 ∧
      msOf s.dev.time.tai ∈ t.dev.pair.accused ∧
      (s.dev.booted = true → s.dev.roleMode = .active → s.dev.partnerMarionette = true → s.dev.irmonUp = true →
        decides t .marionette 0x07 0 ∧ bitAt t.dev.pair.flags 1 = true) ∧
      (s.dev.mode.mode = .solo → decides t .safeHold 0x07 0)) ∧
  (∀ s : State, s.dev.booted = true → s.dev.paired = true → s.dev.irmonUp = true →
    ∃ t, exec .irmonLinkUp s = .next t ∧ t.dev.rd F.PAIR_STATUS_IRMON_UP = 1 ∧ t.dev.rd F.PAIR_STATUS_SIGN_IRMON = 0 ∧
      t.dev.pair.halted = false ∧
      (s.dev.mode.mode = .estranged → s.dev.mode.decided = none → decides t .resync 0x0D 0)) ∧
  (∀ (s : State) (f : PairFacts), s.dev.booted = true → s.dev.mode.mode = .resync → s.dev.pair.halted = false →
    s.dev.rd F.PAIR_STATUS_RESYNC_STEP = 1 →
    ∃ t, exec (.resyncCheck f) s = .next t ∧ onlyRegisters s t ∧
      (f.version.toNat = s.dev.boot.version → f.rate96 = s.dev.is96 → f.library.toNat = s.dev.boot.library →
        f.recorder.toNat = s.dev.boot.recorder → f.fitted.toNat = s.dev.boot.fitted →
        t.dev.rd F.PAIR_STATUS_RESYNC_STEP = 2 ∧ t.dev.rd F.PAIR_STATUS_RESYNC_BLOCKED = 0) ∧
      (f.version.toNat ≠ s.dev.boot.version → t.dev.rd F.PAIR_STATUS_RESYNC_STEP = 1 ∧ t.dev.rd F.PAIR_STATUS_RESYNC_BLOCKED = 1)) ∧
  (∀ s : State, s.dev.booted = true → s.dev.mode.mode = .resync →
    s.dev.past s.dev.pair.resyncFrom (1000 * s.dev.rd F.PAIR_RESYNC_LIMIT_LIMIT) = true →
    ∃ t, exec .resyncTimeout s = .next t ∧ t.dev.pair.resyncFrom = s.dev.time.cycles ∧ t.dev.pair.named = none ∧
      t.dev.rd F.PAIR_STATUS_RESYNC_STEP = min 2 (s.dev.rd F.PAIR_STATUS_RESYNC_STEP) ∧
      t.dev.rd (F.PAIR_COUNT_COUNT.at [6]) = satAdd 32 (s.dev.rd (F.PAIR_COUNT_COUNT.at [6])) 1) ∧
  (∀ s : State, s.dev.booted = true → s.dev.sup.testing = none → s.dev.roleMode = .active →
    ∃ t, exec .marionetteDrill s = .next t ∧
      (s.dev.mayTest 76 = true → t.dev.pair.drill = 1 ∧ bitAt t.dev.pair.flags 2 = true ∧
        t.dev.sup.testing = some ⟨76, s.dev.time.cycles, true⟩) ∧
      (s.dev.mayTest 76 = false → ∃ r, t.dev.sup.results.find? 76 = some r ∧ r.result = 3 ∧ r.cause = 6)) ∧
  (∀ s : State, s.dev.booted = true → s.dev.pair.claiming = true → s.dev.roleMode = .marionette → s.dev.pair.abdicates = false →
    ∃ t, exec .roleClaimRelease s = .next t ∧ t.dev.pair.claiming = false ∧ t.dev.pins.partnerClaims = true ∧ t.dev.rd F.PAIR_STATUS_SIGN_CLAIM = 0 ∧
      registersBut s t [F.PAIR_STATUS_SIGN_CLAIM] ∧
      (∀ m, s.dev.pair.thenMaintenance = some m → s.dev.mode.decided = none → decides t .maintenance 0x02 m)) ∧
  (∀ s : State, s.dev.booted = true → s.dev.irmonUp = true → s.dev.mode.mode = .active → s.dev.partnerMarionette = true →
    s.dev.mode.decided = none →
    ∃ t, exec .passedActiveRequest s = .next t ∧ decides t .marionette 0x14 0 ∧ bitAt t.dev.pair.flags 0 = true ∧
      t.dev.regs = s.dev.regs)

/-- R344 to R346: an OPEN_REQ that passes is challenged, its proof opens the session and is answered, a late proof is forgotten; KEEPALIVE resets the idle count and notes its
SEQ, CLOSE and the idle limit end a session; a datagram that is none of these is counted.
Where the spec leaves a point open, the model’s choice stands (log 150, 151, 153). -/
def Obligations.SessionsOpenAndClose : Prop :=
  (∀ (s : State) (port : Port) (source datagram : List Byte) (service : Bool) (g : Dgram) (row : Nat) (role : Role),
    Dgram.parse datagram = some g → s.dev.odpPort port = true → g.kind = 1 → g.body.length = 24 →
    (s.dev.odp.throttle.filter (fun x => x.1 = source)).length < 10 →
    s.dev.openCheck (beAt g.body 0 4) (beAt g.body 4 1) = (.ok, some row) → roleOf (beAt g.body 4 1) = some role →
    ∃ t a m, exec (.openReq port source service datagram) s = .next t ∧ t.dev.odp.attempts = s.dev.odp.attempts ++ [a] ∧
      a.keyRow = row ∧ a.role = role ∧ a.nc = slice g.body 8 16 ∧ a.started = s.dev.time.cycles ∧
      t.dev.odp.opens = s.dev.odp.opens + 1 ∧ sends s.dev t port.num 4 (.datagram port source m) ∧ beAt m 3 1 = 2 ∧ beAt m 20 1 = 0) ∧
  (∀ (s : State) (port : Port) (source datagram : List Byte) (g : Dgram) (x : Attempt),
    let k := s.dev.sessionKey x.keyRow
    let ks := hmac k (odpLabel 0x53 ++ x.nc ++ x.nd ++ toBE 4 x.id)
    Dgram.parse datagram = some g → s.dev.odpPort port = true → g.kind = 3 →
    s.dev.odp.attempts.find? (fun y => y.id = g.session) = some x → hmac16 ks g.signed = g.tag →
    g.body = hmac16 k (odpLabel 0x43 ++ x.nc ++ x.nd ++ toBE 4 (s.dev.obj 0x1101 1 x.keyRow) ++ toBE 1 x.role.code) →
    s.dev.past x.started 2000 = false →
    ∃ t y m, exec (.openProof port source datagram) s = .next t ∧ t.dev.odp.sessions = s.dev.odp.sessions ++ [y] ∧ y.id = x.id ∧
      y.role = x.role ∧ y.key = ks ∧ y.highest = 0 ∧ (∀ a ∈ t.dev.odp.attempts, a.id ≠ x.id) ∧
      sends s.dev t port.num 4 (.datagram port source m) ∧ beAt m 3 1 = 4) ∧
  (∀ (s : State) (id : BitVec 32) (x : Attempt), s.dev.booted = true → s.dev.odp.attempts = [x] → x.id = id.toNat →
    s.dev.past x.started 2000 = true →
    ∃ t, exec (.openProofTimeout id) s = .next t ∧ t.dev.odp.attempts = [] ∧ t.dev.regs = s.dev.regs ∧
      t.dev.odpCounter 0 = (s.dev.odpCounter 0 + 1) % 2 ^ 64) ∧
  (∀ (s : State) (port : Port) (source datagram : List Byte) (g : Dgram) (x : Session), authentic s port datagram 8 g x →
    x.highest < g.seq →
    ∃ t y, exec (.keepalive port source datagram) s = .next t ∧ t.dev.session x.id = some y ∧ y.heard = s.dev.time.cycles ∧
      y.highest = g.seq ∧ y.key = x.key ∧ t.dev.out = s.dev.out) ∧
  (∀ (s : State) (port : Port) (source datagram : List Byte) (g : Dgram) (x : Session), authentic s port datagram 9 g x →
    s.dev.isFrozen x.id = false →
    ∃ t, exec (.close port source datagram) s = .next t ∧ t.dev.session x.id = none ∧ (∀ y ∈ t.dev.odp.subs, y.session ≠ x.id)) ∧
  (∀ (s : State) (slot : Fin 32) (x : Session), s.dev.booted = true → s.dev.slotSession slot = some x →
    s.dev.isFrozen x.id = false → s.dev.past x.heard (s.dev.sessionIdle * 1000) = true →
    ∃ t, exec (.sessionIdleExpiry slot) s = .next t ∧ t.dev.session x.id = none ∧ t.dev.odp.transfers.find? x.id = none) ∧
  (∀ (s : State) (port : Port) (datagram : List Byte), s.dev.odpPort port = true → Dgram.parse datagram = none →
    ∃ t, exec (.odpMalformed port datagram) s = .next t ∧ t.dev.odpCounter 1 = (s.dev.odpCounter 1 + 1) % 2 ^ 64 ∧
      t.dev.regs = s.dev.regs ∧ t.dev.out = s.dev.out)

/-- R347, R349, R351, R352, R357: a READ is answered in its session; a WRITE or EXEC is answered with its status and journal number, FROZEN when its master is frozen; a segmented transfer
begins, grows and ends, or is dropped after 10 s; a subscription is kept, notified when due, and ended.
Where the spec leaves a point open, the model’s choice stands (log 148, 152, 156, 157). -/
def Obligations.RequestsOfASession : Prop :=
  (∀ (s : State) (port : Port) (source datagram : List Byte) (g : Dgram) (x : Session), asks s port datagram 1 g x →
    beAt g.body 4 2 < 0xF000 → beAt g.body 4 2 ≠ 0xA000 →
    ∃ t m, exec (.odpRead port source datagram) s = .next t ∧ sends s.dev t x.port.num 4 (.datagram x.port x.source m) ∧
      beAt m 20 1 = 1 ∧ (s.dev.isFrozen x.id = true → beAt g.body 4 2 ≠ 0x1112 → beAt m 21 1 = Status.frozen.code) ∧
      (s.dev.isFrozen x.id = false → objsAt (beAt g.body 4 2) = [] → beAt m 21 1 = Status.noObject.code)) ∧
  (∀ (s : State) (port : Port) (source datagram : List Byte) (g : Dgram) (x : Session) (op : Nat), op = 2 ∨ op = 3 →
    asks s port datagram op g x → s.dev.almDue (fun _ => true) = [] →
    ∃ t, exec (.odpWrite port source datagram) s = .next t ∧
      (s.dev.isFrozen x.id = true → registersBut s t (transmitted x.port) ∧ ∃ m, sends s.dev t x.port.num 4 (.datagram x.port x.source m) ∧
        beAt m 20 1 = op ∧ beAt m 21 1 = Status.frozen.code) ∧
      (∀ (r : Box × Reply) (y : Session), Box.ask { base := s.mem, dev := noted s port source g x } (askerOf x) (op = 3) (beAt g.body 4 2)
          (beAt g.body 6 1) (beAt g.body 7 3) (g.body.drop 12) g.seq = r → s.dev.isFrozen x.id = false → r.2.status = .ok →
        r.2.wait = false → r.1.dev.slotSession (x.id % 32) = some y →
        t.mem = s.mem.writeAll r.1.writes ∧ ∃ m, sends r.1.dev t y.port.num 4 (.datagram y.port y.source m) ∧ beAt m 20 1 = op ∧
          beAt m 21 1 = 0 ∧ beAt m 32 8 = r.2.jseq % 2 ^ 64)) ∧
  (∀ (s : State) (port : Port) (source datagram : List Byte) (g : Dgram) (x : Session), asks s port datagram 4 g x →
    s.dev.isFrozen x.id = false → s.dev.transferOf x.id = none →
    Dev.domainChecks (noted s port source g x) (askerOf x) (beAt g.body 4 2) (beAt g.body 6 1) (beAt g.body 7 3) (g.body.drop 12) = .ok →
    ∃ t, exec (.domainBegin port source datagram) s = .next t ∧ t.dev.odp.transfers.find? x.id =
      some ⟨beAt g.body 4 2, beAt g.body 6 1, beAt g.body 7 3, beAt (g.body.drop 12) 0 4, [], s.dev.time.cycles⟩) ∧
  (∀ (s : State) (port : Port) (source datagram : List Byte) (g : Dgram) (x : Session) (tr : Transfer), asks s port datagram 5 g x →
    s.dev.isFrozen x.id = false → s.dev.transferOf x.id = some tr → 4 ≤ (g.body.drop 12).length →
    beAt (g.body.drop 12) 0 4 = tr.data.length → tr.data.length + ((g.body.drop 12).drop 4).length ≤ tr.total →
    ∃ t, exec (.domainSegment port source datagram) s = .next t ∧ t.dev.odp.transfers.find? x.id =
      some { tr with data := tr.data ++ (g.body.drop 12).drop 4, last := s.dev.time.cycles }) ∧
  (∀ (s : State) (port : Port) (source datagram : List Byte) (g : Dgram) (x : Session) (tr : Transfer) (m : Message),
    asks s port datagram 6 g x → s.dev.isFrozen x.id = false → s.dev.transferOf x.id = some tr → s.dev.journalRoom = true →
    tr.data.length = tr.total → g.body.drop 12 = [] → s.dev.lib.msgs.find? tr.row = some m → tr.data.length = 3 * m.length →
    crc32c tr.data = m.audioCrc →
    ∃ t, exec (.domainEnd port source datagram) s = .next t ∧ t.dev.odp.transfers.find? x.id = none ∧
      t.dev.lib.msgs.find? tr.row = some { m with dram := some tr.data, bad := false }) ∧
  (∀ (s : State) (slot : Fin 32) (x : Session) (tr : Transfer), s.dev.booted = true → s.dev.slotSession slot = some x →
    s.dev.odp.transfers.find? x.id = some tr → s.dev.past tr.last 10000 = true →
    ∃ t, exec (.domainTimeout slot) s = .next t ∧ t.dev.odp.transfers.find? x.id = none ∧ t.dev.regs = s.dev.regs) ∧
  (∀ (s : State) (port : Port) (source datagram : List Byte) (g : Dgram) (x : Session), asks s port datagram 7 g x →
    let v := g.body.drop 12
    s.dev.isFrozen x.id = false → beAt g.body 4 2 < 0xF000 → beAt g.body 4 2 ≠ 0xA000 → v.length = 2 → 10 ≤ beAt v 0 2 →
    beAt v 0 2 ≤ 60000 → s.dev.odp.subs.length < 64 →
    (Dev.dictRead s.mem (noted s port source g x) (askerOf x) (beAt g.body 4 2) (beAt g.body 6 1) (beAt g.body 7 3) (beAt g.body 2 2)
      [] noticeRoom).1.status = .ok →
    ∃ t y, exec (.subscribe port source datagram) s = .next t ∧ t.dev.odp.subs = s.dev.odp.subs ++ [y] ∧ y.session = x.id ∧
      y.index = beAt g.body 4 2 ∧ y.interval = beAt v 0 2 ∧ y.id = s.dev.odp.nextSub) ∧
  (∀ (s : State) (port : Port) (source datagram : List Byte) (g : Dgram) (x : Session), asks s port datagram 8 g x →
    s.dev.isFrozen x.id = false → (g.body.drop 12).length = 4 →
    (∃ y ∈ s.dev.odp.subs, y.session = x.id ∧ y.id = beAt (g.body.drop 12) 0 4) →
    ∃ t, exec (.unsubscribe port source datagram) s = .next t ∧
      ∀ y ∈ t.dev.odp.subs, y.session = x.id → y.id ≠ beAt (g.body.drop 12) 0 4) ∧
  (∀ (s : State) (id : BitVec 32) (y : Subscription) (x : Session), s.dev.odp.subs.find? (fun z => z.id = id.toNat) = some y →
    s.dev.session y.session = some x → s.dev.odpPort x.port = true → y.onChange = false → s.dev.past y.last y.interval = true →
    x.noticed = [] → 0 < s.dev.noticeRate → y.index < 0xF000 → y.index ≠ 0xA000 →
    ∃ t m, exec (.notice id) s = .next t ∧ sends s.dev t x.port.num 4 (.datagram x.port x.source m) ∧ beAt m 3 1 = 7 ∧
      beAt m 20 4 = y.id % 2 ^ 32)

/-- R350, R357, R359, R361 to R365, R353: groups strobe, a master is frozen by a SAFETY session and thawed; a Commit is accepted, and once its entry is durable its records are the store;
the journal drains four entries at a time and reports each second; a mailbox request is taken and answered.
Where the spec leaves a point open, the model’s choice stands (log 145, 149, 158, 160). -/
def Obligations.OperationsJournalAndMailbox : Prop :=
  (∀ (s : State) (mask : BitVec 16) (b : Nat), hostMay s true 0x1050 0 0 (toBE 2 mask.toNat) → b < 16 →
    bitAt mask.toNat (s.dev.groupOf b) = true →
    ∃ t, exec (.strobeGroups .host mask) s = .next t ∧ (⟨b, s.dev.groupOf b, s.dev.captureOf b⟩ : Capture) ∈ t.dev.regs.caps) ∧
  (∀ (s : State) (master : BitVec 32), hostMay s true 0x1110 0 0 (toBE 4 master.toNat) → master.toNat ≠ 1 →
    ∃ t, exec (.thaw .host master) s = .next t ∧ t.dev.isFrozen master.toNat = false) ∧
  (∀ (s : State) (slot : Fin 32) (x : Session) (master : BitVec 32), sessionMay s slot x true 0x1111 0 0 (toBE 4 master.toNat) →
    master.toNat ≠ 0 → s.dev.isFrozen master.toNat = false →
    ∃ t, exec (.freeze (.session slot) master) s = .next t ∧ t.dev.isFrozen master.toNat = true ∧
      t.dev.rd F.LKF_FREEZE_CAUSE_CAUSE = 5 ∧ t.dev.rd F.LKF_FREEZE_MASTER_MASTER = master.toNat ∧
      (∀ y ∈ t.dev.odp.subs, y.session ≠ master.toNat)) ∧
  (∀ s : State, hostMay s true 0x1210 0 0 [] → s.dev.odp.commit = none → s.dev.odp.commitDone = none →
    ∃ t, exec (.commit .host) s = .next t ∧ t.dev.odp.commit.isSome = true ∧ t.dev.odp.store = s.dev.odp.store) ∧
  (∀ (s : State) (job : CommitJob), s.dev.alive = true → s.dev.odp.commit = some job → job.seq ≤ s.dev.odp.journal.durable →
    ∃ t k, exec (.commitWrite []) s = .next t ∧ t.dev.odp.commit = none ∧ t.dev.odp.store = some k ∧ k.records = s.dev.recordsNow ∧
      (∀ old, s.dev.odp.store = some old → k.generation = (old.generation + 1) % 2 ^ 32)) ∧
  (∀ s : State, s.dev.alive = true → s.dev.odp.journal.lostRange = none → s.dev.odp.journal.ring.length ≤ 65532 →
    ∃ t, exec .journalDrain s = .next t ∧ t.dev.odp.journal.staged = s.dev.odp.journal.staged.drop 4 ∧
      t.dev.odp.journal.ring = s.dev.odp.journal.ring ++ s.dev.odp.journal.staged.take 4 ∧
      t.dev.odp.journal.head = s.dev.odp.journal.head ∧ t.dev.regs = s.dev.regs) ∧
  (∀ s : State, s.dev.alive = true →
    ∃ t, exec .journalProgress s = .next t ∧ t.dev.odp.journal.rate = s.dev.odp.journal.madeThisSecond ∧
      t.dev.odp.journal.madeThisSecond = 0 ∧
      (s.dev.odp.journal.madeThisSecond ≠ 0 → (s.dev.que 7).items.length < queueCap 7 →
        (t.dev.que 7).items.length = (s.dev.que 7).items.length + 1)) ∧
  (∀ (s : State) (item : List Byte) (rest : List (List Byte)),
    let n := leAt item 0 4 % 512; let body := s.dev.dmbBody n
    s.dev.booted = true → s.dev.pins.hostRole = true → s.dev.on F.DMB_STATUS_BUSY = false → (s.dev.que 0).items = item :: rest →
    leAt item 0 4 < 2 ^ 28 → 12 ≤ n → n ≤ 448 → n = 12 + beAt body 10 2 → beAt body 0 1 = 1 → beAt body 4 2 < 0xF000 →
    beAt body 4 2 ≠ 0xA000 → (s.dev.que 1).items.length < queueCap 1 → (s.dev.que 1).held = none →
    ∃ t, exec .dmbRequest s = .next t ∧ (t.dev.que 0).items = rest ∧ t.dev.rd F.DMB_STATUS_BUSY = 0 ∧
      t.dev.rd F.DMB_STATUS_LAST_TAG = fieldAt (leAt item 0 4) 16 12 ∧ (t.dev.que 1).items.length = (s.dev.que 1).items.length + 1)

/-- R381 to R386, R395, R403: a frame's words are read and driven, written words reach their registers, and the outcome is kept; the port status frame shows it; a bad
opcode and an abandoned frame are counted; a frozen host reads 0 and writes nothing.
Where the spec leaves a point open, the model’s choice stands (log 170 to 172). -/
def Obligations.HostPortFrames : Prop :=
  (∀ s : State, s.dev.hostPort = true → s.dev.isFrozen 1 = false →
    ∃ t, exec (.readWord 0) s = .next t ∧ t.dev.out = s.dev.out ++ [.hostWords [0x4F564840]] ∧ t.dev.host.outcome = 0 ∧
      t.dev.regs = s.dev.regs) ∧
  (∀ (s : State) (address : BitVec 24) (words : BitVec 16), s.dev.hostPort = true →
    ∃ t l, exec (.readBurst address words) s = .next t ∧ t.dev.out = s.dev.out ++ [.hostWords l] ∧ l.length = words.toNat ∧
      (s.dev.isFrozen 1 = true → address.toNat < 0x2000 → words.toNat = 1 → l = [0] ∧ t.dev.host.outcome = 5)) ∧
  (∀ (s : State) (data : Word), s.dev.hostPort = true → s.dev.isFrozen 1 = false → s.dev.hostEarly = false →
    s.dev.on F.DMB_STATUS_BUSY = false →
    ∃ t, exec (.writeWord 0xF0040 data) s = .next t ∧ t.dev.rd (F.DMB_REQ_BYTES.at [0]) = data.toNat ∧ t.dev.host.outcome = 0 ∧
      registersBut s t [F.DMB_REQ_BYTES.at [0]] ∧ t.dev.out = s.dev.out ∧ t.mem = s.mem) ∧
  (∀ (s : State) (a b : Word), s.dev.hostPort = true → s.dev.isFrozen 1 = false → s.dev.hostEarly = false →
    s.dev.on F.DMB_STATUS_BUSY = false →
    ∃ t, exec (.writeBurst 0xF0040 [a, b]) s = .next t ∧ t.dev.rd (F.DMB_REQ_BYTES.at [0]) = a.toNat ∧
      t.dev.rd (F.DMB_REQ_BYTES.at [1]) = b.toNat ∧ registersBut s t [F.DMB_REQ_BYTES.at [0], F.DMB_REQ_BYTES.at [1]]) ∧
  (∀ (s : State) (address : BitVec 24) (data : Word), s.dev.hostPort = true → s.dev.isFrozen 1 = true →
    ∃ t, exec (.writeWord address data) s = .next t ∧ t.dev = { s.dev with host := { s.dev.host with outcome := 5 } } ∧ t.mem = s.mem) ∧
  (∀ (s : State) (data : Word), s.dev.hostPort = true → s.dev.isFrozen 1 = false → s.dev.hostEarly = false →
    s.dev.mode.mode ≠ .safeHold → bitAt (s.dev.rd F.LKF_LOCK_LOCK) 10 = false →
    ∃ t, exec (.registerWrite 0x24 data) s = .next t ∧ t.dev.rd F.GCTL_IRQ_ENABLE_EVENTS = fieldAt data.toNat 22 10 ∧
      t.dev.rd F.GCTL_IRQ_ENABLE_BLOCK = fieldAt data.toNat 1 15 ∧
      registersBut s t [F.GCTL_IRQ_ENABLE_EVENTS, F.GCTL_IRQ_ENABLE_BLOCK]) ∧
  (∀ s : State, s.dev.hostPort = true →
    ∃ t w, exec .readPortStatus s = .next t ∧ t.dev.out = s.dev.out ++ [.hostWords [s.dev.portStatus, w]] ∧
      t.dev.regs = s.dev.regs ∧ t.dev.host = s.dev.host) ∧
  (∀ s : State, s.dev.hostPort = true →
    ∃ t, exec .badOpcode s = .next t ∧ t.dev.host.outcome = 6 ∧
      t.dev.rd F.GCTL_HOST_ERR_BAD_OPCODE = satAdd 8 (s.dev.rd F.GCTL_HOST_ERR_BAD_OPCODE) 1) ∧
  (∀ s : State, s.dev.alive = true → s.dev.pins.hostRole = true → s.dev.pins.testEn = false →
    ∃ t, exec .abandoned s = .next t ∧ t.dev.host.outcome = 4 ∧ t.dev.host.stalled = [] ∧
      t.dev.rd F.GCTL_HOST_ERR_ABANDONED = satAdd 8 (s.dev.rd F.GCTL_HOST_ERR_ABANDONED) 1 ∧
      (s.dev.host.stalled ≠ [] → (t.dev.que 0).part = []))

/-- R390 to R392, R394, R396, R399, R400: a counter clears as it is read, a latching read copies the rest of its instant, a bit alias reads and writes one bit, a strobe
captures the blocks of its groups and an apply point makes their values running; a snapshot is taken, viewed and left; lock bits are set and none is cleared.
Where the spec leaves a point open, the model’s choice stands (log 164, 167). -/
def Obligations.RegisterAccessesAndStrobes : Prop :=
  (∀ s : State, s.dev.hostPort = true → s.dev.isFrozen 1 = false → s.dev.hostEarly = false → s.dev.on F.SNAP_STATUS_VIEW = false →
    ∃ t, exec (.rocRead 0xB0100) s = .next t ∧ t.dev.rd (F.PAIR_COUNT_COUNT.at [0]) = 0 ∧
      t.dev.out = s.dev.out ++ [.hostWords [BitVec.ofNat 32 (s.dev.rd (F.PAIR_COUNT_COUNT.at [0]))]] ∧
      registersBut s t [F.PAIR_COUNT_COUNT.at [0]]) ∧
  (∀ s : State, s.dev.hostPort = true → s.dev.isFrozen 1 = false → s.dev.hostEarly = false → s.dev.time.tai.wf = true →
    ∃ t, exec (.latchingRead 0x30000) s = .next t ∧ t.dev.rd F.TIM_TAI_NS_NS = s.dev.time.tai.ns ∧
      t.dev.rd F.TIM_TAI_SUB_SUB = s.dev.time.tai.sub ∧ t.dev.rd F.TIM_TAI_SEC_HI_SEC_HI = s.dev.time.tai.sec / 2 ^ 32 ∧
      t.dev.out = s.dev.out ++ [.hostWords [BitVec.ofNat 32 s.dev.time.tai.sec]]) ∧
  (∀ s : State, s.dev.hostPort = true → s.dev.isFrozen 1 = false → s.dev.hostEarly = false →
    ∃ t, exec (.bitAliasRead (BitVec.ofNat 23 (1 * 0x8000 + 31 * 4))) s = .next t ∧
      t.dev.out = s.dev.out ++ [.hostWords [BitVec.ofNat 32 (s.dev.rd F.CLK_ROOT_STATUS_ROOT_LOCKED)]] ∧ t.dev.regs = s.dev.regs) ∧
  (∀ (s : State) (value : Bool), s.dev.hostPort = true → s.dev.isFrozen 1 = false → s.dev.hostEarly = false →
    s.dev.on F.DMB_STATUS_BUSY = false →
    ∃ t, exec (.bitAliasWrite (BitVec.ofNat 23 (15 * 0x8000 + 16 * 128 + 5 * 4)) value) s = .next t ∧
      t.dev.rd (F.DMB_REQ_BYTES.at [0]) = setBit (s.dev.rd (F.DMB_REQ_BYTES.at [0])) 5 value ∧
      registersBut s t [F.DMB_REQ_BYTES.at [0]]) ∧
  (∀ (s : State) (groups : BitVec 16) (b : Nat), s.dev.hostPort = true → s.dev.isFrozen 1 = false → s.dev.hostEarly = false →
    s.dev.mode.mode ≠ .safeHold → bitAt (s.dev.rd F.LKF_LOCK_LOCK) 10 = false → b < 16 →
    bitAt groups.toNat (s.dev.groupOf b) = true →
    ∃ t, exec (.updStrobe groups) s = .next t ∧ (⟨b, s.dev.groupOf b, s.dev.captureOf b⟩ : Capture) ∈ t.dev.regs.caps ∧
      t.dev.regs.live = s.dev.regs.live) ∧
  (∀ (s : State) (g v : Nat), s.dev.booted = true → s.dev.regs.caps = [⟨12, g, [(F.PWR_RESTORE_RESTORE_HOLD.key, v)]⟩] →
    v < 2 ^ F.PWR_RESTORE_RESTORE_HOLD.w → pwrBad F.PWR_RESTORE_RESTORE_HOLD v = false → s.dev.sup.testing = none →
    s.dev.odp.strobes = [] → s.dev.rd F.PWR_THERM_TJ_TARGET < s.dev.rd F.PWR_THERM_TJ_CRIT →
    ∃ t, exec (.updateApply 12 none) s = .next t ∧ t.dev.rd F.PWR_RESTORE_RESTORE_HOLD = v ∧ t.dev.regs.caps = [] ∧
      registersBut s t [F.PWR_RESTORE_RESTORE_HOLD]) ∧
  (∀ (s : State) (clear : Bool), s.dev.hostPort = true → s.dev.isFrozen 1 = false → s.dev.hostEarly = false →
    bitAt (s.dev.rd F.LKF_LOCK_LOCK) 10 = false →
    ∃ t, exec (.take clear) s = .next t ∧ t.dev.rd F.SNAP_STATUS_VALID = 1 ∧ t.dev.regs.stamp = s.dev.time.tai ∧
      t.dev.rd F.SNAP_STATUS_COUNT = (s.dev.rd F.SNAP_STATUS_COUNT + 1) % 65536 ∧
      (clear = false → registersBut s t ([F.SNAP_STATUS_VALID, F.SNAP_STATUS_COUNT, F.MGT_COUNT_COUNT.at [16]] ++
        (List.range 4).map (fun p => F.NET_COUNT_COUNT.at [p, 16])))) ∧
  (∀ s : State, s.dev.hostPort = true → s.dev.isFrozen 1 = false → s.dev.hostEarly = false →
    bitAt (s.dev.rd F.LKF_LOCK_LOCK) 10 = false →
    (∃ t, exec .viewOn s = .next t ∧ t.dev.rd F.SNAP_STATUS_VIEW = 1 ∧ registersBut s t [F.SNAP_STATUS_VIEW]) ∧
    (∃ t, exec .viewOff s = .next t ∧ t.dev.rd F.SNAP_STATUS_VIEW = 0 ∧ registersBut s t [F.SNAP_STATUS_VIEW])) ∧
  (∀ (s : State) (bits : BitVec 11), s.dev.hostPort = true → s.dev.isFrozen 1 = false → s.dev.hostEarly = false →
    s.dev.mode.mode ≠ .safeHold →
    ∃ t, exec (.lockSet bits) s = .next t ∧ t.dev.rd F.LKF_LOCK_LOCK = Nat.lor (s.dev.rd F.LKF_LOCK_LOCK) bits.toNat ∧
      registersBut s t [F.LKF_LOCK_LOCK])

/-- R402 to R404: a pop takes the next item's first word and latches the rest, an empty queue answers all ones; a push enters Q0 word by word; a flush empties; a waiting push and a
held item enter once there is room.
Where the spec leaves a point open, the model’s choice stands (log 163, 171, 172). -/
def Obligations.HostQueues : Prop :=
  (∀ (s : State) (q : Fin 32), q ≠ 0 → s.dev.hostPort = true → s.dev.isFrozen 1 = false → s.dev.hostEarly = false →
    (s.dev.que q).latch = [] → (s.dev.que q).idle = 0 →
    ∃ t, exec (.queuePop q) s = .next t ∧
      (∀ item rest, (s.dev.que q).items = item :: rest → t.dev.out = s.dev.out ++ [.hostWords [BitVec.ofNat 32 (leAt item 0 4)]] ∧
        (t.dev.que q).items = rest ∧ (t.dev.que q).latch = item.drop 4) ∧
      ((s.dev.que q).items = [] → t.dev.out = s.dev.out ++ [.hostWords [0xFFFFFFFF]] ∧ (t.dev.que q).items = [])) ∧
  (∀ (s : State) (data : Word), s.dev.hostPort = true → s.dev.isFrozen 1 = false → s.dev.hostEarly = false →
    (s.dev.que 0).items.length < queueCap 0 →
    ∃ t, exec (.queuePush data) s = .next t ∧
      ((s.dev.que 0).part = [] → (t.dev.que 0).part = toLE 4 data.toNat ∧ (t.dev.que 0).items = (s.dev.que 0).items) ∧
      ((s.dev.que 0).part ≠ [] → (t.dev.que 0).part = [] ∧
        (t.dev.que 0).items = (s.dev.que 0).items ++ [(s.dev.que 0).part ++ toLE 4 data.toNat])) ∧
  (∀ (s : State) (q : Fin 32), s.dev.hostPort = true → s.dev.isFrozen 1 = false → s.dev.hostEarly = false →
    bitAt (s.dev.rd F.LKF_LOCK_LOCK) 10 = false →
    ∃ t, exec (.queueFlush q) s = .next t ∧ (t.dev.que q).items = [] ∧ (t.dev.que q).latch = []) ∧
  (∀ (s : State) (w : Nat), s.dev.alive = true → s.dev.host.stalled = [w] → (s.dev.que 0).items.length < queueCap 0 →
    (s.dev.que 0).part = [] →
    ∃ t, exec .queueRoom s = .next t ∧ t.dev.host.stalled = [] ∧ (t.dev.que 0).part = toLE 4 w) ∧
  (∀ (s : State) (q : Fin 32) (item : List Byte), s.dev.alive = true → (s.dev.que q).held = some item →
    (s.dev.que q).items.length < queueCap q →
    ∃ t, exec (.queueItemOffer q) s = .next t ∧ (t.dev.que q).held = none ∧ (t.dev.que q).items = (s.dev.que q).items ++ [item])

/-- R425: the TAP's registers shift: BYPASS delays by one bit, IDCODE is 0x1484_0E6B with its least significant bit first, the boundary register shows the balls and
preloads, and EXTEST drives them in RESET alone.
Where the spec leaves a point open, the model’s choice stands (log 174). -/
def Obligations.TestAccessPort : Prop :=
  (∀ (s : State) (tdi : List Bool), s.dev.pins.supplies = true →
    ∃ t, exec (.bypass tdi) s = .next t ∧ t.dev.out = s.dev.out ++ [.tdo ((false :: tdi).take tdi.length)] ∧
      t.dev.jtag.drives = false ∧ t.dev.regs = s.dev.regs) ∧
  (∀ s : State, s.dev.pins.supplies = true →
    ∃ t bits, exec .idcode s = .next t ∧ t.dev.out = s.dev.out ++ [.tdo bits] ∧ bits.length = 32 ∧
      (∀ i : Fin 32, bits.getD i false = bitAt 0x14840E6B i) ∧ t.dev.regs = s.dev.regs) ∧
  (∀ (s : State) (balls tdi : List Bool), s.dev.pins.supplies = true →
    ∃ t, exec (.samplePreload balls tdi) s = .next t ∧ t.dev.out = s.dev.out ++ [.tdo ((balls ++ tdi).take tdi.length)] ∧
      t.dev.jtag.preload = (balls ++ tdi).drop tdi.length ∧ t.dev.jtag.drives = false ∧ t.dev.regs = s.dev.regs) ∧
  (∀ (s : State) (balls tdi : List Bool), s.dev.pins.supplies = true →
    ∃ t, exec (.extest balls tdi) s = .next t ∧ t.dev.jtag.preload = (balls ++ tdi).drop tdi.length ∧
      t.dev.jtag.drives = decide (s.dev.mode.mode = .reset) ∧ t.dev.regs = s.dev.regs)

namespace Sys2Proof.Claims

/-- The commands that may move the TAI counter: those that power or reset the device, and the loop tick (R15, R441). -/
def movesTai : Instr → Bool
  | .powerOn | .powerFail | .rstNLow | .controlCoreWatchdog | .safeHoldAutoRestart | .modeTransition _ | .rootLockLost _ => true
  | .loopTick _ _ _ => true
  | _ => false

/-- The commands that may store into the packet memory: the boot that clears it, a frame received, and those that write registers or
objects, the data window among them (R169, R186). -/
def maySt : Instr → Bool
  | .bootStepEnd _ | .frameRx _ _ _ _ => true
  | .writeWord _ _ | .writeBurst _ _ | .registerWrite _ _ | .bitAliasWrite _ _ | .updStrobe _ | .take _ | .viewOn | .viewOff => true
  | .lockSet _ | .queuePush _ | .queueFlush _ => true
  | .modeRequest _ | .almanacWrite _ _ _ | .almanacCancel _ _ _ | .almanacConfirm _ _ | .almanacLaunch _ | .almanacDeferRetest _ => true
  | .almanacDeferExpiry _ | .cascadeProxyReq _ _ | .audioFrameBoundary | .tokenDeadline | .commandFrameRx _ | .takeOver => true
  | .plannedHandover _ | .applyProposals _ _ | .odpRead _ _ _ | .odpWrite _ _ _ | .domainBegin _ _ _ | .domainSegment _ _ _ => true
  | .domainEnd _ _ _ | .subscribe _ _ _ | .unsubscribe _ _ _ | .strobeGroups _ _ | .thaw _ _ | .freeze _ _ | .commit _ => true
  | .dmbRequest => true
  | _ => false

end Sys2Proof.Claims

/-- A step runs the command at the front of the queue on the state with the queue's rest. -/
def Obligations.StepRunsTheFrontCommand : Prop :=
  ∀ (s : State) (c : Instr) (rest : List Instr), s.pending = c :: rest → step s = exec c { s with pending := rest }

/-- R11, R15 (that a cycle passes where no command waits is the model's own choice, log 1): on an empty queue one datapath cycle passes. The TAI
counter of a device that is powered and out of RESET advances by 2.5 ns × (1 + s), s the steering word in units of 2⁻¹⁶ ppt, with nothing lost
below its last bit; out of power or in RESET it stands. Nothing else changes. -/
def Obligations.IdleStepIsOneCycle : Prop :=
  ∀ s : State, s.pending = [] →
    ∃ t, step s = .next t ∧ t = { s with dev := { s.dev with time := t.dev.time } } ∧ t.dev.time.cycles = s.dev.time.cycles + 1 ∧
      (s.dev.alive = false → t.dev.time.tai = s.dev.time.tai) ∧
      (s.dev.alive = true → t.dev.time.frac < 65536 * 10 ^ 12 ∧
        ∃ k : Int, t.dev.time.tai = s.dev.time.tai.addSub k ∧
          k * (65536 * 10 ^ 12) + t.dev.time.frac = 163840 * (65536 * 10 ^ 12 + s.dev.ref.word) + s.dev.time.frac)

/-- R6, R43, R77, R111, R144, R186, R238, R327, R340, R408, R420, R441: out of reset the device is in RESET with cause 0x00 and no transition decided, the
TAI counter at the epoch; registers hold the reset values of their tables, no command waits, no buffered value waits for a strobe.
Where the spec leaves a point open, the model’s choice stands (log 6). -/
def Obligations.ResetLeaves : Prop :=
  State.reset.dev.mode.mode = .reset ∧ State.reset.dev.mode.cause = 0 ∧ State.reset.dev.mode.decided = none ∧
  State.reset.dev.time.tai = ⟨0, 0, 0⟩ ∧ State.reset.pending = [] ∧ State.reset.dev.regs.caps = [] ∧
  State.reset.dev.rd F.GCTL_ID_ID = 0x4F564840 ∧
  (∀ n : Fin 4, State.reset.dev.rd (F.CLK_SYN_INT_N.at [n]) = 30 ∧ State.reset.dev.rd (F.NET_LATE_TOL_LATE_TOL.at [n]) = 50000) ∧
  (∀ n : Fin 8, State.reset.dev.rd (F.CLK_OUT_DIV_DIV.at [n]) = 300 ∧ State.reset.dev.rd (F.MID_MOD_STATUS_STATE.at [n]) = 0) ∧
  (∀ n : Fin 16, State.reset.dev.rd (F.APT_SETTLE_SETTLE.at [n]) = 480) ∧
  State.reset.dev.rd F.REF_SEL_STATUS_FREQ_SEL = 15 ∧ State.reset.dev.rd F.REF_SEL_STATUS_TIME_VALID = 0 ∧
  State.reset.dev.rd F.TIM_STATUS_UTC_OFFSET = 37 ∧ State.reset.dev.rd F.TIM_BOUND_NOW_BOUND = 0xFFFFFFFF ∧
  State.reset.dev.rd F.LKF_LOCK_LOCK = 0 ∧ State.reset.dev.rd F.PAIR_CAS_CFG_RANK = 0xFFFF ∧ State.reset.dev.rd F.PAIR_PARTNER_MODE = 0xF ∧
  State.reset.dev.rd F.PWR_CAP_NOW_CAP = 9500 ∧ State.reset.dev.rd F.PWR_SCALE_SCALE = 1024 ∧ State.reset.dev.rd F.PWR_THERM_TJ_CRIT = 120

/-- The state after reset is in order. -/
def Obligations.ResetIsInOrder : Prop := State.reset.inv

/-- R6: every step keeps the TAI counter within its 48, 30 and 16 bits and below 10⁹ nanoseconds, and the packet memory in its canonical
form. -/
def Obligations.EveryStepKeepsTheOrder : Prop := ∀ s t : State, s.inv → step s = .next t → t.inv

/-- Every command of the table answers a next state in every state, and leaves the queue of waiting commands as it is. -/
def Obligations.EveryCommandCompletes : Prop := ∀ (c : Instr) (s : State), ∃ t, exec c s = .next t ∧ t.pending = s.pending

/-- R15, R16: the TAI counter is one counter, moved by its own cycles, by the commands that power or reset the device, and by the loop tick that steps
or sets it: every other command leaves it, its fraction and the count of cycles as they are. -/
def Obligations.NoOtherCommandMovesTai : Prop :=
  ∀ (c : Instr) (s t : State), movesTai c = false → exec c s = .next t → t.dev.time = s.dev.time

/-- R169, R178, R186: every byte of the packet memory is left as it is by a command that neither receives a frame, nor writes through a register or an
object, nor clears the memory at boot. -/
def Obligations.NoOtherCommandStores : Prop :=
  ∀ (c : Instr) (s t : State), maySt c = false → exec c s = .next t → t.mem = s.mem

/-- R178, R186: a word written through a port's data window lands at its place in the selected buffer where that is a host transmit buffer, its four
bytes in little-endian order, and every other byte is as before; into any other buffer nothing is written.
Where the spec leaves a point open, the model’s choice stands (log 93). -/
def Obligations.DataWindowWritesHostBuffersAlone : Prop :=
  ∀ (s : State) (n : Fin 4) (k : Fin 512) (data : Word), s.dev.hostPort = true → s.dev.isFrozen 1 = false → s.dev.hostEarly = false →
    s.dev.mode.mode ≠ .safeHold → bitAt (s.dev.rd F.LKF_LOCK_LOCK) 10 = false → s.mem.wf = true →
    let buf := s.dev.rd (F.NET_BUF_SEL_SEL.at [n])
    ∃ t, exec (.writeWord (BitVec.ofNat 24 (0x52000 + n.val * 0x4000 + 4 * k.val)) data) s = .next t ∧
      (s.dev.hostBuffer buf = true → ∀ i : Fin 4, t.mem.read (bufAddr buf (4 * k + i)) = byteOf (data.toNat / 256 ^ i.val)) ∧
      (s.dev.hostBuffer buf = true → ∀ a, (∀ i : Fin 4, a ≠ bufAddr buf (4 * k + i)) → t.mem.read a = s.mem.read a) ∧
      (s.dev.hostBuffer buf = false → t.mem = s.mem)

/-- R43, R54: in RESET, without its supplies and under TEST_EN the device drives no signal pin. FAULT_OK is low in BOOTSTRAP, MAINTENANCE and SAFE_HOLD and high
in every other mode; PULSE outputs are released while the unit serves in no such mode; media clocks are low in SAFE_HOLD once the fade is over;
ROLE_CLAIM_N is low while the unit claims the active role and released otherwise; an output clock outside service is low.
Where the spec leaves a point open, the model’s choice stands (log 191). -/
def Obligations.PinsOfEachMode : Prop :=
  (∀ (d : Dev) (x : Signal), d.alive = false ∨ d.pins.testEn = true → d.pin x ≠ .low ∧ d.pin x ≠ .high ∧ d.pin x ≠ .runs) ∧
  (∀ d : Dev, d.alive = true → d.pins.testEn = false →
    (d.mode.mode = .bootstrap ∨ d.mode.mode = .maintenance ∨ d.mode.mode = .safeHold → d.pin .faultOk = .low) ∧
    (d.mode.mode = .commission ∨ d.mode.mode.svc = true ∨ d.mode.mode.stby = true → d.pin .faultOk = .high) ∧
    (∀ n : Fin 4, d.serving = false → d.pin (.pulse n) = .highZ) ∧
    (∀ g : Fin 8, d.mode.mode = .safeHold → d.fading = false → d.pin (.mclk g) = .low) ∧
    (∀ n : Fin 8, d.mode.mode ≠ .bootstrap → d.outService = false → d.pin (.clkout n) = .low) ∧
    (d.pair.claiming = true → d.pin .roleClaimN = .low) ∧ (d.pair.claiming = false → d.pin .roleClaimN = .highZ) ∧
    (∀ p : Fin 16, d.drives = false → d.pin (.dout p) = .highZ ∧ d.pin (.portIn p) = .input))

/-- R61: step 1 of the power-up sequence decides XO_FREQ by the XO_IN edges counted over 100 µs, whatever XO_FREQ was: within ±10 % of 1000 it is
10 MHz, within ±10 % of 4800 it is 48 MHz, and the root is locked; any other count leaves it at 0b00 and the device goes on from the backup oscillator
with cause 0x06 held. -/
def Obligations.XoFrequencyIsDecidedAtStepOne : Prop :=
  ∀ (s : State) (input : BootInput), s.dev.booting = true → s.dev.rd F.GCTL_BOOT_STATUS_BOOT_STEP = 0 →
    let n := input.xoEdges
    let ten := 900 ≤ n ∧ n ≤ 1100
    let forty := 4320 ≤ n ∧ n ≤ 5280
    ∃ t, exec (.bootStepEnd input) s = .next t ∧ t.dev.rd F.GCTL_BOOT_STATUS_BOOT_STEP = 1 ∧ t.mem = s.mem ∧
      (ten → t.dev.rd F.CLK_ROOT_STATUS_XO_FREQ = 1 ∧ t.dev.rd F.CLK_ROOT_STATUS_ROOT_LOCKED = 1 ∧ t.dev.mode = s.dev.mode) ∧
      (forty → t.dev.rd F.CLK_ROOT_STATUS_XO_FREQ = 2 ∧ t.dev.rd F.CLK_ROOT_STATUS_ROOT_LOCKED = 1 ∧ t.dev.mode = s.dev.mode) ∧
      (¬ ten → ¬ forty → t.dev.rd F.CLK_ROOT_STATUS_XO_FREQ = 0 ∧ t.dev.rd F.CLK_ROOT_STATUS_ON_BACKUP = 1 ∧ 0x06 ∈ t.dev.mode.held)

/-- R132: the receive and transmit timestamps of a plain response are those of the request's ingress and of the response's egress: their NTP seconds are
(TAI seconds − offset in force + 2 208 988 800) mod 2³², their fraction is floor((ns × 2¹⁶ + sub-ns) × 2³² ÷ (10⁹ × 2¹⁶)). -/
def Obligations.NtpTimestampsAreTaiLessTheOffset : Prop :=
  ∀ (s : State) (p : Fin 4) (source packet : List Byte) (detected launch : Tai), s.dev.booted = true → s.dev.ntpAnswers = true →
    packet.length = 48 → beAt packet 0 1 % 8 = 3 → beAt packet 0 1 / 8 % 8 = 4 →
    s.dev.stepBetween (s.dev.ingress p detected) launch = false → s.dev.on F.TIM_NTP_CFG_PLAIN_EN = true →
    256 ≤ ((s.dev.tally (ntpCount 0)).ntpTick.findClient (clientKey source)).2.2.tokens →
    ((s.dev.tally (ntpCount 0)).ntpTick.findClient (clientKey source)).1.tim.served + 1 ≤
      200 * ((s.dev.tally (ntpCount 0)).ntpTick.findClient (clientKey source)).1.tsUnits →
    let rx := s.dev.ingress p detected
    let tx := s.dev.egress p launch
    let seconds := fun (a : Tai) => (((a.sec : Int) - s.dev.utcOffset + 2208988800) % 2 ^ 32).toNat
    let fraction := fun (a : Tai) => (a.ns * 2 ^ 16 + a.sub) * 2 ^ 32 / (10 ^ 9 * 2 ^ 16)
    ∃ t r, exec (.ntpRequest p source packet detected launch) s = .next t ∧ sends s.dev t p 5 (.ntp (portOf p) source r) ∧
      beAt r 32 4 = seconds rx ∧ beAt r 36 4 = fraction rx ∧ beAt r 40 4 = seconds tx ∧ beAt r 44 4 = fraction tx

/-- R133: a request whose ingress and launch have a phase step between them is discarded and counted in DROP_STEP. -/
def Obligations.NtpRequestAcrossAStepIsDropped : Prop :=
  ∀ (s : State) (p : Fin 4) (source packet : List Byte) (detected launch : Tai), s.dev.booted = true → s.dev.ntpAnswers = true →
    48 ≤ packet.length → beAt packet 0 1 % 8 = 3 → (beAt packet 0 1 / 8 % 8 = 3 ∨ beAt packet 0 1 / 8 % 8 = 4) →
    s.dev.stepBetween (s.dev.ingress p detected) launch = true →
    ∃ t, exec (.ntpRequest p source packet detected launch) s = .next t ∧ t.dev.out = s.dev.out ∧
      t.dev.rd (ntpCount 6) = satAdd 32 (s.dev.rd (ntpCount 6)) 1 ∧ t.dev.tim = s.dev.tim ∧
      registersBut s t [ntpCount 0, ntpCount 6]

/-- R331: once per second THERM_CAP follows TJ: above TJ_TARGET it falls by THERM_STEP, never below the predicted power of class S work; more than
5 °C below TJ_TARGET it rises by THERM_STEP, up to POWER_CAP; between the two it holds. THERM_LIMIT reads 1 whenever THERM_CAP is below POWER_CAP.
Where the spec leaves a point open, the model’s choice stands (log 130). -/
def Obligations.ThermCapFollowsTheJunction : Prop :=
  (∀ s : State, s.dev.alive = true → s.dev.pwr.thermAt + 1000 ≤ s.dev.pwr.ticks →
    let tj := s.dev.rdS F.PWR_MEAS_TJ; let target : Int := 10 * (s.dev.rd F.PWR_THERM_TJ_TARGET : Int)
    let cur := s.dev.rd F.PWR_CAP_NOW_THERM_CAP; let top := s.dev.rd F.PWR_LIMITS_POWER_CAP
    let step := s.dev.rd F.PWR_THERM_THERM_STEP
    ∃ t, exec .thermCapUpdate s = .next t ∧
      (target < tj → t.dev.rd F.PWR_CAP_NOW_THERM_CAP = max (min cur top - step) (min (min cur top) s.dev.safePower)) ∧
      (target - 50 ≤ tj → tj ≤ target → t = { s with dev := s.dev.setPwr { s.dev.pwr with thermAt := s.dev.pwr.ticks } }) ∧
      (tj < target - 50 → cur < top → t.dev.rd F.PWR_CAP_NOW_THERM_CAP = min top (cur + step))) ∧
  (∀ (s : State) (m : Mem), s.dev.pwr.ticks ≠ 0 →
    s.dev.fieldNow m F.PWR_STATUS_THERM_LIMIT = if s.dev.rd F.PWR_CAP_NOW_THERM_CAP < s.dev.rd F.PWR_LIMITS_POWER_CAP then 1 else 0)

/-- R385: an access that the host abandons has no effect on anything but its outcome, ABANDONED, and the count of them; what the burst's earlier words
did stands. -/
def Obligations.AbandonedAccessHasNoEffect : Prop :=
  ∀ s : State, s.dev.alive = true → s.dev.pins.hostRole = true → s.dev.pins.testEn = false → s.dev.host.stalled = [] →
    ∃ t, exec .abandoned s = .next t ∧
      t = { s with dev := { s.dev with regs := t.dev.regs, host := { s.dev.host with outcome := 4 } } } ∧
      t.dev.rd F.GCTL_HOST_ERR_ABANDONED = satAdd 8 (s.dev.rd F.GCTL_HOST_ERR_ABANDONED) 1 ∧
      (∀ g : Fld, g.key ≠ F.GCTL_HOST_ERR_ABANDONED.key → t.dev.rd g = s.dev.rd g) ∧ t.dev.regs.buf = s.dev.regs.buf ∧
      t.dev.regs.caps = s.dev.regs.caps

/-- R389: offsets 0x000 to 0x3FF of the NET2 and NET3 windows reach the bypass page of the NET0 window, those of the NET1 window the MGT page, and offsets
0x700 to 0x77F of every APT window the block registers in APT0's window. -/
def Obligations.SharedPagesAreReachedFromEveryWindow : Prop :=
  (∀ (n : Fin 4) (k : Fin 256), 2 ≤ n.val → decodeAddr (0x50000 + n.val * 0x4000 + 4 * k.val) = decodeAddr (0x50000 + 4 * k.val)) ∧
  (∀ k : Fin 256, (decodeAddr (0x50000 + 4 * k.val)).1 = 5 ∧ (decodeAddr (0x50000 + 4 * k.val)).2 < 0x400) ∧
  (∀ k : Fin 256, (decodeAddr (0x54000 + 4 * k.val)).1 = 5 ∧ 0x4000 ≤ (decodeAddr (0x54000 + 4 * k.val)).2 ∧
    (decodeAddr (0x54000 + 4 * k.val)).2 < 0x4400) ∧
  (∀ (n : Fin 16) (k : Fin 32), decodeAddr (0x70000 + n.val * 0x800 + 0x700 + 4 * k.val) = decodeAddr (0x70700 + 4 * k.val) ∧
    (decodeAddr (0x70700 + 4 * k.val)).1 = 7)
end

