-- ==== Sys2Proof/Laws/Memory.lean ====
section
/-! SUPPORT. Laws/Memory.lean: the packet memory: a read after a write, and the canonical form that every write keeps. -/

namespace Sys2Proof.Machine

theorem Mem.wfAbove_cons (lo k : Nat) (v : Byte) (t : Mem) :
    Mem.wfAbove lo ((k, v) :: t) = true ↔ lo ≤ k ∧ v ≠ 0 ∧ Mem.wfAbove (k + 1) t = true := by
  simp only [Mem.wfAbove, Bool.and_eq_true, decide_eq_true_eq, and_assoc]

theorem Mem.wfAbove_mono {lo lo' : Nat} (m : Mem) (h : lo' ≤ lo) (hw : Mem.wfAbove lo m = true) : Mem.wfAbove lo' m = true := by
  cases m with
  | nil => rfl
  | cons c t =>
    obtain ⟨k, v⟩ := c
    simp only [Mem.wfAbove, Bool.and_eq_true, decide_eq_true_eq] at hw ⊢
    exact ⟨⟨by omega, hw.1.2⟩, hw.2⟩

theorem Mem.read_below (m : Mem) (lo a : Nat) (hw : Mem.wfAbove lo m = true) (ha : a < lo) : m.read a = 0 := by
  cases m with
  | nil => rfl
  | cons c t =>
    obtain ⟨k, v⟩ := c
    simp only [Mem.wfAbove, Bool.and_eq_true, decide_eq_true_eq] at hw
    have h1 : a ≠ k := by omega
    have h2 : a < k := by omega
    simp [Mem.read, h1, h2]

/-- A write keeps the canonical form. -/
theorem Mem.write_wfAbove (m : Mem) (lo a : Nat) (x : Byte) (ha : lo ≤ a) (hw : Mem.wfAbove lo m = true) :
    Mem.wfAbove lo (m.write a x) = true := by
  induction m generalizing lo with
  | nil =>
    unfold Mem.write
    by_cases h : x = 0
    · rw [if_pos h]; rfl
    · rw [if_neg h, Mem.wfAbove_cons]; exact ⟨ha, h, rfl⟩
  | cons c t ih =>
    obtain ⟨k, v⟩ := c
    have hw0 := hw
    simp only [Mem.wfAbove, Bool.and_eq_true, decide_eq_true_eq] at hw
    obtain ⟨⟨h1, h2⟩, h3⟩ := hw
    unfold Mem.write
    by_cases c1 : a < k
    · rw [if_pos c1]
      by_cases h : x = 0
      · rw [if_pos h]; exact hw0
      · rw [if_neg h]
        have : a + 1 ≤ k := by omega
        rw [Mem.wfAbove_cons, Mem.wfAbove_cons]
        exact ⟨ha, h, this, h2, h3⟩
    · rw [if_neg c1]
      by_cases c2 : a = k
      · rw [if_pos c2]
        by_cases h : x = 0
        · rw [if_pos h]; exact Mem.wfAbove_mono t (by omega) h3
        · rw [if_neg h]
          subst c2
          rw [Mem.wfAbove_cons]
          exact ⟨h1, h, h3⟩
      · rw [if_neg c2]
        rw [Mem.wfAbove_cons]
        exact ⟨h1, h2, ih (k + 1) (by omega) h3⟩

theorem Mem.write_wf (m : Mem) (a : Nat) (x : Byte) (hw : m.wf = true) : (m.write a x).wf = true :=
  Mem.write_wfAbove m 0 a x (Nat.zero_le a) hw

/-- Writing any list of bytes keeps the canonical form. -/
theorem Mem.writeAll_wf (l : List (Nat × Byte)) (m : Mem) (hw : m.wf = true) : (m.writeAll l).wf = true := by
  unfold Mem.writeAll
  induction l generalizing m with
  | nil => exact hw
  | cons c l ih => exact ih _ (Mem.write_wf m c.1 c.2 hw)

/-- A read after a write: the byte written, and every other address as before. -/
theorem Mem.read_write_above (m : Mem) (lo a b : Nat) (x : Byte) (hw : Mem.wfAbove lo m = true) :
    (m.write a x).read b = if b = a then x else m.read b := by
  induction m generalizing lo with
  | nil =>
    unfold Mem.write
    by_cases h : x = 0
    · rw [if_pos h]
      by_cases hb : b = a <;> simp only [hb, if_true, if_false, Mem.read, h]
    · rw [if_neg h]
      by_cases hb : b = a <;> simp [hb, Mem.read]
  | cons c t ih =>
    obtain ⟨k, v⟩ := c
    simp only [Mem.wfAbove, Bool.and_eq_true, decide_eq_true_eq] at hw
    obtain ⟨⟨h1, h2⟩, h3⟩ := hw
    unfold Mem.write
    by_cases c1 : a < k
    · rw [if_pos c1]
      by_cases h : x = 0
      · rw [if_pos h]
        by_cases hb : b = a
        · have e1 : b ≠ k := by omega
          have e2 : b < k := by omega
          rw [if_pos hb, h]
          simp only [Mem.read, if_neg e1, if_pos e2]
        · simp [hb]
      · rw [if_neg h]
        by_cases hb : b = a
        · simp [Mem.read, hb]
        · by_cases hb2 : b < a
          · have e1 : b ≠ k := by omega
            have e2 : b < k := by omega
            simp [Mem.read, hb, hb2, e1, e2]
          · simp [Mem.read, hb, hb2]
    · rw [if_neg c1]
      by_cases c2 : a = k
      · subst c2
        rw [if_pos rfl]
        by_cases h : x = 0
        · rw [if_pos h]
          by_cases hb : b = a
          · subst hb
            rw [if_pos rfl, Mem.read_below t (b + 1) b h3 (by omega), h]
          · by_cases hb2 : b < a
            · rw [if_neg hb, Mem.read_below t (a + 1) b h3 (by omega)]
              simp [Mem.read, hb, hb2]
            · simp [Mem.read, hb, hb2]
        · rw [if_neg h]
          by_cases hb : b = a <;> simp [Mem.read, hb]
      · rw [if_neg c2]
        by_cases hb : b = k
        · have : b ≠ a := by omega
          have e : k ≠ a := by omega
          simp [Mem.read, hb, e]
        · by_cases hb2 : b < k
          · have e : b ≠ a := by omega
            simp [Mem.read, hb, hb2, e]
          · simp only [Mem.read, if_neg hb, if_neg hb2]
            exact ih (k + 1) h3

theorem Mem.read_write (m : Mem) (a b : Nat) (x : Byte) (hw : m.wf = true) :
    (m.write a x).read b = if b = a then x else m.read b :=
  Mem.read_write_above m 0 a b x hw

/-- An address that no byte of the list names reads as before. -/
theorem Mem.read_writeAll_other (l : List (Nat × Byte)) (m : Mem) (a : Nat) (hw : m.wf = true) (h : ∀ c ∈ l, c.1 ≠ a) :
    (m.writeAll l).read a = m.read a := by
  unfold Mem.writeAll
  induction l generalizing m with
  | nil => rfl
  | cons c l ih =>
    have h1 : c.1 ≠ a := h c (by simp)
    rw [List.foldl_cons, ih _ (Mem.write_wf m c.1 c.2 hw) (fun x hx => h x (by simp [hx]))]
    rw [Mem.read_write m c.1 a c.2 hw, if_neg (Ne.symm h1)]

end Sys2Proof.Machine
end

