-- ==== Sys2Proof/Laws/State.lean ====
section
/-! SUPPORT. Laws/State.lean: one lemma per field and update, each true by definition, and what each kind of outcome leaves of the
state. -/

namespace Sys2Proof.Machine

/-! ### `Dev.wr` -/

@[simp] theorem Dev.wr_regs (d : Dev) (f : Fld) (v : Nat) : (d.wr f v).regs = { d.regs with live := d.regs.live.put f.key (v % 2 ^ f.w) } := rfl
@[simp] theorem Dev.wr_time (d : Dev) (f : Fld) (v : Nat) : (d.wr f v).time = d.time := rfl
@[simp] theorem Dev.wr_pins (d : Dev) (f : Fld) (v : Nat) : (d.wr f v).pins = d.pins := rfl
@[simp] theorem Dev.wr_mode (d : Dev) (f : Fld) (v : Nat) : (d.wr f v).mode = d.mode := rfl
@[simp] theorem Dev.wr_island (d : Dev) (f : Fld) (v : Nat) : (d.wr f v).island = d.island := rfl
@[simp] theorem Dev.wr_boot (d : Dev) (f : Fld) (v : Nat) : (d.wr f v).boot = d.boot := rfl
@[simp] theorem Dev.wr_contacts (d : Dev) (f : Fld) (v : Nat) : (d.wr f v).contacts = d.contacts := rfl
@[simp] theorem Dev.wr_ques (d : Dev) (f : Fld) (v : Nat) : (d.wr f v).ques = d.ques := rfl
@[simp] theorem Dev.wr_evSeq (d : Dev) (f : Fld) (v : Nat) : (d.wr f v).evSeq = d.evSeq := rfl
@[simp] theorem Dev.wr_odp (d : Dev) (f : Fld) (v : Nat) : (d.wr f v).odp = d.odp := rfl
@[simp] theorem Dev.wr_host (d : Dev) (f : Fld) (v : Nat) : (d.wr f v).host = d.host := rfl
@[simp] theorem Dev.wr_cap (d : Dev) (f : Fld) (v : Nat) : (d.wr f v).cap = d.cap := rfl
@[simp] theorem Dev.wr_clk (d : Dev) (f : Fld) (v : Nat) : (d.wr f v).clk = d.clk := rfl
@[simp] theorem Dev.wr_ref (d : Dev) (f : Fld) (v : Nat) : (d.wr f v).ref = d.ref := rfl
@[simp] theorem Dev.wr_tim (d : Dev) (f : Fld) (v : Nat) : (d.wr f v).tim = d.tim := rfl
@[simp] theorem Dev.wr_net (d : Dev) (f : Fld) (v : Nat) : (d.wr f v).net = d.net := rfl
@[simp] theorem Dev.wr_str (d : Dev) (f : Fld) (v : Nat) : (d.wr f v).str = d.str := rfl
@[simp] theorem Dev.wr_dig (d : Dev) (f : Fld) (v : Nat) : (d.wr f v).dig = d.dig := rfl
@[simp] theorem Dev.wr_apt (d : Dev) (f : Fld) (v : Nat) : (d.wr f v).apt = d.apt := rfl
@[simp] theorem Dev.wr_mtx (d : Dev) (f : Fld) (v : Nat) : (d.wr f v).mtx = d.mtx := rfl
@[simp] theorem Dev.wr_lib (d : Dev) (f : Fld) (v : Nat) : (d.wr f v).lib = d.lib := rfl
@[simp] theorem Dev.wr_sup (d : Dev) (f : Fld) (v : Nat) : (d.wr f v).sup = d.sup := rfl
@[simp] theorem Dev.wr_pwr (d : Dev) (f : Fld) (v : Nat) : (d.wr f v).pwr = d.pwr := rfl
@[simp] theorem Dev.wr_alm (d : Dev) (f : Fld) (v : Nat) : (d.wr f v).alm = d.alm := rfl
@[simp] theorem Dev.wr_pair (d : Dev) (f : Fld) (v : Nat) : (d.wr f v).pair = d.pair := rfl
@[simp] theorem Dev.wr_cas (d : Dev) (f : Fld) (v : Nat) : (d.wr f v).cas = d.cas := rfl
@[simp] theorem Dev.wr_mid (d : Dev) (f : Fld) (v : Nat) : (d.wr f v).mid = d.mid := rfl
@[simp] theorem Dev.wr_jtag (d : Dev) (f : Fld) (v : Nat) : (d.wr f v).jtag = d.jtag := rfl
@[simp] theorem Dev.wr_free (d : Dev) (f : Fld) (v : Nat) : (d.wr f v).free = d.free := rfl
@[simp] theorem Dev.wr_out (d : Dev) (f : Fld) (v : Nat) : (d.wr f v).out = d.out := rfl

/-! ### `Dev.wrB` -/

@[simp] theorem Dev.wrB_regs (d : Dev) (f : Fld) (v : Nat) : (d.wrB f v).regs = { d.regs with buf := d.regs.buf.put f.key (v % 2 ^ f.w) } := rfl
@[simp] theorem Dev.wrB_time (d : Dev) (f : Fld) (v : Nat) : (d.wrB f v).time = d.time := rfl
@[simp] theorem Dev.wrB_pins (d : Dev) (f : Fld) (v : Nat) : (d.wrB f v).pins = d.pins := rfl
@[simp] theorem Dev.wrB_mode (d : Dev) (f : Fld) (v : Nat) : (d.wrB f v).mode = d.mode := rfl
@[simp] theorem Dev.wrB_island (d : Dev) (f : Fld) (v : Nat) : (d.wrB f v).island = d.island := rfl
@[simp] theorem Dev.wrB_boot (d : Dev) (f : Fld) (v : Nat) : (d.wrB f v).boot = d.boot := rfl
@[simp] theorem Dev.wrB_contacts (d : Dev) (f : Fld) (v : Nat) : (d.wrB f v).contacts = d.contacts := rfl
@[simp] theorem Dev.wrB_ques (d : Dev) (f : Fld) (v : Nat) : (d.wrB f v).ques = d.ques := rfl
@[simp] theorem Dev.wrB_evSeq (d : Dev) (f : Fld) (v : Nat) : (d.wrB f v).evSeq = d.evSeq := rfl
@[simp] theorem Dev.wrB_odp (d : Dev) (f : Fld) (v : Nat) : (d.wrB f v).odp = d.odp := rfl
@[simp] theorem Dev.wrB_host (d : Dev) (f : Fld) (v : Nat) : (d.wrB f v).host = d.host := rfl
@[simp] theorem Dev.wrB_cap (d : Dev) (f : Fld) (v : Nat) : (d.wrB f v).cap = d.cap := rfl
@[simp] theorem Dev.wrB_clk (d : Dev) (f : Fld) (v : Nat) : (d.wrB f v).clk = d.clk := rfl
@[simp] theorem Dev.wrB_ref (d : Dev) (f : Fld) (v : Nat) : (d.wrB f v).ref = d.ref := rfl
@[simp] theorem Dev.wrB_tim (d : Dev) (f : Fld) (v : Nat) : (d.wrB f v).tim = d.tim := rfl
@[simp] theorem Dev.wrB_net (d : Dev) (f : Fld) (v : Nat) : (d.wrB f v).net = d.net := rfl
@[simp] theorem Dev.wrB_str (d : Dev) (f : Fld) (v : Nat) : (d.wrB f v).str = d.str := rfl
@[simp] theorem Dev.wrB_dig (d : Dev) (f : Fld) (v : Nat) : (d.wrB f v).dig = d.dig := rfl
@[simp] theorem Dev.wrB_apt (d : Dev) (f : Fld) (v : Nat) : (d.wrB f v).apt = d.apt := rfl
@[simp] theorem Dev.wrB_mtx (d : Dev) (f : Fld) (v : Nat) : (d.wrB f v).mtx = d.mtx := rfl
@[simp] theorem Dev.wrB_lib (d : Dev) (f : Fld) (v : Nat) : (d.wrB f v).lib = d.lib := rfl
@[simp] theorem Dev.wrB_sup (d : Dev) (f : Fld) (v : Nat) : (d.wrB f v).sup = d.sup := rfl
@[simp] theorem Dev.wrB_pwr (d : Dev) (f : Fld) (v : Nat) : (d.wrB f v).pwr = d.pwr := rfl
@[simp] theorem Dev.wrB_alm (d : Dev) (f : Fld) (v : Nat) : (d.wrB f v).alm = d.alm := rfl
@[simp] theorem Dev.wrB_pair (d : Dev) (f : Fld) (v : Nat) : (d.wrB f v).pair = d.pair := rfl
@[simp] theorem Dev.wrB_cas (d : Dev) (f : Fld) (v : Nat) : (d.wrB f v).cas = d.cas := rfl
@[simp] theorem Dev.wrB_mid (d : Dev) (f : Fld) (v : Nat) : (d.wrB f v).mid = d.mid := rfl
@[simp] theorem Dev.wrB_jtag (d : Dev) (f : Fld) (v : Nat) : (d.wrB f v).jtag = d.jtag := rfl
@[simp] theorem Dev.wrB_free (d : Dev) (f : Fld) (v : Nat) : (d.wrB f v).free = d.free := rfl
@[simp] theorem Dev.wrB_out (d : Dev) (f : Fld) (v : Nat) : (d.wrB f v).out = d.out := rfl

/-! ### `Dev.setQue` -/

@[simp] theorem Dev.setQue_ques (d : Dev) (q : Nat) (x : Queue) : (d.setQue q x).ques = d.ques.put q x := rfl
@[simp] theorem Dev.setQue_time (d : Dev) (q : Nat) (x : Queue) : (d.setQue q x).time = d.time := rfl
@[simp] theorem Dev.setQue_regs (d : Dev) (q : Nat) (x : Queue) : (d.setQue q x).regs = d.regs := rfl
@[simp] theorem Dev.setQue_pins (d : Dev) (q : Nat) (x : Queue) : (d.setQue q x).pins = d.pins := rfl
@[simp] theorem Dev.setQue_mode (d : Dev) (q : Nat) (x : Queue) : (d.setQue q x).mode = d.mode := rfl
@[simp] theorem Dev.setQue_island (d : Dev) (q : Nat) (x : Queue) : (d.setQue q x).island = d.island := rfl
@[simp] theorem Dev.setQue_boot (d : Dev) (q : Nat) (x : Queue) : (d.setQue q x).boot = d.boot := rfl
@[simp] theorem Dev.setQue_contacts (d : Dev) (q : Nat) (x : Queue) : (d.setQue q x).contacts = d.contacts := rfl
@[simp] theorem Dev.setQue_evSeq (d : Dev) (q : Nat) (x : Queue) : (d.setQue q x).evSeq = d.evSeq := rfl
@[simp] theorem Dev.setQue_odp (d : Dev) (q : Nat) (x : Queue) : (d.setQue q x).odp = d.odp := rfl
@[simp] theorem Dev.setQue_host (d : Dev) (q : Nat) (x : Queue) : (d.setQue q x).host = d.host := rfl
@[simp] theorem Dev.setQue_cap (d : Dev) (q : Nat) (x : Queue) : (d.setQue q x).cap = d.cap := rfl
@[simp] theorem Dev.setQue_clk (d : Dev) (q : Nat) (x : Queue) : (d.setQue q x).clk = d.clk := rfl
@[simp] theorem Dev.setQue_ref (d : Dev) (q : Nat) (x : Queue) : (d.setQue q x).ref = d.ref := rfl
@[simp] theorem Dev.setQue_tim (d : Dev) (q : Nat) (x : Queue) : (d.setQue q x).tim = d.tim := rfl
@[simp] theorem Dev.setQue_net (d : Dev) (q : Nat) (x : Queue) : (d.setQue q x).net = d.net := rfl
@[simp] theorem Dev.setQue_str (d : Dev) (q : Nat) (x : Queue) : (d.setQue q x).str = d.str := rfl
@[simp] theorem Dev.setQue_dig (d : Dev) (q : Nat) (x : Queue) : (d.setQue q x).dig = d.dig := rfl
@[simp] theorem Dev.setQue_apt (d : Dev) (q : Nat) (x : Queue) : (d.setQue q x).apt = d.apt := rfl
@[simp] theorem Dev.setQue_mtx (d : Dev) (q : Nat) (x : Queue) : (d.setQue q x).mtx = d.mtx := rfl
@[simp] theorem Dev.setQue_lib (d : Dev) (q : Nat) (x : Queue) : (d.setQue q x).lib = d.lib := rfl
@[simp] theorem Dev.setQue_sup (d : Dev) (q : Nat) (x : Queue) : (d.setQue q x).sup = d.sup := rfl
@[simp] theorem Dev.setQue_pwr (d : Dev) (q : Nat) (x : Queue) : (d.setQue q x).pwr = d.pwr := rfl
@[simp] theorem Dev.setQue_alm (d : Dev) (q : Nat) (x : Queue) : (d.setQue q x).alm = d.alm := rfl
@[simp] theorem Dev.setQue_pair (d : Dev) (q : Nat) (x : Queue) : (d.setQue q x).pair = d.pair := rfl
@[simp] theorem Dev.setQue_cas (d : Dev) (q : Nat) (x : Queue) : (d.setQue q x).cas = d.cas := rfl
@[simp] theorem Dev.setQue_mid (d : Dev) (q : Nat) (x : Queue) : (d.setQue q x).mid = d.mid := rfl
@[simp] theorem Dev.setQue_jtag (d : Dev) (q : Nat) (x : Queue) : (d.setQue q x).jtag = d.jtag := rfl
@[simp] theorem Dev.setQue_free (d : Dev) (q : Nat) (x : Queue) : (d.setQue q x).free = d.free := rfl
@[simp] theorem Dev.setQue_out (d : Dev) (q : Nat) (x : Queue) : (d.setQue q x).out = d.out := rfl

/-! ### `Dev.emit` -/

@[simp] theorem Dev.emit_out (d : Dev) (o : Out) : (d.emit o).out = d.out ++ [o] := rfl
@[simp] theorem Dev.emit_time (d : Dev) (o : Out) : (d.emit o).time = d.time := rfl
@[simp] theorem Dev.emit_regs (d : Dev) (o : Out) : (d.emit o).regs = d.regs := rfl
@[simp] theorem Dev.emit_pins (d : Dev) (o : Out) : (d.emit o).pins = d.pins := rfl
@[simp] theorem Dev.emit_mode (d : Dev) (o : Out) : (d.emit o).mode = d.mode := rfl
@[simp] theorem Dev.emit_island (d : Dev) (o : Out) : (d.emit o).island = d.island := rfl
@[simp] theorem Dev.emit_boot (d : Dev) (o : Out) : (d.emit o).boot = d.boot := rfl
@[simp] theorem Dev.emit_contacts (d : Dev) (o : Out) : (d.emit o).contacts = d.contacts := rfl
@[simp] theorem Dev.emit_ques (d : Dev) (o : Out) : (d.emit o).ques = d.ques := rfl
@[simp] theorem Dev.emit_evSeq (d : Dev) (o : Out) : (d.emit o).evSeq = d.evSeq := rfl
@[simp] theorem Dev.emit_odp (d : Dev) (o : Out) : (d.emit o).odp = d.odp := rfl
@[simp] theorem Dev.emit_host (d : Dev) (o : Out) : (d.emit o).host = d.host := rfl
@[simp] theorem Dev.emit_cap (d : Dev) (o : Out) : (d.emit o).cap = d.cap := rfl
@[simp] theorem Dev.emit_clk (d : Dev) (o : Out) : (d.emit o).clk = d.clk := rfl
@[simp] theorem Dev.emit_ref (d : Dev) (o : Out) : (d.emit o).ref = d.ref := rfl
@[simp] theorem Dev.emit_tim (d : Dev) (o : Out) : (d.emit o).tim = d.tim := rfl
@[simp] theorem Dev.emit_net (d : Dev) (o : Out) : (d.emit o).net = d.net := rfl
@[simp] theorem Dev.emit_str (d : Dev) (o : Out) : (d.emit o).str = d.str := rfl
@[simp] theorem Dev.emit_dig (d : Dev) (o : Out) : (d.emit o).dig = d.dig := rfl
@[simp] theorem Dev.emit_apt (d : Dev) (o : Out) : (d.emit o).apt = d.apt := rfl
@[simp] theorem Dev.emit_mtx (d : Dev) (o : Out) : (d.emit o).mtx = d.mtx := rfl
@[simp] theorem Dev.emit_lib (d : Dev) (o : Out) : (d.emit o).lib = d.lib := rfl
@[simp] theorem Dev.emit_sup (d : Dev) (o : Out) : (d.emit o).sup = d.sup := rfl
@[simp] theorem Dev.emit_pwr (d : Dev) (o : Out) : (d.emit o).pwr = d.pwr := rfl
@[simp] theorem Dev.emit_alm (d : Dev) (o : Out) : (d.emit o).alm = d.alm := rfl
@[simp] theorem Dev.emit_pair (d : Dev) (o : Out) : (d.emit o).pair = d.pair := rfl
@[simp] theorem Dev.emit_cas (d : Dev) (o : Out) : (d.emit o).cas = d.cas := rfl
@[simp] theorem Dev.emit_mid (d : Dev) (o : Out) : (d.emit o).mid = d.mid := rfl
@[simp] theorem Dev.emit_jtag (d : Dev) (o : Out) : (d.emit o).jtag = d.jtag := rfl
@[simp] theorem Dev.emit_free (d : Dev) (o : Out) : (d.emit o).free = d.free := rfl

/-! ### `Dev.setJournal` -/

@[simp] theorem Dev.setJournal_odp (d : Dev) (j : Journal) : (d.setJournal j).odp = { d.odp with journal := j } := rfl
@[simp] theorem Dev.setJournal_time (d : Dev) (j : Journal) : (d.setJournal j).time = d.time := rfl
@[simp] theorem Dev.setJournal_regs (d : Dev) (j : Journal) : (d.setJournal j).regs = d.regs := rfl
@[simp] theorem Dev.setJournal_pins (d : Dev) (j : Journal) : (d.setJournal j).pins = d.pins := rfl
@[simp] theorem Dev.setJournal_mode (d : Dev) (j : Journal) : (d.setJournal j).mode = d.mode := rfl
@[simp] theorem Dev.setJournal_island (d : Dev) (j : Journal) : (d.setJournal j).island = d.island := rfl
@[simp] theorem Dev.setJournal_boot (d : Dev) (j : Journal) : (d.setJournal j).boot = d.boot := rfl
@[simp] theorem Dev.setJournal_contacts (d : Dev) (j : Journal) : (d.setJournal j).contacts = d.contacts := rfl
@[simp] theorem Dev.setJournal_ques (d : Dev) (j : Journal) : (d.setJournal j).ques = d.ques := rfl
@[simp] theorem Dev.setJournal_evSeq (d : Dev) (j : Journal) : (d.setJournal j).evSeq = d.evSeq := rfl
@[simp] theorem Dev.setJournal_host (d : Dev) (j : Journal) : (d.setJournal j).host = d.host := rfl
@[simp] theorem Dev.setJournal_cap (d : Dev) (j : Journal) : (d.setJournal j).cap = d.cap := rfl
@[simp] theorem Dev.setJournal_clk (d : Dev) (j : Journal) : (d.setJournal j).clk = d.clk := rfl
@[simp] theorem Dev.setJournal_ref (d : Dev) (j : Journal) : (d.setJournal j).ref = d.ref := rfl
@[simp] theorem Dev.setJournal_tim (d : Dev) (j : Journal) : (d.setJournal j).tim = d.tim := rfl
@[simp] theorem Dev.setJournal_net (d : Dev) (j : Journal) : (d.setJournal j).net = d.net := rfl
@[simp] theorem Dev.setJournal_str (d : Dev) (j : Journal) : (d.setJournal j).str = d.str := rfl
@[simp] theorem Dev.setJournal_dig (d : Dev) (j : Journal) : (d.setJournal j).dig = d.dig := rfl
@[simp] theorem Dev.setJournal_apt (d : Dev) (j : Journal) : (d.setJournal j).apt = d.apt := rfl
@[simp] theorem Dev.setJournal_mtx (d : Dev) (j : Journal) : (d.setJournal j).mtx = d.mtx := rfl
@[simp] theorem Dev.setJournal_lib (d : Dev) (j : Journal) : (d.setJournal j).lib = d.lib := rfl
@[simp] theorem Dev.setJournal_sup (d : Dev) (j : Journal) : (d.setJournal j).sup = d.sup := rfl
@[simp] theorem Dev.setJournal_pwr (d : Dev) (j : Journal) : (d.setJournal j).pwr = d.pwr := rfl
@[simp] theorem Dev.setJournal_alm (d : Dev) (j : Journal) : (d.setJournal j).alm = d.alm := rfl
@[simp] theorem Dev.setJournal_pair (d : Dev) (j : Journal) : (d.setJournal j).pair = d.pair := rfl
@[simp] theorem Dev.setJournal_cas (d : Dev) (j : Journal) : (d.setJournal j).cas = d.cas := rfl
@[simp] theorem Dev.setJournal_mid (d : Dev) (j : Journal) : (d.setJournal j).mid = d.mid := rfl
@[simp] theorem Dev.setJournal_jtag (d : Dev) (j : Journal) : (d.setJournal j).jtag = d.jtag := rfl
@[simp] theorem Dev.setJournal_free (d : Dev) (j : Journal) : (d.setJournal j).free = d.free := rfl
@[simp] theorem Dev.setJournal_out (d : Dev) (j : Journal) : (d.setJournal j).out = d.out := rfl

/-! ### `Dev.setOdp` -/

@[simp] theorem Dev.setOdp_odp (d : Dev) (o : OdpSt) : (d.setOdp o).odp = o := rfl
@[simp] theorem Dev.setOdp_time (d : Dev) (o : OdpSt) : (d.setOdp o).time = d.time := rfl
@[simp] theorem Dev.setOdp_regs (d : Dev) (o : OdpSt) : (d.setOdp o).regs = d.regs := rfl
@[simp] theorem Dev.setOdp_pins (d : Dev) (o : OdpSt) : (d.setOdp o).pins = d.pins := rfl
@[simp] theorem Dev.setOdp_mode (d : Dev) (o : OdpSt) : (d.setOdp o).mode = d.mode := rfl
@[simp] theorem Dev.setOdp_island (d : Dev) (o : OdpSt) : (d.setOdp o).island = d.island := rfl
@[simp] theorem Dev.setOdp_boot (d : Dev) (o : OdpSt) : (d.setOdp o).boot = d.boot := rfl
@[simp] theorem Dev.setOdp_contacts (d : Dev) (o : OdpSt) : (d.setOdp o).contacts = d.contacts := rfl
@[simp] theorem Dev.setOdp_ques (d : Dev) (o : OdpSt) : (d.setOdp o).ques = d.ques := rfl
@[simp] theorem Dev.setOdp_evSeq (d : Dev) (o : OdpSt) : (d.setOdp o).evSeq = d.evSeq := rfl
@[simp] theorem Dev.setOdp_host (d : Dev) (o : OdpSt) : (d.setOdp o).host = d.host := rfl
@[simp] theorem Dev.setOdp_cap (d : Dev) (o : OdpSt) : (d.setOdp o).cap = d.cap := rfl
@[simp] theorem Dev.setOdp_clk (d : Dev) (o : OdpSt) : (d.setOdp o).clk = d.clk := rfl
@[simp] theorem Dev.setOdp_ref (d : Dev) (o : OdpSt) : (d.setOdp o).ref = d.ref := rfl
@[simp] theorem Dev.setOdp_tim (d : Dev) (o : OdpSt) : (d.setOdp o).tim = d.tim := rfl
@[simp] theorem Dev.setOdp_net (d : Dev) (o : OdpSt) : (d.setOdp o).net = d.net := rfl
@[simp] theorem Dev.setOdp_str (d : Dev) (o : OdpSt) : (d.setOdp o).str = d.str := rfl
@[simp] theorem Dev.setOdp_dig (d : Dev) (o : OdpSt) : (d.setOdp o).dig = d.dig := rfl
@[simp] theorem Dev.setOdp_apt (d : Dev) (o : OdpSt) : (d.setOdp o).apt = d.apt := rfl
@[simp] theorem Dev.setOdp_mtx (d : Dev) (o : OdpSt) : (d.setOdp o).mtx = d.mtx := rfl
@[simp] theorem Dev.setOdp_lib (d : Dev) (o : OdpSt) : (d.setOdp o).lib = d.lib := rfl
@[simp] theorem Dev.setOdp_sup (d : Dev) (o : OdpSt) : (d.setOdp o).sup = d.sup := rfl
@[simp] theorem Dev.setOdp_pwr (d : Dev) (o : OdpSt) : (d.setOdp o).pwr = d.pwr := rfl
@[simp] theorem Dev.setOdp_alm (d : Dev) (o : OdpSt) : (d.setOdp o).alm = d.alm := rfl
@[simp] theorem Dev.setOdp_pair (d : Dev) (o : OdpSt) : (d.setOdp o).pair = d.pair := rfl
@[simp] theorem Dev.setOdp_cas (d : Dev) (o : OdpSt) : (d.setOdp o).cas = d.cas := rfl
@[simp] theorem Dev.setOdp_mid (d : Dev) (o : OdpSt) : (d.setOdp o).mid = d.mid := rfl
@[simp] theorem Dev.setOdp_jtag (d : Dev) (o : OdpSt) : (d.setOdp o).jtag = d.jtag := rfl
@[simp] theorem Dev.setOdp_free (d : Dev) (o : OdpSt) : (d.setOdp o).free = d.free := rfl
@[simp] theorem Dev.setOdp_out (d : Dev) (o : OdpSt) : (d.setOdp o).out = d.out := rfl

/-! ### `Dev.setSlot` -/

@[simp] theorem Dev.setSlot_ref (d : Dev) (n : Nat) (x : SlotSt) : (d.setSlot n x).ref = { d.ref with slots := d.ref.slots.put n x } := rfl
@[simp] theorem Dev.setSlot_time (d : Dev) (n : Nat) (x : SlotSt) : (d.setSlot n x).time = d.time := rfl
@[simp] theorem Dev.setSlot_regs (d : Dev) (n : Nat) (x : SlotSt) : (d.setSlot n x).regs = d.regs := rfl
@[simp] theorem Dev.setSlot_pins (d : Dev) (n : Nat) (x : SlotSt) : (d.setSlot n x).pins = d.pins := rfl
@[simp] theorem Dev.setSlot_mode (d : Dev) (n : Nat) (x : SlotSt) : (d.setSlot n x).mode = d.mode := rfl
@[simp] theorem Dev.setSlot_island (d : Dev) (n : Nat) (x : SlotSt) : (d.setSlot n x).island = d.island := rfl
@[simp] theorem Dev.setSlot_boot (d : Dev) (n : Nat) (x : SlotSt) : (d.setSlot n x).boot = d.boot := rfl
@[simp] theorem Dev.setSlot_contacts (d : Dev) (n : Nat) (x : SlotSt) : (d.setSlot n x).contacts = d.contacts := rfl
@[simp] theorem Dev.setSlot_ques (d : Dev) (n : Nat) (x : SlotSt) : (d.setSlot n x).ques = d.ques := rfl
@[simp] theorem Dev.setSlot_evSeq (d : Dev) (n : Nat) (x : SlotSt) : (d.setSlot n x).evSeq = d.evSeq := rfl
@[simp] theorem Dev.setSlot_odp (d : Dev) (n : Nat) (x : SlotSt) : (d.setSlot n x).odp = d.odp := rfl
@[simp] theorem Dev.setSlot_host (d : Dev) (n : Nat) (x : SlotSt) : (d.setSlot n x).host = d.host := rfl
@[simp] theorem Dev.setSlot_cap (d : Dev) (n : Nat) (x : SlotSt) : (d.setSlot n x).cap = d.cap := rfl
@[simp] theorem Dev.setSlot_clk (d : Dev) (n : Nat) (x : SlotSt) : (d.setSlot n x).clk = d.clk := rfl
@[simp] theorem Dev.setSlot_tim (d : Dev) (n : Nat) (x : SlotSt) : (d.setSlot n x).tim = d.tim := rfl
@[simp] theorem Dev.setSlot_net (d : Dev) (n : Nat) (x : SlotSt) : (d.setSlot n x).net = d.net := rfl
@[simp] theorem Dev.setSlot_str (d : Dev) (n : Nat) (x : SlotSt) : (d.setSlot n x).str = d.str := rfl
@[simp] theorem Dev.setSlot_dig (d : Dev) (n : Nat) (x : SlotSt) : (d.setSlot n x).dig = d.dig := rfl
@[simp] theorem Dev.setSlot_apt (d : Dev) (n : Nat) (x : SlotSt) : (d.setSlot n x).apt = d.apt := rfl
@[simp] theorem Dev.setSlot_mtx (d : Dev) (n : Nat) (x : SlotSt) : (d.setSlot n x).mtx = d.mtx := rfl
@[simp] theorem Dev.setSlot_lib (d : Dev) (n : Nat) (x : SlotSt) : (d.setSlot n x).lib = d.lib := rfl
@[simp] theorem Dev.setSlot_sup (d : Dev) (n : Nat) (x : SlotSt) : (d.setSlot n x).sup = d.sup := rfl
@[simp] theorem Dev.setSlot_pwr (d : Dev) (n : Nat) (x : SlotSt) : (d.setSlot n x).pwr = d.pwr := rfl
@[simp] theorem Dev.setSlot_alm (d : Dev) (n : Nat) (x : SlotSt) : (d.setSlot n x).alm = d.alm := rfl
@[simp] theorem Dev.setSlot_pair (d : Dev) (n : Nat) (x : SlotSt) : (d.setSlot n x).pair = d.pair := rfl
@[simp] theorem Dev.setSlot_cas (d : Dev) (n : Nat) (x : SlotSt) : (d.setSlot n x).cas = d.cas := rfl
@[simp] theorem Dev.setSlot_mid (d : Dev) (n : Nat) (x : SlotSt) : (d.setSlot n x).mid = d.mid := rfl
@[simp] theorem Dev.setSlot_jtag (d : Dev) (n : Nat) (x : SlotSt) : (d.setSlot n x).jtag = d.jtag := rfl
@[simp] theorem Dev.setSlot_free (d : Dev) (n : Nat) (x : SlotSt) : (d.setSlot n x).free = d.free := rfl
@[simp] theorem Dev.setSlot_out (d : Dev) (n : Nat) (x : SlotSt) : (d.setSlot n x).out = d.out := rfl

/-! ### `Dev.setPulse` -/

@[simp] theorem Dev.setPulse_ref (d : Dev) (p : Nat) (x : PulseSt) : (d.setPulse p x).ref = { d.ref with pulses := d.ref.pulses.put p x } := rfl
@[simp] theorem Dev.setPulse_time (d : Dev) (p : Nat) (x : PulseSt) : (d.setPulse p x).time = d.time := rfl
@[simp] theorem Dev.setPulse_regs (d : Dev) (p : Nat) (x : PulseSt) : (d.setPulse p x).regs = d.regs := rfl
@[simp] theorem Dev.setPulse_pins (d : Dev) (p : Nat) (x : PulseSt) : (d.setPulse p x).pins = d.pins := rfl
@[simp] theorem Dev.setPulse_mode (d : Dev) (p : Nat) (x : PulseSt) : (d.setPulse p x).mode = d.mode := rfl
@[simp] theorem Dev.setPulse_island (d : Dev) (p : Nat) (x : PulseSt) : (d.setPulse p x).island = d.island := rfl
@[simp] theorem Dev.setPulse_boot (d : Dev) (p : Nat) (x : PulseSt) : (d.setPulse p x).boot = d.boot := rfl
@[simp] theorem Dev.setPulse_contacts (d : Dev) (p : Nat) (x : PulseSt) : (d.setPulse p x).contacts = d.contacts := rfl
@[simp] theorem Dev.setPulse_ques (d : Dev) (p : Nat) (x : PulseSt) : (d.setPulse p x).ques = d.ques := rfl
@[simp] theorem Dev.setPulse_evSeq (d : Dev) (p : Nat) (x : PulseSt) : (d.setPulse p x).evSeq = d.evSeq := rfl
@[simp] theorem Dev.setPulse_odp (d : Dev) (p : Nat) (x : PulseSt) : (d.setPulse p x).odp = d.odp := rfl
@[simp] theorem Dev.setPulse_host (d : Dev) (p : Nat) (x : PulseSt) : (d.setPulse p x).host = d.host := rfl
@[simp] theorem Dev.setPulse_cap (d : Dev) (p : Nat) (x : PulseSt) : (d.setPulse p x).cap = d.cap := rfl
@[simp] theorem Dev.setPulse_clk (d : Dev) (p : Nat) (x : PulseSt) : (d.setPulse p x).clk = d.clk := rfl
@[simp] theorem Dev.setPulse_tim (d : Dev) (p : Nat) (x : PulseSt) : (d.setPulse p x).tim = d.tim := rfl
@[simp] theorem Dev.setPulse_net (d : Dev) (p : Nat) (x : PulseSt) : (d.setPulse p x).net = d.net := rfl
@[simp] theorem Dev.setPulse_str (d : Dev) (p : Nat) (x : PulseSt) : (d.setPulse p x).str = d.str := rfl
@[simp] theorem Dev.setPulse_dig (d : Dev) (p : Nat) (x : PulseSt) : (d.setPulse p x).dig = d.dig := rfl
@[simp] theorem Dev.setPulse_apt (d : Dev) (p : Nat) (x : PulseSt) : (d.setPulse p x).apt = d.apt := rfl
@[simp] theorem Dev.setPulse_mtx (d : Dev) (p : Nat) (x : PulseSt) : (d.setPulse p x).mtx = d.mtx := rfl
@[simp] theorem Dev.setPulse_lib (d : Dev) (p : Nat) (x : PulseSt) : (d.setPulse p x).lib = d.lib := rfl
@[simp] theorem Dev.setPulse_sup (d : Dev) (p : Nat) (x : PulseSt) : (d.setPulse p x).sup = d.sup := rfl
@[simp] theorem Dev.setPulse_pwr (d : Dev) (p : Nat) (x : PulseSt) : (d.setPulse p x).pwr = d.pwr := rfl
@[simp] theorem Dev.setPulse_alm (d : Dev) (p : Nat) (x : PulseSt) : (d.setPulse p x).alm = d.alm := rfl
@[simp] theorem Dev.setPulse_pair (d : Dev) (p : Nat) (x : PulseSt) : (d.setPulse p x).pair = d.pair := rfl
@[simp] theorem Dev.setPulse_cas (d : Dev) (p : Nat) (x : PulseSt) : (d.setPulse p x).cas = d.cas := rfl
@[simp] theorem Dev.setPulse_mid (d : Dev) (p : Nat) (x : PulseSt) : (d.setPulse p x).mid = d.mid := rfl
@[simp] theorem Dev.setPulse_jtag (d : Dev) (p : Nat) (x : PulseSt) : (d.setPulse p x).jtag = d.jtag := rfl
@[simp] theorem Dev.setPulse_free (d : Dev) (p : Nat) (x : PulseSt) : (d.setPulse p x).free = d.free := rfl
@[simp] theorem Dev.setPulse_out (d : Dev) (p : Nat) (x : PulseSt) : (d.setPulse p x).out = d.out := rfl

/-! ### `Dev.setPtp` -/

@[simp] theorem Dev.setPtp_tim (d : Dev) (p : Nat) (x : PtpPort) : (d.setPtp p x).tim = { d.tim with ports := d.tim.ports.put p x } := rfl
@[simp] theorem Dev.setPtp_time (d : Dev) (p : Nat) (x : PtpPort) : (d.setPtp p x).time = d.time := rfl
@[simp] theorem Dev.setPtp_regs (d : Dev) (p : Nat) (x : PtpPort) : (d.setPtp p x).regs = d.regs := rfl
@[simp] theorem Dev.setPtp_pins (d : Dev) (p : Nat) (x : PtpPort) : (d.setPtp p x).pins = d.pins := rfl
@[simp] theorem Dev.setPtp_mode (d : Dev) (p : Nat) (x : PtpPort) : (d.setPtp p x).mode = d.mode := rfl
@[simp] theorem Dev.setPtp_island (d : Dev) (p : Nat) (x : PtpPort) : (d.setPtp p x).island = d.island := rfl
@[simp] theorem Dev.setPtp_boot (d : Dev) (p : Nat) (x : PtpPort) : (d.setPtp p x).boot = d.boot := rfl
@[simp] theorem Dev.setPtp_contacts (d : Dev) (p : Nat) (x : PtpPort) : (d.setPtp p x).contacts = d.contacts := rfl
@[simp] theorem Dev.setPtp_ques (d : Dev) (p : Nat) (x : PtpPort) : (d.setPtp p x).ques = d.ques := rfl
@[simp] theorem Dev.setPtp_evSeq (d : Dev) (p : Nat) (x : PtpPort) : (d.setPtp p x).evSeq = d.evSeq := rfl
@[simp] theorem Dev.setPtp_odp (d : Dev) (p : Nat) (x : PtpPort) : (d.setPtp p x).odp = d.odp := rfl
@[simp] theorem Dev.setPtp_host (d : Dev) (p : Nat) (x : PtpPort) : (d.setPtp p x).host = d.host := rfl
@[simp] theorem Dev.setPtp_cap (d : Dev) (p : Nat) (x : PtpPort) : (d.setPtp p x).cap = d.cap := rfl
@[simp] theorem Dev.setPtp_clk (d : Dev) (p : Nat) (x : PtpPort) : (d.setPtp p x).clk = d.clk := rfl
@[simp] theorem Dev.setPtp_ref (d : Dev) (p : Nat) (x : PtpPort) : (d.setPtp p x).ref = d.ref := rfl
@[simp] theorem Dev.setPtp_net (d : Dev) (p : Nat) (x : PtpPort) : (d.setPtp p x).net = d.net := rfl
@[simp] theorem Dev.setPtp_str (d : Dev) (p : Nat) (x : PtpPort) : (d.setPtp p x).str = d.str := rfl
@[simp] theorem Dev.setPtp_dig (d : Dev) (p : Nat) (x : PtpPort) : (d.setPtp p x).dig = d.dig := rfl
@[simp] theorem Dev.setPtp_apt (d : Dev) (p : Nat) (x : PtpPort) : (d.setPtp p x).apt = d.apt := rfl
@[simp] theorem Dev.setPtp_mtx (d : Dev) (p : Nat) (x : PtpPort) : (d.setPtp p x).mtx = d.mtx := rfl
@[simp] theorem Dev.setPtp_lib (d : Dev) (p : Nat) (x : PtpPort) : (d.setPtp p x).lib = d.lib := rfl
@[simp] theorem Dev.setPtp_sup (d : Dev) (p : Nat) (x : PtpPort) : (d.setPtp p x).sup = d.sup := rfl
@[simp] theorem Dev.setPtp_pwr (d : Dev) (p : Nat) (x : PtpPort) : (d.setPtp p x).pwr = d.pwr := rfl
@[simp] theorem Dev.setPtp_alm (d : Dev) (p : Nat) (x : PtpPort) : (d.setPtp p x).alm = d.alm := rfl
@[simp] theorem Dev.setPtp_pair (d : Dev) (p : Nat) (x : PtpPort) : (d.setPtp p x).pair = d.pair := rfl
@[simp] theorem Dev.setPtp_cas (d : Dev) (p : Nat) (x : PtpPort) : (d.setPtp p x).cas = d.cas := rfl
@[simp] theorem Dev.setPtp_mid (d : Dev) (p : Nat) (x : PtpPort) : (d.setPtp p x).mid = d.mid := rfl
@[simp] theorem Dev.setPtp_jtag (d : Dev) (p : Nat) (x : PtpPort) : (d.setPtp p x).jtag = d.jtag := rfl
@[simp] theorem Dev.setPtp_free (d : Dev) (p : Nat) (x : PtpPort) : (d.setPtp p x).free = d.free := rfl
@[simp] theorem Dev.setPtp_out (d : Dev) (p : Nat) (x : PtpPort) : (d.setPtp p x).out = d.out := rfl

/-! ### `Dev.setPort` -/

@[simp] theorem Dev.setPort_net (d : Dev) (p : Nat) (x : NetPortSt) : (d.setPort p x).net = { d.net with ports := d.net.ports.put p x } := rfl
@[simp] theorem Dev.setPort_time (d : Dev) (p : Nat) (x : NetPortSt) : (d.setPort p x).time = d.time := rfl
@[simp] theorem Dev.setPort_regs (d : Dev) (p : Nat) (x : NetPortSt) : (d.setPort p x).regs = d.regs := rfl
@[simp] theorem Dev.setPort_pins (d : Dev) (p : Nat) (x : NetPortSt) : (d.setPort p x).pins = d.pins := rfl
@[simp] theorem Dev.setPort_mode (d : Dev) (p : Nat) (x : NetPortSt) : (d.setPort p x).mode = d.mode := rfl
@[simp] theorem Dev.setPort_island (d : Dev) (p : Nat) (x : NetPortSt) : (d.setPort p x).island = d.island := rfl
@[simp] theorem Dev.setPort_boot (d : Dev) (p : Nat) (x : NetPortSt) : (d.setPort p x).boot = d.boot := rfl
@[simp] theorem Dev.setPort_contacts (d : Dev) (p : Nat) (x : NetPortSt) : (d.setPort p x).contacts = d.contacts := rfl
@[simp] theorem Dev.setPort_ques (d : Dev) (p : Nat) (x : NetPortSt) : (d.setPort p x).ques = d.ques := rfl
@[simp] theorem Dev.setPort_evSeq (d : Dev) (p : Nat) (x : NetPortSt) : (d.setPort p x).evSeq = d.evSeq := rfl
@[simp] theorem Dev.setPort_odp (d : Dev) (p : Nat) (x : NetPortSt) : (d.setPort p x).odp = d.odp := rfl
@[simp] theorem Dev.setPort_host (d : Dev) (p : Nat) (x : NetPortSt) : (d.setPort p x).host = d.host := rfl
@[simp] theorem Dev.setPort_cap (d : Dev) (p : Nat) (x : NetPortSt) : (d.setPort p x).cap = d.cap := rfl
@[simp] theorem Dev.setPort_clk (d : Dev) (p : Nat) (x : NetPortSt) : (d.setPort p x).clk = d.clk := rfl
@[simp] theorem Dev.setPort_ref (d : Dev) (p : Nat) (x : NetPortSt) : (d.setPort p x).ref = d.ref := rfl
@[simp] theorem Dev.setPort_tim (d : Dev) (p : Nat) (x : NetPortSt) : (d.setPort p x).tim = d.tim := rfl
@[simp] theorem Dev.setPort_str (d : Dev) (p : Nat) (x : NetPortSt) : (d.setPort p x).str = d.str := rfl
@[simp] theorem Dev.setPort_dig (d : Dev) (p : Nat) (x : NetPortSt) : (d.setPort p x).dig = d.dig := rfl
@[simp] theorem Dev.setPort_apt (d : Dev) (p : Nat) (x : NetPortSt) : (d.setPort p x).apt = d.apt := rfl
@[simp] theorem Dev.setPort_mtx (d : Dev) (p : Nat) (x : NetPortSt) : (d.setPort p x).mtx = d.mtx := rfl
@[simp] theorem Dev.setPort_lib (d : Dev) (p : Nat) (x : NetPortSt) : (d.setPort p x).lib = d.lib := rfl
@[simp] theorem Dev.setPort_sup (d : Dev) (p : Nat) (x : NetPortSt) : (d.setPort p x).sup = d.sup := rfl
@[simp] theorem Dev.setPort_pwr (d : Dev) (p : Nat) (x : NetPortSt) : (d.setPort p x).pwr = d.pwr := rfl
@[simp] theorem Dev.setPort_alm (d : Dev) (p : Nat) (x : NetPortSt) : (d.setPort p x).alm = d.alm := rfl
@[simp] theorem Dev.setPort_pair (d : Dev) (p : Nat) (x : NetPortSt) : (d.setPort p x).pair = d.pair := rfl
@[simp] theorem Dev.setPort_cas (d : Dev) (p : Nat) (x : NetPortSt) : (d.setPort p x).cas = d.cas := rfl
@[simp] theorem Dev.setPort_mid (d : Dev) (p : Nat) (x : NetPortSt) : (d.setPort p x).mid = d.mid := rfl
@[simp] theorem Dev.setPort_jtag (d : Dev) (p : Nat) (x : NetPortSt) : (d.setPort p x).jtag = d.jtag := rfl
@[simp] theorem Dev.setPort_free (d : Dev) (p : Nat) (x : NetPortSt) : (d.setPort p x).free = d.free := rfl
@[simp] theorem Dev.setPort_out (d : Dev) (p : Nat) (x : NetPortSt) : (d.setPort p x).out = d.out := rfl

/-! ### `Dev.setCtx` -/

@[simp] theorem Dev.setCtx_str (d : Dev) (c : Nat) (x : CtxSt) : (d.setCtx c x).str = d.str.put c x := rfl
@[simp] theorem Dev.setCtx_time (d : Dev) (c : Nat) (x : CtxSt) : (d.setCtx c x).time = d.time := rfl
@[simp] theorem Dev.setCtx_regs (d : Dev) (c : Nat) (x : CtxSt) : (d.setCtx c x).regs = d.regs := rfl
@[simp] theorem Dev.setCtx_pins (d : Dev) (c : Nat) (x : CtxSt) : (d.setCtx c x).pins = d.pins := rfl
@[simp] theorem Dev.setCtx_mode (d : Dev) (c : Nat) (x : CtxSt) : (d.setCtx c x).mode = d.mode := rfl
@[simp] theorem Dev.setCtx_island (d : Dev) (c : Nat) (x : CtxSt) : (d.setCtx c x).island = d.island := rfl
@[simp] theorem Dev.setCtx_boot (d : Dev) (c : Nat) (x : CtxSt) : (d.setCtx c x).boot = d.boot := rfl
@[simp] theorem Dev.setCtx_contacts (d : Dev) (c : Nat) (x : CtxSt) : (d.setCtx c x).contacts = d.contacts := rfl
@[simp] theorem Dev.setCtx_ques (d : Dev) (c : Nat) (x : CtxSt) : (d.setCtx c x).ques = d.ques := rfl
@[simp] theorem Dev.setCtx_evSeq (d : Dev) (c : Nat) (x : CtxSt) : (d.setCtx c x).evSeq = d.evSeq := rfl
@[simp] theorem Dev.setCtx_odp (d : Dev) (c : Nat) (x : CtxSt) : (d.setCtx c x).odp = d.odp := rfl
@[simp] theorem Dev.setCtx_host (d : Dev) (c : Nat) (x : CtxSt) : (d.setCtx c x).host = d.host := rfl
@[simp] theorem Dev.setCtx_cap (d : Dev) (c : Nat) (x : CtxSt) : (d.setCtx c x).cap = d.cap := rfl
@[simp] theorem Dev.setCtx_clk (d : Dev) (c : Nat) (x : CtxSt) : (d.setCtx c x).clk = d.clk := rfl
@[simp] theorem Dev.setCtx_ref (d : Dev) (c : Nat) (x : CtxSt) : (d.setCtx c x).ref = d.ref := rfl
@[simp] theorem Dev.setCtx_tim (d : Dev) (c : Nat) (x : CtxSt) : (d.setCtx c x).tim = d.tim := rfl
@[simp] theorem Dev.setCtx_net (d : Dev) (c : Nat) (x : CtxSt) : (d.setCtx c x).net = d.net := rfl
@[simp] theorem Dev.setCtx_dig (d : Dev) (c : Nat) (x : CtxSt) : (d.setCtx c x).dig = d.dig := rfl
@[simp] theorem Dev.setCtx_apt (d : Dev) (c : Nat) (x : CtxSt) : (d.setCtx c x).apt = d.apt := rfl
@[simp] theorem Dev.setCtx_mtx (d : Dev) (c : Nat) (x : CtxSt) : (d.setCtx c x).mtx = d.mtx := rfl
@[simp] theorem Dev.setCtx_lib (d : Dev) (c : Nat) (x : CtxSt) : (d.setCtx c x).lib = d.lib := rfl
@[simp] theorem Dev.setCtx_sup (d : Dev) (c : Nat) (x : CtxSt) : (d.setCtx c x).sup = d.sup := rfl
@[simp] theorem Dev.setCtx_pwr (d : Dev) (c : Nat) (x : CtxSt) : (d.setCtx c x).pwr = d.pwr := rfl
@[simp] theorem Dev.setCtx_alm (d : Dev) (c : Nat) (x : CtxSt) : (d.setCtx c x).alm = d.alm := rfl
@[simp] theorem Dev.setCtx_pair (d : Dev) (c : Nat) (x : CtxSt) : (d.setCtx c x).pair = d.pair := rfl
@[simp] theorem Dev.setCtx_cas (d : Dev) (c : Nat) (x : CtxSt) : (d.setCtx c x).cas = d.cas := rfl
@[simp] theorem Dev.setCtx_mid (d : Dev) (c : Nat) (x : CtxSt) : (d.setCtx c x).mid = d.mid := rfl
@[simp] theorem Dev.setCtx_jtag (d : Dev) (c : Nat) (x : CtxSt) : (d.setCtx c x).jtag = d.jtag := rfl
@[simp] theorem Dev.setCtx_free (d : Dev) (c : Nat) (x : CtxSt) : (d.setCtx c x).free = d.free := rfl
@[simp] theorem Dev.setCtx_out (d : Dev) (c : Nat) (x : CtxSt) : (d.setCtx c x).out = d.out := rfl

/-! ### `Dev.setApo` -/

@[simp] theorem Dev.setApo_apt (d : Dev) (p : Nat) (x : PortSt) : (d.setApo p x).apt = d.apt.put p x := rfl
@[simp] theorem Dev.setApo_time (d : Dev) (p : Nat) (x : PortSt) : (d.setApo p x).time = d.time := rfl
@[simp] theorem Dev.setApo_regs (d : Dev) (p : Nat) (x : PortSt) : (d.setApo p x).regs = d.regs := rfl
@[simp] theorem Dev.setApo_pins (d : Dev) (p : Nat) (x : PortSt) : (d.setApo p x).pins = d.pins := rfl
@[simp] theorem Dev.setApo_mode (d : Dev) (p : Nat) (x : PortSt) : (d.setApo p x).mode = d.mode := rfl
@[simp] theorem Dev.setApo_island (d : Dev) (p : Nat) (x : PortSt) : (d.setApo p x).island = d.island := rfl
@[simp] theorem Dev.setApo_boot (d : Dev) (p : Nat) (x : PortSt) : (d.setApo p x).boot = d.boot := rfl
@[simp] theorem Dev.setApo_contacts (d : Dev) (p : Nat) (x : PortSt) : (d.setApo p x).contacts = d.contacts := rfl
@[simp] theorem Dev.setApo_ques (d : Dev) (p : Nat) (x : PortSt) : (d.setApo p x).ques = d.ques := rfl
@[simp] theorem Dev.setApo_evSeq (d : Dev) (p : Nat) (x : PortSt) : (d.setApo p x).evSeq = d.evSeq := rfl
@[simp] theorem Dev.setApo_odp (d : Dev) (p : Nat) (x : PortSt) : (d.setApo p x).odp = d.odp := rfl
@[simp] theorem Dev.setApo_host (d : Dev) (p : Nat) (x : PortSt) : (d.setApo p x).host = d.host := rfl
@[simp] theorem Dev.setApo_cap (d : Dev) (p : Nat) (x : PortSt) : (d.setApo p x).cap = d.cap := rfl
@[simp] theorem Dev.setApo_clk (d : Dev) (p : Nat) (x : PortSt) : (d.setApo p x).clk = d.clk := rfl
@[simp] theorem Dev.setApo_ref (d : Dev) (p : Nat) (x : PortSt) : (d.setApo p x).ref = d.ref := rfl
@[simp] theorem Dev.setApo_tim (d : Dev) (p : Nat) (x : PortSt) : (d.setApo p x).tim = d.tim := rfl
@[simp] theorem Dev.setApo_net (d : Dev) (p : Nat) (x : PortSt) : (d.setApo p x).net = d.net := rfl
@[simp] theorem Dev.setApo_str (d : Dev) (p : Nat) (x : PortSt) : (d.setApo p x).str = d.str := rfl
@[simp] theorem Dev.setApo_dig (d : Dev) (p : Nat) (x : PortSt) : (d.setApo p x).dig = d.dig := rfl
@[simp] theorem Dev.setApo_mtx (d : Dev) (p : Nat) (x : PortSt) : (d.setApo p x).mtx = d.mtx := rfl
@[simp] theorem Dev.setApo_lib (d : Dev) (p : Nat) (x : PortSt) : (d.setApo p x).lib = d.lib := rfl
@[simp] theorem Dev.setApo_sup (d : Dev) (p : Nat) (x : PortSt) : (d.setApo p x).sup = d.sup := rfl
@[simp] theorem Dev.setApo_pwr (d : Dev) (p : Nat) (x : PortSt) : (d.setApo p x).pwr = d.pwr := rfl
@[simp] theorem Dev.setApo_alm (d : Dev) (p : Nat) (x : PortSt) : (d.setApo p x).alm = d.alm := rfl
@[simp] theorem Dev.setApo_pair (d : Dev) (p : Nat) (x : PortSt) : (d.setApo p x).pair = d.pair := rfl
@[simp] theorem Dev.setApo_cas (d : Dev) (p : Nat) (x : PortSt) : (d.setApo p x).cas = d.cas := rfl
@[simp] theorem Dev.setApo_mid (d : Dev) (p : Nat) (x : PortSt) : (d.setApo p x).mid = d.mid := rfl
@[simp] theorem Dev.setApo_jtag (d : Dev) (p : Nat) (x : PortSt) : (d.setApo p x).jtag = d.jtag := rfl
@[simp] theorem Dev.setApo_free (d : Dev) (p : Nat) (x : PortSt) : (d.setApo p x).free = d.free := rfl
@[simp] theorem Dev.setApo_out (d : Dev) (p : Nat) (x : PortSt) : (d.setApo p x).out = d.out := rfl

/-! ### `Dev.setXp` -/

@[simp] theorem Dev.setXp_mtx (d : Dev) (r : Nat) (x : XpSt) : (d.setXp r x).mtx = { d.mtx with xps := d.mtx.xps.put r x } := rfl
@[simp] theorem Dev.setXp_time (d : Dev) (r : Nat) (x : XpSt) : (d.setXp r x).time = d.time := rfl
@[simp] theorem Dev.setXp_regs (d : Dev) (r : Nat) (x : XpSt) : (d.setXp r x).regs = d.regs := rfl
@[simp] theorem Dev.setXp_pins (d : Dev) (r : Nat) (x : XpSt) : (d.setXp r x).pins = d.pins := rfl
@[simp] theorem Dev.setXp_mode (d : Dev) (r : Nat) (x : XpSt) : (d.setXp r x).mode = d.mode := rfl
@[simp] theorem Dev.setXp_island (d : Dev) (r : Nat) (x : XpSt) : (d.setXp r x).island = d.island := rfl
@[simp] theorem Dev.setXp_boot (d : Dev) (r : Nat) (x : XpSt) : (d.setXp r x).boot = d.boot := rfl
@[simp] theorem Dev.setXp_contacts (d : Dev) (r : Nat) (x : XpSt) : (d.setXp r x).contacts = d.contacts := rfl
@[simp] theorem Dev.setXp_ques (d : Dev) (r : Nat) (x : XpSt) : (d.setXp r x).ques = d.ques := rfl
@[simp] theorem Dev.setXp_evSeq (d : Dev) (r : Nat) (x : XpSt) : (d.setXp r x).evSeq = d.evSeq := rfl
@[simp] theorem Dev.setXp_odp (d : Dev) (r : Nat) (x : XpSt) : (d.setXp r x).odp = d.odp := rfl
@[simp] theorem Dev.setXp_host (d : Dev) (r : Nat) (x : XpSt) : (d.setXp r x).host = d.host := rfl
@[simp] theorem Dev.setXp_cap (d : Dev) (r : Nat) (x : XpSt) : (d.setXp r x).cap = d.cap := rfl
@[simp] theorem Dev.setXp_clk (d : Dev) (r : Nat) (x : XpSt) : (d.setXp r x).clk = d.clk := rfl
@[simp] theorem Dev.setXp_ref (d : Dev) (r : Nat) (x : XpSt) : (d.setXp r x).ref = d.ref := rfl
@[simp] theorem Dev.setXp_tim (d : Dev) (r : Nat) (x : XpSt) : (d.setXp r x).tim = d.tim := rfl
@[simp] theorem Dev.setXp_net (d : Dev) (r : Nat) (x : XpSt) : (d.setXp r x).net = d.net := rfl
@[simp] theorem Dev.setXp_str (d : Dev) (r : Nat) (x : XpSt) : (d.setXp r x).str = d.str := rfl
@[simp] theorem Dev.setXp_dig (d : Dev) (r : Nat) (x : XpSt) : (d.setXp r x).dig = d.dig := rfl
@[simp] theorem Dev.setXp_apt (d : Dev) (r : Nat) (x : XpSt) : (d.setXp r x).apt = d.apt := rfl
@[simp] theorem Dev.setXp_lib (d : Dev) (r : Nat) (x : XpSt) : (d.setXp r x).lib = d.lib := rfl
@[simp] theorem Dev.setXp_sup (d : Dev) (r : Nat) (x : XpSt) : (d.setXp r x).sup = d.sup := rfl
@[simp] theorem Dev.setXp_pwr (d : Dev) (r : Nat) (x : XpSt) : (d.setXp r x).pwr = d.pwr := rfl
@[simp] theorem Dev.setXp_alm (d : Dev) (r : Nat) (x : XpSt) : (d.setXp r x).alm = d.alm := rfl
@[simp] theorem Dev.setXp_pair (d : Dev) (r : Nat) (x : XpSt) : (d.setXp r x).pair = d.pair := rfl
@[simp] theorem Dev.setXp_cas (d : Dev) (r : Nat) (x : XpSt) : (d.setXp r x).cas = d.cas := rfl
@[simp] theorem Dev.setXp_mid (d : Dev) (r : Nat) (x : XpSt) : (d.setXp r x).mid = d.mid := rfl
@[simp] theorem Dev.setXp_jtag (d : Dev) (r : Nat) (x : XpSt) : (d.setXp r x).jtag = d.jtag := rfl
@[simp] theorem Dev.setXp_free (d : Dev) (r : Nat) (x : XpSt) : (d.setXp r x).free = d.free := rfl
@[simp] theorem Dev.setXp_out (d : Dev) (r : Nat) (x : XpSt) : (d.setXp r x).out = d.out := rfl

/-! ### `Dev.setLib` -/

@[simp] theorem Dev.setLib_lib (d : Dev) (x : LibSt) : (d.setLib x).lib = x := rfl
@[simp] theorem Dev.setLib_time (d : Dev) (x : LibSt) : (d.setLib x).time = d.time := rfl
@[simp] theorem Dev.setLib_regs (d : Dev) (x : LibSt) : (d.setLib x).regs = d.regs := rfl
@[simp] theorem Dev.setLib_pins (d : Dev) (x : LibSt) : (d.setLib x).pins = d.pins := rfl
@[simp] theorem Dev.setLib_mode (d : Dev) (x : LibSt) : (d.setLib x).mode = d.mode := rfl
@[simp] theorem Dev.setLib_island (d : Dev) (x : LibSt) : (d.setLib x).island = d.island := rfl
@[simp] theorem Dev.setLib_boot (d : Dev) (x : LibSt) : (d.setLib x).boot = d.boot := rfl
@[simp] theorem Dev.setLib_contacts (d : Dev) (x : LibSt) : (d.setLib x).contacts = d.contacts := rfl
@[simp] theorem Dev.setLib_ques (d : Dev) (x : LibSt) : (d.setLib x).ques = d.ques := rfl
@[simp] theorem Dev.setLib_evSeq (d : Dev) (x : LibSt) : (d.setLib x).evSeq = d.evSeq := rfl
@[simp] theorem Dev.setLib_odp (d : Dev) (x : LibSt) : (d.setLib x).odp = d.odp := rfl
@[simp] theorem Dev.setLib_host (d : Dev) (x : LibSt) : (d.setLib x).host = d.host := rfl
@[simp] theorem Dev.setLib_cap (d : Dev) (x : LibSt) : (d.setLib x).cap = d.cap := rfl
@[simp] theorem Dev.setLib_clk (d : Dev) (x : LibSt) : (d.setLib x).clk = d.clk := rfl
@[simp] theorem Dev.setLib_ref (d : Dev) (x : LibSt) : (d.setLib x).ref = d.ref := rfl
@[simp] theorem Dev.setLib_tim (d : Dev) (x : LibSt) : (d.setLib x).tim = d.tim := rfl
@[simp] theorem Dev.setLib_net (d : Dev) (x : LibSt) : (d.setLib x).net = d.net := rfl
@[simp] theorem Dev.setLib_str (d : Dev) (x : LibSt) : (d.setLib x).str = d.str := rfl
@[simp] theorem Dev.setLib_dig (d : Dev) (x : LibSt) : (d.setLib x).dig = d.dig := rfl
@[simp] theorem Dev.setLib_apt (d : Dev) (x : LibSt) : (d.setLib x).apt = d.apt := rfl
@[simp] theorem Dev.setLib_mtx (d : Dev) (x : LibSt) : (d.setLib x).mtx = d.mtx := rfl
@[simp] theorem Dev.setLib_sup (d : Dev) (x : LibSt) : (d.setLib x).sup = d.sup := rfl
@[simp] theorem Dev.setLib_pwr (d : Dev) (x : LibSt) : (d.setLib x).pwr = d.pwr := rfl
@[simp] theorem Dev.setLib_alm (d : Dev) (x : LibSt) : (d.setLib x).alm = d.alm := rfl
@[simp] theorem Dev.setLib_pair (d : Dev) (x : LibSt) : (d.setLib x).pair = d.pair := rfl
@[simp] theorem Dev.setLib_cas (d : Dev) (x : LibSt) : (d.setLib x).cas = d.cas := rfl
@[simp] theorem Dev.setLib_mid (d : Dev) (x : LibSt) : (d.setLib x).mid = d.mid := rfl
@[simp] theorem Dev.setLib_jtag (d : Dev) (x : LibSt) : (d.setLib x).jtag = d.jtag := rfl
@[simp] theorem Dev.setLib_free (d : Dev) (x : LibSt) : (d.setLib x).free = d.free := rfl
@[simp] theorem Dev.setLib_out (d : Dev) (x : LibSt) : (d.setLib x).out = d.out := rfl

/-! ### `Dev.setSup` -/

@[simp] theorem Dev.setSup_sup (d : Dev) (x : SupSt) : (d.setSup x).sup = x := rfl
@[simp] theorem Dev.setSup_time (d : Dev) (x : SupSt) : (d.setSup x).time = d.time := rfl
@[simp] theorem Dev.setSup_regs (d : Dev) (x : SupSt) : (d.setSup x).regs = d.regs := rfl
@[simp] theorem Dev.setSup_pins (d : Dev) (x : SupSt) : (d.setSup x).pins = d.pins := rfl
@[simp] theorem Dev.setSup_mode (d : Dev) (x : SupSt) : (d.setSup x).mode = d.mode := rfl
@[simp] theorem Dev.setSup_island (d : Dev) (x : SupSt) : (d.setSup x).island = d.island := rfl
@[simp] theorem Dev.setSup_boot (d : Dev) (x : SupSt) : (d.setSup x).boot = d.boot := rfl
@[simp] theorem Dev.setSup_contacts (d : Dev) (x : SupSt) : (d.setSup x).contacts = d.contacts := rfl
@[simp] theorem Dev.setSup_ques (d : Dev) (x : SupSt) : (d.setSup x).ques = d.ques := rfl
@[simp] theorem Dev.setSup_evSeq (d : Dev) (x : SupSt) : (d.setSup x).evSeq = d.evSeq := rfl
@[simp] theorem Dev.setSup_odp (d : Dev) (x : SupSt) : (d.setSup x).odp = d.odp := rfl
@[simp] theorem Dev.setSup_host (d : Dev) (x : SupSt) : (d.setSup x).host = d.host := rfl
@[simp] theorem Dev.setSup_cap (d : Dev) (x : SupSt) : (d.setSup x).cap = d.cap := rfl
@[simp] theorem Dev.setSup_clk (d : Dev) (x : SupSt) : (d.setSup x).clk = d.clk := rfl
@[simp] theorem Dev.setSup_ref (d : Dev) (x : SupSt) : (d.setSup x).ref = d.ref := rfl
@[simp] theorem Dev.setSup_tim (d : Dev) (x : SupSt) : (d.setSup x).tim = d.tim := rfl
@[simp] theorem Dev.setSup_net (d : Dev) (x : SupSt) : (d.setSup x).net = d.net := rfl
@[simp] theorem Dev.setSup_str (d : Dev) (x : SupSt) : (d.setSup x).str = d.str := rfl
@[simp] theorem Dev.setSup_dig (d : Dev) (x : SupSt) : (d.setSup x).dig = d.dig := rfl
@[simp] theorem Dev.setSup_apt (d : Dev) (x : SupSt) : (d.setSup x).apt = d.apt := rfl
@[simp] theorem Dev.setSup_mtx (d : Dev) (x : SupSt) : (d.setSup x).mtx = d.mtx := rfl
@[simp] theorem Dev.setSup_lib (d : Dev) (x : SupSt) : (d.setSup x).lib = d.lib := rfl
@[simp] theorem Dev.setSup_pwr (d : Dev) (x : SupSt) : (d.setSup x).pwr = d.pwr := rfl
@[simp] theorem Dev.setSup_alm (d : Dev) (x : SupSt) : (d.setSup x).alm = d.alm := rfl
@[simp] theorem Dev.setSup_pair (d : Dev) (x : SupSt) : (d.setSup x).pair = d.pair := rfl
@[simp] theorem Dev.setSup_cas (d : Dev) (x : SupSt) : (d.setSup x).cas = d.cas := rfl
@[simp] theorem Dev.setSup_mid (d : Dev) (x : SupSt) : (d.setSup x).mid = d.mid := rfl
@[simp] theorem Dev.setSup_jtag (d : Dev) (x : SupSt) : (d.setSup x).jtag = d.jtag := rfl
@[simp] theorem Dev.setSup_free (d : Dev) (x : SupSt) : (d.setSup x).free = d.free := rfl
@[simp] theorem Dev.setSup_out (d : Dev) (x : SupSt) : (d.setSup x).out = d.out := rfl

/-! ### `Dev.setPwr` -/

@[simp] theorem Dev.setPwr_pwr (d : Dev) (x : PwrSt) : (d.setPwr x).pwr = x := rfl
@[simp] theorem Dev.setPwr_time (d : Dev) (x : PwrSt) : (d.setPwr x).time = d.time := rfl
@[simp] theorem Dev.setPwr_regs (d : Dev) (x : PwrSt) : (d.setPwr x).regs = d.regs := rfl
@[simp] theorem Dev.setPwr_pins (d : Dev) (x : PwrSt) : (d.setPwr x).pins = d.pins := rfl
@[simp] theorem Dev.setPwr_mode (d : Dev) (x : PwrSt) : (d.setPwr x).mode = d.mode := rfl
@[simp] theorem Dev.setPwr_island (d : Dev) (x : PwrSt) : (d.setPwr x).island = d.island := rfl
@[simp] theorem Dev.setPwr_boot (d : Dev) (x : PwrSt) : (d.setPwr x).boot = d.boot := rfl
@[simp] theorem Dev.setPwr_contacts (d : Dev) (x : PwrSt) : (d.setPwr x).contacts = d.contacts := rfl
@[simp] theorem Dev.setPwr_ques (d : Dev) (x : PwrSt) : (d.setPwr x).ques = d.ques := rfl
@[simp] theorem Dev.setPwr_evSeq (d : Dev) (x : PwrSt) : (d.setPwr x).evSeq = d.evSeq := rfl
@[simp] theorem Dev.setPwr_odp (d : Dev) (x : PwrSt) : (d.setPwr x).odp = d.odp := rfl
@[simp] theorem Dev.setPwr_host (d : Dev) (x : PwrSt) : (d.setPwr x).host = d.host := rfl
@[simp] theorem Dev.setPwr_cap (d : Dev) (x : PwrSt) : (d.setPwr x).cap = d.cap := rfl
@[simp] theorem Dev.setPwr_clk (d : Dev) (x : PwrSt) : (d.setPwr x).clk = d.clk := rfl
@[simp] theorem Dev.setPwr_ref (d : Dev) (x : PwrSt) : (d.setPwr x).ref = d.ref := rfl
@[simp] theorem Dev.setPwr_tim (d : Dev) (x : PwrSt) : (d.setPwr x).tim = d.tim := rfl
@[simp] theorem Dev.setPwr_net (d : Dev) (x : PwrSt) : (d.setPwr x).net = d.net := rfl
@[simp] theorem Dev.setPwr_str (d : Dev) (x : PwrSt) : (d.setPwr x).str = d.str := rfl
@[simp] theorem Dev.setPwr_dig (d : Dev) (x : PwrSt) : (d.setPwr x).dig = d.dig := rfl
@[simp] theorem Dev.setPwr_apt (d : Dev) (x : PwrSt) : (d.setPwr x).apt = d.apt := rfl
@[simp] theorem Dev.setPwr_mtx (d : Dev) (x : PwrSt) : (d.setPwr x).mtx = d.mtx := rfl
@[simp] theorem Dev.setPwr_lib (d : Dev) (x : PwrSt) : (d.setPwr x).lib = d.lib := rfl
@[simp] theorem Dev.setPwr_sup (d : Dev) (x : PwrSt) : (d.setPwr x).sup = d.sup := rfl
@[simp] theorem Dev.setPwr_alm (d : Dev) (x : PwrSt) : (d.setPwr x).alm = d.alm := rfl
@[simp] theorem Dev.setPwr_pair (d : Dev) (x : PwrSt) : (d.setPwr x).pair = d.pair := rfl
@[simp] theorem Dev.setPwr_cas (d : Dev) (x : PwrSt) : (d.setPwr x).cas = d.cas := rfl
@[simp] theorem Dev.setPwr_mid (d : Dev) (x : PwrSt) : (d.setPwr x).mid = d.mid := rfl
@[simp] theorem Dev.setPwr_jtag (d : Dev) (x : PwrSt) : (d.setPwr x).jtag = d.jtag := rfl
@[simp] theorem Dev.setPwr_free (d : Dev) (x : PwrSt) : (d.setPwr x).free = d.free := rfl
@[simp] theorem Dev.setPwr_out (d : Dev) (x : PwrSt) : (d.setPwr x).out = d.out := rfl

/-! ### `Dev.setAlm` -/

@[simp] theorem Dev.setAlm_alm (d : Dev) (r : Nat) (x : AlmRow) : (d.setAlm r x).alm = { d.alm with rows := d.alm.rows.put r x } := rfl
@[simp] theorem Dev.setAlm_time (d : Dev) (r : Nat) (x : AlmRow) : (d.setAlm r x).time = d.time := rfl
@[simp] theorem Dev.setAlm_regs (d : Dev) (r : Nat) (x : AlmRow) : (d.setAlm r x).regs = d.regs := rfl
@[simp] theorem Dev.setAlm_pins (d : Dev) (r : Nat) (x : AlmRow) : (d.setAlm r x).pins = d.pins := rfl
@[simp] theorem Dev.setAlm_mode (d : Dev) (r : Nat) (x : AlmRow) : (d.setAlm r x).mode = d.mode := rfl
@[simp] theorem Dev.setAlm_island (d : Dev) (r : Nat) (x : AlmRow) : (d.setAlm r x).island = d.island := rfl
@[simp] theorem Dev.setAlm_boot (d : Dev) (r : Nat) (x : AlmRow) : (d.setAlm r x).boot = d.boot := rfl
@[simp] theorem Dev.setAlm_contacts (d : Dev) (r : Nat) (x : AlmRow) : (d.setAlm r x).contacts = d.contacts := rfl
@[simp] theorem Dev.setAlm_ques (d : Dev) (r : Nat) (x : AlmRow) : (d.setAlm r x).ques = d.ques := rfl
@[simp] theorem Dev.setAlm_evSeq (d : Dev) (r : Nat) (x : AlmRow) : (d.setAlm r x).evSeq = d.evSeq := rfl
@[simp] theorem Dev.setAlm_odp (d : Dev) (r : Nat) (x : AlmRow) : (d.setAlm r x).odp = d.odp := rfl
@[simp] theorem Dev.setAlm_host (d : Dev) (r : Nat) (x : AlmRow) : (d.setAlm r x).host = d.host := rfl
@[simp] theorem Dev.setAlm_cap (d : Dev) (r : Nat) (x : AlmRow) : (d.setAlm r x).cap = d.cap := rfl
@[simp] theorem Dev.setAlm_clk (d : Dev) (r : Nat) (x : AlmRow) : (d.setAlm r x).clk = d.clk := rfl
@[simp] theorem Dev.setAlm_ref (d : Dev) (r : Nat) (x : AlmRow) : (d.setAlm r x).ref = d.ref := rfl
@[simp] theorem Dev.setAlm_tim (d : Dev) (r : Nat) (x : AlmRow) : (d.setAlm r x).tim = d.tim := rfl
@[simp] theorem Dev.setAlm_net (d : Dev) (r : Nat) (x : AlmRow) : (d.setAlm r x).net = d.net := rfl
@[simp] theorem Dev.setAlm_str (d : Dev) (r : Nat) (x : AlmRow) : (d.setAlm r x).str = d.str := rfl
@[simp] theorem Dev.setAlm_dig (d : Dev) (r : Nat) (x : AlmRow) : (d.setAlm r x).dig = d.dig := rfl
@[simp] theorem Dev.setAlm_apt (d : Dev) (r : Nat) (x : AlmRow) : (d.setAlm r x).apt = d.apt := rfl
@[simp] theorem Dev.setAlm_mtx (d : Dev) (r : Nat) (x : AlmRow) : (d.setAlm r x).mtx = d.mtx := rfl
@[simp] theorem Dev.setAlm_lib (d : Dev) (r : Nat) (x : AlmRow) : (d.setAlm r x).lib = d.lib := rfl
@[simp] theorem Dev.setAlm_sup (d : Dev) (r : Nat) (x : AlmRow) : (d.setAlm r x).sup = d.sup := rfl
@[simp] theorem Dev.setAlm_pwr (d : Dev) (r : Nat) (x : AlmRow) : (d.setAlm r x).pwr = d.pwr := rfl
@[simp] theorem Dev.setAlm_pair (d : Dev) (r : Nat) (x : AlmRow) : (d.setAlm r x).pair = d.pair := rfl
@[simp] theorem Dev.setAlm_cas (d : Dev) (r : Nat) (x : AlmRow) : (d.setAlm r x).cas = d.cas := rfl
@[simp] theorem Dev.setAlm_mid (d : Dev) (r : Nat) (x : AlmRow) : (d.setAlm r x).mid = d.mid := rfl
@[simp] theorem Dev.setAlm_jtag (d : Dev) (r : Nat) (x : AlmRow) : (d.setAlm r x).jtag = d.jtag := rfl
@[simp] theorem Dev.setAlm_free (d : Dev) (r : Nat) (x : AlmRow) : (d.setAlm r x).free = d.free := rfl
@[simp] theorem Dev.setAlm_out (d : Dev) (r : Nat) (x : AlmRow) : (d.setAlm r x).out = d.out := rfl

/-! ### `Dev.setPair` -/

@[simp] theorem Dev.setPair_pair (d : Dev) (x : PairSt) : (d.setPair x).pair = x := rfl
@[simp] theorem Dev.setPair_time (d : Dev) (x : PairSt) : (d.setPair x).time = d.time := rfl
@[simp] theorem Dev.setPair_regs (d : Dev) (x : PairSt) : (d.setPair x).regs = d.regs := rfl
@[simp] theorem Dev.setPair_pins (d : Dev) (x : PairSt) : (d.setPair x).pins = d.pins := rfl
@[simp] theorem Dev.setPair_mode (d : Dev) (x : PairSt) : (d.setPair x).mode = d.mode := rfl
@[simp] theorem Dev.setPair_island (d : Dev) (x : PairSt) : (d.setPair x).island = d.island := rfl
@[simp] theorem Dev.setPair_boot (d : Dev) (x : PairSt) : (d.setPair x).boot = d.boot := rfl
@[simp] theorem Dev.setPair_contacts (d : Dev) (x : PairSt) : (d.setPair x).contacts = d.contacts := rfl
@[simp] theorem Dev.setPair_ques (d : Dev) (x : PairSt) : (d.setPair x).ques = d.ques := rfl
@[simp] theorem Dev.setPair_evSeq (d : Dev) (x : PairSt) : (d.setPair x).evSeq = d.evSeq := rfl
@[simp] theorem Dev.setPair_odp (d : Dev) (x : PairSt) : (d.setPair x).odp = d.odp := rfl
@[simp] theorem Dev.setPair_host (d : Dev) (x : PairSt) : (d.setPair x).host = d.host := rfl
@[simp] theorem Dev.setPair_cap (d : Dev) (x : PairSt) : (d.setPair x).cap = d.cap := rfl
@[simp] theorem Dev.setPair_clk (d : Dev) (x : PairSt) : (d.setPair x).clk = d.clk := rfl
@[simp] theorem Dev.setPair_ref (d : Dev) (x : PairSt) : (d.setPair x).ref = d.ref := rfl
@[simp] theorem Dev.setPair_tim (d : Dev) (x : PairSt) : (d.setPair x).tim = d.tim := rfl
@[simp] theorem Dev.setPair_net (d : Dev) (x : PairSt) : (d.setPair x).net = d.net := rfl
@[simp] theorem Dev.setPair_str (d : Dev) (x : PairSt) : (d.setPair x).str = d.str := rfl
@[simp] theorem Dev.setPair_dig (d : Dev) (x : PairSt) : (d.setPair x).dig = d.dig := rfl
@[simp] theorem Dev.setPair_apt (d : Dev) (x : PairSt) : (d.setPair x).apt = d.apt := rfl
@[simp] theorem Dev.setPair_mtx (d : Dev) (x : PairSt) : (d.setPair x).mtx = d.mtx := rfl
@[simp] theorem Dev.setPair_lib (d : Dev) (x : PairSt) : (d.setPair x).lib = d.lib := rfl
@[simp] theorem Dev.setPair_sup (d : Dev) (x : PairSt) : (d.setPair x).sup = d.sup := rfl
@[simp] theorem Dev.setPair_pwr (d : Dev) (x : PairSt) : (d.setPair x).pwr = d.pwr := rfl
@[simp] theorem Dev.setPair_alm (d : Dev) (x : PairSt) : (d.setPair x).alm = d.alm := rfl
@[simp] theorem Dev.setPair_cas (d : Dev) (x : PairSt) : (d.setPair x).cas = d.cas := rfl
@[simp] theorem Dev.setPair_mid (d : Dev) (x : PairSt) : (d.setPair x).mid = d.mid := rfl
@[simp] theorem Dev.setPair_jtag (d : Dev) (x : PairSt) : (d.setPair x).jtag = d.jtag := rfl
@[simp] theorem Dev.setPair_free (d : Dev) (x : PairSt) : (d.setPair x).free = d.free := rfl
@[simp] theorem Dev.setPair_out (d : Dev) (x : PairSt) : (d.setPair x).out = d.out := rfl

/-! ### Reading a device written out -/

/-- A field of a device written out reads from its register file. -/
@[simp] theorem Dev.rd_mk (a0 a1 a2 a3 a4 a5 a6 a7 a8 a9 a10 a11 a12 a13 a14 a15 a16 a17 a18 a19 a20 a21 a22 a23 a24 a25 a26 a27 a28 a29) (f : Fld) :
    (Dev.mk a0 a1 a2 a3 a4 a5 a6 a7 a8 a9 a10 a11 a12 a13 a14 a15 a16 a17 a18 a19 a20 a21 a22 a23 a24 a25 a26 a27 a28 a29).rd f = a1.live.get f.reset f.key := rfl

/-! ### Outcomes -/

/-- A command of the first kind answers; it moves neither the TAI counter nor the packet memory nor the queue. -/
theorem State.act_next (s : State) (f : Dev → Dev) :
    ∃ t, s.act f = .next t ∧ t.pending = s.pending ∧ t.mem = s.mem ∧ t.dev.time = s.dev.time ∧
      t.dev = { f s.dev with time := s.dev.time } :=
  ⟨_, rfl, rfl, rfl, rfl, rfl⟩

/-- A command that may set the TAI counter answers, with the counter in range and the packet memory and the queue as they were. -/
theorem State.actTime_next (s : State) (f : Dev → Dev) :
    ∃ t, s.actTime f = .next t ∧ t.pending = s.pending ∧ t.mem = s.mem ∧ t.dev.time = (f s.dev).time.norm ∧
      t.dev = { f s.dev with time := (f s.dev).time.norm } :=
  ⟨_, rfl, rfl, rfl, rfl, rfl⟩

/-- A command that moves the TAI counter to a time answers, with the counter at that time, in range. -/
theorem State.actTo_next (s : State) (g : Dev → Tai) (f : Dev → Dev) :
    ∃ t, s.actTo g f = .next t ∧ t.pending = s.pending ∧ t.mem = s.mem ∧ t.dev.time.tai = Tai.ofSub (g s.dev).toSub ∧
      t.dev = { f s.dev with time := { s.dev.time with tai := Tai.ofSub (g s.dev).toSub } } :=
  ⟨_, rfl, rfl, rfl, rfl, rfl⟩

/-- A command that writes the packet memory answers, with the bytes it stores written in order and the TAI counter as it was. -/
theorem State.actMem_next (s : State) (f : Mem → Dev → List (Nat × Byte) × Dev) :
    ∃ t, s.actMem f = .next t ∧ t.pending = s.pending ∧ t.mem = s.mem.writeAll (f s.mem s.dev).1 ∧
      t.dev = { (f s.mem s.dev).2 with time := s.dev.time } :=
  ⟨_, rfl, rfl, rfl, rfl⟩

/-- A command that may do both answers. -/
theorem State.actAll_next (s : State) (f : Mem → Dev → List (Nat × Byte) × Dev) :
    ∃ t, s.actAll f = .next t ∧ t.pending = s.pending ∧ t.mem = s.mem.writeAll (f s.mem s.dev).1 ∧
      t.dev = { (f s.mem s.dev).2 with time := (f s.mem s.dev).2.time.norm } :=
  ⟨_, rfl, rfl, rfl, rfl⟩

/-- A command on the device and its packet memory answers. -/
theorem State.actBox_next (s : State) (f : Box → Box) :
    ∃ t, s.actBox f = .next t ∧ t.pending = s.pending ∧
      t.mem = s.mem.writeAll (f { base := s.mem, dev := s.dev }).writes ∧
      t.dev = { (f { base := s.mem, dev := s.dev }).dev with time := s.dev.time } :=
  ⟨_, rfl, rfl, rfl, rfl⟩

@[simp] theorem Box.up_base (b : Box) (f : Dev → Dev) : (b.up f).base = b.base := rfl
@[simp] theorem Box.up_writes (b : Box) (f : Dev → Dev) : (b.up f).writes = b.writes := rfl
@[simp] theorem Box.up_dev (b : Box) (f : Dev → Dev) : (b.up f).dev = f b.dev := rfl

end Sys2Proof.Machine
end

