-- ==== Sys2Proof/Laws/Tbl.lean ====
section
/-! SUPPORT. Laws/Tbl.lean: reading a table after a write or a removal. -/

namespace Sys2Proof.Machine

variable {α : Type}

@[simp] theorem Tbl.find?_nil (k : Nat) : Tbl.find? ([] : Tbl α) k = none := rfl

/-- A read after a write: the value at the row written, and every other row as before. -/
theorem Tbl.find?_put (t : Tbl α) (k : Nat) (x : α) (q : Nat) :
    (t.put k x).find? q = if q = k then some x else t.find? q := by
  induction t with
  | nil =>
    by_cases h : q = k
    · simp [Tbl.put, Tbl.find?, h]
    · simp [Tbl.put, Tbl.find?, h]
  | cons r t ih =>
    obtain ⟨a, v⟩ := r
    unfold Tbl.put
    by_cases h1 : k < a
    · rw [if_pos h1]
      by_cases h : q = k
      · simp [Tbl.find?, h]
      · by_cases h2 : q < k
        · have : q ≠ a := by omega
          have : q < a := by omega
          simp [Tbl.find?, *]
        · simp [Tbl.find?, h, h2]
    · rw [if_neg h1]
      by_cases h3 : k = a
      · subst h3
        by_cases h : q = k
        · simp [Tbl.find?, h]
        · simp [Tbl.find?, h]
      · rw [if_neg h3]
        by_cases h : q = k
        · have h4 : q ≠ a := by omega
          have h5 : ¬ q < a := by omega
          rw [if_pos h]
          simp only [Tbl.find?, if_neg h4, if_neg h5]
          rw [ih, if_pos h]
        · rw [if_neg h]
          by_cases h4 : q = a
          · simp [Tbl.find?, h4]
          · by_cases h5 : q < a
            · simp [Tbl.find?, h4, h5]
            · simp only [Tbl.find?, if_neg h4, if_neg h5]
              rw [ih, if_neg h]

@[simp] theorem Tbl.find?_put_same (t : Tbl α) (k : Nat) (x : α) : (t.put k x).find? k = some x := by
  rw [Tbl.find?_put, if_pos rfl]

theorem Tbl.find?_put_ne (t : Tbl α) {k q : Nat} (x : α) (h : q ≠ k) : (t.put k x).find? q = t.find? q := by
  rw [Tbl.find?_put, if_neg h]

/-- A read with a default after a write. -/
theorem Tbl.get_put (t : Tbl α) (k : Nat) (x d : α) (q : Nat) :
    (t.put k x).get d q = if q = k then x else t.get d q := by
  unfold Tbl.get
  rw [Tbl.find?_put]
  by_cases h : q = k <;> simp [h]

@[simp] theorem Tbl.get_put_same (t : Tbl α) (k : Nat) (x d : α) : (t.put k x).get d k = x := by
  rw [Tbl.get_put, if_pos rfl]

/-- Every key of a table is at least `lo` and the keys rise. -/
def Tbl.sorted : Nat → Tbl α → Prop
  | _, [] => True
  | lo, (k, _) :: t => lo ≤ k ∧ Tbl.sorted (k + 1) t

theorem Tbl.sorted_mono {lo lo' : Nat} (t : Tbl α) (h : lo' ≤ lo) (hs : Tbl.sorted lo t) : Tbl.sorted lo' t := by
  cases t with
  | nil => trivial
  | cons r t => exact ⟨by have := hs.1; omega, hs.2⟩

/-- A write keeps the keys rising. -/
theorem Tbl.put_sorted (t : Tbl α) (lo k : Nat) (x : α) (hk : lo ≤ k) (hs : Tbl.sorted lo t) :
    Tbl.sorted lo (t.put k x) := by
  induction t generalizing lo with
  | nil => exact ⟨hk, trivial⟩
  | cons r t ih =>
    obtain ⟨a, v⟩ := r
    obtain ⟨h1, h2⟩ := hs
    unfold Tbl.put
    by_cases c : k < a
    · rw [if_pos c]; exact ⟨hk, by omega, h2⟩
    · rw [if_neg c]
      by_cases e : k = a
      · rw [if_pos e]; exact ⟨hk, by subst e; exact h2⟩
      · rw [if_neg e]; exact ⟨h1, ih (a + 1) (by omega) h2⟩

theorem Tbl.find?_lt_sorted (t : Tbl α) (lo q : Nat) (hs : Tbl.sorted lo t) (hq : q < lo) : t.find? q = none := by
  cases t with
  | nil => rfl
  | cons r t =>
    obtain ⟨a, v⟩ := r
    have := hs.1
    have h1 : q ≠ a := by omega
    have h2 : q < a := by omega
    simp [Tbl.find?, h1, h2]

/-- A removed row is not listed, and every other row is as before. -/
theorem Tbl.find?_del (t : Tbl α) (lo k q : Nat) (hs : Tbl.sorted lo t) :
    (t.del k).find? q = if q = k then none else t.find? q := by
  induction t generalizing lo with
  | nil => simp [Tbl.del]
  | cons r t ih =>
    obtain ⟨a, v⟩ := r
    obtain ⟨h1, h2⟩ := hs
    have ih' := ih (a + 1) h2
    unfold Tbl.del at ih' ⊢
    by_cases e : a = k
    · subst e
      have hf : List.filter (fun r : Nat × α => decide (r.1 ≠ a)) ((a, v) :: t) =
          List.filter (fun r : Nat × α => decide (r.1 ≠ a)) t := by simp
      rw [hf, ih']
      by_cases hq : q = a
      · simp [hq]
      · by_cases hlt : q < a
        · rw [Tbl.find?_lt_sorted t (a + 1) q h2 (by omega)]
          simp [Tbl.find?, hq, hlt]
        · simp [Tbl.find?, hq, hlt]
    · have hf : List.filter (fun r : Nat × α => decide (r.1 ≠ k)) ((a, v) :: t) =
          (a, v) :: List.filter (fun r : Nat × α => decide (r.1 ≠ k)) t := by simp [e]
      rw [hf]
      by_cases hq : q = a
      · subst hq
        simp [Tbl.find?, e]
      · by_cases hlt : q < a
        · simp [Tbl.find?, hq, hlt]
        · simp only [Tbl.find?, if_neg hq, if_neg hlt]
          exact ih'

end Sys2Proof.Machine
end

