-- ==== Sys2Proof/Laws/Ops.lean ====
section
/-! SUPPORT. Laws/Ops.lean: what each shared operation does, once: register fields, queues, events, interrupts, the journal, time. -/

namespace Sys2Proof.Machine

/-! ### Register fields -/

/-- A field read after a write of a field: the value written, within its width, or what it was. -/
theorem Dev.rd_wr (d : Dev) (f g : Fld) (v : Nat) :
    (d.wr f v).rd g = if g.key = f.key then v % 2 ^ f.w else d.rd g := by
  unfold Dev.rd
  rw [Dev.wr_regs, Tbl.get_put]

@[simp] theorem Dev.rd_wr_same (d : Dev) (f : Fld) (v : Nat) : (d.wr f v).rd f = v % 2 ^ f.w := by
  rw [Dev.rd_wr, if_pos rfl]

theorem Dev.rd_wr_other (d : Dev) {f g : Fld} (v : Nat) (h : g.key ≠ f.key) : (d.wr f v).rd g = d.rd g := by
  rw [Dev.rd_wr, if_neg h]

/-- A field reads alike in devices with the same register file. -/
theorem Dev.rd_of_regs {d e : Dev} (h : d.regs = e.regs) (f : Fld) : d.rd f = e.rd f := by
  unfold Dev.rd
  rw [h]

theorem Dev.on_of_regs {d e : Dev} (h : d.regs = e.regs) (f : Fld) : d.on f = e.on f := by
  unfold Dev.on
  rw [Dev.rd_of_regs h]

theorem Dev.on_eq (d : Dev) (f : Fld) : d.on f = (d.rd f == 1) := rfl

theorem Dev.wrBit_eq (d : Dev) (f : Fld) (b : Bool) : d.wrBit f b = d.wr f (bit b) := rfl

/-- A buffered field read after a write of the running value: the buffer is as it was. -/
@[simp] theorem Dev.rdB_wr (d : Dev) (f g : Fld) (v : Nat) : (d.wr f v).rdB g = d.rdB g := rfl

theorem Dev.rdB_wrB (d : Dev) (f g : Fld) (v : Nat) :
    (d.wrB f v).rdB g = if g.key = f.key then v % 2 ^ f.w else d.rdB g := by
  unfold Dev.rdB
  rw [Dev.wrB_regs, Tbl.get_put]

@[simp] theorem Dev.rd_wrB (d : Dev) (f g : Fld) (v : Nat) : (d.wrB f v).rd g = d.rd g := rfl

/-- A counter never wraps: it stops at its largest value. -/
theorem satAdd_le (w v n : Nat) : satAdd w v n ≤ 2 ^ w - 1 := by
  unfold satAdd
  exact Nat.min_le_right _ _

theorem satAdd_lt (w v n : Nat) : satAdd w v n < 2 ^ w := by
  have h := satAdd_le w v n
  have : 0 < 2 ^ w := Nat.two_pow_pos w
  omega

/-- A counting field counts and saturates. -/
theorem Dev.rd_count_same (d : Dev) (f : Fld) (n : Nat) : (d.count f n).rd f = satAdd f.w (d.rd f) n := by
  unfold Dev.count
  rw [Dev.rd_wr_same, Nat.mod_eq_of_lt (satAdd_lt _ _ _)]

theorem Dev.rd_count (d : Dev) (f g : Fld) (n : Nat) :
    (d.count f n).rd g = if g.key = f.key then satAdd f.w (d.rd f) n else d.rd g := by
  unfold Dev.count
  rw [Dev.rd_wr, Nat.mod_eq_of_lt (satAdd_lt _ _ _)]

/-! ### Queues and events -/

/-- The field lies in block QUE, whose levels every event may move. -/
def Fld.inQue (f : Fld) : Bool := f.key / 2097152 % 16 == 13


/-- Offering an item to a queue changes the queues and the levels in block QUE, and nothing else. -/
theorem Dev.enqueue_shape (d : Dev) (q : Nat) (item : List Byte) :
    ∃ r x, d.enqueue q item = { d with regs := r, ques := x } := by
  unfold Dev.enqueue Dev.peak
  dsimp only
  split
  · exact ⟨_, d.ques, rfl⟩
  · split
    · split
      · exact ⟨_, _, rfl⟩
      · exact ⟨d.regs, _, rfl⟩
    · split
      · exact ⟨d.regs, _, rfl⟩
      · exact ⟨_, _, rfl⟩

/-- A field outside block QUE reads as before. -/
theorem Dev.rd_enqueue (d : Dev) (q : Nat) (item : List Byte) (g : Fld) (hq : q ≤ 31) (hg : g.inQue = false) :
    (d.enqueue q item).rd g = d.rd g := by
  have key : ∀ f : Fld, f.inQue = true → g.key ≠ f.key := by
    intro f hf h
    unfold Fld.inQue at hf hg
    rw [h] at hg
    rw [hf] at hg
    exact absurd hg (by decide)
  have hp : (F.QUE_PEAK_PEAK.at [q]).inQue = true := by
    simp only [Fld.inQue, Fld.key, Fld.at, F.QUE_PEAK_PEAK, strideSum, beq_iff_eq]
    omega
  have hl : (F.QUE_LOSS_LOSS.at [q]).inQue = true := by
    simp only [Fld.inQue, Fld.key, Fld.at, F.QUE_LOSS_LOSS, strideSum, beq_iff_eq]
    omega
  unfold Dev.enqueue Dev.peak
  dsimp only
  split
  · rw [Dev.rd_count, if_neg (key _ hl)]
  · split
    · split
      · rw [Dev.rd_wr_other _ _ (key _ hp)]
        rfl
      · rfl
    · split
      · rfl
      · rw [Dev.rd_count, if_neg (key _ hl)]
        rfl

theorem Dev.eventQueue_le (d : Dev) (blk : Nat) : d.eventQueue blk ≤ 31 := by
  unfold Dev.eventQueue
  cases h : ((List.range 19).map (· + 13)).find? (fun q => bitAt (d.rd (F.QUE_CFG_ROUTE.at [q])) blk) with
  | none => simp
  | some q =>
    have hm := List.mem_of_find?_eq_some h
    simp only [List.mem_map, List.mem_range] at hm
    obtain ⟨a, h1, h2⟩ := hm
    simp only [Option.getD_some]
    omega

/-- An event changes the queues, the levels in block QUE and the event number, and nothing else. -/
theorem Dev.event_shape (d : Dev) (blk code unit : Nat) (arg : List Byte) :
    ∃ r x, d.event blk code unit arg = { d with regs := r, ques := x, evSeq := (d.evSeq + 1) % 65536 } := by
  unfold Dev.event
  dsimp only
  obtain ⟨r, x, h⟩ := Dev.enqueue_shape d (d.eventQueue blk)
    (toLE 4 (2 * 2 ^ 28 + blk % 16 * 2 ^ 24 + code % 256 * 2 ^ 16 + unit % 65536) ++ toLE 6 d.time.tai.sec ++
      toLE 4 d.time.tai.ns ++ toLE 2 d.evSeq ++ slice arg 0 16)
  exact ⟨r, x, by rw [h]⟩

theorem Dev.rd_event (d : Dev) (blk code unit : Nat) (arg : List Byte) (g : Fld) (hg : g.inQue = false) :
    (d.event blk code unit arg).rd g = d.rd g := by
  unfold Dev.event
  dsimp only
  exact Dev.rd_enqueue d _ _ g (Dev.eventQueue_le d blk) hg

/-- The event number counts every event, modulo 2¹⁶. -/
theorem Dev.event_evSeq (d : Dev) (blk code unit : Nat) (arg : List Byte) :
    (d.event blk code unit arg).evSeq = (d.evSeq + 1) % 65536 := by
  obtain ⟨r, x, h⟩ := Dev.event_shape d blk code unit arg
  rw [h]

/-- An interrupt sets its status bit, and every other field outside block QUE reads as before. -/
theorem Dev.rd_irq (d : Dev) (f g : Fld) (unit : Nat) (more : List Byte) (hg : g.inQue = false) :
    (d.irq f unit more).rd g = if g.key = f.key then 1 % 2 ^ f.w else d.rd g := by
  unfold Dev.irq
  dsimp only
  rw [Dev.rd_event _ _ _ _ _ _ hg, Dev.rd_wr]

theorem Dev.irq_shape (d : Dev) (f : Fld) (unit : Nat) (more : List Byte) :
    ∃ r x, d.irq f unit more = { d with regs := r, ques := x, evSeq := (d.evSeq + 1) % 65536 } := by
  unfold Dev.irq
  dsimp only
  obtain ⟨r, x, h⟩ := Dev.event_shape (d.wr f 1) f.blk f.lo unit (toLE 4 ((d.wr f 1).liveWord f) ++ more)
  exact ⟨r, x, by rw [h]; rfl⟩

/-- A sticky field is set, and every other field outside block QUE reads as before. -/
theorem Dev.rd_sticky (d : Dev) (f g : Fld) (unit : Nat) (more : List Byte) (hg : g.inQue = false) :
    (d.sticky f unit more).rd g = if g.key = f.key then 1 % 2 ^ f.w else d.rd g := by
  unfold Dev.sticky
  dsimp only
  rw [Dev.rd_event _ _ _ _ _ _ hg, Dev.rd_wr]

theorem Dev.sticky_shape (d : Dev) (f : Fld) (unit : Nat) (more : List Byte) :
    ∃ r x, d.sticky f unit more = { d with regs := r, ques := x, evSeq := (d.evSeq + 1) % 65536 } := by
  unfold Dev.sticky
  dsimp only
  obtain ⟨r, x, h⟩ := Dev.event_shape (d.wr f 1) f.blk (0x20 + f.lo) unit (toLE 4 ((d.wr f 1).liveWord f) ++ more)
  exact ⟨r, x, by rw [h]; rfl⟩

theorem Dev.rd_objEvent (d : Dev) (blk unit index sub row arg : Nat) (g : Fld) (hg : g.inQue = false) :
    (d.objEvent blk unit index sub row arg).rd g = d.rd g :=
  Dev.rd_event d _ _ _ _ g hg

theorem Dev.objEvent_shape (d : Dev) (blk unit index sub row arg : Nat) :
    ∃ r x, d.objEvent blk unit index sub row arg = { d with regs := r, ques := x, evSeq := (d.evSeq + 1) % 65536 } :=
  Dev.event_shape d _ _ _ _

/-! ### The journal -/

theorem Dev.q7_shape (d : Dev) (kind : Nat) : ∃ r x, d.q7 kind = { d with regs := r, ques := x } := by
  unfold Dev.q7
  exact Dev.enqueue_shape d 7 _

theorem Dev.q7_irq (d : Dev) (kind : Nat) (f : Fld) :
    (d.q7 kind).irq f = { d with regs := ((d.q7 kind).irq f).regs, ques := ((d.q7 kind).irq f).ques,
                                 evSeq := ((d.q7 kind).irq f).evSeq } := by
  obtain ⟨r, x, h⟩ := Dev.irq_shape (d.q7 kind) f noUnit []
  obtain ⟨r1, x1, h1⟩ := Dev.q7_shape d kind
  rw [h, h1]

/-- Staging an entry changes the journal, and with it queues, levels and the event number, and nothing else. -/
theorem Dev.stage_shape (d : Dev) (master role op : Nat) (st : Status) (flags index sub row : Nat) (value : List Byte) :
    ∃ r x e j, d.stage master role op st flags index sub row value =
      { d with regs := r, ques := x, evSeq := e, odp := { d.odp with journal := j } } ∧ j.head = d.odp.journal.head + 1 := by
  unfold Dev.stage
  dsimp only
  split
  · split
    · exact ⟨_, _, _, _, Dev.q7_irq _ 3 F.GCTL_IRQ_STATUS_JOURNAL_HIGH, rfl⟩
    · exact ⟨d.regs, d.ques, d.evSeq, _, rfl, rfl⟩
  · exact ⟨d.regs, d.ques, d.evSeq, _, rfl, rfl⟩

theorem Dev.stage_eq (d : Dev) (master role op : Nat) (st : Status) (flags index sub row : Nat) (value : List Byte) :
    d.stage master role op st flags index sub row value =
      { d with regs := (d.stage master role op st flags index sub row value).regs
               ques := (d.stage master role op st flags index sub row value).ques
               evSeq := (d.stage master role op st flags index sub row value).evSeq
               odp := { d.odp with journal := (d.stage master role op st flags index sub row value).odp.journal } } := by
  obtain ⟨r, x, e, j, h, -⟩ := Dev.stage_shape d master role op st flags index sub row value
  rw [h]

theorem Dev.rd_q7 (d : Dev) (kind : Nat) (g : Fld) (hg : g.inQue = false) : (d.q7 kind).rd g = d.rd g :=
  Dev.rd_enqueue d 7 _ g (by decide) hg

/-- A field outside block QUE reads as before a staged entry, but for the JOURNAL_HIGH bit. -/
theorem Dev.rd_stage (d : Dev) (master role op : Nat) (st : Status) (flags index sub row : Nat) (value : List Byte) (g : Fld)
    (hg : g.inQue = false) (hj : g.key ≠ F.GCTL_IRQ_STATUS_JOURNAL_HIGH.key) :
    (d.stage master role op st flags index sub row value).rd g = d.rd g := by
  unfold Dev.stage
  dsimp only
  split
  · split
    · rw [Dev.rd_irq _ _ _ _ _ hg, if_neg hj, Dev.rd_q7 _ _ _ hg]
      rfl
    · rfl
  · rfl

/-- A journal entry changes the journal, and with it queues, levels and the event number, and nothing else. -/
theorem Dev.journal_shape (d : Dev) (master role op : Nat) (st : Status) (flags index sub row : Nat) (value : List Byte) :
    ∃ r x e j, d.journal master role op st flags index sub row value =
      { d with regs := r, ques := x, evSeq := e, odp := { d.odp with journal := j } } := by
  unfold Dev.journal
  dsimp only
  split
  · obtain ⟨r, x, e, j, h, -⟩ := Dev.stage_shape d master role op st flags index sub row value
    exact ⟨r, x, e, j, h⟩
  · have key : ∀ (e : Dev) (m : Nat) (v : List Byte), ∃ r x n j,
        ((e.stage 0 0xFF 0x24 .ok 0 0 0 0 v).q7 m).stage master role op st flags index sub row value =
          { e with regs := r, ques := x, evSeq := n, odp := { e.odp with journal := j } } := by
      intro e m v
      obtain ⟨r, x, n, j, h, -⟩ := Dev.stage_shape e 0 0xFF 0x24 .ok 0 0 0 0 v
      obtain ⟨r1, x1, h1⟩ := Dev.q7_shape (e.stage 0 0xFF 0x24 .ok 0 0 0 0 v) m
      obtain ⟨r2, x2, n2, j2, h2, -⟩ := Dev.stage_shape ((e.stage 0 0xFF 0x24 .ok 0 0 0 0 v).q7 m) master role op st flags index
        sub row value
      rw [h2, h1, h]
      exact ⟨_, _, _, _, rfl⟩
    obtain ⟨r, x, n, j, h⟩ := key (d.setJournal _) 1 _
    exact ⟨r, x, n, j, h⟩

theorem Dev.rd_journal (d : Dev) (master role op : Nat) (st : Status) (flags index sub row : Nat) (value : List Byte) (g : Fld)
    (hg : g.inQue = false) (hj : g.key ≠ F.GCTL_IRQ_STATUS_JOURNAL_HIGH.key) :
    (d.journal master role op st flags index sub row value).rd g = d.rd g := by
  unfold Dev.journal
  dsimp only
  split
  · exact Dev.rd_stage d _ _ _ _ _ _ _ _ _ g hg hj
  · rw [Dev.rd_stage _ _ _ _ _ _ _ _ _ _ g hg hj, Dev.rd_q7 _ _ _ hg, Dev.rd_stage _ _ _ _ _ _ _ _ _ _ g hg hj]
    rfl

theorem Dev.deviceEvent_shape (d : Dev) (code : Nat) (rest : List Byte) :
    ∃ r x e j, d.deviceEvent code rest = { d with regs := r, ques := x, evSeq := e, odp := { d.odp with journal := j } } :=
  Dev.journal_shape d 0 0xFF 0x23 .ok 0 0 0 0 _

theorem Dev.rd_deviceEvent (d : Dev) (code : Nat) (rest : List Byte) (g : Fld) (hg : g.inQue = false)
    (hj : g.key ≠ F.GCTL_IRQ_STATUS_JOURNAL_HIGH.key) : (d.deviceEvent code rest).rd g = d.rd g :=
  Dev.rd_journal d _ _ _ _ _ _ _ _ _ g hg hj


/-! ### What they leave, field by field -/

@[simp] theorem Dev.enqueue_time (d : Dev) (q : Nat) (item : List Byte) :
    (d.enqueue q item).time = d.time := by
  obtain ⟨r, x, h⟩ := Dev.enqueue_shape d q item
  rw [h]
@[simp] theorem Dev.enqueue_pins (d : Dev) (q : Nat) (item : List Byte) :
    (d.enqueue q item).pins = d.pins := by
  obtain ⟨r, x, h⟩ := Dev.enqueue_shape d q item
  rw [h]
@[simp] theorem Dev.enqueue_mode (d : Dev) (q : Nat) (item : List Byte) :
    (d.enqueue q item).mode = d.mode := by
  obtain ⟨r, x, h⟩ := Dev.enqueue_shape d q item
  rw [h]
@[simp] theorem Dev.enqueue_island (d : Dev) (q : Nat) (item : List Byte) :
    (d.enqueue q item).island = d.island := by
  obtain ⟨r, x, h⟩ := Dev.enqueue_shape d q item
  rw [h]
@[simp] theorem Dev.enqueue_boot (d : Dev) (q : Nat) (item : List Byte) :
    (d.enqueue q item).boot = d.boot := by
  obtain ⟨r, x, h⟩ := Dev.enqueue_shape d q item
  rw [h]
@[simp] theorem Dev.enqueue_contacts (d : Dev) (q : Nat) (item : List Byte) :
    (d.enqueue q item).contacts = d.contacts := by
  obtain ⟨r, x, h⟩ := Dev.enqueue_shape d q item
  rw [h]
@[simp] theorem Dev.enqueue_evSeq (d : Dev) (q : Nat) (item : List Byte) :
    (d.enqueue q item).evSeq = d.evSeq := by
  obtain ⟨r, x, h⟩ := Dev.enqueue_shape d q item
  rw [h]
@[simp] theorem Dev.enqueue_odp (d : Dev) (q : Nat) (item : List Byte) :
    (d.enqueue q item).odp = d.odp := by
  obtain ⟨r, x, h⟩ := Dev.enqueue_shape d q item
  rw [h]
@[simp] theorem Dev.enqueue_host (d : Dev) (q : Nat) (item : List Byte) :
    (d.enqueue q item).host = d.host := by
  obtain ⟨r, x, h⟩ := Dev.enqueue_shape d q item
  rw [h]
@[simp] theorem Dev.enqueue_cap (d : Dev) (q : Nat) (item : List Byte) :
    (d.enqueue q item).cap = d.cap := by
  obtain ⟨r, x, h⟩ := Dev.enqueue_shape d q item
  rw [h]
@[simp] theorem Dev.enqueue_clk (d : Dev) (q : Nat) (item : List Byte) :
    (d.enqueue q item).clk = d.clk := by
  obtain ⟨r, x, h⟩ := Dev.enqueue_shape d q item
  rw [h]
@[simp] theorem Dev.enqueue_ref (d : Dev) (q : Nat) (item : List Byte) :
    (d.enqueue q item).ref = d.ref := by
  obtain ⟨r, x, h⟩ := Dev.enqueue_shape d q item
  rw [h]
@[simp] theorem Dev.enqueue_tim (d : Dev) (q : Nat) (item : List Byte) :
    (d.enqueue q item).tim = d.tim := by
  obtain ⟨r, x, h⟩ := Dev.enqueue_shape d q item
  rw [h]
@[simp] theorem Dev.enqueue_net (d : Dev) (q : Nat) (item : List Byte) :
    (d.enqueue q item).net = d.net := by
  obtain ⟨r, x, h⟩ := Dev.enqueue_shape d q item
  rw [h]
@[simp] theorem Dev.enqueue_str (d : Dev) (q : Nat) (item : List Byte) :
    (d.enqueue q item).str = d.str := by
  obtain ⟨r, x, h⟩ := Dev.enqueue_shape d q item
  rw [h]
@[simp] theorem Dev.enqueue_dig (d : Dev) (q : Nat) (item : List Byte) :
    (d.enqueue q item).dig = d.dig := by
  obtain ⟨r, x, h⟩ := Dev.enqueue_shape d q item
  rw [h]
@[simp] theorem Dev.enqueue_apt (d : Dev) (q : Nat) (item : List Byte) :
    (d.enqueue q item).apt = d.apt := by
  obtain ⟨r, x, h⟩ := Dev.enqueue_shape d q item
  rw [h]
@[simp] theorem Dev.enqueue_mtx (d : Dev) (q : Nat) (item : List Byte) :
    (d.enqueue q item).mtx = d.mtx := by
  obtain ⟨r, x, h⟩ := Dev.enqueue_shape d q item
  rw [h]
@[simp] theorem Dev.enqueue_lib (d : Dev) (q : Nat) (item : List Byte) :
    (d.enqueue q item).lib = d.lib := by
  obtain ⟨r, x, h⟩ := Dev.enqueue_shape d q item
  rw [h]
@[simp] theorem Dev.enqueue_sup (d : Dev) (q : Nat) (item : List Byte) :
    (d.enqueue q item).sup = d.sup := by
  obtain ⟨r, x, h⟩ := Dev.enqueue_shape d q item
  rw [h]
@[simp] theorem Dev.enqueue_pwr (d : Dev) (q : Nat) (item : List Byte) :
    (d.enqueue q item).pwr = d.pwr := by
  obtain ⟨r, x, h⟩ := Dev.enqueue_shape d q item
  rw [h]
@[simp] theorem Dev.enqueue_alm (d : Dev) (q : Nat) (item : List Byte) :
    (d.enqueue q item).alm = d.alm := by
  obtain ⟨r, x, h⟩ := Dev.enqueue_shape d q item
  rw [h]
@[simp] theorem Dev.enqueue_pair (d : Dev) (q : Nat) (item : List Byte) :
    (d.enqueue q item).pair = d.pair := by
  obtain ⟨r, x, h⟩ := Dev.enqueue_shape d q item
  rw [h]
@[simp] theorem Dev.enqueue_cas (d : Dev) (q : Nat) (item : List Byte) :
    (d.enqueue q item).cas = d.cas := by
  obtain ⟨r, x, h⟩ := Dev.enqueue_shape d q item
  rw [h]
@[simp] theorem Dev.enqueue_mid (d : Dev) (q : Nat) (item : List Byte) :
    (d.enqueue q item).mid = d.mid := by
  obtain ⟨r, x, h⟩ := Dev.enqueue_shape d q item
  rw [h]
@[simp] theorem Dev.enqueue_jtag (d : Dev) (q : Nat) (item : List Byte) :
    (d.enqueue q item).jtag = d.jtag := by
  obtain ⟨r, x, h⟩ := Dev.enqueue_shape d q item
  rw [h]
@[simp] theorem Dev.enqueue_free (d : Dev) (q : Nat) (item : List Byte) :
    (d.enqueue q item).free = d.free := by
  obtain ⟨r, x, h⟩ := Dev.enqueue_shape d q item
  rw [h]
@[simp] theorem Dev.enqueue_out (d : Dev) (q : Nat) (item : List Byte) :
    (d.enqueue q item).out = d.out := by
  obtain ⟨r, x, h⟩ := Dev.enqueue_shape d q item
  rw [h]

@[simp] theorem Dev.event_time (d : Dev) (blk code unit : Nat) (arg : List Byte) :
    (d.event blk code unit arg).time = d.time := by
  obtain ⟨r, x, h⟩ := Dev.event_shape d blk code unit arg
  rw [h]
@[simp] theorem Dev.event_pins (d : Dev) (blk code unit : Nat) (arg : List Byte) :
    (d.event blk code unit arg).pins = d.pins := by
  obtain ⟨r, x, h⟩ := Dev.event_shape d blk code unit arg
  rw [h]
@[simp] theorem Dev.event_mode (d : Dev) (blk code unit : Nat) (arg : List Byte) :
    (d.event blk code unit arg).mode = d.mode := by
  obtain ⟨r, x, h⟩ := Dev.event_shape d blk code unit arg
  rw [h]
@[simp] theorem Dev.event_island (d : Dev) (blk code unit : Nat) (arg : List Byte) :
    (d.event blk code unit arg).island = d.island := by
  obtain ⟨r, x, h⟩ := Dev.event_shape d blk code unit arg
  rw [h]
@[simp] theorem Dev.event_boot (d : Dev) (blk code unit : Nat) (arg : List Byte) :
    (d.event blk code unit arg).boot = d.boot := by
  obtain ⟨r, x, h⟩ := Dev.event_shape d blk code unit arg
  rw [h]
@[simp] theorem Dev.event_contacts (d : Dev) (blk code unit : Nat) (arg : List Byte) :
    (d.event blk code unit arg).contacts = d.contacts := by
  obtain ⟨r, x, h⟩ := Dev.event_shape d blk code unit arg
  rw [h]
@[simp] theorem Dev.event_odp (d : Dev) (blk code unit : Nat) (arg : List Byte) :
    (d.event blk code unit arg).odp = d.odp := by
  obtain ⟨r, x, h⟩ := Dev.event_shape d blk code unit arg
  rw [h]
@[simp] theorem Dev.event_host (d : Dev) (blk code unit : Nat) (arg : List Byte) :
    (d.event blk code unit arg).host = d.host := by
  obtain ⟨r, x, h⟩ := Dev.event_shape d blk code unit arg
  rw [h]
@[simp] theorem Dev.event_cap (d : Dev) (blk code unit : Nat) (arg : List Byte) :
    (d.event blk code unit arg).cap = d.cap := by
  obtain ⟨r, x, h⟩ := Dev.event_shape d blk code unit arg
  rw [h]
@[simp] theorem Dev.event_clk (d : Dev) (blk code unit : Nat) (arg : List Byte) :
    (d.event blk code unit arg).clk = d.clk := by
  obtain ⟨r, x, h⟩ := Dev.event_shape d blk code unit arg
  rw [h]
@[simp] theorem Dev.event_ref (d : Dev) (blk code unit : Nat) (arg : List Byte) :
    (d.event blk code unit arg).ref = d.ref := by
  obtain ⟨r, x, h⟩ := Dev.event_shape d blk code unit arg
  rw [h]
@[simp] theorem Dev.event_tim (d : Dev) (blk code unit : Nat) (arg : List Byte) :
    (d.event blk code unit arg).tim = d.tim := by
  obtain ⟨r, x, h⟩ := Dev.event_shape d blk code unit arg
  rw [h]
@[simp] theorem Dev.event_net (d : Dev) (blk code unit : Nat) (arg : List Byte) :
    (d.event blk code unit arg).net = d.net := by
  obtain ⟨r, x, h⟩ := Dev.event_shape d blk code unit arg
  rw [h]
@[simp] theorem Dev.event_str (d : Dev) (blk code unit : Nat) (arg : List Byte) :
    (d.event blk code unit arg).str = d.str := by
  obtain ⟨r, x, h⟩ := Dev.event_shape d blk code unit arg
  rw [h]
@[simp] theorem Dev.event_dig (d : Dev) (blk code unit : Nat) (arg : List Byte) :
    (d.event blk code unit arg).dig = d.dig := by
  obtain ⟨r, x, h⟩ := Dev.event_shape d blk code unit arg
  rw [h]
@[simp] theorem Dev.event_apt (d : Dev) (blk code unit : Nat) (arg : List Byte) :
    (d.event blk code unit arg).apt = d.apt := by
  obtain ⟨r, x, h⟩ := Dev.event_shape d blk code unit arg
  rw [h]
@[simp] theorem Dev.event_mtx (d : Dev) (blk code unit : Nat) (arg : List Byte) :
    (d.event blk code unit arg).mtx = d.mtx := by
  obtain ⟨r, x, h⟩ := Dev.event_shape d blk code unit arg
  rw [h]
@[simp] theorem Dev.event_lib (d : Dev) (blk code unit : Nat) (arg : List Byte) :
    (d.event blk code unit arg).lib = d.lib := by
  obtain ⟨r, x, h⟩ := Dev.event_shape d blk code unit arg
  rw [h]
@[simp] theorem Dev.event_sup (d : Dev) (blk code unit : Nat) (arg : List Byte) :
    (d.event blk code unit arg).sup = d.sup := by
  obtain ⟨r, x, h⟩ := Dev.event_shape d blk code unit arg
  rw [h]
@[simp] theorem Dev.event_pwr (d : Dev) (blk code unit : Nat) (arg : List Byte) :
    (d.event blk code unit arg).pwr = d.pwr := by
  obtain ⟨r, x, h⟩ := Dev.event_shape d blk code unit arg
  rw [h]
@[simp] theorem Dev.event_alm (d : Dev) (blk code unit : Nat) (arg : List Byte) :
    (d.event blk code unit arg).alm = d.alm := by
  obtain ⟨r, x, h⟩ := Dev.event_shape d blk code unit arg
  rw [h]
@[simp] theorem Dev.event_pair (d : Dev) (blk code unit : Nat) (arg : List Byte) :
    (d.event blk code unit arg).pair = d.pair := by
  obtain ⟨r, x, h⟩ := Dev.event_shape d blk code unit arg
  rw [h]
@[simp] theorem Dev.event_cas (d : Dev) (blk code unit : Nat) (arg : List Byte) :
    (d.event blk code unit arg).cas = d.cas := by
  obtain ⟨r, x, h⟩ := Dev.event_shape d blk code unit arg
  rw [h]
@[simp] theorem Dev.event_mid (d : Dev) (blk code unit : Nat) (arg : List Byte) :
    (d.event blk code unit arg).mid = d.mid := by
  obtain ⟨r, x, h⟩ := Dev.event_shape d blk code unit arg
  rw [h]
@[simp] theorem Dev.event_jtag (d : Dev) (blk code unit : Nat) (arg : List Byte) :
    (d.event blk code unit arg).jtag = d.jtag := by
  obtain ⟨r, x, h⟩ := Dev.event_shape d blk code unit arg
  rw [h]
@[simp] theorem Dev.event_free (d : Dev) (blk code unit : Nat) (arg : List Byte) :
    (d.event blk code unit arg).free = d.free := by
  obtain ⟨r, x, h⟩ := Dev.event_shape d blk code unit arg
  rw [h]
@[simp] theorem Dev.event_out (d : Dev) (blk code unit : Nat) (arg : List Byte) :
    (d.event blk code unit arg).out = d.out := by
  obtain ⟨r, x, h⟩ := Dev.event_shape d blk code unit arg
  rw [h]

@[simp] theorem Dev.irq_time (d : Dev) (f : Fld) (unit : Nat) (more : List Byte) :
    (d.irq f unit more).time = d.time := by
  obtain ⟨r, x, h⟩ := Dev.irq_shape d f unit more
  rw [h]
@[simp] theorem Dev.irq_pins (d : Dev) (f : Fld) (unit : Nat) (more : List Byte) :
    (d.irq f unit more).pins = d.pins := by
  obtain ⟨r, x, h⟩ := Dev.irq_shape d f unit more
  rw [h]
@[simp] theorem Dev.irq_mode (d : Dev) (f : Fld) (unit : Nat) (more : List Byte) :
    (d.irq f unit more).mode = d.mode := by
  obtain ⟨r, x, h⟩ := Dev.irq_shape d f unit more
  rw [h]
@[simp] theorem Dev.irq_island (d : Dev) (f : Fld) (unit : Nat) (more : List Byte) :
    (d.irq f unit more).island = d.island := by
  obtain ⟨r, x, h⟩ := Dev.irq_shape d f unit more
  rw [h]
@[simp] theorem Dev.irq_boot (d : Dev) (f : Fld) (unit : Nat) (more : List Byte) :
    (d.irq f unit more).boot = d.boot := by
  obtain ⟨r, x, h⟩ := Dev.irq_shape d f unit more
  rw [h]
@[simp] theorem Dev.irq_contacts (d : Dev) (f : Fld) (unit : Nat) (more : List Byte) :
    (d.irq f unit more).contacts = d.contacts := by
  obtain ⟨r, x, h⟩ := Dev.irq_shape d f unit more
  rw [h]
@[simp] theorem Dev.irq_odp (d : Dev) (f : Fld) (unit : Nat) (more : List Byte) :
    (d.irq f unit more).odp = d.odp := by
  obtain ⟨r, x, h⟩ := Dev.irq_shape d f unit more
  rw [h]
@[simp] theorem Dev.irq_host (d : Dev) (f : Fld) (unit : Nat) (more : List Byte) :
    (d.irq f unit more).host = d.host := by
  obtain ⟨r, x, h⟩ := Dev.irq_shape d f unit more
  rw [h]
@[simp] theorem Dev.irq_cap (d : Dev) (f : Fld) (unit : Nat) (more : List Byte) :
    (d.irq f unit more).cap = d.cap := by
  obtain ⟨r, x, h⟩ := Dev.irq_shape d f unit more
  rw [h]
@[simp] theorem Dev.irq_clk (d : Dev) (f : Fld) (unit : Nat) (more : List Byte) :
    (d.irq f unit more).clk = d.clk := by
  obtain ⟨r, x, h⟩ := Dev.irq_shape d f unit more
  rw [h]
@[simp] theorem Dev.irq_ref (d : Dev) (f : Fld) (unit : Nat) (more : List Byte) :
    (d.irq f unit more).ref = d.ref := by
  obtain ⟨r, x, h⟩ := Dev.irq_shape d f unit more
  rw [h]
@[simp] theorem Dev.irq_tim (d : Dev) (f : Fld) (unit : Nat) (more : List Byte) :
    (d.irq f unit more).tim = d.tim := by
  obtain ⟨r, x, h⟩ := Dev.irq_shape d f unit more
  rw [h]
@[simp] theorem Dev.irq_net (d : Dev) (f : Fld) (unit : Nat) (more : List Byte) :
    (d.irq f unit more).net = d.net := by
  obtain ⟨r, x, h⟩ := Dev.irq_shape d f unit more
  rw [h]
@[simp] theorem Dev.irq_str (d : Dev) (f : Fld) (unit : Nat) (more : List Byte) :
    (d.irq f unit more).str = d.str := by
  obtain ⟨r, x, h⟩ := Dev.irq_shape d f unit more
  rw [h]
@[simp] theorem Dev.irq_dig (d : Dev) (f : Fld) (unit : Nat) (more : List Byte) :
    (d.irq f unit more).dig = d.dig := by
  obtain ⟨r, x, h⟩ := Dev.irq_shape d f unit more
  rw [h]
@[simp] theorem Dev.irq_apt (d : Dev) (f : Fld) (unit : Nat) (more : List Byte) :
    (d.irq f unit more).apt = d.apt := by
  obtain ⟨r, x, h⟩ := Dev.irq_shape d f unit more
  rw [h]
@[simp] theorem Dev.irq_mtx (d : Dev) (f : Fld) (unit : Nat) (more : List Byte) :
    (d.irq f unit more).mtx = d.mtx := by
  obtain ⟨r, x, h⟩ := Dev.irq_shape d f unit more
  rw [h]
@[simp] theorem Dev.irq_lib (d : Dev) (f : Fld) (unit : Nat) (more : List Byte) :
    (d.irq f unit more).lib = d.lib := by
  obtain ⟨r, x, h⟩ := Dev.irq_shape d f unit more
  rw [h]
@[simp] theorem Dev.irq_sup (d : Dev) (f : Fld) (unit : Nat) (more : List Byte) :
    (d.irq f unit more).sup = d.sup := by
  obtain ⟨r, x, h⟩ := Dev.irq_shape d f unit more
  rw [h]
@[simp] theorem Dev.irq_pwr (d : Dev) (f : Fld) (unit : Nat) (more : List Byte) :
    (d.irq f unit more).pwr = d.pwr := by
  obtain ⟨r, x, h⟩ := Dev.irq_shape d f unit more
  rw [h]
@[simp] theorem Dev.irq_alm (d : Dev) (f : Fld) (unit : Nat) (more : List Byte) :
    (d.irq f unit more).alm = d.alm := by
  obtain ⟨r, x, h⟩ := Dev.irq_shape d f unit more
  rw [h]
@[simp] theorem Dev.irq_pair (d : Dev) (f : Fld) (unit : Nat) (more : List Byte) :
    (d.irq f unit more).pair = d.pair := by
  obtain ⟨r, x, h⟩ := Dev.irq_shape d f unit more
  rw [h]
@[simp] theorem Dev.irq_cas (d : Dev) (f : Fld) (unit : Nat) (more : List Byte) :
    (d.irq f unit more).cas = d.cas := by
  obtain ⟨r, x, h⟩ := Dev.irq_shape d f unit more
  rw [h]
@[simp] theorem Dev.irq_mid (d : Dev) (f : Fld) (unit : Nat) (more : List Byte) :
    (d.irq f unit more).mid = d.mid := by
  obtain ⟨r, x, h⟩ := Dev.irq_shape d f unit more
  rw [h]
@[simp] theorem Dev.irq_jtag (d : Dev) (f : Fld) (unit : Nat) (more : List Byte) :
    (d.irq f unit more).jtag = d.jtag := by
  obtain ⟨r, x, h⟩ := Dev.irq_shape d f unit more
  rw [h]
@[simp] theorem Dev.irq_free (d : Dev) (f : Fld) (unit : Nat) (more : List Byte) :
    (d.irq f unit more).free = d.free := by
  obtain ⟨r, x, h⟩ := Dev.irq_shape d f unit more
  rw [h]
@[simp] theorem Dev.irq_out (d : Dev) (f : Fld) (unit : Nat) (more : List Byte) :
    (d.irq f unit more).out = d.out := by
  obtain ⟨r, x, h⟩ := Dev.irq_shape d f unit more
  rw [h]

@[simp] theorem Dev.sticky_time (d : Dev) (f : Fld) (unit : Nat) (more : List Byte) :
    (d.sticky f unit more).time = d.time := by
  obtain ⟨r, x, h⟩ := Dev.sticky_shape d f unit more
  rw [h]
@[simp] theorem Dev.sticky_pins (d : Dev) (f : Fld) (unit : Nat) (more : List Byte) :
    (d.sticky f unit more).pins = d.pins := by
  obtain ⟨r, x, h⟩ := Dev.sticky_shape d f unit more
  rw [h]
@[simp] theorem Dev.sticky_mode (d : Dev) (f : Fld) (unit : Nat) (more : List Byte) :
    (d.sticky f unit more).mode = d.mode := by
  obtain ⟨r, x, h⟩ := Dev.sticky_shape d f unit more
  rw [h]
@[simp] theorem Dev.sticky_island (d : Dev) (f : Fld) (unit : Nat) (more : List Byte) :
    (d.sticky f unit more).island = d.island := by
  obtain ⟨r, x, h⟩ := Dev.sticky_shape d f unit more
  rw [h]
@[simp] theorem Dev.sticky_boot (d : Dev) (f : Fld) (unit : Nat) (more : List Byte) :
    (d.sticky f unit more).boot = d.boot := by
  obtain ⟨r, x, h⟩ := Dev.sticky_shape d f unit more
  rw [h]
@[simp] theorem Dev.sticky_contacts (d : Dev) (f : Fld) (unit : Nat) (more : List Byte) :
    (d.sticky f unit more).contacts = d.contacts := by
  obtain ⟨r, x, h⟩ := Dev.sticky_shape d f unit more
  rw [h]
@[simp] theorem Dev.sticky_odp (d : Dev) (f : Fld) (unit : Nat) (more : List Byte) :
    (d.sticky f unit more).odp = d.odp := by
  obtain ⟨r, x, h⟩ := Dev.sticky_shape d f unit more
  rw [h]
@[simp] theorem Dev.sticky_host (d : Dev) (f : Fld) (unit : Nat) (more : List Byte) :
    (d.sticky f unit more).host = d.host := by
  obtain ⟨r, x, h⟩ := Dev.sticky_shape d f unit more
  rw [h]
@[simp] theorem Dev.sticky_cap (d : Dev) (f : Fld) (unit : Nat) (more : List Byte) :
    (d.sticky f unit more).cap = d.cap := by
  obtain ⟨r, x, h⟩ := Dev.sticky_shape d f unit more
  rw [h]
@[simp] theorem Dev.sticky_clk (d : Dev) (f : Fld) (unit : Nat) (more : List Byte) :
    (d.sticky f unit more).clk = d.clk := by
  obtain ⟨r, x, h⟩ := Dev.sticky_shape d f unit more
  rw [h]
@[simp] theorem Dev.sticky_ref (d : Dev) (f : Fld) (unit : Nat) (more : List Byte) :
    (d.sticky f unit more).ref = d.ref := by
  obtain ⟨r, x, h⟩ := Dev.sticky_shape d f unit more
  rw [h]
@[simp] theorem Dev.sticky_tim (d : Dev) (f : Fld) (unit : Nat) (more : List Byte) :
    (d.sticky f unit more).tim = d.tim := by
  obtain ⟨r, x, h⟩ := Dev.sticky_shape d f unit more
  rw [h]
@[simp] theorem Dev.sticky_net (d : Dev) (f : Fld) (unit : Nat) (more : List Byte) :
    (d.sticky f unit more).net = d.net := by
  obtain ⟨r, x, h⟩ := Dev.sticky_shape d f unit more
  rw [h]
@[simp] theorem Dev.sticky_str (d : Dev) (f : Fld) (unit : Nat) (more : List Byte) :
    (d.sticky f unit more).str = d.str := by
  obtain ⟨r, x, h⟩ := Dev.sticky_shape d f unit more
  rw [h]
@[simp] theorem Dev.sticky_dig (d : Dev) (f : Fld) (unit : Nat) (more : List Byte) :
    (d.sticky f unit more).dig = d.dig := by
  obtain ⟨r, x, h⟩ := Dev.sticky_shape d f unit more
  rw [h]
@[simp] theorem Dev.sticky_apt (d : Dev) (f : Fld) (unit : Nat) (more : List Byte) :
    (d.sticky f unit more).apt = d.apt := by
  obtain ⟨r, x, h⟩ := Dev.sticky_shape d f unit more
  rw [h]
@[simp] theorem Dev.sticky_mtx (d : Dev) (f : Fld) (unit : Nat) (more : List Byte) :
    (d.sticky f unit more).mtx = d.mtx := by
  obtain ⟨r, x, h⟩ := Dev.sticky_shape d f unit more
  rw [h]
@[simp] theorem Dev.sticky_lib (d : Dev) (f : Fld) (unit : Nat) (more : List Byte) :
    (d.sticky f unit more).lib = d.lib := by
  obtain ⟨r, x, h⟩ := Dev.sticky_shape d f unit more
  rw [h]
@[simp] theorem Dev.sticky_sup (d : Dev) (f : Fld) (unit : Nat) (more : List Byte) :
    (d.sticky f unit more).sup = d.sup := by
  obtain ⟨r, x, h⟩ := Dev.sticky_shape d f unit more
  rw [h]
@[simp] theorem Dev.sticky_pwr (d : Dev) (f : Fld) (unit : Nat) (more : List Byte) :
    (d.sticky f unit more).pwr = d.pwr := by
  obtain ⟨r, x, h⟩ := Dev.sticky_shape d f unit more
  rw [h]
@[simp] theorem Dev.sticky_alm (d : Dev) (f : Fld) (unit : Nat) (more : List Byte) :
    (d.sticky f unit more).alm = d.alm := by
  obtain ⟨r, x, h⟩ := Dev.sticky_shape d f unit more
  rw [h]
@[simp] theorem Dev.sticky_pair (d : Dev) (f : Fld) (unit : Nat) (more : List Byte) :
    (d.sticky f unit more).pair = d.pair := by
  obtain ⟨r, x, h⟩ := Dev.sticky_shape d f unit more
  rw [h]
@[simp] theorem Dev.sticky_cas (d : Dev) (f : Fld) (unit : Nat) (more : List Byte) :
    (d.sticky f unit more).cas = d.cas := by
  obtain ⟨r, x, h⟩ := Dev.sticky_shape d f unit more
  rw [h]
@[simp] theorem Dev.sticky_mid (d : Dev) (f : Fld) (unit : Nat) (more : List Byte) :
    (d.sticky f unit more).mid = d.mid := by
  obtain ⟨r, x, h⟩ := Dev.sticky_shape d f unit more
  rw [h]
@[simp] theorem Dev.sticky_jtag (d : Dev) (f : Fld) (unit : Nat) (more : List Byte) :
    (d.sticky f unit more).jtag = d.jtag := by
  obtain ⟨r, x, h⟩ := Dev.sticky_shape d f unit more
  rw [h]
@[simp] theorem Dev.sticky_free (d : Dev) (f : Fld) (unit : Nat) (more : List Byte) :
    (d.sticky f unit more).free = d.free := by
  obtain ⟨r, x, h⟩ := Dev.sticky_shape d f unit more
  rw [h]
@[simp] theorem Dev.sticky_out (d : Dev) (f : Fld) (unit : Nat) (more : List Byte) :
    (d.sticky f unit more).out = d.out := by
  obtain ⟨r, x, h⟩ := Dev.sticky_shape d f unit more
  rw [h]

@[simp] theorem Dev.objEvent_time (d : Dev) (blk unit index sub row arg : Nat) :
    (d.objEvent blk unit index sub row arg).time = d.time := by
  obtain ⟨r, x, h⟩ := Dev.objEvent_shape d blk unit index sub row arg
  rw [h]
@[simp] theorem Dev.objEvent_pins (d : Dev) (blk unit index sub row arg : Nat) :
    (d.objEvent blk unit index sub row arg).pins = d.pins := by
  obtain ⟨r, x, h⟩ := Dev.objEvent_shape d blk unit index sub row arg
  rw [h]
@[simp] theorem Dev.objEvent_mode (d : Dev) (blk unit index sub row arg : Nat) :
    (d.objEvent blk unit index sub row arg).mode = d.mode := by
  obtain ⟨r, x, h⟩ := Dev.objEvent_shape d blk unit index sub row arg
  rw [h]
@[simp] theorem Dev.objEvent_island (d : Dev) (blk unit index sub row arg : Nat) :
    (d.objEvent blk unit index sub row arg).island = d.island := by
  obtain ⟨r, x, h⟩ := Dev.objEvent_shape d blk unit index sub row arg
  rw [h]
@[simp] theorem Dev.objEvent_boot (d : Dev) (blk unit index sub row arg : Nat) :
    (d.objEvent blk unit index sub row arg).boot = d.boot := by
  obtain ⟨r, x, h⟩ := Dev.objEvent_shape d blk unit index sub row arg
  rw [h]
@[simp] theorem Dev.objEvent_contacts (d : Dev) (blk unit index sub row arg : Nat) :
    (d.objEvent blk unit index sub row arg).contacts = d.contacts := by
  obtain ⟨r, x, h⟩ := Dev.objEvent_shape d blk unit index sub row arg
  rw [h]
@[simp] theorem Dev.objEvent_odp (d : Dev) (blk unit index sub row arg : Nat) :
    (d.objEvent blk unit index sub row arg).odp = d.odp := by
  obtain ⟨r, x, h⟩ := Dev.objEvent_shape d blk unit index sub row arg
  rw [h]
@[simp] theorem Dev.objEvent_host (d : Dev) (blk unit index sub row arg : Nat) :
    (d.objEvent blk unit index sub row arg).host = d.host := by
  obtain ⟨r, x, h⟩ := Dev.objEvent_shape d blk unit index sub row arg
  rw [h]
@[simp] theorem Dev.objEvent_cap (d : Dev) (blk unit index sub row arg : Nat) :
    (d.objEvent blk unit index sub row arg).cap = d.cap := by
  obtain ⟨r, x, h⟩ := Dev.objEvent_shape d blk unit index sub row arg
  rw [h]
@[simp] theorem Dev.objEvent_clk (d : Dev) (blk unit index sub row arg : Nat) :
    (d.objEvent blk unit index sub row arg).clk = d.clk := by
  obtain ⟨r, x, h⟩ := Dev.objEvent_shape d blk unit index sub row arg
  rw [h]
@[simp] theorem Dev.objEvent_ref (d : Dev) (blk unit index sub row arg : Nat) :
    (d.objEvent blk unit index sub row arg).ref = d.ref := by
  obtain ⟨r, x, h⟩ := Dev.objEvent_shape d blk unit index sub row arg
  rw [h]
@[simp] theorem Dev.objEvent_tim (d : Dev) (blk unit index sub row arg : Nat) :
    (d.objEvent blk unit index sub row arg).tim = d.tim := by
  obtain ⟨r, x, h⟩ := Dev.objEvent_shape d blk unit index sub row arg
  rw [h]
@[simp] theorem Dev.objEvent_net (d : Dev) (blk unit index sub row arg : Nat) :
    (d.objEvent blk unit index sub row arg).net = d.net := by
  obtain ⟨r, x, h⟩ := Dev.objEvent_shape d blk unit index sub row arg
  rw [h]
@[simp] theorem Dev.objEvent_str (d : Dev) (blk unit index sub row arg : Nat) :
    (d.objEvent blk unit index sub row arg).str = d.str := by
  obtain ⟨r, x, h⟩ := Dev.objEvent_shape d blk unit index sub row arg
  rw [h]
@[simp] theorem Dev.objEvent_dig (d : Dev) (blk unit index sub row arg : Nat) :
    (d.objEvent blk unit index sub row arg).dig = d.dig := by
  obtain ⟨r, x, h⟩ := Dev.objEvent_shape d blk unit index sub row arg
  rw [h]
@[simp] theorem Dev.objEvent_apt (d : Dev) (blk unit index sub row arg : Nat) :
    (d.objEvent blk unit index sub row arg).apt = d.apt := by
  obtain ⟨r, x, h⟩ := Dev.objEvent_shape d blk unit index sub row arg
  rw [h]
@[simp] theorem Dev.objEvent_mtx (d : Dev) (blk unit index sub row arg : Nat) :
    (d.objEvent blk unit index sub row arg).mtx = d.mtx := by
  obtain ⟨r, x, h⟩ := Dev.objEvent_shape d blk unit index sub row arg
  rw [h]
@[simp] theorem Dev.objEvent_lib (d : Dev) (blk unit index sub row arg : Nat) :
    (d.objEvent blk unit index sub row arg).lib = d.lib := by
  obtain ⟨r, x, h⟩ := Dev.objEvent_shape d blk unit index sub row arg
  rw [h]
@[simp] theorem Dev.objEvent_sup (d : Dev) (blk unit index sub row arg : Nat) :
    (d.objEvent blk unit index sub row arg).sup = d.sup := by
  obtain ⟨r, x, h⟩ := Dev.objEvent_shape d blk unit index sub row arg
  rw [h]
@[simp] theorem Dev.objEvent_pwr (d : Dev) (blk unit index sub row arg : Nat) :
    (d.objEvent blk unit index sub row arg).pwr = d.pwr := by
  obtain ⟨r, x, h⟩ := Dev.objEvent_shape d blk unit index sub row arg
  rw [h]
@[simp] theorem Dev.objEvent_alm (d : Dev) (blk unit index sub row arg : Nat) :
    (d.objEvent blk unit index sub row arg).alm = d.alm := by
  obtain ⟨r, x, h⟩ := Dev.objEvent_shape d blk unit index sub row arg
  rw [h]
@[simp] theorem Dev.objEvent_pair (d : Dev) (blk unit index sub row arg : Nat) :
    (d.objEvent blk unit index sub row arg).pair = d.pair := by
  obtain ⟨r, x, h⟩ := Dev.objEvent_shape d blk unit index sub row arg
  rw [h]
@[simp] theorem Dev.objEvent_cas (d : Dev) (blk unit index sub row arg : Nat) :
    (d.objEvent blk unit index sub row arg).cas = d.cas := by
  obtain ⟨r, x, h⟩ := Dev.objEvent_shape d blk unit index sub row arg
  rw [h]
@[simp] theorem Dev.objEvent_mid (d : Dev) (blk unit index sub row arg : Nat) :
    (d.objEvent blk unit index sub row arg).mid = d.mid := by
  obtain ⟨r, x, h⟩ := Dev.objEvent_shape d blk unit index sub row arg
  rw [h]
@[simp] theorem Dev.objEvent_jtag (d : Dev) (blk unit index sub row arg : Nat) :
    (d.objEvent blk unit index sub row arg).jtag = d.jtag := by
  obtain ⟨r, x, h⟩ := Dev.objEvent_shape d blk unit index sub row arg
  rw [h]
@[simp] theorem Dev.objEvent_free (d : Dev) (blk unit index sub row arg : Nat) :
    (d.objEvent blk unit index sub row arg).free = d.free := by
  obtain ⟨r, x, h⟩ := Dev.objEvent_shape d blk unit index sub row arg
  rw [h]
@[simp] theorem Dev.objEvent_out (d : Dev) (blk unit index sub row arg : Nat) :
    (d.objEvent blk unit index sub row arg).out = d.out := by
  obtain ⟨r, x, h⟩ := Dev.objEvent_shape d blk unit index sub row arg
  rw [h]

@[simp] theorem Dev.journal_time (d : Dev) (master role op : Nat) (st : Status) (flags index sub row : Nat) (value : List Byte) :
    (d.journal master role op st flags index sub row value).time = d.time := by
  obtain ⟨r, x, e, j, h⟩ := Dev.journal_shape d master role op st flags index sub row value
  rw [h]
@[simp] theorem Dev.journal_pins (d : Dev) (master role op : Nat) (st : Status) (flags index sub row : Nat) (value : List Byte) :
    (d.journal master role op st flags index sub row value).pins = d.pins := by
  obtain ⟨r, x, e, j, h⟩ := Dev.journal_shape d master role op st flags index sub row value
  rw [h]
@[simp] theorem Dev.journal_mode (d : Dev) (master role op : Nat) (st : Status) (flags index sub row : Nat) (value : List Byte) :
    (d.journal master role op st flags index sub row value).mode = d.mode := by
  obtain ⟨r, x, e, j, h⟩ := Dev.journal_shape d master role op st flags index sub row value
  rw [h]
@[simp] theorem Dev.journal_island (d : Dev) (master role op : Nat) (st : Status) (flags index sub row : Nat) (value : List Byte) :
    (d.journal master role op st flags index sub row value).island = d.island := by
  obtain ⟨r, x, e, j, h⟩ := Dev.journal_shape d master role op st flags index sub row value
  rw [h]
@[simp] theorem Dev.journal_boot (d : Dev) (master role op : Nat) (st : Status) (flags index sub row : Nat) (value : List Byte) :
    (d.journal master role op st flags index sub row value).boot = d.boot := by
  obtain ⟨r, x, e, j, h⟩ := Dev.journal_shape d master role op st flags index sub row value
  rw [h]
@[simp] theorem Dev.journal_contacts (d : Dev) (master role op : Nat) (st : Status) (flags index sub row : Nat) (value : List Byte) :
    (d.journal master role op st flags index sub row value).contacts = d.contacts := by
  obtain ⟨r, x, e, j, h⟩ := Dev.journal_shape d master role op st flags index sub row value
  rw [h]
@[simp] theorem Dev.journal_host (d : Dev) (master role op : Nat) (st : Status) (flags index sub row : Nat) (value : List Byte) :
    (d.journal master role op st flags index sub row value).host = d.host := by
  obtain ⟨r, x, e, j, h⟩ := Dev.journal_shape d master role op st flags index sub row value
  rw [h]
@[simp] theorem Dev.journal_cap (d : Dev) (master role op : Nat) (st : Status) (flags index sub row : Nat) (value : List Byte) :
    (d.journal master role op st flags index sub row value).cap = d.cap := by
  obtain ⟨r, x, e, j, h⟩ := Dev.journal_shape d master role op st flags index sub row value
  rw [h]
@[simp] theorem Dev.journal_clk (d : Dev) (master role op : Nat) (st : Status) (flags index sub row : Nat) (value : List Byte) :
    (d.journal master role op st flags index sub row value).clk = d.clk := by
  obtain ⟨r, x, e, j, h⟩ := Dev.journal_shape d master role op st flags index sub row value
  rw [h]
@[simp] theorem Dev.journal_ref (d : Dev) (master role op : Nat) (st : Status) (flags index sub row : Nat) (value : List Byte) :
    (d.journal master role op st flags index sub row value).ref = d.ref := by
  obtain ⟨r, x, e, j, h⟩ := Dev.journal_shape d master role op st flags index sub row value
  rw [h]
@[simp] theorem Dev.journal_tim (d : Dev) (master role op : Nat) (st : Status) (flags index sub row : Nat) (value : List Byte) :
    (d.journal master role op st flags index sub row value).tim = d.tim := by
  obtain ⟨r, x, e, j, h⟩ := Dev.journal_shape d master role op st flags index sub row value
  rw [h]
@[simp] theorem Dev.journal_net (d : Dev) (master role op : Nat) (st : Status) (flags index sub row : Nat) (value : List Byte) :
    (d.journal master role op st flags index sub row value).net = d.net := by
  obtain ⟨r, x, e, j, h⟩ := Dev.journal_shape d master role op st flags index sub row value
  rw [h]
@[simp] theorem Dev.journal_str (d : Dev) (master role op : Nat) (st : Status) (flags index sub row : Nat) (value : List Byte) :
    (d.journal master role op st flags index sub row value).str = d.str := by
  obtain ⟨r, x, e, j, h⟩ := Dev.journal_shape d master role op st flags index sub row value
  rw [h]
@[simp] theorem Dev.journal_dig (d : Dev) (master role op : Nat) (st : Status) (flags index sub row : Nat) (value : List Byte) :
    (d.journal master role op st flags index sub row value).dig = d.dig := by
  obtain ⟨r, x, e, j, h⟩ := Dev.journal_shape d master role op st flags index sub row value
  rw [h]
@[simp] theorem Dev.journal_apt (d : Dev) (master role op : Nat) (st : Status) (flags index sub row : Nat) (value : List Byte) :
    (d.journal master role op st flags index sub row value).apt = d.apt := by
  obtain ⟨r, x, e, j, h⟩ := Dev.journal_shape d master role op st flags index sub row value
  rw [h]
@[simp] theorem Dev.journal_mtx (d : Dev) (master role op : Nat) (st : Status) (flags index sub row : Nat) (value : List Byte) :
    (d.journal master role op st flags index sub row value).mtx = d.mtx := by
  obtain ⟨r, x, e, j, h⟩ := Dev.journal_shape d master role op st flags index sub row value
  rw [h]
@[simp] theorem Dev.journal_lib (d : Dev) (master role op : Nat) (st : Status) (flags index sub row : Nat) (value : List Byte) :
    (d.journal master role op st flags index sub row value).lib = d.lib := by
  obtain ⟨r, x, e, j, h⟩ := Dev.journal_shape d master role op st flags index sub row value
  rw [h]
@[simp] theorem Dev.journal_sup (d : Dev) (master role op : Nat) (st : Status) (flags index sub row : Nat) (value : List Byte) :
    (d.journal master role op st flags index sub row value).sup = d.sup := by
  obtain ⟨r, x, e, j, h⟩ := Dev.journal_shape d master role op st flags index sub row value
  rw [h]
@[simp] theorem Dev.journal_pwr (d : Dev) (master role op : Nat) (st : Status) (flags index sub row : Nat) (value : List Byte) :
    (d.journal master role op st flags index sub row value).pwr = d.pwr := by
  obtain ⟨r, x, e, j, h⟩ := Dev.journal_shape d master role op st flags index sub row value
  rw [h]
@[simp] theorem Dev.journal_alm (d : Dev) (master role op : Nat) (st : Status) (flags index sub row : Nat) (value : List Byte) :
    (d.journal master role op st flags index sub row value).alm = d.alm := by
  obtain ⟨r, x, e, j, h⟩ := Dev.journal_shape d master role op st flags index sub row value
  rw [h]
@[simp] theorem Dev.journal_pair (d : Dev) (master role op : Nat) (st : Status) (flags index sub row : Nat) (value : List Byte) :
    (d.journal master role op st flags index sub row value).pair = d.pair := by
  obtain ⟨r, x, e, j, h⟩ := Dev.journal_shape d master role op st flags index sub row value
  rw [h]
@[simp] theorem Dev.journal_cas (d : Dev) (master role op : Nat) (st : Status) (flags index sub row : Nat) (value : List Byte) :
    (d.journal master role op st flags index sub row value).cas = d.cas := by
  obtain ⟨r, x, e, j, h⟩ := Dev.journal_shape d master role op st flags index sub row value
  rw [h]
@[simp] theorem Dev.journal_mid (d : Dev) (master role op : Nat) (st : Status) (flags index sub row : Nat) (value : List Byte) :
    (d.journal master role op st flags index sub row value).mid = d.mid := by
  obtain ⟨r, x, e, j, h⟩ := Dev.journal_shape d master role op st flags index sub row value
  rw [h]
@[simp] theorem Dev.journal_jtag (d : Dev) (master role op : Nat) (st : Status) (flags index sub row : Nat) (value : List Byte) :
    (d.journal master role op st flags index sub row value).jtag = d.jtag := by
  obtain ⟨r, x, e, j, h⟩ := Dev.journal_shape d master role op st flags index sub row value
  rw [h]
@[simp] theorem Dev.journal_free (d : Dev) (master role op : Nat) (st : Status) (flags index sub row : Nat) (value : List Byte) :
    (d.journal master role op st flags index sub row value).free = d.free := by
  obtain ⟨r, x, e, j, h⟩ := Dev.journal_shape d master role op st flags index sub row value
  rw [h]
@[simp] theorem Dev.journal_out (d : Dev) (master role op : Nat) (st : Status) (flags index sub row : Nat) (value : List Byte) :
    (d.journal master role op st flags index sub row value).out = d.out := by
  obtain ⟨r, x, e, j, h⟩ := Dev.journal_shape d master role op st flags index sub row value
  rw [h]

@[simp] theorem Dev.deviceEvent_time (d : Dev) (code : Nat) (rest : List Byte) :
    (d.deviceEvent code rest).time = d.time := by
  obtain ⟨r, x, e, j, h⟩ := Dev.deviceEvent_shape d code rest
  rw [h]
@[simp] theorem Dev.deviceEvent_pins (d : Dev) (code : Nat) (rest : List Byte) :
    (d.deviceEvent code rest).pins = d.pins := by
  obtain ⟨r, x, e, j, h⟩ := Dev.deviceEvent_shape d code rest
  rw [h]
@[simp] theorem Dev.deviceEvent_mode (d : Dev) (code : Nat) (rest : List Byte) :
    (d.deviceEvent code rest).mode = d.mode := by
  obtain ⟨r, x, e, j, h⟩ := Dev.deviceEvent_shape d code rest
  rw [h]
@[simp] theorem Dev.deviceEvent_island (d : Dev) (code : Nat) (rest : List Byte) :
    (d.deviceEvent code rest).island = d.island := by
  obtain ⟨r, x, e, j, h⟩ := Dev.deviceEvent_shape d code rest
  rw [h]
@[simp] theorem Dev.deviceEvent_boot (d : Dev) (code : Nat) (rest : List Byte) :
    (d.deviceEvent code rest).boot = d.boot := by
  obtain ⟨r, x, e, j, h⟩ := Dev.deviceEvent_shape d code rest
  rw [h]
@[simp] theorem Dev.deviceEvent_contacts (d : Dev) (code : Nat) (rest : List Byte) :
    (d.deviceEvent code rest).contacts = d.contacts := by
  obtain ⟨r, x, e, j, h⟩ := Dev.deviceEvent_shape d code rest
  rw [h]
@[simp] theorem Dev.deviceEvent_host (d : Dev) (code : Nat) (rest : List Byte) :
    (d.deviceEvent code rest).host = d.host := by
  obtain ⟨r, x, e, j, h⟩ := Dev.deviceEvent_shape d code rest
  rw [h]
@[simp] theorem Dev.deviceEvent_cap (d : Dev) (code : Nat) (rest : List Byte) :
    (d.deviceEvent code rest).cap = d.cap := by
  obtain ⟨r, x, e, j, h⟩ := Dev.deviceEvent_shape d code rest
  rw [h]
@[simp] theorem Dev.deviceEvent_clk (d : Dev) (code : Nat) (rest : List Byte) :
    (d.deviceEvent code rest).clk = d.clk := by
  obtain ⟨r, x, e, j, h⟩ := Dev.deviceEvent_shape d code rest
  rw [h]
@[simp] theorem Dev.deviceEvent_ref (d : Dev) (code : Nat) (rest : List Byte) :
    (d.deviceEvent code rest).ref = d.ref := by
  obtain ⟨r, x, e, j, h⟩ := Dev.deviceEvent_shape d code rest
  rw [h]
@[simp] theorem Dev.deviceEvent_tim (d : Dev) (code : Nat) (rest : List Byte) :
    (d.deviceEvent code rest).tim = d.tim := by
  obtain ⟨r, x, e, j, h⟩ := Dev.deviceEvent_shape d code rest
  rw [h]
@[simp] theorem Dev.deviceEvent_net (d : Dev) (code : Nat) (rest : List Byte) :
    (d.deviceEvent code rest).net = d.net := by
  obtain ⟨r, x, e, j, h⟩ := Dev.deviceEvent_shape d code rest
  rw [h]
@[simp] theorem Dev.deviceEvent_str (d : Dev) (code : Nat) (rest : List Byte) :
    (d.deviceEvent code rest).str = d.str := by
  obtain ⟨r, x, e, j, h⟩ := Dev.deviceEvent_shape d code rest
  rw [h]
@[simp] theorem Dev.deviceEvent_dig (d : Dev) (code : Nat) (rest : List Byte) :
    (d.deviceEvent code rest).dig = d.dig := by
  obtain ⟨r, x, e, j, h⟩ := Dev.deviceEvent_shape d code rest
  rw [h]
@[simp] theorem Dev.deviceEvent_apt (d : Dev) (code : Nat) (rest : List Byte) :
    (d.deviceEvent code rest).apt = d.apt := by
  obtain ⟨r, x, e, j, h⟩ := Dev.deviceEvent_shape d code rest
  rw [h]
@[simp] theorem Dev.deviceEvent_mtx (d : Dev) (code : Nat) (rest : List Byte) :
    (d.deviceEvent code rest).mtx = d.mtx := by
  obtain ⟨r, x, e, j, h⟩ := Dev.deviceEvent_shape d code rest
  rw [h]
@[simp] theorem Dev.deviceEvent_lib (d : Dev) (code : Nat) (rest : List Byte) :
    (d.deviceEvent code rest).lib = d.lib := by
  obtain ⟨r, x, e, j, h⟩ := Dev.deviceEvent_shape d code rest
  rw [h]
@[simp] theorem Dev.deviceEvent_sup (d : Dev) (code : Nat) (rest : List Byte) :
    (d.deviceEvent code rest).sup = d.sup := by
  obtain ⟨r, x, e, j, h⟩ := Dev.deviceEvent_shape d code rest
  rw [h]
@[simp] theorem Dev.deviceEvent_pwr (d : Dev) (code : Nat) (rest : List Byte) :
    (d.deviceEvent code rest).pwr = d.pwr := by
  obtain ⟨r, x, e, j, h⟩ := Dev.deviceEvent_shape d code rest
  rw [h]
@[simp] theorem Dev.deviceEvent_alm (d : Dev) (code : Nat) (rest : List Byte) :
    (d.deviceEvent code rest).alm = d.alm := by
  obtain ⟨r, x, e, j, h⟩ := Dev.deviceEvent_shape d code rest
  rw [h]
@[simp] theorem Dev.deviceEvent_pair (d : Dev) (code : Nat) (rest : List Byte) :
    (d.deviceEvent code rest).pair = d.pair := by
  obtain ⟨r, x, e, j, h⟩ := Dev.deviceEvent_shape d code rest
  rw [h]
@[simp] theorem Dev.deviceEvent_cas (d : Dev) (code : Nat) (rest : List Byte) :
    (d.deviceEvent code rest).cas = d.cas := by
  obtain ⟨r, x, e, j, h⟩ := Dev.deviceEvent_shape d code rest
  rw [h]
@[simp] theorem Dev.deviceEvent_mid (d : Dev) (code : Nat) (rest : List Byte) :
    (d.deviceEvent code rest).mid = d.mid := by
  obtain ⟨r, x, e, j, h⟩ := Dev.deviceEvent_shape d code rest
  rw [h]
@[simp] theorem Dev.deviceEvent_jtag (d : Dev) (code : Nat) (rest : List Byte) :
    (d.deviceEvent code rest).jtag = d.jtag := by
  obtain ⟨r, x, e, j, h⟩ := Dev.deviceEvent_shape d code rest
  rw [h]
@[simp] theorem Dev.deviceEvent_free (d : Dev) (code : Nat) (rest : List Byte) :
    (d.deviceEvent code rest).free = d.free := by
  obtain ⟨r, x, e, j, h⟩ := Dev.deviceEvent_shape d code rest
  rw [h]
@[simp] theorem Dev.deviceEvent_out (d : Dev) (code : Nat) (rest : List Byte) :
    (d.deviceEvent code rest).out = d.out := by
  obtain ⟨r, x, e, j, h⟩ := Dev.deviceEvent_shape d code rest
  rw [h]

/-! ### Time -/

/-- A time made from a count of sub-nanoseconds is in range (R6). -/
theorem Tai.ofSub_wf (n : Nat) : (Tai.ofSub n).wf = true := by
  have h1 : n / subPerSec % 2 ^ 48 < 2 ^ 48 := Nat.mod_lt _ (Nat.two_pow_pos 48)
  have h2 : n / 65536 % 1000000000 < 1000000000 := Nat.mod_lt _ (by omega)
  have h3 : n % 65536 < 65536 := Nat.mod_lt _ (by omega)
  unfold Tai.wf Tai.ofSub
  dsimp only
  rw [decide_eq_true h1, decide_eq_true h2, decide_eq_true h3]
  rfl

theorem Tai.addSub_wf (t : Tai) (d : Int) : (t.addSub d).wf = true := Tai.ofSub_wf _

theorem TimeSt.norm_wf (t : TimeSt) : t.norm.tai.wf = true := Tai.ofSub_wf _

/-- A time in range is the time its own count makes. -/
theorem Tai.ofSub_toSub (t : Tai) (h : t.wf = true) : Tai.ofSub t.toSub = t := by
  obtain ⟨a, b, c⟩ := t
  simp only [Tai.wf, Bool.and_eq_true, decide_eq_true_eq] at h
  obtain ⟨⟨h1, h2⟩, h3⟩ := h
  simp only [Tai.ofSub, Tai.toSub, subPerSec, Tai.mk.injEq]
  refine ⟨?_, ?_, ?_⟩ <;> omega

/-- A counter in range is left as it is. -/
theorem TimeSt.norm_of_wf (t : TimeSt) (h : t.tai.wf = true) : t.norm = t := by
  unfold TimeSt.norm
  rw [Tai.ofSub_toSub _ h]

theorem Tai.epoch_wf : Tai.epoch.wf = true := by
  simp [Tai.wf, Tai.epoch]

@[simp] theorem TimeSt.norm_cycles (t : TimeSt) : t.norm.cycles = t.cycles := by unfold TimeSt.norm; rfl
@[simp] theorem TimeSt.norm_frac (t : TimeSt) : t.norm.frac = t.frac := by unfold TimeSt.norm; rfl

/-- One cycle of the clock keeps the TAI counter in range. -/
theorem TimeSt.advance_wf (t : TimeSt) (word : Int) : (t.advance word).tai.wf = true := Tai.addSub_wf _ _

theorem Dev.tick_wf (d : Dev) (h : d.time.tai.wf = true) : d.tick.time.tai.wf = true := by
  unfold Dev.tick
  split
  · exact TimeSt.advance_wf _ _
  · exact h

end Sys2Proof.Machine
end

