-- ==== Sys2Proof/Tests/Slice0.lean ====
section
/-! SUPPORT. Tests/Slice0.lean: states and operands that meet the hypotheses of each statement, terms that each check of `WellFormed` refuses, and
single steps on small states. -/

set_option maxRecDepth 20000
set_option Elab.async false

namespace Sys2Proof.Tests

open Sys2Proof Sys2Proof.Machine Sys2Proof.Claims

/-- A device that runs in a mode, with a host, long after reset. -/
def up (m : Mode) : State :=
  { dev := Dev.wr { pins := { rstN := true, hostRole := true }, mode := { mode := m }
                    time := { tai := ⟨100000, 0, 0⟩, cycles := 10 ^ 14 } } F.GCTL_BOOT_STATUS_BOOT_STEP 10 }

/-- A state with its device changed. -/
def on (s : State) (f : Dev → Dev) : State := { s with dev := f s.dev }

/-- A state with register fields at values. -/
def regs (s : State) (l : List (Fld × Nat)) : State := on s (fun d => l.foldl (fun d x => d.wr x.1 x.2) d)

/-- Nothing outside the device: no oscillator, no firmware, no DRAM. -/
def noInput : BootInput := ⟨0, ⟨[], []⟩, ⟨[], []⟩, 0, false, 0⟩

/-- Bytes with values at offsets, little-endian. -/
def at_ (n : Nat) (l : List (Nat × Nat)) : List Byte := toLE n (l.foldl (fun v x => v + x.2 * 256 ^ x.1) 0)

/-- The signed part of a datagram. -/
def dgHead (kind session seq target : Nat) (body : List Byte) : List Byte :=
  toBE 2 0x4F44 ++ toBE 1 1 ++ toBE 1 kind ++ toBE 4 session ++ toBE 8 seq ++ toBE 2 body.length ++ toBE 2 target ++ body

/-- A datagram with its tag. -/
def dgram (kind session seq target : Nat) (body : List Byte) (tag : Nat) : List Byte :=
  dgHead kind session seq target body ++ toBE 16 tag

/-- The same taken apart. -/
def dgParts (kind session seq target : Nat) (body : List Byte) (tag : Nat) : Dgram :=
  ⟨kind, session, seq, target, body, toBE 16 tag, dgHead kind session seq target body⟩

/-- A PTP message: its type, flags, sender, sequence number and length. -/
def ptpMsg (kind flags clock seq len : Nat) : List Byte :=
  toBE 1 kind ++ toBE 5 0 ++ toBE 2 flags ++ toBE 12 0 ++ toBE 8 clock ++ toBE 2 1 ++ toBE 2 seq ++ toBE (len - 32) 0

/-- A unit of a cascade at a rank, its primary parent at address 7. -/
def cascade (rank : Nat) : State :=
  on (regs (up .solo) [(F.PAIR_CAS_CFG_RANK, rank), (F.NET_CFG_EN.at [0], 1)]) fun d =>
    { d with odp := { d.odp with objs := [(objKey 0x8800 3 0 0, 7 * 2 ^ 128 + 9)] } }

/-- A device with one SAFETY session, in slot 5, its key 32 zero bytes. -/
def sess : Session :=
  { id := 5, keyRow := 0, keyId := 1, role := .safety, source := toBE 16 3, port := .mgt, opened := ⟨0, 0, 0⟩, heard := 10 ^ 14
    key := toBE 32 0 }

/-- A device in a mode with that session. -/
def talk (m : Mode) : State := on (up m) fun d => { d with odp := { d.odp with sessions := [sess] } }

/-- A side of a configured pair in a mode. -/
def pair (m : Mode) : State := regs (up m) [(F.PAIR_CFG_EN, 1)]

/-- A state with one Almanac row, its launch in the past. -/
def almanac (row : Nat) (x : AlmRow) : State := on (up .solo) fun d => { d with alm := { rows := [(row, x)] } }

/-- No step lies between an ingress and a launch 4 s later when the log is empty. -/
theorem no_step (s : State) (p : Nat) (l : s.dev.ref.log = []) (c : s.dev.rdS (F.TIM_PTP_RX_CAL_RX_CAL.at [p]) = 0) :
    s.dev.stepBetween (s.dev.ingress p ⟨5, 0, 0⟩) ⟨9, 0, 0⟩ = false := by
  have b : s.dev.intLat p false < 65536 := by
    simp only [Dev.intLat]
    omega
  simp [Dev.stepBetween, l, Dev.ingress, c, Tai.addSub, Tai.lt, Tai.toSub, Tai.ofSub, subPerSec]
  omega

/-- Hypotheses of SuppliesAndResetPin. -/
theorem witness_SuppliesAndResetPin :
  (∃ s : State, s.dev.pins.supplies = false) ∧
  (∃ s : State, s.dev.pins.supplies = true) ∧
  (∃ s : State, s.dev.pins.supplies = true ∧ s.dev.pins.rstN = true) ∧
  (∃ s : State, ∃ _sel : Fin 4, ∃ _side : Bool, ∃ _host : Bool, ∃ _test : Bool, s.dev.pins.supplies = true ∧ s.dev.pins.rstN = false) :=
  ⟨⟨{ dev := { pins := { supplies := false } } }, by decide +kernel⟩,
   ⟨up .solo, by decide +kernel⟩,
   ⟨up .solo, by decide +kernel⟩,
   ⟨State.reset, 3, true, true, false, by decide +kernel⟩⟩

/-- Hypotheses of PowerUpSequenceSteps. -/
theorem witness_PowerUpSequenceSteps :
  (∃ s : State, ∃ _input : BootInput, s.dev.booting = true ∧ s.dev.nextBootStep = 2 ∧ s.mem.wf = true) ∧
  (∃ s : State, ∃ input : BootInput, s.dev.booting = true ∧ s.dev.nextBootStep = 4 ∧ s.dev.pickImage input.slotA input.slotB = none) ∧
  (∃ s : State, ∃ _input : BootInput, ∃ c : Nat, s.dev.booting = true ∧ s.dev.nextBootStep = 10 ∧ firstCause s.dev.mode.held = some c) ∧
  (∃ s : State, ∃ _input : BootInput, s.dev.booting = true ∧ s.dev.nextBootStep = 10 ∧ firstCause s.dev.mode.held = none ∧ s.dev.boot.configCause ≠ 5) ∧
  (∃ s : State, s.dev.booting = true ∧ s.dev.rd F.GCTL_BOOT_STATUS_BOOT_STEP = 0) :=
  ⟨⟨(regs (up .bootstrap) [(F.GCTL_BOOT_STATUS_BOOT_STEP, 1)]), noInput, by decide +kernel⟩,
   ⟨(regs (up .bootstrap) [(F.GCTL_BOOT_STATUS_BOOT_STEP, 3)]), noInput, by decide +kernel⟩,
   ⟨(on ((regs (up .bootstrap) [(F.GCTL_BOOT_STATUS_BOOT_STEP, 9)])) fun d => { d with mode := { d.mode with held := [0x09, 0x16] } }), noInput, 0x16, by decide +kernel⟩,
   ⟨(regs (up .bootstrap) [(F.GCTL_BOOT_STATUS_BOOT_STEP, 9)]), noInput, by decide +kernel⟩,
   ⟨(regs (up .bootstrap) [(F.GCTL_BOOT_STATUS_BOOT_STEP, 0)]), by decide +kernel⟩⟩

/-- Hypotheses of InternalResetsAndPairStart. -/
theorem witness_InternalResetsAndPairStart :
  (∃ s : State, ∃ _low : Bool, ∃ since : Nat, s.dev.boot.pairWait = some since ∧ s.dev.alive = true ∧ s.dev.past since 2000 = true ∧ (s.dev.mode.mode = .bootstrap → firstCause s.dev.mode.held = none)) ∧
  (∃ s : State, s.dev.alive = true) ∧
  (∃ s : State, ∃ since : Nat, s.dev.alive = true ∧ s.dev.mode.mode = .safeHold ∧ s.dev.mode.decided = none ∧ s.dev.mode.cause ≠ 0x02 ∧ s.dev.mode.clearSince = some since ∧ s.dev.past since 10000 = true ∧ s.dev.mode.spent = false ∧ s.dev.obj 0x1041 0 0 1 = 1 ∧ s.dev.mode.restarts.length < 3) ∧
  (∃ s : State, ∃ _low : Bool, ∃ cause : Nat, ∃ master : Nat, s.dev.alive = true ∧ s.dev.mode.decided = some ⟨.reset, cause, master⟩) :=
  ⟨⟨(on (up .bootstrap) fun d => { d with boot := { d.boot with pairWait := some 7 } }), false, 7, by decide +kernel⟩,
   ⟨up .safeHold, by decide +kernel⟩,
   ⟨(on (up .safeHold) fun d => { d with mode := { d.mode with cause := 9, clearSince := some 5, restarts := [1, 2] }, odp := { d.odp with objs := [(objKey 0x1041 0 0 0, 1)] } }), 5, by decide +kernel⟩,
   ⟨(on (up .solo) fun d => { d with mode := { d.mode with decided := some ⟨.reset, 2, 1⟩ } }), true, 2, 1, by decide +kernel⟩⟩

/-- Hypotheses of RequestsIslandAndLimits. -/
theorem witness_RequestsIslandAndLimits :
  (∃ s : State, ∃ row : Fin 4096, ∃ value : Byte, ∃ x : AlmRow, ∃ at_ : Tai, s.dev.booted = true ∧ s.dev.almRow row = some x ∧ x.state = 4 ∧ x.inst = some at_ ∧ at_.le s.dev.time.tai = true ∧ x.modeAsked = some value.toNat ∧ requestable ((11 : Byte).toNat % 16) = some .safeHold ∧ s.dev.mode.mode ≠ .safeHold ∧ s.dev.judgeRequest (11 : Byte).toNat ((roleOf 3).getD .observer) = .ok) ∧
  (∃ s : State, s.dev.booted = true ∧ s.dev.mode.mode.netServes = true ∧ s.dev.island.islanded = false ∧ s.dev.past s.dev.island.heard (s.dev.lanternDetect * 1000) = true ∧ s.dev.mode.mode = .solo ∧ s.dev.obj 0x1030 3 0 1 = 1 ∧ s.dev.mode.decided = none) ∧
  (∃ s : State, ∃ since : Nat, s.dev.booted = true ∧ s.dev.mode.mode = .lantern ∧ s.dev.island.islanded = false ∧ s.dev.mode.decided = none ∧ s.dev.island.clearAt = some since ∧ s.dev.lanternReturn ≠ 0 ∧ s.dev.past since (s.dev.lanternReturn * 1000) = true) ∧
  (∃ s : State, ∃ _gpio : Fin 16, ∃ _level : Bool, s.dev.booted = true ∧ s.dev.mode.mode ≠ .lantern) ∧
  (∃ s : State, ∃ gpio : Fin 16, ∃ level : Bool, s.dev.booted = true ∧ s.dev.mode.mode = .lantern ∧ s.dev.trigger gpio 1 = 1 ∧ s.dev.trigger gpio 3 = 1 ∧ (s.dev.contacts.get {} gpio).closed = true ∧ (level == (s.dev.trigger gpio 2 == 1)) = false) ∧
  (∃ s : State, ∃ rail : Bool, s.dev.alive = true ∧ (rail = true ∨ 10 ≤ s.dev.pwr.hot) ∧ s.dev.mode.mode ≠ .safeHold ∧ s.dev.mode.mode ≠ .bootstrap ∧ s.dev.mode.decided = none) :=
  ⟨⟨(on (up .solo) fun d => { d with alm := { rows := [(9, { bytes := at_ 128 [(12, 10), (60, 11)], role := 3, state := 4, inst := some ⟨100000, 0, 0⟩ })] } }), 9, 11, { bytes := at_ 128 [(12, 10), (60, 11)], role := 3, state := 4, inst := some ⟨100000, 0, 0⟩ }, ⟨100000, 0, 0⟩, by decide +kernel⟩,
   ⟨(on (up .solo) fun d => { d with odp := { d.odp with objs := [(objKey 0x1030 3 0 0, 1)] } }), by decide +kernel⟩,
   ⟨(on (up .lantern) fun d => { d with island := { d.island with clearAt := some 3 } }), 3, by decide +kernel⟩,
   ⟨up .solo, 15, true, by decide +kernel⟩,
   ⟨(on (up .lantern) fun d => { d with contacts := [(2, { closed := true })], odp := { d.odp with objs := [(objKey 0x1031 1 2 0, 1), (objKey 0x1031 2 2 0, 1), (objKey 0x1031 3 2 0, 1)] } }), 2, false, by decide +kernel⟩,
   ⟨(on (up .solo) fun d => { d with pwr := { d.pwr with hot := 10 } }), false, by decide +kernel⟩⟩

/-- Hypotheses of RootClockAndItsBackup. -/
theorem witness_RootClockAndItsBackup :
  (∃ s : State, ∃ _xo : Bool, s.dev.alive = true ∧ s.dev.on F.CLK_ROOT_STATUS_ROOT_LOCKED = true ∧ s.dev.on F.CLK_ROOT_STATUS_BACKUP_FAULT = false ∧ s.dev.mode.mode ≠ .bootstrap ∧ s.dev.mode.mode ≠ .safeHold ∧ s.dev.mode.decided = none) ∧
  (∃ s : State, s.dev.alive = true ∧ s.dev.clk.heldInReset = false ∧ s.dev.on F.CLK_ROOT_STATUS_ROOT_LOCKED = false ∧ s.dev.mode.mode = .safeHold ∧ s.dev.mode.cause = 0x06 ∧ s.dev.mode.clearSince = none) ∧
  (∃ s : State, s.dev.pins.supplies = true ∧ s.dev.clk.heldInReset = true) ∧
  (∃ s : State, ∃ offset : Int, ∃ _trimmed : Bool, s.dev.alive = true ∧ s.dev.on F.CLK_ROOT_STATUS_ROOT_LOCKED = true ∧ -32768 ≤ offset ∧ offset ≤ 32767) :=
  ⟨⟨(regs (up .solo) [(F.CLK_ROOT_STATUS_ROOT_LOCKED, 1)]), true, by decide +kernel⟩,
   ⟨(on (up .safeHold) fun d => { d with mode := { d.mode with cause := 6 } }), by decide +kernel⟩,
   ⟨(on (up .reset) fun d => { d with clk := { d.clk with heldInReset := true } }), by decide +kernel⟩,
   ⟨(regs (up .solo) [(F.CLK_ROOT_STATUS_ROOT_LOCKED, 1)]), -32768, false, by decide +kernel⟩⟩

/-- Hypotheses of SynthesizersAndOutputs. -/
theorem witness_SynthesizersAndOutputs :
  (∃ s : State, ∃ n : Fin 4, s.dev.alive = true ∧ s.dev.on (F.CLK_SYN_STATUS_LOCKED.at [n]) = true ∧ 7 ∈ s.dev.outputsOf 3) ∧
  (∃ s : State, ∃ _n : Fin 4, s.dev.alive = true ∧ s.dev.on F.CLK_ROOT_STATUS_ON_BACKUP = false) ∧
  (∃ s : State, ∃ n : Fin 4, s.dev.alive = true ∧ s.dev.on (F.CLK_SYN_STATUS_LOCKED.at [n]) = true ∧ s.dev.alignDue n = true) ∧
  (∃ s : State, ∃ n : Fin 8, s.dev.alive = true ∧ s.dev.outService = true ∧ s.dev.startDue n = true ∧ s.dev.on (F.CLK_OUT_CFG_EN.at [n]) = true ∧ s.dev.on (F.CLK_SYN_STATUS_ALIGNED.at [s.dev.rd (F.CLK_OUT_CFG_SRC.at [n])]) = true ∧ s.dev.on (F.CLK_OUT_CFG_WAIT_DLL.at [n]) = false) ∧
  (∃ s : State, ∃ n : Fin 8, ∃ v : BitVec 24, s.dev.alive = true ∧ s.dev.clk.pend = [((F.CLK_OUT_DIV_DIV.at [n]).key, v.toNat)] ∧ s.dev.switchAt ≤ s.dev.time.tai.toSub) :=
  ⟨⟨(regs (up .solo) [(F.CLK_SYN_STATUS_LOCKED.at [3], 1), (F.CLK_OUT_CFG_EN.at [7], 1), (F.CLK_OUT_CFG_SRC.at [7], 3)]), 3, by decide +kernel⟩,
   ⟨up .solo, 3, by decide +kernel⟩,
   ⟨(on ((regs (up .solo) [(F.CLK_SYN_STATUS_LOCKED.at [3], 1)])) fun d => { d with clk := { d.clk with locked := [(3, ⟨99990, 0, 0⟩)] } }), 3, by decide +kernel⟩,
   ⟨(on ((regs (up .solo) [(F.CLK_SYN_STATUS_ALIGNED.at [3], 1), (F.CLK_OUT_CFG_EN.at [7], 1), (F.CLK_OUT_CFG_SRC.at [7], 3)])) fun d => { d with clk := { d.clk with waiting := [(7, ⟨99990, 0, 0⟩)] } }), 7, by decide +kernel⟩,
   ⟨(on (up .solo) fun d => { d with clk := { d.clk with pend := [((F.CLK_OUT_DIV_DIV.at [7]).key, 5)] } }), 7, 5, by decide +kernel⟩⟩

/-- Hypotheses of DelayLockedLines. -/
theorem witness_DelayLockedLines :
  (∃ s : State, ∃ k : Fin 2, ∃ loop : BitVec 16, s.dev.alive = true ∧ s.dev.on (F.CLK_DLL_CFG_EN.at [k]) = true ∧ s.dev.on (F.CLK_DLL_STATUS_FB_LOST.at [k]) = false ∧ s.dev.dllMeasures k = true ∧ s.dev.dllNeed k loop.toNat ≤ 1536) ∧
  (∃ s : State, ∃ k : Fin 2, ∃ loop : BitVec 16, s.dev.alive = true ∧ s.dev.on (F.CLK_DLL_CFG_EN.at [k]) = true ∧ s.dev.on (F.CLK_DLL_STATUS_FB_LOST.at [k]) = false ∧ s.dev.dllMeasures k = true ∧ 1536 < s.dev.dllNeed k loop.toNat) ∧
  (∃ s : State, ∃ k : Fin 2, ∃ _loop : BitVec 16, s.dev.alive = true ∧ s.dev.on (F.CLK_DLL_CFG_EN.at [k]) = true ∧ s.dev.on (F.CLK_DLL_STATUS_LOCKED.at [k]) = true ∧ s.dev.on (F.CLK_DLL_STATUS_FB_LOST.at [k]) = false ∧ s.dev.rd (F.CLK_DLL_STATUS_DELAY.at [k]) ≤ 1536 ∧ s.dev.rd (F.CLK_DLL_STATUS_DELAY.at [1]) < s.dev.dllNeed 1 1 ∧ s.dev.rd (F.CLK_DLL_STATUS_DELAY.at [1]) < 1536) ∧
  (∃ s : State, ∃ k : Fin 2, s.dev.alive = true ∧ s.dev.on (F.CLK_DLL_CFG_EN.at [k]) = true) ∧
  (∃ s : State, ∃ k : Fin 2, s.dev.alive = true ∧ s.dev.on (F.CLK_DLL_CFG_EN.at [k]) = true) :=
  ⟨⟨(regs (up .solo) [(F.CLK_DLL_CFG_EN.at [1], 1)]), 1, 0, by decide +kernel⟩,
   ⟨(regs (up .solo) [(F.CLK_DLL_CFG_EN.at [1], 1)]), 1, 1, by decide +kernel⟩,
   ⟨(regs (up .solo) [(F.CLK_DLL_CFG_EN.at [1], 1), (F.CLK_DLL_STATUS_LOCKED.at [1], 1), (F.CLK_DLL_STATUS_DELAY.at [1], 1535)]), 1, 1, by decide +kernel⟩,
   ⟨(regs (up .solo) [(F.CLK_DLL_CFG_EN.at [1], 1)]), 1, by decide +kernel⟩,
   ⟨(regs (up .solo) [(F.CLK_DLL_CFG_EN.at [1], 1)]), 1, by decide +kernel⟩⟩

/-- Hypotheses of LoopTickMovesTaiOnlyBySelection. -/
theorem witness_LoopTickMovesTaiOnlyBySelection :
  (∃ s : State, ∃ _edges : BitVec 16, ∃ _ferr : Int, ∃ _perr : Int, s.dev.loopRuns = true ∧ s.dev.time.tai.wf = true ∧ s.dev.follows = false ∧ s.dev.ref.choice.time = none) ∧
  (∃ s : State, ∃ _edges : BitVec 16, ∃ _ferr : Int, ∃ _perr : Int, s.dev.loopRuns = true ∧ s.dev.time.tai.wf = true ∧ s.dev.follows = false ∧ s.dev.rd F.REF_LOOP_CFG_LOOP_MODE ≠ 1 ∧ s.dev.ref.choice.time = some 4 ∧ s.dev.ref.choice.delta = some 7) ∧
  (∃ s : State, ∃ _edges : BitVec 16, ∃ _ferr : Int, ∃ _perr : Int, s.dev.loopRuns = true ∧ s.dev.time.tai.wf = true ∧ s.dev.follows = true ∧ s.dev.on F.REF_SEL_STATUS_TIME_VALID = true ∧ s.dev.ref.due = none) ∧
  (∃ s : State, ∃ _edges : BitVec 16, ∃ _ferr : Int, ∃ _perr : Int, s.dev.loopRuns = true ∧ s.dev.time.tai.wf = true ∧ s.dev.follows = true ∧ s.dev.on F.REF_SEL_STATUS_TIME_VALID = true ∧ s.dev.ref.due = some (5, 7)) ∧
  (∃ s : State, ∃ _edges : BitVec 16, ∃ _ferr : Int, ∃ _perr : Int, s.dev.loopRuns = true ∧ s.dev.time.tai.wf = true ∧ s.dev.follows = true ∧ s.dev.on F.REF_SEL_STATUS_TIME_VALID = false ∧ s.dev.pair.setTai = some ⟨7, 8, 9⟩ ∧ (⟨7, 8, 9⟩ : Tai).wf = true) ∧
  (∃ s : State, ∃ _edges : BitVec 16, ∃ _ferr : Int, ∃ _perr : Int, s.dev.loopRuns = true ∧ s.dev.time.tai.wf = true ∧ s.dev.follows = true ∧ s.dev.on F.REF_SEL_STATUS_TIME_VALID = false ∧ s.dev.pair.setTai = none ∧ s.dev.rd F.REF_LOOP_CFG_LOOP_MODE ≠ 1 ∧ s.dev.ref.choice.time = some 4 ∧ s.dev.ref.choice.delta = some 7) :=
  ⟨⟨up .solo, 0, 0, 0, by decide +kernel⟩,
   ⟨(on ((regs (up .solo) [(F.REF_SEL_STATUS_TIME_VALID, 1)])) fun d => { d with ref := { d.ref with choice := { time := some 4, delta := some 7 } } }), 0, 0, 0, by decide +kernel⟩,
   ⟨(regs (pair .marionette) [(F.REF_SEL_STATUS_TIME_VALID, 1)]), 0, 0, 0, by decide +kernel⟩,
   ⟨(on ((regs (pair .marionette) [(F.REF_SEL_STATUS_TIME_VALID, 1)])) fun d => { d with ref := { d.ref with due := some (5, 7) } }), 0, 0, 0, by decide +kernel⟩,
   ⟨(on (pair .marionette) fun d => { d with pair := { d.pair with setTai := some ⟨7, 8, 9⟩ } }), 0, 0, 0, by decide +kernel⟩,
   ⟨(on ((regs (pair .marionette) [])) fun d => { d with ref := { d.ref with choice := { time := some 4, delta := some 7 } } }), 0, 0, 0, by decide +kernel⟩⟩

/-- Hypotheses of SlotMonitorsAndQualification. -/
theorem witness_SlotMonitorsAndQualification :
  (∃ s : State, ∃ _ppt : List Int, ∃ n : Fin 16, s.dev.booted = true ∧ s.dev.slotState n ≠ 0 ∧ s.dev.on (F.REF_SLOT_STATUS_ACTIVITY.at [n]) = true) ∧
  (∃ s : State, ∃ n : Fin 16, s.dev.booted = true ∧ (s.dev.slotState n = 2 ∨ s.dev.slotState n = 3 ∨ s.dev.slotState n = 4) ∧ s.dev.pulsesMissing n = true) ∧
  (∃ s : State, ∃ n : Fin 16, s.dev.booted = true ∧ (s.dev.slotState n = 2 ∨ s.dev.slotState n = 3 ∨ s.dev.slotState n = 4) ∧ s.dev.pulsesMissing n = true) ∧
  (∃ s : State, ∃ n : Fin 16, s.dev.booted = true ∧ (s.dev.slotState n = 2 ∨ s.dev.slotState n = 3 ∨ s.dev.slotState n = 4) ∧ s.dev.pulsesMissing n = true) ∧
  (∃ s : State, ∃ n : Fin 16, s.dev.booted = true ∧ s.dev.slotState n = 2 ∧ (s.dev.slot n).failed = false ∧ s.dev.past (s.dev.slot n).winStart s.dev.qualWinMs = true) ∧
  (∃ s : State, ∃ n : Fin 16, s.dev.booted = true ∧ s.dev.slotState n = 4 ∧ s.dev.past (s.dev.slot n).wtrStart (1000 * s.dev.rd F.REF_QUAL_CFG_WTR) = true ∧ ((s.dev.slot n).updated = true ∨ s.dev.rd F.REF_QUAL_CFG_WTR ≠ 0) ∧ s.dev.passedWindow 15 = true) ∧
  (∃ s : State, ∃ n : Fin 16, s.dev.booted = true ∧ s.dev.slotState n = 4 ∧ s.dev.past (s.dev.slot n).wtrStart (1000 * s.dev.rd F.REF_QUAL_CFG_WTR) = true ∧ ((s.dev.slot n).updated = true ∨ s.dev.rd F.REF_QUAL_CFG_WTR ≠ 0) ∧ s.dev.passedWindow 15 = false) :=
  ⟨⟨(regs (up .solo) [(F.REF_SLOT_STATUS_STATE.at [14], 3), (F.REF_SLOT_STATUS_ACTIVITY.at [14], 1)]), [], 14, by decide +kernel⟩,
   ⟨(regs (up .solo) [(F.REF_SLOT_STATUS_STATE.at [15], 2)]), 15, by decide +kernel⟩,
   ⟨(regs (up .solo) [(F.REF_SLOT_STATUS_STATE.at [15], 3)]), 15, by decide +kernel⟩,
   ⟨(regs (up .solo) [(F.REF_SLOT_STATUS_STATE.at [15], 4)]), 15, by decide +kernel⟩,
   ⟨(regs (up .solo) [(F.REF_SLOT_STATUS_STATE.at [15], 2)]), 15, by decide +kernel⟩,
   ⟨(regs (up .solo) [(F.REF_SLOT_STATUS_STATE.at [15], 4)]), 15, by decide +kernel⟩,
   ⟨(on ((regs (up .solo) [(F.REF_SLOT_STATUS_STATE.at [15], 4)])) fun d => { d with ref := { d.ref with slots := [(15, { lastFail := some (10 ^ 14) })] } }), 15, by decide +kernel⟩⟩

/-- Hypotheses of PulsesSentencesAndGates. -/
theorem witness_PulsesSentencesAndGates :
  (∃ s : State, ∃ n : Fin 5, ∃ _stamp : Tai, n.val < 4 ∧ s.dev.booted = true ∧ s.dev.on (F.REF_SLOT_CFG_EN.at [n]) = true ∧ s.dev.pulseSlot n = true) ∧
  (∃ s : State, ∃ _utc : Nat, ∃ leap : Bool, s.dev.booted = true ∧ s.dev.secondOk leap = true ∧ s.dev.ref.gnss.rmc = none) ∧
  (∃ s : State, ∃ _utc : Nat, s.dev.booted = true ∧ s.dev.ref.gnss.rmc = none) ∧
  (∃ s : State, s.dev.booted = true) ∧
  (∃ s : State, s.dev.booted = true) ∧
  (∃ s : State, ∃ _p : Fin 4, s.dev.booted = true) :=
  ⟨⟨(regs (up .solo) [(F.REF_SLOT_CFG_EN.at [3], 1), (F.REF_SLOT_CFG_TYPE.at [3], 1)]), 3, ⟨5, 500000000, 0⟩, by decide +kernel⟩,
   ⟨up .solo, 1, false, by decide +kernel⟩,
   ⟨up .solo, 1, by decide +kernel⟩,
   ⟨up .solo, by decide +kernel⟩,
   ⟨up .solo, by decide +kernel⟩,
   ⟨up .solo, 3, by decide +kernel⟩⟩

/-- Hypotheses of HoldoverModelAndTimer. -/
theorem witness_HoldoverModelAndTimer :
  (∃ s : State, s.dev.booted = true ∧ s.dev.ref.learn.clean = true ∧ 0 < s.dev.ref.learn.ticks ∧ s.dev.learning = true) ∧
  (∃ s : State, s.dev.booted = true ∧ s.dev.learning = false) ∧
  (∃ s : State, s.dev.booted = true ∧ s.dev.pins.mramInhibit = false ∧ s.dev.past s.dev.ref.learn.kept 3600000 = true) ∧
  (∃ s : State, s.dev.booted = true ∧ s.dev.tpath = 3 ∧ s.dev.remaining = 0) :=
  ⟨⟨(on ((regs (up .solo) [(F.REF_SEL_STATUS_FPATH_STATE, 2)])) fun d => { d with ref := { d.ref with learn := { d.ref.learn with ticks := 64, sum := 128 } } }), by decide +kernel⟩,
   ⟨up .solo, by decide +kernel⟩,
   ⟨up .solo, by decide +kernel⟩,
   ⟨(regs (up .solo) [(F.REF_SEL_STATUS_TPATH_STATE, 3)]), by decide +kernel⟩⟩

/-- Hypotheses of PulsesAndReferenceCommands. -/
theorem witness_PulsesAndReferenceCommands :
  (∃ s : State, ∃ n : Fin 4, s.dev.booted = true ∧ s.dev.on (F.REF_PULSE_CFG_EN.at [n]) = true ∧ s.dev.on F.REF_SEL_STATUS_TIME_VALID = true ∧ (s.dev.pulseSt n).realignAt = none ∧ ((s.dev.pulseSt n).last = none → ((s.dev.pulseSt n).enabledAt.addNs 1000000).le (s.dev.pulseEdge n) = true) ∧ (∀ e, (s.dev.pulseSt n).last = some e → e.lt (s.dev.pulseEdge n) = true) ∧ (s.dev.pulseSt 3).last = none) ∧
  (∃ s : State, ∃ n : Fin 4, s.dev.booted = true ∧ s.dev.on (F.REF_PULSE_CFG_EN.at [n]) = true ∧ s.dev.on F.REF_SEL_STATUS_TIME_VALID = true ∧ (s.dev.pulseSt n).realignAt = none ∧ ((s.dev.pulseSt n).last = none → ((s.dev.pulseSt n).enabledAt.addNs 1000000).le (s.dev.pulseEdge n) = true) ∧ (∀ e, (s.dev.pulseSt n).last = some e → e.lt (s.dev.pulseEdge n) = true) ∧ (s.dev.pulseSt 3).last = some ⟨99990, 0, 0⟩) ∧
  (∃ s : State, ∃ n : Fin 4, ∃ c : Tai, ∃ e : Tai, s.dev.booted = true ∧ s.dev.on (F.REF_PULSE_CFG_EN.at [n]) = true ∧ s.dev.on F.REF_SEL_STATUS_TIME_VALID = true ∧ (s.dev.pulseSt n).realignAt = some c ∧ (s.dev.pulseSt n).last = some e ∧ (c.addNs 1000000).le (s.dev.pulseEdge n) = true ∧ (e.addSub (s.dev.pulsePeriod n / 2 * 4096 : Nat)).le (s.dev.pulseEdge n) = true) ∧
  (∃ s : State, ∃ n : Fin 4, ∃ c : Tai, (s.dev.pulseSt n).realignAt = some c ∧ (c.addNs 1000000).le (s.dev.pulseEdge n) = false) ∧
  (∃ s : State, ∃ mask : BitVec 4, ∃ n : Fin 4, s.dev.booted = true ∧ bitAt mask.toNat n = true ∧ s.dev.on (F.REF_PULSE_CFG_EN.at [n]) = true) ∧
  (∃ s : State, ∃ _word : BitVec 48, s.dev.booted = true) ∧
  (∃ s : State, ∃ word : BitVec 48, s.dev.booted = true ∧ ncoLimit < word.toInt) ∧
  (∃ s : State, ∃ mask : BitVec 16, ∃ n : Fin 5, s.dev.booted = true ∧ bitAt mask.toNat n = true) ∧
  (∃ s : State, ∃ mask : BitVec 16, ∃ n : Fin 16, s.dev.booted = true ∧ bitAt mask.toNat n = true) :=
  ⟨⟨(on ((regs (up .solo) [(F.REF_PULSE_CFG_EN.at [3], 1), (F.REF_SEL_STATUS_TIME_VALID, 1)])) fun d => { d with ref := { d.ref with pulses := [(3, {})] } }), 3, by decide +kernel⟩,
   ⟨(on ((regs (up .solo) [(F.REF_PULSE_CFG_EN.at [3], 1), (F.REF_SEL_STATUS_TIME_VALID, 1)])) fun d => { d with ref := { d.ref with pulses := [(3, { last := some ⟨99990, 0, 0⟩ })] } }), 3, by decide +kernel⟩,
   ⟨(on ((regs (up .solo) [(F.REF_PULSE_CFG_EN.at [3], 1), (F.REF_SEL_STATUS_TIME_VALID, 1)])) fun d => { d with ref := { d.ref with pulses := [(3, { last := some ⟨99990, 0, 0⟩, realignAt := some ⟨99991, 0, 0⟩ })] } }), 3, ⟨99991, 0, 0⟩, ⟨99990, 0, 0⟩, by decide +kernel⟩,
   ⟨(on ((regs (up .solo) [(F.REF_PULSE_CFG_EN.at [3], 1), (F.REF_SEL_STATUS_TIME_VALID, 1)])) fun d => { d with ref := { d.ref with pulses := [(3, { realignAt := some ⟨200000, 0, 0⟩ })] } }), 3, ⟨200000, 0, 0⟩, by decide +kernel⟩,
   ⟨(regs (up .solo) [(F.REF_PULSE_CFG_EN.at [3], 1)]), 8, 3, by decide +kernel⟩,
   ⟨up .solo, 0x7FFFFFFFFFFF, by decide +kernel⟩,
   ⟨up .solo, 0x7FFFFFFFFFFF, by decide +kernel⟩,
   ⟨up .solo, 0x10, 4, by decide +kernel⟩,
   ⟨up .solo, 0x8000, 15, by decide +kernel⟩⟩

/-- Hypotheses of ErrorBoundIsTheSumOfItsTerms. -/
theorem witness_ErrorBoundIsTheSumOfItsTerms :
  (∃ s : State, s.dev.booted = true ∧ s.dev.on F.REF_SEL_STATUS_TIME_VALID = true ∧ s.dev.clk.rootLost = false) ∧
  (∃ s : State, s.dev.booted = true ∧ s.dev.on F.REF_SEL_STATUS_TIME_VALID = false) :=
  ⟨⟨(regs (up .solo) [(F.REF_SEL_STATUS_TIME_VALID, 1)]), by decide +kernel⟩,
   ⟨up .solo, by decide +kernel⟩⟩

/-- Hypotheses of LeapEvents. -/
theorem witness_LeapEvents :
  (∃ s : State, ∃ deletion : Bool, ∃ a : Tai, s.dev.booted = true ∧ a.ns = 0 ∧ s.dev.leapRefused a.sec deletion false = false) ∧
  (∃ s : State, ∃ deletion : Bool, ∃ a : Tai, s.dev.booted = true ∧ a.ns = 0 ∧ s.dev.leapRefused a.sec deletion false = false) ∧
  (∃ s : State, ∃ deletion : Bool, ∃ a : Tai, s.dev.booted = true ∧ (a.ns ≠ 0 ∨ s.dev.leapRefused a.sec deletion false = true)) ∧
  (∃ s : State, ∃ deletion : Bool, ∃ a : Tai, s.dev.booted = true ∧ (a.ns ≠ 0 ∨ s.dev.leapRefused a.sec deletion false = true)) ∧
  (∃ s : State, ∃ l : Leap, s.dev.booted = true ∧ s.dev.tim.leap = some l ∧ s.dev.cancelTooLate = false) ∧
  (∃ s : State, s.dev.cancelTooLate = true) ∧
  (∃ s : State, ∃ l : Leap, s.dev.booted = true ∧ s.dev.tim.leap = some l ∧ l.stepped = false ∧ l.at_ = s.dev.time.tai.sec) ∧
  (∃ s : State, ∃ l : Leap, s.dev.booted = true ∧ s.dev.tim.leap = some l ∧ l.stepped = true ∧ l.at_ + 1 ≤ s.dev.time.tai.sec) :=
  ⟨⟨up .solo, false, ⟨1719792037, 0, 0⟩, by decide +kernel⟩,
   ⟨up .solo, true, ⟨1719792036, 0, 0⟩, by decide +kernel⟩,
   ⟨up .solo, false, ⟨100001, 0, 0⟩, by decide +kernel⟩,
   ⟨up .solo, false, ⟨1719792037, 1, 0⟩, by decide +kernel⟩,
   ⟨(on (up .solo) fun d => { d with tim := { d.tim with leap := some ⟨100002, 37, 38, false, false⟩ } }), ⟨100002, 37, 38, false, false⟩, by decide +kernel⟩,
   ⟨(on (up .solo) fun d => { d with tim := { d.tim with leap := some ⟨100001, 37, 38, false, false⟩ } }), by decide +kernel⟩,
   ⟨(on (up .solo) fun d => { d with tim := { d.tim with leap := some ⟨100000, 37, 38, false, false⟩ } }), ⟨100000, 37, 38, false, false⟩, by decide +kernel⟩,
   ⟨(on (up .solo) fun d => { d with tim := { d.tim with leap := some ⟨99999, 37, 38, false, true⟩ } }), ⟨99999, 37, 38, false, true⟩, by decide +kernel⟩⟩

/-- Hypotheses of PtpReception. -/
theorem witness_PtpReception :
  (∃ s : State, ∃ p : Fin 4, ∃ _management : Bool, s.dev.booted = true ∧ 4 ≤ s.dev.ptpState p) :=
  ⟨(regs (up .solo) [(F.TIM_PTP_STATUS_PORT_STATE.at [3], 4)]), 3, true, by decide +kernel⟩

/-- Hypotheses of PtpTransmissionAndTimeouts. -/
theorem witness_PtpTransmissionAndTimeouts :
  (∃ s : State, ∃ p : Fin 4, s.dev.booted = true ∧ s.dev.mastersOn p = true ∧ s.dev.standby = false ∧ s.dev.on F.REF_SEL_STATUS_TIME_VALID = true) ∧
  (∃ s : State, ∃ p : Fin 4, ∃ _launch : Tai, s.dev.booted = true ∧ s.dev.mastersOn p = true ∧ s.dev.standby = false ∧ s.dev.on (F.TIM_PTP_CFG_ONE_STEP.at [p]) = false) ∧
  (∃ s : State, ∃ p : Fin 4, ∃ _launch : Tai, s.dev.booted = true ∧ s.dev.mastersOn p = true ∧ s.dev.standby = false ∧ s.dev.on (F.TIM_PTP_CFG_ONE_STEP.at [p]) = true) ∧
  (∃ s : State, ∃ p : Fin 4, ∃ _launch : Tai, s.dev.booted = true ∧ (s.dev.ptpState p = 8 ∨ s.dev.ptpState p = 9)) ∧
  (∃ s : State, ∃ p : Fin 4, ∃ _launch : Tai, s.dev.booted = true ∧ (s.dev.ptpState p = 8 ∨ s.dev.ptpState p = 9)) ∧
  (∃ s : State, ∃ p : Fin 4, s.dev.booted = true ∧ (s.dev.ptpState p = 8 ∨ s.dev.ptpState p = 9)) ∧
  (∃ s : State, ∃ p : Fin 4, s.dev.booted = true ∧ (s.dev.ptpState p = 8 ∨ s.dev.ptpState p = 9)) ∧
  (∃ s : State, ∃ p : Fin 4, s.dev.booted = true ∧ s.dev.ptpState p = 5 ∧ s.dev.masterMode = true) :=
  ⟨⟨(regs (up .solo) [(F.TIM_PTP_STATUS_PORT_STATE.at [3], 6), (F.REF_SEL_STATUS_TIME_VALID, 1)]), 3, by decide +kernel⟩,
   ⟨(regs (up .solo) [(F.TIM_PTP_STATUS_PORT_STATE.at [3], 6), (F.REF_SEL_STATUS_TIME_VALID, 1)]), 3, ⟨1, 0, 0⟩, by decide +kernel⟩,
   ⟨(regs (up .solo) [(F.TIM_PTP_STATUS_PORT_STATE.at [3], 6), (F.TIM_PTP_CFG_ONE_STEP.at [3], 1)]), 3, ⟨1, 0, 0⟩, by decide +kernel⟩,
   ⟨(regs (up .solo) [(F.TIM_PTP_STATUS_PORT_STATE.at [3], 8)]), 3, ⟨1, 0, 0⟩, by decide +kernel⟩,
   ⟨(regs (up .solo) [(F.TIM_PTP_STATUS_PORT_STATE.at [3], 9)]), 3, ⟨1, 0, 0⟩, by decide +kernel⟩,
   ⟨(regs (up .solo) [(F.TIM_PTP_STATUS_PORT_STATE.at [3], 8)]), 3, by decide +kernel⟩,
   ⟨(regs (up .solo) [(F.TIM_PTP_STATUS_PORT_STATE.at [0], 9)]), 0, by decide +kernel⟩,
   ⟨(regs (up .solo) [(F.TIM_PTP_STATUS_PORT_STATE.at [3], 5)]), 3, by decide +kernel⟩⟩

/-- Hypotheses of NtpKeysAndCaptures. -/
theorem witness_NtpKeysAndCaptures :
  (∃ s : State, ∃ p : Fin 4, ∃ source : List Byte, ∃ packet : List Byte, ∃ detected : Tai, ∃ launch : Tai, s.dev.booted = true ∧ s.dev.ntpAnswers = true ∧ packet.length = 48 ∧ beAt packet 0 1 % 8 = 3 ∧ beAt packet 0 1 / 8 % 8 = 4 ∧ s.dev.stepBetween (s.dev.ingress p detected) launch = false ∧ s.dev.on F.TIM_NTP_CFG_PLAIN_EN = true ∧ 256 ≤ ((s.dev.tally (ntpCount 0)).ntpTick.findClient (clientKey source)).2.2.tokens ∧ ((s.dev.tally (ntpCount 0)).ntpTick.findClient (clientKey source)).1.tim.served + 1 ≤ 200 * ((s.dev.tally (ntpCount 0)).ntpTick.findClient (clientKey source)).1.tsUnits) ∧
  (∃ s : State, ∃ row : Fin 4, s.dev.booted = true ∧ s.dev.ntsWaits row = 2 ∧ (Tai.of80 (s.dev.obj 0x2500 4 row)).le s.dev.time.tai = true) ∧
  (∃ s : State, ∃ row : Fin 4, s.dev.booted = true ∧ s.dev.obj 0x2500 5 row ≠ 0 ∧ s.dev.ntsState row ≠ 0 ∧ (Tai.of80 (s.dev.obj 0x2500 5 row)).le s.dev.time.tai = true) ∧
  (∃ s : State, ∃ g : Fin 16, ∃ falling : Bool, s.dev.booted = true ∧ bitAt (s.dev.rd (if falling then F.TIM_CAP_CFG_FALL else F.TIM_CAP_CFG_RISE)) g = true ∧ s.dev.tim.captured.find? g = none ∧ (s.dev.que 3).items.length < queueCap 3 ∧ (s.dev.que 3).held = none) ∧
  (∃ s : State, ∃ g : Fin 16, ∃ falling : Bool, ∃ c : Nat, s.dev.booted = true ∧ bitAt (s.dev.rd (if falling then F.TIM_CAP_CFG_FALL else F.TIM_CAP_CFG_RISE)) g = true ∧ s.dev.tim.captured.find? g = some c ∧ s.dev.time.cycles < c + 400) :=
  ⟨⟨(regs (up .solo) [(F.TIM_NTP_CFG_EN, 1), (F.REF_SEL_STATUS_TIME_VALID, 1)]), 3, toBE 16 5, toBE 1 0x23 ++ toBE 47 0, ⟨5, 0, 0⟩, ⟨9, 0, 0⟩, by exact ⟨by decide +kernel, by decide +kernel, by decide +kernel, by decide +kernel, by decide +kernel, no_step _ 3 rfl (by decide +kernel), by decide +kernel, by decide +kernel, by decide +kernel⟩⟩,
   ⟨(on (up .solo) fun d => { d with odp := { d.odp with objs := [(objKey 0x2500 4 3 0, 100000 * 2 ^ 32), (objKey 0x2500 6 3 0, 2)] } }), 3, by decide +kernel⟩,
   ⟨(on (up .solo) fun d => { d with odp := { d.odp with objs := [(objKey 0x2500 3 3 0, 2), (objKey 0x2500 5 3 0, 100000 * 2 ^ 32)] } }), 3, by decide +kernel⟩,
   ⟨(regs (up .solo) [(F.TIM_CAP_CFG_FALL, 2 ^ 15)]), 15, true, by decide +kernel⟩,
   ⟨(on ((regs (up .solo) [(F.TIM_CAP_CFG_FALL, 2 ^ 15)])) fun d => { d with tim := { d.tim with captured := [(15, 10 ^ 14 - 399)] } }), 15, true, 10 ^ 14 - 399, by decide +kernel⟩⟩

/-- Hypotheses of AlmanacIsWrittenReadCancelledConfirmed. -/
theorem witness_AlmanacIsWrittenReadCancelledConfirmed :
  (∃ s : State, ∃ row : Fin 4096, ∃ entry : List Byte, hostMay s false 0x3000 0 row entry ∧ (objAt 0x3000 0).map (fun o => (View.request ⟨(boxOf s).mem, s.dev, 1⟩ o 0x3000 0 row entry).checked.isEmpty) = some false ∧ View.almStatus ⟨(boxOf s).mem, s.dev, 1⟩ row entry = .ok ∧ almAction entry ≠ 0) ∧
  (∃ s : State, ∃ _row : Fin 4096, s.dev.booted = true) ∧
  (∃ s : State, ∃ row : Fin 4096, ∃ x : AlmRow, ∃ at_ : Tai, hostMay s true 0x3020 0 0 (toBE 2 row ++ toBE 1 1) ∧ ownRow s row x at_ ∧ x.state = 1 ∧ x.sent = false) ∧
  (∃ s : State, ∃ row : Fin 4096, ∃ x : AlmRow, ∃ at_ : Tai, hostMay s true 0x3021 0 0 (toBE 2 row) ∧ ownRow s row x at_ ∧ x.state = 3 ∧ almHold x.bytes = true ∧ (s.dev.almCutoff x at_).le s.dev.time.tai = false) :=
  ⟨⟨up .solo, 4095, at_ 128 [(0, 200000), (12, 13), (13, 2), (16, 8)], by unfold hostMay; decide +kernel⟩,
   ⟨up .solo, 4095, by decide +kernel⟩,
   ⟨almanac 9 { bytes := at_ 128 [(0, 200000), (12, 13), (13, 2), (16, 8)], state := 1, inst := some ⟨200000, 0, 0⟩ }, 9, { bytes := at_ 128 [(0, 200000), (12, 13), (13, 2), (16, 8)], state := 1, inst := some ⟨200000, 0, 0⟩ }, ⟨200000, 0, 0⟩, by unfold hostMay ownRow; decide +kernel⟩,
   ⟨almanac 9 { bytes := at_ 128 [(0, 200000), (12, 13), (13, 2), (15, 1), (16, 8)], state := 3, inst := some ⟨200000, 0, 0⟩ }, 9, { bytes := at_ 128 [(0, 200000), (12, 13), (13, 2), (15, 1), (16, 8)], state := 3, inst := some ⟨200000, 0, 0⟩ }, ⟨200000, 0, 0⟩, by unfold hostMay ownRow; decide +kernel⟩⟩

/-- Hypotheses of AlmanacOccurrencesStage. -/
theorem witness_AlmanacOccurrencesStage :
  (∃ s : State, ∃ row : Fin 4096, ∃ x : AlmRow, ∃ at_ : Tai, ownRow s row x at_ ∧ x.state = 1 ∧ s.dev.almHeld = false ∧ (msBefore at_ (s.dev.almLeadMs x.bytes)).le s.dev.time.tai = true) ∧
  (∃ s : State, ∃ row : Fin 4096, ∃ x : AlmRow, ∃ at_ : Tai, ownRow s row x at_ ∧ x.state = 2 ∧ s.dev.almReady x.bytes = true ∧ almHold x.bytes = false) ∧
  (∃ s : State, ∃ row : Fin 4096, ∃ x : AlmRow, ∃ at_ : Tai, ownRow s row x at_ ∧ x.state = 2 ∧ s.dev.almReady x.bytes = true ∧ almHold x.bytes = true) ∧
  (∃ s : State, ∃ row : Fin 4096, ∃ x : AlmRow, ∃ at_ : Tai, ownRow s row x at_ ∧ x.state = 3 ∧ (s.dev.almCutoff x at_).le s.dev.time.tai = true ∧ (almHold x.bytes = true → x.confirmed = true)) ∧
  (∃ s : State, ∃ row : Fin 4096, ∃ x : AlmRow, ∃ at_ : Tai, ownRow s row x at_ ∧ x.state = 3 ∧ (s.dev.almCutoff x at_).le s.dev.time.tai = true ∧ (almHold x.bytes = true → x.confirmed = true) ∧ almHold x.bytes = true) ∧
  (∃ s : State, ∃ row : Fin 4096, ∃ x : AlmRow, ∃ at_ : Tai, ownRow s row x at_ ∧ almRepeat x.bytes = 0 ∧ (s.dev.almCutoff x at_).le s.dev.time.tai = true ∧ x.state = 3 ∧ almHold x.bytes = true ∧ x.confirmed = false) ∧
  (∃ s : State, ∃ row : Fin 4096, ∃ x : AlmRow, ∃ at_ : Tai, ownRow s row x at_ ∧ almRepeat x.bytes = 0 ∧ (s.dev.almCutoff x at_).le s.dev.time.tai = true ∧ x.state = 2) :=
  ⟨⟨almanac 9 { bytes := at_ 128 [(0, 200000), (12, 13), (13, 2), (16, 8)], state := 1, inst := some ⟨100001, 0, 0⟩ }, 9, { bytes := at_ 128 [(0, 200000), (12, 13), (13, 2), (16, 8)], state := 1, inst := some ⟨100001, 0, 0⟩ }, ⟨100001, 0, 0⟩, by unfold ownRow; decide +kernel⟩,
   ⟨almanac 9 { bytes := at_ 128 [(0, 200000), (12, 13), (13, 2), (16, 8)], state := 2, inst := some ⟨100001, 0, 0⟩ }, 9, { bytes := at_ 128 [(0, 200000), (12, 13), (13, 2), (16, 8)], state := 2, inst := some ⟨100001, 0, 0⟩ }, ⟨100001, 0, 0⟩, by unfold ownRow; decide +kernel⟩,
   ⟨almanac 9 { bytes := at_ 128 [(0, 200000), (12, 13), (13, 2), (15, 1), (16, 8)], state := 2, inst := some ⟨100001, 0, 0⟩ }, 9, { bytes := at_ 128 [(0, 200000), (12, 13), (13, 2), (15, 1), (16, 8)], state := 2, inst := some ⟨100001, 0, 0⟩ }, ⟨100001, 0, 0⟩, by unfold ownRow; decide +kernel⟩,
   ⟨almanac 9 { bytes := at_ 128 [(0, 200000), (12, 13), (13, 2), (16, 8)], state := 3, inst := some ⟨100000, 0, 0⟩ }, 9, { bytes := at_ 128 [(0, 200000), (12, 13), (13, 2), (16, 8)], state := 3, inst := some ⟨100000, 0, 0⟩ }, ⟨100000, 0, 0⟩, by unfold ownRow; decide +kernel⟩,
   ⟨almanac 9 { bytes := at_ 128 [(0, 200000), (12, 13), (13, 2), (15, 1), (16, 8)], state := 3, inst := some ⟨100000, 0, 0⟩, confirmed := true }, 9, { bytes := at_ 128 [(0, 200000), (12, 13), (13, 2), (15, 1), (16, 8)], state := 3, inst := some ⟨100000, 0, 0⟩, confirmed := true }, ⟨100000, 0, 0⟩, by unfold ownRow; decide +kernel⟩,
   ⟨almanac 9 { bytes := at_ 128 [(0, 200000), (12, 13), (13, 2), (15, 1), (16, 8)], state := 3, inst := some ⟨100000, 0, 0⟩ }, 9, { bytes := at_ 128 [(0, 200000), (12, 13), (13, 2), (15, 1), (16, 8)], state := 3, inst := some ⟨100000, 0, 0⟩ }, ⟨100000, 0, 0⟩, by unfold ownRow; decide +kernel⟩,
   ⟨almanac 9 { bytes := at_ 128 [(0, 200000), (12, 13), (13, 2), (16, 8)], state := 2, inst := some ⟨100000, 0, 0⟩ }, 9, { bytes := at_ 128 [(0, 200000), (12, 13), (13, 2), (16, 8)], state := 2, inst := some ⟨100000, 0, 0⟩ }, ⟨100000, 0, 0⟩, by unfold ownRow; decide +kernel⟩⟩

/-- Hypotheses of AlmanacOccurrencesLaunch. -/
theorem witness_AlmanacOccurrencesLaunch :
  (∃ s : State, ∃ row : Fin 4096, ∃ x : AlmRow, ∃ at_ : Tai, ownRow s row x at_ ∧ s.dev.follows = false ∧ x.state = 4 ∧ at_.le s.dev.time.tai = true ∧ s.dev.alm.audio = [] ∧ s.dev.almBefore row = [] ∧ bitAt (almModes x.bytes) s.dev.almModeBit = true ∧ (s.dev.almAdmit x).1 = true ∧ almAudio (almAction x.bytes) = true) ∧
  (∃ s : State, ∃ row : Fin 4096, ∃ x : AlmRow, ∃ at_ : Tai, ownRow s row x at_ ∧ s.dev.follows = false ∧ x.state = 4 ∧ at_.le s.dev.time.tai = true ∧ s.dev.alm.audio = [] ∧ s.dev.almBefore row = [] ∧ bitAt (almModes x.bytes) s.dev.almModeBit = true ∧ (s.dev.almAdmit x).1 = true ∧ almAction x.bytes = 13 ∧ almRepeat x.bytes = 0 ∧ x.deferred = none ∧ s.dev.lateness at_ < 5) ∧
  (∃ s : State, ∃ row : Fin 4096, ∃ x : AlmRow, ∃ at_ : Tai, ownRow s row x at_ ∧ s.dev.follows = false ∧ x.state = 4 ∧ at_.le s.dev.time.tai = true ∧ s.dev.alm.audio = [] ∧ s.dev.almBefore row = [] ∧ bitAt (almModes x.bytes) s.dev.almModeBit = true ∧ (s.dev.almAdmit x).1 = false ∧ 2 ≤ almClass x.bytes ∧ almDefer x.bytes ≠ 0) ∧
  (∃ s : State, ∃ row : Fin 4096, ∃ x : AlmRow, ∃ at_ : Tai, ownRow s row x at_ ∧ s.dev.follows = false ∧ x.state = 4 ∧ at_.le s.dev.time.tai = true ∧ s.dev.alm.audio = [] ∧ s.dev.almBefore row = [] ∧ bitAt (almModes x.bytes) s.dev.almModeBit = true ∧ (s.dev.almAdmit x).1 = false ∧ almDefer x.bytes = 0 ∧ almRepeat x.bytes = 0) ∧
  (∃ s : State, ∃ row : Fin 4096, ∃ x : AlmRow, ∃ at_ : Tai, ownRow s row x at_ ∧ s.dev.follows = false ∧ x.state = 4 ∧ at_.le s.dev.time.tai = true ∧ s.dev.alm.audio = [] ∧ s.dev.almBefore row = [] ∧ bitAt (almModes x.bytes) s.dev.almModeBit = false ∧ almRepeat x.bytes = 0) ∧
  (∃ s : State, ∃ row : Fin 4096, ∃ x : AlmRow, ∃ at_ : Tai, ∃ since : Nat, ownRow s row x at_ ∧ s.dev.follows = false ∧ x.state = 5 ∧ x.deferred = some since ∧ s.dev.almHeld = false ∧ s.dev.past since (almDefer x.bytes) = false ∧ (s.dev.almAdmit x).1 = true ∧ s.dev.alm.audio = [] ∧ almAudio (almAction x.bytes) = true) ∧
  (∃ s : State, ∃ row : Fin 4096, ∃ x : AlmRow, ∃ at_ : Tai, ∃ since : Nat, ownRow s row x at_ ∧ s.dev.follows = false ∧ x.state = 5 ∧ x.deferred = some since ∧ s.dev.almHeld = false ∧ s.dev.past since (almDefer x.bytes) = false ∧ (s.dev.almAdmit x).1 = true ∧ s.dev.alm.audio = [] ∧ almAction x.bytes = 13 ∧ almRepeat x.bytes = 0) ∧
  (∃ s : State, ∃ row : Fin 4096, ∃ x : AlmRow, ∃ at_ : Tai, ∃ since : Nat, ownRow s row x at_ ∧ s.dev.follows = false ∧ x.state = 5 ∧ x.deferred = some since ∧ s.dev.past since (almDefer x.bytes) = true ∧ s.dev.alm.audio = [] ∧ almRepeat x.bytes = 0) ∧
  (∃ s : State, ∃ row : Fin 4096, ∃ x : AlmRow, ∃ at_ : Tai, ownRow s row x at_ ∧ s.dev.follows = false ∧ x.state = 1 ∧ at_.le s.dev.time.tai = true ∧ almRepeat x.bytes = 0 ∧ (s.dev.que 4).items.length < queueCap 4 ∧ (s.dev.que 4).held = none) :=
  ⟨⟨almanac 9 { bytes := at_ 128 [(0, 100000), (12, 7), (13, 1), (16, 8)], state := 4, inst := some ⟨100000, 0, 0⟩ }, 9, { bytes := at_ 128 [(0, 100000), (12, 7), (13, 1), (16, 8)], state := 4, inst := some ⟨100000, 0, 0⟩ }, ⟨100000, 0, 0⟩, by unfold ownRow; decide +kernel⟩,
   ⟨almanac 9 { bytes := at_ 128 [(0, 200000), (12, 13), (13, 2), (16, 8)], state := 4, inst := some ⟨100000, 0, 0⟩ }, 9, { bytes := at_ 128 [(0, 200000), (12, 13), (13, 2), (16, 8)], state := 4, inst := some ⟨100000, 0, 0⟩ }, ⟨100000, 0, 0⟩, by unfold ownRow; decide +kernel⟩,
   ⟨(regs (almanac 9 { bytes := at_ 128 [(0, 100000), (12, 7), (13, 2), (16, 8), (22, 5)], state := 4, inst := some ⟨100000, 0, 0⟩ }) [(F.PWR_CAP_NOW_CAP, 0)]), 9, { bytes := at_ 128 [(0, 100000), (12, 7), (13, 2), (16, 8), (22, 5)], state := 4, inst := some ⟨100000, 0, 0⟩ }, ⟨100000, 0, 0⟩, by unfold ownRow; decide +kernel⟩,
   ⟨(regs (almanac 9 { bytes := at_ 128 [(0, 100000), (12, 7), (13, 2), (16, 8)], state := 4, inst := some ⟨100000, 0, 0⟩ }) [(F.PWR_CAP_NOW_CAP, 0)]), 9, { bytes := at_ 128 [(0, 100000), (12, 7), (13, 2), (16, 8)], state := 4, inst := some ⟨100000, 0, 0⟩ }, ⟨100000, 0, 0⟩, by unfold ownRow; decide +kernel⟩,
   ⟨almanac 9 { bytes := at_ 128 [(0, 100000), (12, 13), (13, 2), (16, 16)], state := 4, inst := some ⟨100000, 0, 0⟩ }, 9, { bytes := at_ 128 [(0, 100000), (12, 13), (13, 2), (16, 16)], state := 4, inst := some ⟨100000, 0, 0⟩ }, ⟨100000, 0, 0⟩, by unfold ownRow; decide +kernel⟩,
   ⟨almanac 9 { bytes := at_ 128 [(0, 100000), (12, 7), (13, 2), (16, 8), (22, 500)], state := 5, inst := some ⟨100000, 0, 0⟩, deferred := some (10 ^ 14) }, 9, { bytes := at_ 128 [(0, 100000), (12, 7), (13, 2), (16, 8), (22, 500)], state := 5, inst := some ⟨100000, 0, 0⟩, deferred := some (10 ^ 14) }, ⟨100000, 0, 0⟩, 10 ^ 14, by unfold ownRow; decide +kernel⟩,
   ⟨almanac 9 { bytes := at_ 128 [(0, 100000), (12, 13), (13, 2), (16, 8), (22, 5)], state := 5, inst := some ⟨100000, 0, 0⟩, deferred := some (10 ^ 14) }, 9, { bytes := at_ 128 [(0, 100000), (12, 13), (13, 2), (16, 8), (22, 5)], state := 5, inst := some ⟨100000, 0, 0⟩, deferred := some (10 ^ 14) }, ⟨100000, 0, 0⟩, 10 ^ 14, by unfold ownRow; decide +kernel⟩,
   ⟨almanac 9 { bytes := at_ 128 [(0, 100000), (12, 13), (13, 2), (16, 8), (22, 5)], state := 5, inst := some ⟨100000, 0, 0⟩, deferred := some 5 }, 9, { bytes := at_ 128 [(0, 100000), (12, 13), (13, 2), (16, 8), (22, 5)], state := 5, inst := some ⟨100000, 0, 0⟩, deferred := some 5 }, ⟨100000, 0, 0⟩, 5, by unfold ownRow; decide +kernel⟩,
   ⟨almanac 9 { bytes := at_ 128 [(0, 200000), (12, 13), (13, 2), (16, 8)], state := 1, inst := some ⟨100000, 0, 0⟩ }, 9, { bytes := at_ 128 [(0, 200000), (12, 13), (13, 2), (16, 8)], state := 1, inst := some ⟨100000, 0, 0⟩ }, ⟨100000, 0, 0⟩, by unfold ownRow; decide +kernel⟩⟩

/-- Hypotheses of CascadeFindsItsParent. -/
theorem witness_CascadeFindsItsParent :
  (∃ s : State, ∃ source : List Byte, ∃ datagram : List Byte, ∃ b : List Byte, (s.dev.casIn source datagram 1).2 = some (.primary, b) ∧ s.dev.peerFrozen .primary = false ∧ beAt b 0 2 < s.dev.rank ∧ s.dev.cas.useAlt = false ∧ s.dev.cas.children = [] ∧ (s.dev.cas.primaryRank = none ∨ s.dev.cas.primaryRank = some (beAt b 0 2))) ∧
  (∃ s : State, ∃ source : List Byte, ∃ datagram : List Byte, ∃ b : List Byte, (s.dev.casIn source datagram 1).2 = some (.stranger, b) ∧ s.dev.peerFrozen .stranger = false ∧ s.dev.rank < beAt b 0 2 ∧ s.dev.cas.children = []) ∧
  (∃ s : State, s.dev.booted = true ∧ s.dev.rank ≠ 0xFFFF ∧ s.dev.rank ≠ 0 ∧ s.dev.named false = true ∧ s.dev.cas.useAlt = false ∧ s.dev.standby = false) ∧
  (∃ s : State, s.dev.booted = true ∧ s.dev.standby = false ∧ s.dev.rank ≠ 0xFFFF ∧ s.dev.cas.useAlt = false ∧ s.dev.named false = true ∧ s.dev.past (s.dev.cas.primary.getD 0) 3000 = true ∧ s.dev.on F.PAIR_CAS_STATUS_PARENT_OK = true ∧ s.dev.named true = true) ∧
  (∃ s : State, s.dev.booted = true ∧ s.dev.standby = false ∧ s.dev.rank ≠ 0xFFFF ∧ s.dev.cas.useAlt = false ∧ s.dev.named false = true ∧ s.dev.past (s.dev.cas.primary.getD 0) 3000 = true ∧ s.dev.on F.PAIR_CAS_STATUS_PARENT_OK = true ∧ s.dev.named true = false) ∧
  (∃ s : State, ∃ since : Nat, ∃ last : Nat, s.dev.booted = true ∧ s.dev.cas.useAlt = true ∧ s.dev.cas.since = some since ∧ s.dev.past since 60000 = true ∧ s.dev.cas.primary = some last ∧ s.dev.past last 3000 = false) :=
  ⟨⟨cascade 5, toBE 16 7, dgram 17 0 1 0 (toBE 13 0x0100020003000000000000004d) 0xf2a2a35929c87ce2719c116b257587fc, toBE 12 0x00020003000000000000004d, by decide +kernel⟩,
   ⟨cascade 5, toBE 16 8, dgram 17 0 1 0 (toBE 13 0x0100090003000000000000004d) 0x2043e5c4d17620f1e320b13ecee26dbf, toBE 12 0x00090003000000000000004d, by decide +kernel⟩,
   ⟨cascade 5, by decide +kernel⟩,
   ⟨(regs (cascade 5) [(F.PAIR_CAS_STATUS_PARENT_OK, 1)]), by decide +kernel⟩,
   ⟨(on ((regs (cascade 5) [(F.PAIR_CAS_STATUS_PARENT_OK, 1)])) fun d => { d with odp := { d.odp with objs := [(objKey 0x8800 3 0 0, 7 * 2 ^ 128)] } }), by decide +kernel⟩,
   ⟨(on (cascade 5) fun d => { d with cas := { d.cas with useAlt := true, since := some 5, primary := some (10 ^ 14) } }), 5, 10 ^ 14, by decide +kernel⟩⟩

/-- Hypotheses of CascadeCarriesEntriesAndRequests. -/
theorem witness_CascadeCarriesEntriesAndRequests :
  (∃ s : State, ∃ source : List Byte, ∃ datagram : List Byte, ∃ b : List Byte, ∃ p : Peer, (s.dev.casIn source datagram 2).2 = some (p, b) ∧ p.above = true ∧ s.dev.peerFrozen p = false ∧ s.dev.cas.children = [] ∧ almScope (slice b 0 128) = 1 ∧ s.dev.almHeld = false ∧ View.almInvalidHere ⟨s.mem, (s.dev.casIn source datagram 2).1, 0⟩ (slice b 0 128) = false ∧ (s.dev.almRow 4095) = none) ∧
  (∃ s : State, ∃ source : List Byte, ∃ datagram : List Byte, ∃ b : List Byte, ∃ p : Peer, ∃ n : Nat, ∃ x : AlmRow, ∃ at_ : Tai, (s.dev.casIn source datagram 3).2 = some (p, b) ∧ p.above = true ∧ s.dev.peerFrozen p = false ∧ s.dev.cas.children = [] ∧ s.dev.copyOf (beAt b 0 2) (beAt b 2 2) = some (n, x) ∧ x.occ = beAt b 4 4 ∧ x.inst = some at_ ∧ s.dev.time.tai.lt (s.dev.almCutoff x at_) = true) ∧
  (∃ s : State, ∃ source : List Byte, ∃ datagram : List Byte, ∃ b : List Byte, ∃ p : Peer, ∃ n : Nat, ∃ x : AlmRow, ∃ at_ : Tai, (s.dev.casIn source datagram 4).2 = some (p, b) ∧ p.above = true ∧ s.dev.peerFrozen p = false ∧ s.dev.cas.children = [] ∧ s.dev.copyOf (beAt b 0 2) (beAt b 2 2) = some (n, x) ∧ s.dev.almRow n = some x ∧ x.occ = beAt b 4 4 ∧ x.inst = some at_ ∧ at_.le s.dev.time.tai = false ∧ almRepeat x.bytes = 0 ∧ s.dev.alm.retracting = []) ∧
  (∃ s : State, ∃ source : List Byte, ∃ datagram : List Byte, ∃ b : List Byte, ∃ p : Peer, ∃ x : AlmRow, (s.dev.casIn source datagram 5).2 = some (p, b) ∧ s.dev.peerFrozen p = false ∧ s.dev.isFrozen (peerMaster (beAt b 8 2)) = false ∧ beAt b 0 2 = s.dev.rank ∧ s.dev.almRow (beAt b 2 2) = some x ∧ x.copy = false ∧ almScope x.bytes ≠ 0 ∧ x.sent = true ∧ x.occ = beAt b 4 4 ∧ beAt b 10 1 = 0) ∧
  (∃ s : State, ∃ source : List Byte, ∃ datagram : List Byte, ∃ m : List Byte, ∃ p : Peer, (s.dev.casIn source datagram 6).2 = some (p, m) ∧ p.above = true ∧ s.dev.peerFrozen p = false ∧ beAt m 0 2 ≠ s.dev.rank ∧ s.dev.cas.children ≠ []) ∧
  (∃ s : State, ∃ source : List Byte, ∃ datagram : List Byte, ∃ b : List Byte, ∃ p : Peer, (s.dev.casIn source datagram 7).2 = some (p, b) ∧ s.dev.peerFrozen p = false ∧ s.dev.rank ≠ 0) ∧
  (∃ s : State, ∃ source : List Byte, ∃ datagram : List Byte, ∃ b : List Byte, ∃ p : Peer, (s.dev.casIn source datagram 7).2 = some (p, b) ∧ s.dev.peerFrozen p = false ∧ s.dev.rank = 0 ∧ s.dev.odp.proxies = [⟨4, 6, 5, 12, 3, 1⟩] ∧ 5 = 2 + beAt b 0 4 % 32 ∧ 12 = beAt (b.drop 4) 4 8) ∧
  (∃ s : State, ∃ job : BitVec 8, ∃ j : ProxyJob, s.dev.booted = true ∧ s.dev.odp.proxies = [j] ∧ j.id = job.toNat ∧ s.dev.past j.started 100 = true) :=
  ⟨⟨cascade 5, toBE 16 7, dgram 17 0 1 0 (toBE 129 0x02400d030000000000000000000d02010008000000000000000000000000000000000000000000000000000000000000000000000003000000000000000000000000000000000000000000000000000000000000000000000000000000000000000000000000000000000000000000000000000000000000000000000000000000) 0x0bd4371106301c8c300d6b9f960e9a1f, toBE 128 0x400d030000000000000000000d02010008000000000000000000000000000000000000000000000000000000000000000000000003000000000000000000000000000000000000000000000000000000000000000000000000000000000000000000000000000000000000000000000000000000000000000000000000000000, .primary, by decide +kernel⟩,
   ⟨(on (cascade 5) fun d => { d with alm := { rows := [(9, { bytes := at_ 128 [(0, 200000), (12, 13), (13, 2), (16, 8)], state := 2, copy := true, originRow := 3, occ := 4, inst := some ⟨200000, 0, 0⟩ })] } }), toBE 16 7, dgram 17 0 1 0 (toBE 9 0x030000000300000004) 0xb62b35547ddd131a525ed7e531030423, toBE 8 0x0000000300000004, .primary, 9, { bytes := at_ 128 [(0, 200000), (12, 13), (13, 2), (16, 8)], state := 2, copy := true, originRow := 3, occ := 4, inst := some ⟨200000, 0, 0⟩ }, ⟨200000, 0, 0⟩, by decide +kernel⟩,
   ⟨(on (cascade 5) fun d => { d with alm := { rows := [(9, { bytes := at_ 128 [(0, 200000), (12, 13), (13, 2), (16, 8)], state := 2, copy := true, originRow := 3, occ := 4, inst := some ⟨200000, 0, 0⟩ })] } }), toBE 16 7, dgram 17 0 1 0 (toBE 9 0x040000000300000004) 0x313f77d773650e335a15094bf9da4ed8, toBE 8 0x0000000300000004, .primary, 9, { bytes := at_ 128 [(0, 200000), (12, 13), (13, 2), (16, 8)], state := 2, copy := true, originRow := 3, occ := 4, inst := some ⟨200000, 0, 0⟩ }, ⟨200000, 0, 0⟩, by decide +kernel⟩,
   ⟨(on (cascade 0) fun d => { d with alm := { rows := [(9, { bytes := toBE 128 0x400d030000000000000000000d02010008000000000000000000000000000000000000000000000000000000000000000000000003000000000000000000000000000000000000000000000000000000000000000000000000000000000000000000000000000000000000000000000000000000000000000000000000000000, state := 2, sent := true, occ := 4, inst := some ⟨200000, 0, 0⟩ })] } }), toBE 16 8, dgram 17 0 1 0 (toBE 12 0x050000000900000004000600) 0x6a713a1c14e201f5ce32ffae264fdcb9, toBE 11 0x0000000900000004000600, .stranger, { bytes := toBE 128 0x400d030000000000000000000d02010008000000000000000000000000000000000000000000000000000000000000000000000003000000000000000000000000000000000000000000000000000000000000000000000000000000000000000000000000000000000000000000000000000000000000000000000000000000, state := 2, sent := true, occ := 4, inst := some ⟨200000, 0, 0⟩ }, by decide +kernel⟩,
   ⟨(on (cascade 5) fun d => { d with cas := { d.cas with children := [(0, ⟨9, toBE 16 8, ⟨0, 0, 0⟩⟩)] } }), toBE 16 7, dgram 17 0 1 0 (toBE 23 0x0600090000000000000000000000000000000000000000) 0x746d1c838d33d7511c05c23adfd305ae, toBE 22 0x00090000000000000000000000000000000000000000, .primary, by decide +kernel⟩,
   ⟨cascade 5, toBE 16 8, dgram 17 0 1 0 (toBE 23 0x0700090000000000000000000000000000000000000000) 0x24b3de2fe309160058cd04a00badcbfa, toBE 22 0x00090000000000000000000000000000000000000000, .stranger, by decide +kernel⟩,
   ⟨(on (cascade 0) fun d => { d with odp := { d.odp with proxies := [⟨4, 6, 5, 12, 3, 1⟩] } }), toBE 16 8, dgram 17 0 1 0 (toBE 37 0x070000000300000000000000000000000c0000000000000000000000000000000000000000) 0x65ad56921893bf2ad640be48380ae227, toBE 36 0x0000000300000000000000000000000c0000000000000000000000000000000000000000, .stranger, by decide +kernel⟩,
   ⟨(on (cascade 0) fun d => { d with odp := { d.odp with proxies := [⟨4, 6, 5, 12, 3, 1⟩] } }), 4, ⟨4, 6, 5, 12, 3, 1⟩, by decide +kernel⟩⟩

/-- Hypotheses of NetworkReception. -/
theorem witness_NetworkReception :
  (∃ s : State, ∃ p : Fin 4, s.dev.hears p = true ∧ s.dev.linkUp p = true) ∧
  (∃ s : State, ∃ p : Fin 4, s.dev.hears p = true ∧ s.dev.linkUp p = false) ∧
  (∃ s : State, ∃ p : Fin 4, ∃ port : Port, ∃ frame : List Byte, ∃ _fcsOk : Bool, ∃ _detected : Tai, port.num = p.val ∧ s.dev.hears p = true ∧ frame.length + 4 ≤ 63) ∧
  (∃ s : State, ∃ p : Fin 4, ∃ port : Port, ∃ frame : List Byte, ∃ fcsOk : Bool, ∃ _detected : Tai, port.num = p.val ∧ s.dev.hears p = true ∧ 63 < frame.length + 4 ∧ fcsOk = false) ∧
  (∃ s : State, ∃ p : Fin 4, ∃ port : Port, ∃ frame : List Byte, ∃ fcsOk : Bool, ∃ _detected : Tai, port.num = p.val ∧ s.dev.hears p = true ∧ 63 < frame.length + 4 ∧ fcsOk = true ∧ frame.length + 4 ≤ s.dev.maxFrame p ∧ s.dev.inServicePort p = true ∧ s.dev.acceptsMac p (beAt frame 0 6) (frameHead frame).etype = false) ∧
  (∃ s : State, ∃ p : Fin 4, ∃ port : Port, ∃ frame : List Byte, ∃ fcsOk : Bool, ∃ _detected : Tai, port.num = p.val ∧ s.dev.hears p = true ∧ 63 < frame.length + 4 ∧ fcsOk = true ∧ frame.length + 4 ≤ s.dev.maxFrame p ∧ s.dev.inServicePort p = true ∧ s.dev.acceptsMac p (beAt frame 0 6) (frameHead frame).etype = true ∧ beAt frame 12 2 = 0x8808 ∧ beAt frame 14 2 = 1 ∧ s.dev.on (F.NET_CFG_PAUSE_RX_EN.at [p]) = true ∧ beAt frame 16 2 ≠ 0) ∧
  (∃ s : State, ∃ p : Fin 4, ∃ port : Port, ∃ frame : List Byte, ∃ fcsOk : Bool, ∃ _detected : Tai, port.num = p.val ∧ s.dev.hears p = true ∧ 63 < frame.length + 4 ∧ fcsOk = true ∧ frame.length + 4 ≤ s.dev.maxFrame p ∧ s.dev.inServicePort p = true ∧ s.dev.acceptsMac p (beAt frame 0 6) (frameHead frame).etype = true ∧ beAt frame 12 2 = 0x0900 ∧ frame.length ≤ 2048 ∧ s.mem.wf = true ∧ (s.dev.que (8 + p)).held = none ∧ (s.dev.que (8 + p)).items.length < queueCap (8 + p) ∧ s.dev.filter p (frameHead frame) = some 48 ∧ s.dev.rxDest 48 = true ∧ s.dev.rxFree 48 = [7]) ∧
  (∃ s : State, ∃ first : BitVec 11, ∃ c : RxChain, s.dev.booted = true ∧ s.dev.net.chains.find? first.toNat = some c ∧ s.mem.wf = true) ∧
  (∃ s : State, ∃ p : Fin 4, ∃ port : Port, ∃ e : Nat × Nat, port.num = p.val ∧ s.dev.booted = true ∧ (s.dev.port p).pause = some e ∧ s.dev.paused p = false) ∧
  (∃ s : State, ∃ relayB : Bool, s.dev.booted = true ∧ s.dev.settling (bit relayB) = true ∧ s.dev.past (s.dev.net.settle.get 0 (bit relayB)) (s.dev.rd F.NET_BYPASS_CTL_SETTLE_MS) = true) ∧
  (∃ s : State, ∃ relayB : Bool, s.dev.booted = true ∧ s.dev.settling (bit relayB) = true ∧ s.dev.past (s.dev.net.settle.get 0 (bit relayB)) (s.dev.rd F.NET_BYPASS_CTL_SETTLE_MS) = true) :=
  ⟨⟨(regs (up .solo) [(F.NET_CFG_EN.at [3], 1), (F.NET_STATUS_LINK.at [3], 1)]), 3, by decide +kernel⟩,
   ⟨(regs (up .solo) [(F.NET_CFG_EN.at [3], 1)]), 3, by decide +kernel⟩,
   ⟨(regs (up .solo) [(F.NET_CFG_EN.at [3], 1), (F.NET_STATION_HI_HI.at [3], 2), (F.NET_STATION_LO_LO.at [3], 1), (F.NET_SERVICE_HI_HI.at [3], 2), (F.NET_SERVICE_LO_LO.at [3], 2)]), 3, .net3, toBE 59 0, true, ⟨5, 0, 0⟩, by decide +kernel⟩,
   ⟨(regs (up .solo) [(F.NET_CFG_EN.at [3], 1), (F.NET_STATION_HI_HI.at [3], 2), (F.NET_STATION_LO_LO.at [3], 1), (F.NET_SERVICE_HI_HI.at [3], 2), (F.NET_SERVICE_LO_LO.at [3], 2)]), 3, .net3, toBE 60 0, false, ⟨5, 0, 0⟩, by decide +kernel⟩,
   ⟨(regs (up .solo) [(F.NET_CFG_EN.at [3], 1), (F.NET_STATION_HI_HI.at [3], 2), (F.NET_STATION_LO_LO.at [3], 1), (F.NET_SERVICE_HI_HI.at [3], 2), (F.NET_SERVICE_LO_LO.at [3], 2)]), 3, .net3, toBE 6 0x020000000003 ++ toBE 54 0, true, ⟨5, 0, 0⟩, by decide +kernel⟩,
   ⟨(regs (up .solo) [(F.NET_CFG_EN.at [3], 1), (F.NET_STATION_HI_HI.at [3], 2), (F.NET_STATION_LO_LO.at [3], 1), (F.NET_SERVICE_HI_HI.at [3], 2), (F.NET_SERVICE_LO_LO.at [3], 2)]), 3, .net3, toBE 6 0x0180C2000001 ++ toBE 6 0 ++ toBE 2 0x8808 ++ toBE 2 1 ++ toBE 2 0xFFFF ++ toBE 42 0, true, ⟨5, 0, 0⟩, by decide +kernel⟩,
   ⟨(on ((regs (up .solo) [(F.NET_CFG_EN.at [3], 1), (F.NET_STATION_HI_HI.at [3], 2), (F.NET_STATION_LO_LO.at [3], 1), (F.NET_SERVICE_HI_HI.at [3], 2), (F.NET_SERVICE_LO_LO.at [3], 2)])) fun d => { d with net := { d.net with free := [(48, [7])] } }), 3, .net3, toBE 6 0xFFFFFFFFFFFF ++ toBE 6 0 ++ toBE 2 0x0900 ++ toBE 46 0, true, ⟨5, 0, 0⟩, by decide +kernel⟩,
   ⟨(on (up .solo) fun d => { d with net := { d.net with chains := [(7, ⟨48, [7, 9]⟩)] } }), 7, ⟨48, [7, 9]⟩, by decide +kernel⟩,
   ⟨(on (up .solo) fun d => { d with net := { d.net with ports := [(3, { pause := some (5, 9) })] } }), 3, .net3, (5, 9), by decide +kernel⟩,
   ⟨(regs (up .solo) [(F.NET_BYPASS_STATUS_A_SETTLING, 1)]), false, by decide +kernel⟩,
   ⟨(regs (up .solo) [(F.NET_BYPASS_STATUS_B_SETTLING, 1)]), true, by decide +kernel⟩⟩

/-- Hypotheses of NetworkTransmission. -/
theorem witness_NetworkTransmission :
  (∃ s : State, ∃ b : Nat, s.dev.booted = true ∧ 1536 ≤ b ∧ b < 2048 ∧ b ∉ s.dev.net.txAlloc) ∧
  (∃ s : State, ∃ p : Fin 4, ∃ port : Port, ∃ _cls : Fin 8, ∃ buffer : BitVec 11, ∃ length : BitVec 11, port.num = p.val ∧ s.dev.booted = true ∧ 14 ≤ length.toNat ∧ length.toNat ≤ 2044 ∧ length.toNat ≤ s.dev.maxFrame p - 4 ∧ s.dev.hostBuffer buffer.toNat = true) ∧
  (∃ s : State, ∃ p : Fin 4, ∃ port : Port, ∃ _cls : Fin 8, ∃ _buffer : BitVec 11, ∃ length : BitVec 11, port.num = p.val ∧ s.dev.booted = true ∧ length.toNat < 14) ∧
  (∃ s : State, ∃ p : Fin 4, ∃ port : Port, ∃ _cls : Fin 8, ∃ buffer : BitVec 11, ∃ _length : BitVec 11, port.num = p.val ∧ s.dev.booted = true ∧ s.dev.hostBuffer buffer.toNat = false) ∧
  (∃ s : State, ∃ p : Fin 4, ∃ port : Port, port.num = p.val ∧ s.dev.mayTransmit p = true ∧ ∃ m, (s.dev.port p).media = [m] ∧ m.launch.le s.dev.time.tai = true ∧ s.dev.time.tai.le (m.launch.addNs (s.dev.rd (F.NET_LATE_TOL_LATE_TOL.at [p]) : Nat)) = true) ∧
  (∃ s : State, ∃ p : Fin 4, ∃ port : Port, port.num = p.val ∧ s.dev.mayTransmit p = true ∧ (s.dev.port p).media = [] ∧ (s.dev.port p).txq = [⟨6, some 1536, .frame .net3 [1, 2]⟩]) ∧
  (∃ s : State, ∃ p : Fin 4, ∃ m : MediaTx, s.dev.booted = true ∧ (s.dev.port p).media = [m] ∧ (m.launch.addNs (s.dev.rd (F.NET_LATE_TOL_LATE_TOL.at [p]) : Nat)).le s.dev.time.tai = true) ∧
  (∃ s : State, ∃ p : Fin 4, ∃ _event : Bool, s.dev.inServicePort p = true ∧ s.dev.on (F.NET_CFG_ESMC_TX_EN.at [p]) = true) ∧
  (∃ s : State, ∃ c : Fin 256, s.dev.booted = true ∧ s.dev.ctxState c = 4 ∧ s.dev.cf F.STR_CTX_CFG_IPV6 c = 0 ∧ s.dev.inServicePort (s.dev.ctxDest c false).1 = true ∧ isGroup false (s.dev.ctxDest c false).2 = false ∧ (s.dev.ctxDest c false).2 ≠ 0) ∧
  (∃ s : State, ∃ _status : BitVec 16, s.dev.alive = true ∧ s.dev.on F.MGT_CFG_EN = true ∧ s.dev.on F.MGT_CFG_PHY_POLL_EN = true) ∧
  (∃ s : State, ∃ _clause45 : Bool, ∃ _op : Fin 4, ∃ _phy : BitVec 5, ∃ _reg : BitVec 5, ∃ _data : BitVec 16, s.dev.alive = true ∧ s.dev.pins.testEn = false ∧ s.dev.on F.MGT_MDIO_CMD_GO = false) ∧
  (∃ s : State, ∃ _data : BitVec 16, s.dev.alive = true ∧ s.dev.on F.MGT_MDIO_CMD_GO = true ∧ s.dev.net.mdioReply = none ∧ s.dev.net.mdioRead = false) ∧
  (∃ s : State, ∃ _data : BitVec 16, s.dev.alive = true ∧ s.dev.on F.MGT_MDIO_CMD_GO = true ∧ s.dev.net.mdioReply = none ∧ s.dev.net.mdioRead = true) :=
  ⟨⟨(on (up .solo) fun d => { d with net := { d.net with txAlloc := [1536] } }), 2047, by decide +kernel⟩,
   ⟨(on (up .solo) fun d => { d with net := { d.net with txAlloc := [1536] } }), 3, .net3, 7, 1536, 14, by decide +kernel⟩,
   ⟨(on (up .solo) fun d => { d with net := { d.net with txAlloc := [1536] } }), 3, .net3, 7, 1536, 13, by decide +kernel⟩,
   ⟨(on (up .solo) fun d => { d with net := { d.net with txAlloc := [1536] } }), 3, .net3, 7, 1537, 14, by decide +kernel⟩,
   ⟨(on ((regs (up .solo) [(F.NET_CFG_EN.at [3], 1), (F.NET_STATUS_LINK.at [3], 1)])) fun d => { d with net := { d.net with ports := [(3, { media := [⟨⟨100000, 0, 0⟩, 5, false, [1]⟩] })] } }), 3, .net3, by refine ⟨by decide +kernel, by decide +kernel, _, rfl, by decide +kernel, by decide +kernel⟩⟩,
   ⟨(on ((regs (up .solo) [(F.NET_CFG_EN.at [3], 1), (F.NET_STATUS_LINK.at [3], 1)])) fun d => { d with net := { d.net with txAlloc := [1536], ports := [(3, { txq := [⟨6, some 1536, .frame .net3 [1, 2]⟩] })] } }), 3, .net3, by decide +kernel⟩,
   ⟨(on ((regs (up .solo) [(F.NET_CFG_EN.at [3], 1), (F.NET_STATUS_LINK.at [3], 1)])) fun d => { d with net := { d.net with ports := [(3, { media := [⟨⟨99999, 0, 0⟩, 5, false, [1]⟩] })] } }), 3, ⟨⟨99999, 0, 0⟩, 5, false, [1]⟩, by decide +kernel⟩,
   ⟨(regs (up .solo) [(F.NET_CFG_EN.at [3], 1), (F.NET_CFG_ESMC_TX_EN.at [3], 1)]), 3, true, by decide +kernel⟩,
   ⟨(regs (up .solo) [(F.NET_CFG_EN.at [0], 1), (((F.STR_CTX_STATUS_STATE).un 255), 4), (((F.STR_CTX_DST_A_ADDR.at [3]).un 255), 0x0A000001)]), 255, by decide +kernel⟩,
   ⟨up .solo, 4, by decide +kernel⟩,
   ⟨up .solo, true, 3, 31, 31, 0xFFFF, by decide +kernel⟩,
   ⟨(regs (up .solo) [(F.MGT_MDIO_CMD_GO, 1)]), 7, by decide +kernel⟩,
   ⟨(on ((regs (up .solo) [(F.MGT_MDIO_CMD_GO, 1)])) fun d => { d with net := { d.net with mdioRead := true } }), 7, by decide +kernel⟩⟩

/-- Hypotheses of StreamContexts. -/
theorem witness_StreamContexts :
  (∃ s : State, ∃ c : Fin 256, ∃ p : Fin 4, ∃ vid : Nat, ∃ flow : MediaFlow, ∃ rtp : List Byte, ∃ detected : Tai, ∃ _m : Nat, ∃ _k : Nat, let d := s.dev; let r := Rtp.parse rtp; let l : Int := d.cf F.STR_CTX_MAP_LINK_OFFSET c; let f : Int := d.indexAt (d.ingress p detected); let bytes := formatBytes (d.cf F.STR_CTX_CFG_FORMAT c); d.inServicePort p = true ∧ d.mediaFor p vid flow r.pt = [(c.val, false)] ∧ r.version ≠ 2) ∧
  (∃ s : State, ∃ c : Fin 256, ∃ top : Nat, ∃ mac : Nat, s.dev.booted = true ∧ s.dev.ctxState c = 4 ∧ (s.dev.ctx c).top = some top ∧ (s.dev.ctx c).nextK + s.dev.ctxN c ≤ top + 1 ∧ (s.dev.ctx c).endK = none ∧ (s.dev.ctx c).jumpTo ≤ (s.dev.ctx c).nextK ∧ s.dev.on F.PAIR_CFG_EN = false ∧ s.dev.serving = true ∧ s.dev.ctxPaired c = false ∧ s.dev.ctxMac c false = some mac) ∧
  (∃ s : State, ∃ c : Fin 256, s.dev.booted = true ∧ s.dev.ctxState c = 2 ∧ s.dev.ctxSilent c (s.dev.ctx c).heardA = true ∧ s.dev.ctxSilent c (s.dev.ctx c).heardB = true) ∧
  (∃ s : State, ∃ c : Fin 256, ∃ copyB : Bool, s.dev.booted = true ∧ s.dev.on ((pick copyB F.STR_CTX_STATUS_COPY_A_OK F.STR_CTX_STATUS_COPY_B_OK).un c) = true ∧ s.dev.ctxSilent c (pick copyB (s.dev.ctx c).heardA (s.dev.ctx c).heardB) = true ∧ s.dev.ctxState c = 2 ∧ s.dev.ctxPaired c = true) ∧
  (∃ s : State, ∃ c : Fin 256, ∃ copyB : Bool, s.dev.booted = true ∧ s.dev.on ((pick copyB F.STR_CTX_STATUS_COPY_A_OK F.STR_CTX_STATUS_COPY_B_OK).un c) = true ∧ s.dev.ctxSilent c (pick copyB (s.dev.ctx c).heardA (s.dev.ctx c).heardB) = true ∧ s.dev.ctxState c = 2 ∧ s.dev.ctxPaired c = true) ∧
  (∃ s : State, ∃ _c : Fin 256, s.dev.booted = true) :=
  ⟨⟨(regs ((regs (up .solo) [(F.NET_CFG_EN.at [0], 1), (((F.STR_CTX_STATUS_STATE).un 255), 3)])) [(((F.STR_CTX_UDP_UDP_A).un 255), 5004)]), 255, 0, 0, ⟨false, 5, 0, 5004⟩, toBE 1 0x40 ++ toBE 20 0, ⟨100, 30000, 0⟩, 1, 1, by dsimp only; decide +kernel⟩,
   ⟨(on ((regs (up .solo) [(((F.STR_CTX_STATUS_STATE).un 255), 4), (((F.STR_CTX_DST_A_ADDR.at [3]).un 255), 0xE0000001)])) fun d => { d with str := [(255, { top := some 47, nextK := 0 })] }), 255, 47, 0x01005E000001, by decide +kernel⟩,
   ⟨(regs (up .solo) [(((F.STR_CTX_STATUS_STATE).un 255), 2)]), 255, by decide +kernel⟩,
   ⟨(regs (up .solo) [(((F.STR_CTX_STATUS_STATE).un 255), 2), (((F.STR_CTX_CFG_PAIRED).un 255), 1), (((F.STR_CTX_STATUS_COPY_B_OK).un 255), 1)]), 255, true, by decide +kernel⟩,
   ⟨(regs (up .solo) [(((F.STR_CTX_STATUS_STATE).un 255), 2), (((F.STR_CTX_CFG_PAIRED).un 255), 1), (((F.STR_CTX_STATUS_COPY_A_OK).un 255), 1)]), 255, false, by decide +kernel⟩,
   ⟨up .solo, 255, by decide +kernel⟩⟩

/-- Hypotheses of AudioPortsAndMediaClocks. -/
theorem witness_AudioPortsAndMediaClocks :
  (∃ s : State, ∃ g : Fin 8, s.dev.alive = true ∧ s.dev.on (F.CLK_MCLK_STATUS_LOCKED.at [g]) = true) ∧
  (∃ s : State, ∃ g : Fin 8, s.dev.alive = true ∧ s.dev.mclkRuns g = true) ∧
  (∃ s : State, ∃ p : Fin 16, ∃ _edge : Tai, ∃ period : Nat, ∃ bclks : Nat, ∃ _good : Bool, ∃ _slots : List (BitVec 32), ∃ f : Nat, s.dev.booted = true ∧ s.dev.isAes p = false ∧ s.dev.aptState p = 0 ∧ s.dev.pf F.APT_STATUS_SETTLED p = 1 ∧ (s.dev.apo p).frame = some f ∧ (s.dev.apo p).invalid = 0 ∧ s.dev.periodOk period = true ∧ bclks = s.dev.pf F.APT_CFG_SLOTS p * widthBits (s.dev.pf F.APT_CFG_WIDTH p)) ∧
  (∃ s : State, ∃ p : Fin 16, ∃ _edge : Tai, ∃ period : Nat, ∃ _bclks : Nat, ∃ _good : Bool, ∃ _slots : List (BitVec 32), ∃ f : Nat, s.dev.booted = true ∧ s.dev.isAes p = false ∧ s.dev.aptState p = 0 ∧ s.dev.pf F.APT_STATUS_SETTLED p = 1 ∧ (s.dev.apo p).frame = some f ∧ (s.dev.apo p).invalid = 0 ∧ s.dev.periodOk period = false) ∧
  (∃ s : State, ∃ p : Fin 16, ∃ at_ : Nat, s.dev.booted = true ∧ (s.dev.apo p).edge = some at_ ∧ at_ + s.dev.twoFrames ≤ s.dev.time.cycles) ∧
  (∃ s : State, s.dev.booted = true ∧ (∀ p : Fin 16, s.dev.aptState p ≠ 2 ∧ (s.dev.apo p).pend = [])) ∧
  (∃ s : State, s.dev.booted = true ∧ (∀ p : Fin 16, s.dev.aptState p ≠ 2 ∧ (s.dev.apo p).pend = []) ∧ ∃ m, (s.dev.apo 15).rx.mean = some m ∧ m < 256) ∧
  (∃ s : State, ∃ g : Fin 8, ∃ at_ : Nat, s.dev.booted = true ∧ s.dev.on (F.CLK_MCLK_STATUS_TRIM_CLAMPED.at [g]) = true ∧ s.dev.clk.clamped.find? g = some at_ ∧ s.dev.past at_ 1000 = true) ∧
  (∃ s : State, ∃ p : Fin 16, s.dev.booted = true ∧ (s.dev.apo p).lastSlip = none ∧ (s.dev.apo p).clampSince = none ∧ s.dev.on (F.CLK_MCLK_STATUS_TRIM_CLAMPED.at [p / 2]) = false) ∧
  (∃ s : State, ∃ p : Fin 16, s.dev.booted = true ∧ s.dev.aptState p = 3 ∧ s.dev.pf F.APT_SETTLE_SETTLE p ≤ (s.dev.apo p).stopFrames) ∧
  (∃ s : State, ∃ _p : Fin 16, s.dev.booted = true) :=
  ⟨⟨(regs (up .solo) [(F.CLK_MCLK_STATUS_LOCKED.at [7], 1)]), 7, by decide +kernel⟩,
   ⟨(regs (up .solo) [(F.CLK_MCLK_CFG_EN.at [7], 1)]), 7, by decide +kernel⟩,
   ⟨(on ((regs (up .solo) [(F.APT_STATUS_SETTLED.at [15], 1)])) fun d => { d with apt := [(15, { frame := some 9, valid := 3 })] }), 15, ⟨100000, 0, 0⟩, 1365333333, 64, true, [], 9, by decide +kernel⟩,
   ⟨(on ((regs (up .solo) [(F.APT_STATUS_SETTLED.at [15], 1)])) fun d => { d with apt := [(15, { frame := some 9, valid := 3 })] }), 15, ⟨100000, 0, 0⟩, 1465333333, 64, true, [], 9, by decide +kernel⟩,
   ⟨(on (up .solo) fun d => { d with apt := [(15, { edge := some 9 })] }), 15, 9, by decide +kernel⟩,
   ⟨up .solo, by decide +kernel⟩,
   ⟨(on (up .solo) fun d => { d with apt := [(15, { rx := { fillSum := 10, fillCount := 2 } })] }), by refine ⟨by decide +kernel, by decide +kernel, 5, by decide +kernel, by decide +kernel⟩⟩,
   ⟨(on ((regs (up .solo) [(F.CLK_MCLK_STATUS_TRIM_CLAMPED.at [7], 1)])) fun d => { d with clk := { d.clk with clamped := [(7, 9)] } }), 7, 9, by decide +kernel⟩,
   ⟨up .solo, 15, by decide +kernel⟩,
   ⟨(on ((regs (up .solo) [(F.APT_STATUS_STATE.at [15], 3)])) fun d => { d with apt := [(15, { stopFrames := 480 })] }), 15, by decide +kernel⟩,
   ⟨up .solo, 15, by decide +kernel⟩⟩

/-- Hypotheses of AudioFramesAndZoneLevels. -/
theorem witness_AudioFramesAndZoneLevels :
  (∃ s : State, s.dev.booted = true ∧ s.dev.audioRuns = true ∧ s.dev.island.islanded = false ∧ s.dev.alm.audio = [] ∧ s.dev.mode.mode ≠ .safeHold) ∧
  (∃ s : State, s.dev.booted = true ∧ s.dev.audioRuns = false ∧ s.dev.island.islanded = false ∧ s.dev.alm.audio = [] ∧ (∀ p ∈ s.dev.lib.plays, p.mark = none)) ∧
  (∃ s : State, ∃ z : Fin 1536, ∃ level : Fin 8, ∃ e : Nat, ∃ k : Nat, s.dev.booted = true ∧ (s.dev.zone z).ended.find? level = some e ∧ s.dev.mtx.last = some k ∧ e + s.dev.zf F.MTX_ZN_CFG_HANG_MS z * s.dev.fs / 1000 ≤ k + 1) :=
  ⟨⟨up .solo, by decide +kernel⟩,
   ⟨up .commission, by decide +kernel⟩,
   ⟨(on ((regs (up .solo) [(F.MTX_ZN_STATUS_ACTIVE.un 1535, 128)])) fun d => { d with mtx := { d.mtx with last := some 99, zones := [(1535, { ended := [(7, 100)] })] } }), 1535, 7, 100, 99, by decide +kernel⟩⟩

/-- Hypotheses of LibraryVoicesAndRecorder. -/
theorem witness_LibraryVoicesAndRecorder :
  (∃ s : State, ∃ message : BitVec 32, ∃ voice : BitVec 8, ∃ level : BitVec 8, ∃ zones : BitVec 16, ∃ safety : Bool, let p : Play := { source := .message message.toNat, voice := voice.toNat, level := level.toNat, zoneSet := zones.toNat, classS := safety, origin := 4, due := s.dev.playDue }; s.dev.booted = true ∧ s.dev.playArgs p = .ok ∧ s.dev.claimRefused p = false ∧ s.dev.msgStatus message.toNat = .ok ∧ (s.dev.allot (if safety then .s else .a) (s.dev.cost 9 1)).1 = true ∧ voice.toNat < 64 ∧ s.dev.voice voice.toNat = none ∧ ∀ q ∈ s.dev.lib.plays, q.voice ≠ voice.toNat) ∧
  (∃ s : State, ∃ message : BitVec 32, ∃ voice : BitVec 8, ∃ level : BitVec 8, ∃ zones : BitVec 16, ∃ safety : Bool, let p : Play := { source := .message message.toNat, voice := voice.toNat, level := level.toNat, zoneSet := zones.toNat, classS := safety, origin := 4, due := s.dev.playDue }; s.dev.booted = true ∧ s.dev.playArgs p = .ok ∧ s.dev.claimRefused p = false ∧ s.dev.msgStatus message.toNat = .busy) ∧
  (∃ s : State, ∃ v : Fin 64, ∃ safety : Bool, ∃ x : Voice, ∃ a : Nat, ∃ b : Nat, s.dev.booted = true ∧ s.dev.voice v = some x ∧ x.source = .rewind a b 0 ∧ x.fade = none ∧ (x.classS = true → safety = true)) ∧
  (∃ s : State, ∃ mark : Fin 256, ∃ channel : BitVec 8, ∃ voice : BitVec 8, ∃ level : BitVec 8, ∃ zones : BitVec 16, ∃ length : BitVec 32, ∃ safety : Bool, let p : Play := { source := .rewind 0 channel.toNat length.toNat, voice := voice.toNat, level := level.toNat, zoneSet := zones.toNat, classS := safety, origin := 4, due := s.dev.playDue, mark := some mark.val }; s.dev.booted = true ∧ channel.toNat < 64 ∧ s.dev.playArgs p = .ok ∧ s.dev.claimRefused p = false ∧ (s.dev.allot (if safety then .s else .a) (s.dev.cost 9 1)).1 = true) ∧
  (∃ s : State, ∃ _row : Fin 256, ∃ position : BitVec 64, ∃ _label : BitVec 32, ∃ _session : BitVec 32, s.dev.booted = true ∧ position.toNat ≠ 0 ∧ s.dev.recOldest ≤ position.toNat ∧ position.toNat < s.dev.lib.recd.w) ∧
  (∃ s : State, ∃ row : Fin 15360, ∃ entry : List Byte, s.dev.booted = true ∧ (s.dev.indexWrite row entry).2 = .ok ∧ leAt (slice entry 0 64) 0 4 = 0) ∧
  (∃ s : State, ∃ row : Fin 15360, ∃ entry : List Byte, s.dev.booted = true ∧ (s.dev.indexWrite row entry).2 = .ok ∧ leAt (slice entry 0 64) 0 4 ≠ 0) ∧
  (∃ s : State, ∃ row : Fin 15360, ∃ m : Message, ∃ audio : List Byte, s.dev.booted = true ∧ s.dev.lib.order = [row.val] ∧ s.dev.libMayLoad = true ∧ s.dev.lib.msgs.find? row = some m ∧ m.nand = some audio ∧ m.dram = none ∧ m.noRoom = false ∧ crc32c audio = m.audioCrc ∧ s.dev.lib.waiting = []) ∧
  (∃ s : State, ∃ row : Fin 15360, ∃ m : Message, s.dev.booted = true ∧ s.dev.noNand = false ∧ s.dev.lib.msgs.find? row = some m ∧ m.dram.isSome = true ∧ s.dev.libMayLoad = true) :=
  ⟨⟨(on ((regs (up .solo) [(((F.MTX_ZS_MAP_MAP.at [47]).un 9), 2 ^ 31)])) fun d => { d with lib := { d.lib with msgs := [(3, { entry := at_ 64 [(0, 7), (4, 480), (60, crc32c (at_ 60 [(0, 7), (4, 480)]))], dram := some [1] })] } }), 7, 63, 7, 9, false, by dsimp only; decide +kernel⟩,
   ⟨(on ((regs (up .solo) [(((F.MTX_ZS_MAP_MAP.at [47]).un 9), 2 ^ 31)])) fun d => { d with lib := { d.lib with msgs := [(3, { entry := at_ 64 [(0, 7), (4, 480), (60, crc32c (at_ 60 [(0, 7), (4, 480)]))] })] } }), 7, 63, 7, 9, false, by dsimp only; decide +kernel⟩,
   ⟨(on (up .solo) fun d => { d with lib := { d.lib with voices := [(63, { source := .rewind 3 4 0, level := 0, zoneSet := 0, zones := [], classS := true, start := 0, pos := 0 })] } }), 63, true, { source := .rewind 3 4 0, level := 0, zoneSet := 0, zones := [], classS := true, start := 0, pos := 0 }, 3, 4, by decide +kernel⟩,
   ⟨(on ((regs (up .solo) [(((F.MTX_ZS_MAP_MAP.at [47]).un 9), 2 ^ 31)])) fun d => { d with lib := { d.lib with msgs := [(3, { entry := at_ 64 [(0, 7), (4, 480), (60, crc32c (at_ 60 [(0, 7), (4, 480)]))], dram := some [1] })] } }), 255, 63, 63, 7, 9, 48000, false, by dsimp only; decide +kernel⟩,
   ⟨(on (up .solo) fun d => { d with boot := { d.boot with recorder := 4 }, lib := { d.lib with recd := { running := true, w := 9 } } }), 255, 8, 1, 2, by decide +kernel⟩,
   ⟨up .solo, 15359, at_ 64 [], by decide +kernel⟩,
   ⟨(on ((regs (up .solo) [(F.GCTL_BOOT_STATUS_BOOT_SEL, 1)])) fun d => { d with boot := { d.boot with library := 64 } }), 15359, at_ 64 [(0, 7), (4, 480), (60, crc32c (at_ 60 [(0, 7), (4, 480)]))], by decide +kernel⟩,
   ⟨(on (up .solo) fun d => { d with lib := { d.lib with order := [15359], msgs := [(15359, { entry := at_ 64 [(0, 7), (4, 1), (16, crc32c [1, 2, 3])], nand := some [1, 2, 3] })] } }), 15359, { entry := at_ 64 [(0, 7), (4, 1), (16, crc32c [1, 2, 3])], nand := some [1, 2, 3] }, [1, 2, 3], by decide +kernel⟩,
   ⟨(on (up .solo) fun d => { d with lib := { d.lib with msgs := [(15359, { entry := at_ 64 [(0, 7), (4, 480), (60, crc32c (at_ 60 [(0, 7), (4, 480)]))], dram := some [1] })] } }), 15359, { entry := at_ 64 [(0, 7), (4, 480), (60, crc32c (at_ 60 [(0, 7), (4, 480)]))], dram := some [1] }, by decide +kernel⟩⟩

/-- Hypotheses of MemoryErrorsAndScrub. -/
theorem witness_MemoryErrorsAndScrub :
  (∃ s : State, ∃ region : Region, s.dev.alive = true ∧ (region.dram = true → s.dev.boot.fitted ≠ 0)) ∧
  (∃ s : State, ∃ region : Region, s.dev.alive = true ∧ (region.dram = true → s.dev.boot.fitted ≠ 0)) ∧
  (∃ s : State, s.dev.alive = true ∧ s.dev.mode.mode ≠ .reset ∧ s.dev.mode.mode ≠ .safeHold ∧ s.dev.mode.mode ≠ .bootstrap ∧ s.dev.mode.decided = none) ∧
  (∃ s : State, ∃ _c : Fin 256, ∃ _slot : Nat, s.dev.alive = true ∧ s.dev.boot.fitted ≠ 0) ∧
  (∃ s : State, ∃ _dram : Bool, s.dev.booted = true ∧ s.dev.isShed .scrub = false ∧ s.dev.bBarred = false ∧ 0 ≤ s.dev.headroom ∧ s.dev.boot.fitted ≠ 0) ∧
  (∃ s : State, ∃ _dram : Bool, s.dev.booted = true ∧ s.dev.isShed .scrub = false ∧ s.dev.bBarred = false ∧ 0 ≤ s.dev.headroom ∧ s.dev.boot.fitted ≠ 0) :=
  ⟨⟨up .solo, .queue 31 0, by decide +kernel⟩,
   ⟨(on (up .solo) fun d => { d with boot := { d.boot with fitted := 4096 } }), .library 15359, by decide +kernel⟩,
   ⟨up .solo, by decide +kernel⟩,
   ⟨(on (up .solo) fun d => { d with boot := { d.boot with fitted := 4096 } }), 255, 9, by decide +kernel⟩,
   ⟨(on (up .solo) fun d => { d with boot := { d.boot with fitted := 4096 } }), true, by decide +kernel⟩,
   ⟨(on (up .solo) fun d => { d with boot := { d.boot with fitted := 4096 } }), false, by decide +kernel⟩⟩

/-- Hypotheses of PilotOutcomesAndLostUnits. -/
theorem witness_PilotOutcomesAndLostUnits :
  (∃ s : State, ∃ i : Fin 128, ∃ x : Corr, s.dev.booted = true ∧ s.dev.sup.corrs.find? i = some x ∧ x.want ≤ x.adm.length ∧ x.band = none) ∧
  (∃ s : State, ∃ i : Fin 128, ∃ x : Corr, s.dev.booted = true ∧ s.dev.sup.corrs.find? i = some x ∧ x.adm.length < x.want ∧ x.band = none ∧ s.dev.past x.began (10000 * s.dev.zf F.SUP_PATH_INT_INT_S x.path) = true) ∧
  (∃ s : State, ∃ _z : Fin 1536, s.dev.booted = true) ∧
  (∃ s : State, ∃ u : Unit33, s.dev.booted = true ∧ s.dev.isLost u.kind u.number = false) ∧
  (∃ s : State, ∃ u : Unit33, s.dev.booted = true ∧ s.dev.isLost u.kind u.number = false) ∧
  (∃ s : State, ∃ i : Fin 128, ∃ x : Corr, ∃ b : Nat, s.dev.booted = true ∧ s.dev.sup.corrs.find? i = some x ∧ x.band = some b ∧ b < 8 ∧ s.dev.past x.began (1000 * s.dev.sweepS) = true) :=
  ⟨⟨(on (up .solo) fun d => { d with sup := { d.sup with corrs := [(127, { path := 1535, began := 5, lagBase := 0, want := 0, adm := [] })] } }), 127, { path := 1535, began := 5, lagBase := 0, want := 0, adm := [] }, by decide +kernel⟩,
   ⟨(on (up .solo) fun d => { d with sup := { d.sup with corrs := [(127, { path := 1535, began := 5, lagBase := 0, want := 1, adm := [] })] } }), 127, { path := 1535, began := 5, lagBase := 0, want := 1, adm := [] }, by decide +kernel⟩,
   ⟨up .solo, 1535, by decide +kernel⟩,
   ⟨up .solo, .lane 3, by decide +kernel⟩,
   ⟨up .solo, .irmon, by decide +kernel⟩,
   ⟨(on (up .solo) fun d => { d with sup := { d.sup with corrs := [(127, { path := 1535, began := 5, lagBase := 0, want := 1, adm := [] , band := some 7 })] } }), 127, { path := 1535, began := 5, lagBase := 0, want := 1, adm := [] , band := some 7 }, 7, by decide +kernel⟩⟩

/-- Hypotheses of VigilAndSelfTest. -/
theorem witness_VigilAndSelfTest :
  (∃ s : State, ∃ v : VigilSt, ∃ row : Nat, ∃ rest : List Nat, s.dev.mode.mode = .vigil ∧ s.dev.sup.vigil = some v ∧ v.todo = row :: rest ∧ s.dev.sup.testing = none ∧ s.dev.activeStep row = false ∧ s.dev.mayTest row = false) ∧
  (∃ s : State, ∃ v : VigilSt, ∃ row : Nat, ∃ rest : List Nat, s.dev.mode.mode = .vigil ∧ s.dev.sup.vigil = some v ∧ v.todo = row :: rest ∧ s.dev.sup.testing = none ∧ s.dev.activeStep row = false ∧ s.dev.mayTest row = true ∧ s.dev.bBarred = false ∧ (s.dev.allot .b (s.dev.cost 11 1)).1 = true) ∧
  (∃ s : State, ∃ v : VigilSt, ∃ row : Nat, ∃ rest : List Nat, s.dev.mode.mode = .vigil ∧ s.dev.sup.vigil = some v ∧ v.todo = row :: rest ∧ s.dev.sup.testing = none ∧ s.dev.activeStep row = false ∧ s.dev.mayTest row = true ∧ s.dev.bBarred = false ∧ (s.dev.allot .b (s.dev.cost 11 1)).1 = false) ∧
  (∃ s : State, ∃ x : Testing, ∃ stream : List Byte, ∃ _measured : BitVec 16, s.dev.sup.testing = some x ∧ x.row < 75 ∧ testSig stream (Config.selfTestCycles x.row (s.dev.testParam x.row)) true = s.dev.testExpect x.row) ∧
  (∃ s : State, ∃ x : Testing, s.dev.sup.testing = some x) ∧
  (∃ s : State, ∃ v : VigilSt, ∃ row : Nat, ∃ since : Nat, ∃ rest : List Nat, s.dev.sup.vigil = some v ∧ v.todo = row :: rest ∧ v.waiting = some since ∧ s.dev.past since 60000 = true) ∧
  (∃ s : State, ∃ v : VigilSt, s.dev.mode.mode = .vigil ∧ s.dev.sup.vigil = some v ∧ s.dev.past v.began (v.plan.getD 1 240 * 60000) = true ∧ s.dev.mode.decided = none) ∧
  (∃ s : State, ∃ v : VigilSt, s.dev.booted = true ∧ s.dev.mode.mode = .vigil ∧ s.dev.sup.vigil = some v ∧ s.dev.mode.decided = none) ∧
  (∃ s : State, ∃ test : BitVec 8, ∃ inst : BitVec 8, ∃ row : Nat, s.dev.booted = true ∧ testRow test.toNat inst.toNat = some row) ∧
  (∃ s : State, ∃ test : BitVec 8, ∃ inst : BitVec 8, ∃ row : Nat, s.dev.booted = true ∧ testRow test.toNat inst.toNat = some row ∧ s.dev.mode.mode = .maintenance ∧ s.dev.sup.testing = none ∧ s.dev.mayTest row = true) ∧
  (∃ s : State, ∃ v : VigilSt, ∃ row : Nat, ∃ rest : List Nat, s.dev.mode.mode = .vigil ∧ s.dev.sup.vigil = some v ∧ v.todo = row :: rest ∧ s.dev.sup.testing = none ∧ s.dev.activeStep row = false ∧ s.dev.mayTest row = true ∧ s.dev.bBarred = true) :=
  ⟨⟨(on (up .vigil) fun d => { d with sup := { d.sup with vigil := some { plan := [], began := 5, entry := ⟨9, 0, 0⟩, todo := [1, 7], counts := [], waiting := none }, testing := none } }), { plan := [], began := 5, entry := ⟨9, 0, 0⟩, todo := [1, 7], counts := [], waiting := none }, 1, [7], by decide +kernel⟩,
   ⟨(on (up .vigil) fun d => { d with sup := { d.sup with vigil := some { plan := [], began := 5, entry := ⟨9, 0, 0⟩, todo := [0, 7], counts := [], waiting := none }, testing := none } }), { plan := [], began := 5, entry := ⟨9, 0, 0⟩, todo := [0, 7], counts := [], waiting := none }, 0, [7], by decide +kernel⟩,
   ⟨(regs ((on (up .vigil) fun d => { d with sup := { d.sup with vigil := some { plan := [], began := 5, entry := ⟨9, 0, 0⟩, todo := [0, 7], counts := [], waiting := none }, testing := none } })) [(F.PWR_CAP_NOW_CAP, 0)]), { plan := [], began := 5, entry := ⟨9, 0, 0⟩, todo := [0, 7], counts := [], waiting := none }, 0, [7], by decide +kernel⟩,
   ⟨(on (up .vigil) fun d => { d with sup := { d.sup with vigil := some { plan := [], began := 5, entry := ⟨9, 0, 0⟩, todo := [], counts := [], waiting := none }, testing := some ⟨5, 9, false⟩ } }), ⟨5, 9, false⟩, Config.selfTestStream 5 0, 3, by exact ⟨rfl, by decide +kernel, rfl⟩⟩,
   ⟨(on (up .vigil) fun d => { d with sup := { d.sup with vigil := some { plan := [], began := 5, entry := ⟨9, 0, 0⟩, todo := [], counts := [], waiting := none }, testing := some ⟨5, 9, false⟩ } }), ⟨5, 9, false⟩, by decide +kernel⟩,
   ⟨(on (up .vigil) fun d => { d with sup := { d.sup with vigil := some { plan := [], began := 5, entry := ⟨9, 0, 0⟩, todo := [6, 7], counts := [], waiting := some 5 }, testing := none } }), { plan := [], began := 5, entry := ⟨9, 0, 0⟩, todo := [6, 7], counts := [], waiting := some 5 }, 6, 5, [7], by decide +kernel⟩,
   ⟨(on (up .vigil) fun d => { d with sup := { d.sup with vigil := some { plan := [], began := 5, entry := ⟨9, 0, 0⟩, todo := [6, 7], counts := [], waiting := none }, testing := none } }), { plan := [], began := 5, entry := ⟨9, 0, 0⟩, todo := [6, 7], counts := [], waiting := none }, by decide +kernel⟩,
   ⟨(on (up .vigil) fun d => { d with sup := { d.sup with vigil := some { plan := [], began := 5, entry := ⟨9, 0, 0⟩, todo := [6, 7], counts := [], waiting := none }, testing := none } }), { plan := [], began := 5, entry := ⟨9, 0, 0⟩, todo := [6, 7], counts := [], waiting := none }, by decide +kernel⟩,
   ⟨up .solo, 1, 0, 0, by decide +kernel⟩,
   ⟨up .maintenance, 1, 0, 0, by decide +kernel⟩,
   ⟨(regs ((on (up .vigil) fun d => { d with sup := { d.sup with vigil := some { plan := [], began := 5, entry := ⟨9, 0, 0⟩, todo := [0, 7], counts := [], waiting := none }, testing := none } })) [(F.PWR_STATUS_ON_BATTERY, 1)]), { plan := [], began := 5, entry := ⟨9, 0, 0⟩, todo := [0, 7], counts := [], waiting := none }, 0, [7], by decide +kernel⟩⟩

/-- Hypotheses of SelfTestRunGoesOn. -/
theorem witness_SelfTestRunGoesOn :
  (∃ s : State, ∃ v : VigilSt, ∃ row : Nat, ∃ rest : List Nat, s.dev.mode.mode = .vigil ∧ s.dev.sup.vigil = some v ∧ v.todo = row :: rest ∧ s.dev.sup.testing = none ∧ s.dev.activeStep row = false ∧ s.dev.mayTest row = true ∧ s.dev.bBarred = false ∧ (s.dev.allot .b (s.dev.cost 11 1)).1 = true) ∧
  (∃ s : State, ∃ x : Testing, ∃ stream : List Byte, ∃ _measured : BitVec 16, s.dev.sup.testing = some x ∧ x.row < 75 ∧ testSig stream (Config.selfTestCycles x.row (s.dev.testParam x.row)) true = s.dev.testExpect x.row) ∧
  (∃ s : State, ∃ v : VigilSt, ∃ row : Nat, ∃ since : Nat, ∃ rest : List Nat, s.dev.sup.vigil = some v ∧ v.todo = row :: rest ∧ v.waiting = some since ∧ s.dev.past since 60000 = true ∧ rest ≠ []) ∧
  (∃ s : State, ∃ v : VigilSt, s.dev.mode.mode = .vigil ∧ s.dev.sup.vigil = some v ∧ s.dev.mode.decided = none ∧ s.dev.past v.began (v.plan.getD 1 240 * 60000) = true) ∧
  (∃ s : State, ∃ v : VigilSt, s.dev.booted = true ∧ s.dev.mode.mode = .vigil ∧ s.dev.sup.vigil = some v ∧ s.dev.mode.decided = none) ∧
  (∃ s : State, ∃ test : BitVec 8, ∃ inst : BitVec 8, ∃ row : Nat, s.dev.booted = true ∧ testRow test.toNat inst.toNat = some row ∧ s.dev.mode.mode = .maintenance ∧ s.dev.sup.testing = none ∧ s.dev.mayTest row = true) :=
  ⟨⟨(on (up .vigil) fun d => { d with sup := { d.sup with vigil := some { plan := [], began := 5, entry := ⟨9, 0, 0⟩, todo := [0, 7], counts := [], waiting := none }, testing := none } }), { plan := [], began := 5, entry := ⟨9, 0, 0⟩, todo := [0, 7], counts := [], waiting := none }, 0, [7], by decide +kernel⟩,
   ⟨(on (up .vigil) fun d => { d with sup := { d.sup with vigil := some { plan := [], began := 5, entry := ⟨9, 0, 0⟩, todo := [], counts := [], waiting := none }, testing := some ⟨5, 9, false⟩ } }), ⟨5, 9, false⟩, Config.selfTestStream 5 0, 3, by exact ⟨rfl, by decide +kernel, rfl⟩⟩,
   ⟨(on (up .vigil) fun d => { d with sup := { d.sup with vigil := some { plan := [], began := 5, entry := ⟨9, 0, 0⟩, todo := [6, 7], counts := [], waiting := some 5 }, testing := none } }), { plan := [], began := 5, entry := ⟨9, 0, 0⟩, todo := [6, 7], counts := [], waiting := some 5 }, 6, 5, [7], by decide +kernel⟩,
   ⟨(on (up .vigil) fun d => { d with sup := { d.sup with vigil := some { plan := [], began := 5, entry := ⟨9, 0, 0⟩, todo := [6, 7], counts := [], waiting := none }, testing := none } }), { plan := [], began := 5, entry := ⟨9, 0, 0⟩, todo := [6, 7], counts := [], waiting := none }, by decide +kernel⟩,
   ⟨(on (up .vigil) fun d => { d with sup := { d.sup with vigil := some { plan := [], began := 5, entry := ⟨9, 0, 0⟩, todo := [6, 7], counts := [], waiting := none }, testing := none } }), { plan := [], began := 5, entry := ⟨9, 0, 0⟩, todo := [6, 7], counts := [], waiting := none }, by decide +kernel⟩,
   ⟨up .maintenance, 1, 0, 0, by decide +kernel⟩⟩

/-- Hypotheses of BudgetScheduler. -/
theorem witness_BudgetScheduler :
  (∃ s : State, ∃ _power : BitVec 16, ∃ _tj : BitVec 16, ∃ _railsOk : Bool, s.dev.alive = true ∧ 1 ≤ s.dev.rd F.GCTL_BOOT_STATUS_BOOT_STEP) ∧
  (∃ s : State, ∃ _power : BitVec 16, ∃ _tj : BitVec 16, ∃ _railsOk : Bool, s.dev.alive = true ∧ 1 ≤ s.dev.rd F.GCTL_BOOT_STATUS_BOOT_STEP) ∧
  (∃ s : State, let want : Int := (s.dev.rd F.PWR_MEAS_P : Int) - ((s.dev.rd F.PWR_CAP_NOW_CAP : Int) - s.dev.rd F.PWR_MARGIN_MARGIN); s.dev.booted = true ∧ s.dev.follows = false ∧ 10 ≤ s.dev.pwr.high ∧ ∃ u, s.dev.pickShed s.dev.shedOrder want [] = [u] ∧ u.ends = false) ∧
  (∃ s : State, let want : Int := (s.dev.rd F.PWR_MEAS_P : Int) - ((s.dev.rd F.PWR_CAP_NOW_CAP : Int) - s.dev.rd F.PWR_MARGIN_MARGIN); s.dev.booted = true ∧ s.dev.follows = false ∧ 10 ≤ s.dev.pwr.high ∧ s.dev.pickShed s.dev.shedOrder want [] = []) ∧
  (∃ s : State, ∃ since : Nat, ∃ u : ShedUnit, s.dev.booted = true ∧ s.dev.follows = false ∧ s.dev.pwr.low = some since ∧ s.dev.nextRestore = some u ∧ since + s.dev.rd F.PWR_RESTORE_RESTORE_HOLD ≤ s.dev.pwr.ticks ∧ s.dev.pwr.restored + 100 ≤ s.dev.pwr.ticks ∧ (s.dev.restoreCost u : Int) ≤ s.dev.headroom) ∧
  (∃ s : State, ∃ battery : Bool, s.dev.alive = true ∧ s.dev.on F.PWR_STATUS_ON_BATTERY ≠ battery) ∧
  (∃ s : State, s.dev.booted = true ∧ s.dev.pwr.written = none ∧ s.dev.on F.PWR_STATUS_RESERVE_STALE = false ∧ 1000 * s.dev.rd F.PWR_AUTONOMY_RESERVE_MAX_AGE ≤ s.dev.pwr.ticks) ∧
  (∃ s : State, ∃ at_ : Nat, s.dev.booted = true ∧ s.dev.pwr.written = some at_ ∧ s.dev.on F.PWR_STATUS_RESERVE_STALE = false ∧ s.dev.past at_ (1000 * s.dev.rd F.PWR_AUTONOMY_RESERVE_MAX_AGE) = true) ∧
  (∃ s : State, ∃ _mwh : BitVec 24, s.dev.booted = true) ∧
  (∃ s : State, s.dev.booted = true ∧ 3600000 ≤ s.dev.pwr.hourTicks ∧ s.dev.odp.store.isSome = true) :=
  ⟨⟨up .solo, 9501, 50, true, by decide +kernel⟩,
   ⟨up .solo, 100, 50, true, by decide +kernel⟩,
   ⟨(on ((regs (up .solo) [(F.PWR_MEAS_P, 9301)])) fun d => { d with pwr := { d.pwr with high := 10 } }), by refine ⟨by decide +kernel, by decide +kernel, by decide +kernel, .bank 7, by decide +kernel, by decide +kernel⟩⟩,
   ⟨(on (up .solo) fun d => { d with pwr := { d.pwr with high := 10 } }), by dsimp only; decide +kernel⟩,
   ⟨(on (up .solo) fun d => { d with pwr := { d.pwr with low := some 5, ticks := 1005, shed := [.scrub] } }), 5, .scrub, by decide +kernel⟩,
   ⟨up .solo, true, by decide +kernel⟩,
   ⟨(on (up .solo) fun d => { d with pwr := { d.pwr with ticks := 10 ^ 9 } }), by decide +kernel⟩,
   ⟨(on (up .solo) fun d => { d with pwr := { d.pwr with written := some 9 } }), 9, by decide +kernel⟩,
   ⟨up .solo, 0xFFFFFF, by decide +kernel⟩,
   ⟨(on (up .solo) fun d => { d with pwr := { d.pwr with hourTicks := 3600000, hourSum := 16 }, odp := { d.odp with store := some ⟨true, 1, ⟨0, 0, 0⟩, []⟩ } }), by decide +kernel⟩⟩

/-- Hypotheses of ModulesAndCages. -/
theorem witness_ModulesAndCages :
  (∃ s : State, ∃ m : Fin 8, s.dev.midRuns = true ∧ s.dev.modState m = 0) ∧
  (∃ s : State, ∃ m : Fin 8, s.dev.midRuns = true ∧ s.dev.modState m = 1 ∧ s.dev.modClash m = false) ∧
  (∃ s : State, ∃ m : Fin 8, s.dev.midRuns = true ∧ s.dev.modState m = 1 ∧ s.dev.modClash m = true) ∧
  (∃ s : State, ∃ m : Fin 8, ∃ _record : List Byte, ∃ _nacks : Fin 4, s.dev.midRuns = true ∧ s.dev.modState m = 2) ∧
  (∃ s : State, ∃ m : Fin 8, ∃ record : List Byte, ∃ _nacks : Fin 4, s.dev.midRuns = true ∧ s.dev.modState m = 2 ∧ omirError record = 0) ∧
  (∃ s : State, ∃ m : Fin 8, ∃ record : List Byte, ∃ _nacks : Fin 4, s.dev.midRuns = true ∧ s.dev.modState m = 2 ∧ omirError record ≠ 0) ∧
  (∃ s : State, ∃ m : Fin 8, s.dev.midRuns = true ∧ s.dev.modState m ≠ 0) ∧
  (∃ s : State, ∃ m : Fin 8, s.dev.midRuns = true ∧ 3 ≤ s.dev.modState m) ∧
  (∃ s : State, ∃ m : Fin 8, s.dev.midRuns = true ∧ 3 ≤ s.dev.modState m) ∧
  (∃ s : State, ∃ c : Fin 4, ∃ _page : List Byte, s.dev.midRuns = true ∧ s.dev.on (F.NET_CFG_EN.at [c]) = true) ∧
  (∃ s : State, ∃ c : Fin 4, ∃ page : List Byte, s.dev.midRuns = true ∧ s.dev.on (F.NET_CFG_EN.at [c]) = true ∧ sfpSumOk page = false) ∧
  (∃ s : State, ∃ c : Fin 4, ∃ _page : List Byte, s.dev.midRuns = true ∧ s.dev.on (F.NET_CFG_EN.at [c]) = true) ∧
  (∃ s : State, ∃ c : Fin 4, ∃ page : List Byte, s.dev.midRuns = true ∧ s.dev.on F.MID_CFG_SFP_POLL_EN = true ∧ s.dev.on (F.MID_SFP_STATUS_DDM.at [c]) = true ∧ s.dev.on (F.NET_CFG_EN.at [c]) = true ∧ page ≠ []) ∧
  (∃ s : State, ∃ mask : BitVec 16, ∃ p : Nat, ∃ x : Proposal, hostMay s true 0x9804 0 0 (toBE 2 mask.toNat) ∧ bitList 16 mask.toNat = [p] ∧ s.dev.mid.props.find? p = some x) :=
  ⟨⟨(regs (up .solo) [(F.MID_MOD_STATUS_STATE.at [7], 0)]), 7, by decide +kernel⟩,
   ⟨(regs (up .solo) [(F.MID_MOD_STATUS_STATE.at [7], 1)]), 7, by decide +kernel⟩,
   ⟨(regs (up .solo) [(F.MID_MOD_STATUS_STATE.at [7], 1), (F.MID_MOD_STATUS_STATE.at [3], 3)]), 7, by decide +kernel⟩,
   ⟨(regs (up .solo) [(F.MID_MOD_STATUS_STATE.at [7], 2)]), 7, [], 3, by decide +kernel⟩,
   ⟨(regs (up .solo) [(F.MID_MOD_STATUS_STATE.at [7], 2)]), 7, at_ 20 [(0, 0x4F4D4952), (4, 0x10), (6, 24), (8, 5)] ++ toLE 4 (crc32c (at_ 20 [(0, 0x4F4D4952), (4, 0x10), (6, 24), (8, 5)])), 2, by decide +kernel⟩,
   ⟨(regs (up .solo) [(F.MID_MOD_STATUS_STATE.at [7], 2)]), 7, [], 2, by decide +kernel⟩,
   ⟨(regs (up .solo) [(F.MID_MOD_STATUS_STATE.at [7], 5)]), 7, by decide +kernel⟩,
   ⟨(regs (up .solo) [(F.MID_MOD_STATUS_STATE.at [7], 5)]), 7, by decide +kernel⟩,
   ⟨(regs (up .solo) [(F.MID_MOD_STATUS_STATE.at [7], 3)]), 7, by decide +kernel⟩,
   ⟨(regs (up .solo) [(F.NET_CFG_EN.at [3], 1)]), 3, at_ 64 [], by decide +kernel⟩,
   ⟨(regs (up .solo) [(F.NET_CFG_EN.at [3], 1)]), 3, at_ 64 [(63, 1)], by decide +kernel⟩,
   ⟨(regs (up .solo) [(F.NET_CFG_EN.at [3], 1)]), 3, [], by decide +kernel⟩,
   ⟨(regs (up .solo) [(F.NET_CFG_EN.at [3], 1), (F.MID_SFP_STATUS_DDM.at [3], 1)]), 3, [1], by decide +kernel⟩,
   ⟨(on (up .commission) fun d => { d with mid := { d.mid with props := [(15, ⟨0, 1, 2, 2, 3, 3, none⟩)] } }), 0x8000, 15, ⟨0, 1, 2, 2, 3, 3, none⟩, by unfold hostMay; decide +kernel⟩⟩

/-- Hypotheses of PairLinkFrames. -/
theorem witness_PairLinkFrames :
  (∃ s : State, s.dev.booted = true ∧ s.dev.paired = true ∧ s.dev.roleMode = .active ∧ s.dev.irmonUp = true) ∧
  (∃ s : State, ∃ _payload : List Byte, ∃ _fcsOk : Bool, s.dev.booted = true ∧ s.dev.paired = true ∧ s.dev.irmonUp = true ∧ (false : Bool) = false) ∧
  (∃ s : State, ∃ payload : List Byte, ∃ _fcsOk : Bool, s.dev.booted = true ∧ s.dev.paired = true ∧ s.dev.irmonUp = true ∧ payload.length = 24 + 16 * beAt payload 10 2 ∧ beAt payload 0 1 = 1 ∧ beAt payload (payload.length - 4) 4 = crc32c (payload.take (payload.length - 4)) ∧ s.dev.mode.mode ≠ .active ∧ s.dev.follows = true ∧ grid48 (s.dev.time.tai.addNs 1000) < beAt payload 4 6) ∧
  (∃ s : State, s.dev.booted = true ∧ s.dev.watches = true ∧ s.dev.follows = true ∧ s.dev.roleMode = .marionette ∧ s.dev.pair.commands = [] ∧ s.dev.rd F.PAIR_STATUS_RESYNC_STEP ≠ 5 ∧ s.dev.pair.boundary = grid48 (s.dev.time.tai.addNs 1000) ∧ s.dev.pair.want = 1 ∧ s.dev.pair.frames.find? 0 = some [] ∧ bitAt s.dev.pair.inFlags 4 = true ∧ s.dev.mode.mode = .marionette ∧ s.dev.mode.decided = none) ∧
  (∃ s : State, s.dev.booted = true ∧ s.dev.watches = true ∧ s.dev.follows = true ∧ s.dev.roleMode = .marionette ∧ s.dev.pair.commands = [] ∧ s.dev.rd F.PAIR_STATUS_RESYNC_STEP ≠ 5 ∧ s.dev.pair.boundary ≠ grid48 (s.dev.time.tai.addNs 1000)) ∧
  (∃ s : State, s.dev.booted = true ∧ s.dev.paired = true ∧ s.dev.irmonUp = true) ∧
  (∃ s : State, ∃ f : TimeFrame, ∃ t1 : Tai, let ahead := (f.echoed.toSub : Int) - t1.toSub; let behind := (f.received.toSub : Int) - f.sent.toSub; let offset := (ahead - behind) / 8192 - s.dev.rdS F.PAIR_IRM_CAL_CAL; s.dev.booted = true ∧ s.dev.paired = true ∧ s.dev.irmonUp = true ∧ s.dev.timeSent f = some t1 ∧ (-2147483648 : Int) ≤ offset ∧ offset < 2147483648 ∧ (-2147483648 : Int) ≤ (ahead + behind) / 8192 ∧ (ahead + behind) / 8192 < 2147483648) ∧
  (∃ s : State, ∃ c : Command, s.dev.booted = true ∧ s.dev.watches = true ∧ s.dev.irmonUp = true ∧ s.dev.pair.commands = [] ∧ s.dev.indexAt s.dev.time.tai < c.boundary) ∧
  (∃ s : State, ∃ _c : Fin 256, ∃ _i : Nat, s.dev.booted = true ∧ s.dev.mode.mode = .resync ∧ s.dev.pair.halted = false ∧ s.dev.irmonUp = true ∧ 2 ≤ s.dev.rd F.PAIR_STATUS_RESYNC_STEP) ∧
  (∃ s : State, s.dev.booted = true ∧ s.dev.mode.mode = .resync ∧ s.dev.pair.halted = false ∧ s.dev.irmonUp = true ∧ 2 ≤ s.dev.rd F.PAIR_STATUS_RESYNC_STEP ∧ s.dev.rd F.PAIR_STATUS_RESYNC_STEP = 3) ∧
  (∃ s : State, ∃ _b : Nat, s.dev.booted = true ∧ s.dev.mode.mode = .resync ∧ s.dev.pair.halted = false ∧ s.dev.irmonUp = true ∧ 2 ≤ s.dev.rd F.PAIR_STATUS_RESYNC_STEP ∧ s.dev.rd F.PAIR_STATUS_RESYNC_STEP = 4 ∧ s.dev.tpath = 2 ∧ s.dev.timeNow = some 14) :=
  ⟨⟨pair .active, by decide +kernel⟩,
   ⟨pair .marionette, [], false, by decide +kernel⟩,
   ⟨pair .marionette, toBE 24 0x0101030200011e1a30020000000000000000004de09ce13d, true, by decide +kernel⟩,
   ⟨(on (pair .marionette) fun d => { d with pair := { d.pair with boundary := 4800000000, want := 1, frames := [(0, [])], inFlags := 16 } }), by decide +kernel⟩,
   ⟨pair .marionette, by decide +kernel⟩,
   ⟨pair .marionette, by decide +kernel⟩,
   ⟨(on (pair .marionette) fun d => { d with pair := { d.pair with timeTx := some ⟨100000, 0, 0⟩ } }), ⟨⟨100000, 500, 0⟩, ⟨100000, 600, 0⟩, 0, 0, 0, ⟨100000, 1000, 0⟩⟩, ⟨100000, 0, 0⟩, by dsimp only; decide +kernel⟩,
   ⟨pair .marionette, ⟨1, .engineer, 1, 0x1002, 0, 0, [], 0, 4, 4800000001⟩, by decide +kernel⟩,
   ⟨(regs (pair .resync) [(F.PAIR_STATUS_RESYNC_STEP, 2)]), 255, 9, by decide +kernel⟩,
   ⟨(regs (pair .resync) [(F.PAIR_STATUS_RESYNC_STEP, 3)]), by decide +kernel⟩,
   ⟨(regs ((regs (pair .resync) [(F.PAIR_STATUS_RESYNC_STEP, 4)])) [(F.REF_SEL_STATUS_TPATH_STATE, 2), (F.REF_SEL_STATUS_TIME_SEL_VALID, 1), (F.REF_SEL_STATUS_TIME_SEL, 14)]), 5, by decide +kernel⟩⟩

/-- Hypotheses of PairDigestsAndSigns. -/
theorem witness_PairDigestsAndSigns :
  (∃ s : State, s.dev.booted = true ∧ s.dev.paired = true ∧ s.dev.audioRuns = true ∧ s.dev.irmonUp = true ∧ s.dev.pair.theirs.find? (msOf s.dev.time.tai - 1) = none) ∧
  (∃ s : State, ∃ record : List Byte, s.dev.booted = true ∧ s.dev.paired = true ∧ s.dev.irmonUp = true ∧ record.length = 32 ∧ beAt record 28 4 = crc32c (record.take 28) ∧ s.dev.pair.own.find? (beAt record 0 8) = none ∧ bitAt (beAt record 24 1) 0 = true) ∧
  (∃ s : State, ∃ ms : BitVec 64, ∃ r : List Byte, s.dev.booted = true ∧ s.dev.paired = true ∧ s.dev.mode.mode ≠ .resync ∧ s.dev.pair.own.find? ms.toNat = some r ∧ s.dev.pair.theirs.find? ms.toNat = none ∧ ms.toNat + 2 ≤ msOf s.dev.time.tai ∧ s.dev.excused ms.toNat = false ∧ s.dev.rd F.PAIR_STATUS_MISMATCH_RUN = 0) ∧
  (∃ s : State, let n := ((List.range 4).filter (fun p => s.dev.inServicePort p && s.dev.linkUp p)).length; s.dev.booted = true ∧ s.dev.paired = true ∧ (∀ p : Fin 4, s.dev.txFree p 4 = true)) ∧
  (∃ s : State, ∃ p : Fin 4, ∃ source : List Byte, ∃ datagram : List Byte, ∃ g : Dgram, Dgram.parse datagram = some g ∧ s.dev.paired = true ∧ s.dev.inServicePort p = true ∧ g.kind = 0x10 ∧ hmac16 s.dev.pairKey g.signed = g.tag ∧ g.body.length = 24 ∧ s.dev.odp.peerSeq.find? (2 ^ 128 + ofBE (slice source 0 16)) = none ∧ s.dev.mode.mode ≠ .active) ∧
  (∃ s : State, s.dev.booted = true ∧ s.dev.watches = true) ∧
  (∃ s : State, s.dev.booted = true ∧ s.dev.paired = true ∧ s.dev.watches = true ∧ s.dev.mode.mode = .marionette ∧ s.dev.mode.decided = none ∧ s.dev.rd F.PAIR_STATUS_SIGN_CLAIM = 0 ∧ s.dev.rd F.PAIR_STATUS_SIGN_HB = 0) ∧
  (∃ s : State, s.dev.booted = true ∧ s.dev.paired = true ∧ s.dev.watches = true ∧ (List.range 4).any s.dev.linkUp = true) :=
  ⟨⟨pair .marionette, by decide +kernel⟩,
   ⟨pair .marionette, toBE 32 0x0000000005f5e0ff0000000000000000000000000000000001000000aea9916f, by decide +kernel⟩,
   ⟨(on (pair .marionette) fun d => { d with pair := { d.pair with own := [(99999998, [1])] } }), 99999998, [1], by decide +kernel⟩,
   ⟨pair .marionette, by decide +kernel⟩,
   ⟨(regs (pair .marionette) [(F.NET_CFG_EN.at [3], 1)]), 3, toBE 16 3, dgram 16 0 1 0 (toBE 24 0x000400000000000000000000000000630000000000000000) 0xa95b1e9305b1046877629499995787a7, dgParts 16 0 1 0 (toBE 24 0x000400000000000000000000000000630000000000000000) 0xa95b1e9305b1046877629499995787a7, by decide +kernel⟩,
   ⟨pair .marionette, by decide +kernel⟩,
   ⟨pair .marionette, by decide +kernel⟩,
   ⟨(regs (pair .marionette) [(F.NET_STATUS_LINK.at [0], 1)]), by decide +kernel⟩⟩

/-- Hypotheses of PairRolesChange. -/
theorem witness_PairRolesChange :
  (∃ s : State, s.dev.booted = true ∧ s.dev.watches = true ∧ 2 ≤ s.dev.signs ∧ s.dev.bound = false ∧ s.dev.pair.commands = []) ∧
  (∃ s : State, ∃ _claimLow : Bool, s.dev.booted = true ∧ s.dev.paired = true ∧ s.dev.bound = false ∧ s.dev.mode.mode = .active ∧ roleFlags s.dev.pair.sent ≠ 0) ∧
  (∃ s : State, ∃ _claimLow : Bool, s.dev.booted = true ∧ s.dev.paired = true ∧ s.dev.bound = false ∧ s.dev.mode.mode = .marionette ∧ roleFlags s.dev.pair.inFlags ≠ 0 ∧ s.dev.pair.commands = []) ∧
  (∃ s : State, s.dev.alive = true ∧ s.dev.mode.decided = none ∧ s.dev.booted = true ∧ s.dev.roleMode = .active ∧ s.dev.partnerMarionette = true ∧ s.dev.irmonUp = true) ∧
  (∃ s : State, s.dev.alive = true ∧ s.dev.mode.decided = none ∧ s.dev.mode.mode = .solo) ∧
  (∃ s : State, s.dev.booted = true ∧ s.dev.paired = true ∧ s.dev.irmonUp = true ∧ s.dev.mode.mode = .estranged ∧ s.dev.mode.decided = none) ∧
  (∃ s : State, ∃ f : PairFacts, s.dev.booted = true ∧ s.dev.mode.mode = .resync ∧ s.dev.pair.halted = false ∧ s.dev.rd F.PAIR_STATUS_RESYNC_STEP = 1 ∧ f.version.toNat = s.dev.boot.version ∧ f.rate96 = s.dev.is96 ∧ f.library.toNat = s.dev.boot.library ∧ f.recorder.toNat = s.dev.boot.recorder ∧ f.fitted.toNat = s.dev.boot.fitted) ∧
  (∃ s : State, ∃ f : PairFacts, s.dev.booted = true ∧ s.dev.mode.mode = .resync ∧ s.dev.pair.halted = false ∧ s.dev.rd F.PAIR_STATUS_RESYNC_STEP = 1 ∧ f.version.toNat ≠ s.dev.boot.version) ∧
  (∃ s : State, s.dev.booted = true ∧ s.dev.mode.mode = .resync ∧ s.dev.past s.dev.pair.resyncFrom (1000 * s.dev.rd F.PAIR_RESYNC_LIMIT_LIMIT) = true) ∧
  (∃ s : State, s.dev.booted = true ∧ s.dev.sup.testing = none ∧ s.dev.roleMode = .active ∧ s.dev.mayTest 76 = true) ∧
  (∃ s : State, s.dev.booted = true ∧ s.dev.sup.testing = none ∧ s.dev.roleMode = .active ∧ s.dev.mayTest 76 = false) ∧
  (∃ s : State, s.dev.booted = true ∧ s.dev.pair.claiming = true ∧ s.dev.roleMode = .marionette ∧ s.dev.pair.abdicates = false ∧ s.dev.pair.thenMaintenance = some 1) ∧
  (∃ s : State, s.dev.booted = true ∧ s.dev.irmonUp = true ∧ s.dev.mode.mode = .active ∧ s.dev.partnerMarionette = true ∧ s.dev.mode.decided = none) :=
  ⟨⟨(regs (pair .marionette) [(F.PAIR_STATUS_SIGN_CLAIM, 1), (F.PAIR_STATUS_SIGN_HB, 1)]), by decide +kernel⟩,
   ⟨(on (pair .active) fun d => { d with pair := { d.pair with sent := 1 } }), false, by decide +kernel⟩,
   ⟨(on (pair .marionette) fun d => { d with pair := { d.pair with inFlags := 8 } }), true, by decide +kernel⟩,
   ⟨(regs (pair .active) [(F.PAIR_PARTNER_MODE, 5)]), by decide +kernel⟩,
   ⟨up .solo, by decide +kernel⟩,
   ⟨pair .estranged, by decide +kernel⟩,
   ⟨(regs (pair .resync) [(F.PAIR_STATUS_RESYNC_STEP, 1)]), ⟨0, false, 0, 0, 0⟩, by decide +kernel⟩,
   ⟨(regs (pair .resync) [(F.PAIR_STATUS_RESYNC_STEP, 1)]), ⟨1, false, 0, 0, 0⟩, by decide +kernel⟩,
   ⟨(regs (pair .resync) [(F.PAIR_STATUS_RESYNC_STEP, 5)]), by decide +kernel⟩,
   ⟨(regs (pair .active) [(F.PAIR_PARTNER_MODE, 5)]), by decide +kernel⟩,
   ⟨pair .active, by decide +kernel⟩,
   ⟨(on (pair .marionette) fun d => { d with pair := { d.pair with claiming := true, thenMaintenance := some 1 } }), by decide +kernel⟩,
   ⟨(regs (pair .active) [(F.PAIR_PARTNER_MODE, 5)]), by decide +kernel⟩⟩

/-- Hypotheses of SessionsOpenAndClose. -/
theorem witness_SessionsOpenAndClose :
  (∃ s : State, ∃ port : Port, ∃ source : List Byte, ∃ datagram : List Byte, ∃ _service : Bool, ∃ g : Dgram, ∃ row : Nat, ∃ role : Role, Dgram.parse datagram = some g ∧ s.dev.odpPort port = true ∧ g.kind = 1 ∧ g.body.length = 24 ∧ (s.dev.odp.throttle.filter (fun x => x.1 = source)).length < 10 ∧ s.dev.openCheck (beAt g.body 0 4) (beAt g.body 4 1) = (.ok, some row) ∧ roleOf (beAt g.body 4 1) = some role) ∧
  (∃ s : State, ∃ port : Port, ∃ _source : List Byte, ∃ datagram : List Byte, ∃ g : Dgram, ∃ x : Attempt, let k := s.dev.sessionKey x.keyRow; let ks := hmac k (odpLabel 0x53 ++ x.nc ++ x.nd ++ toBE 4 x.id); Dgram.parse datagram = some g ∧ s.dev.odpPort port = true ∧ g.kind = 3 ∧ s.dev.odp.attempts.find? (fun y => y.id = g.session) = some x ∧ hmac16 ks g.signed = g.tag ∧ g.body = hmac16 k (odpLabel 0x43 ++ x.nc ++ x.nd ++ toBE 4 (s.dev.obj 0x1101 1 x.keyRow) ++ toBE 1 x.role.code) ∧ s.dev.past x.started 2000 = false) ∧
  (∃ s : State, ∃ id : BitVec 32, ∃ x : Attempt, s.dev.booted = true ∧ s.dev.odp.attempts = [x] ∧ x.id = id.toNat ∧ s.dev.past x.started 2000 = true) ∧
  (∃ s : State, ∃ port : Port, ∃ _source : List Byte, ∃ datagram : List Byte, ∃ g : Dgram, ∃ x : Session, authentic s port datagram 8 g x ∧ x.highest < g.seq) ∧
  (∃ s : State, ∃ port : Port, ∃ _source : List Byte, ∃ datagram : List Byte, ∃ g : Dgram, ∃ x : Session, authentic s port datagram 9 g x ∧ s.dev.isFrozen x.id = false) ∧
  (∃ s : State, ∃ slot : Fin 32, ∃ x : Session, s.dev.booted = true ∧ s.dev.slotSession slot = some x ∧ s.dev.isFrozen x.id = false ∧ s.dev.past x.heard (s.dev.sessionIdle * 1000) = true) ∧
  (∃ s : State, ∃ port : Port, ∃ datagram : List Byte, s.dev.odpPort port = true ∧ Dgram.parse datagram = none) :=
  ⟨⟨(on (up .solo) fun d => { d with odp := { d.odp with objs := [(objKey 0x1101 1 0 0, 1), (objKey 0x1101 2 0 0, 3), (objKey 0x1101 4 0 0, 1)] } }), .mgt, toBE 16 3, dgram 1 0 0 0 (toBE 24 0x000000010300000000000000000000000000000000000005) 0x9ddc4e414ecc321ebd5a32f75e901aa2, false, dgParts 1 0 0 0 (toBE 24 0x000000010300000000000000000000000000000000000005) 0x9ddc4e414ecc321ebd5a32f75e901aa2, 0, .safety, by decide +kernel⟩,
   ⟨(on ((on (up .solo) fun d => { d with odp := { d.odp with objs := [(objKey 0x1101 1 0 0, 1), (objKey 0x1101 2 0 0, 3), (objKey 0x1101 4 0 0, 1)] } })) fun d => { d with odp := { d.odp with attempts := [⟨5, 0, .safety, toBE 16 5, toBE 16 6, toBE 16 3, .mgt, false, 10 ^ 14⟩] } }), .mgt, toBE 16 3, dgram 3 5 1 0 (toBE 16 0xddbd5caf3959ca3ed50ca6126f175d90) 0x59f38c0e571402d68f54cbcefb9f2ca3, dgParts 3 5 1 0 (toBE 16 0xddbd5caf3959ca3ed50ca6126f175d90) 0x59f38c0e571402d68f54cbcefb9f2ca3, ⟨5, 0, .safety, toBE 16 5, toBE 16 6, toBE 16 3, .mgt, false, 10 ^ 14⟩, by dsimp only; decide +kernel⟩,
   ⟨(on (up .solo) fun d => { d with odp := { d.odp with attempts := [⟨5, 0, .safety, toBE 16 5, toBE 16 6, toBE 16 3, .mgt, false, 9⟩] } }), 5, ⟨5, 0, .safety, toBE 16 5, toBE 16 6, toBE 16 3, .mgt, false, 9⟩, by decide +kernel⟩,
   ⟨talk .solo, .mgt, toBE 16 3, dgram 8 5 1 0 (toBE 0 0) 0x510e2ffaaa252bbc7a217a1be44b02cd, dgParts 8 5 1 0 (toBE 0 0) 0x510e2ffaaa252bbc7a217a1be44b02cd, sess, by unfold authentic; decide +kernel⟩,
   ⟨talk .solo, .mgt, toBE 16 3, dgram 9 5 1 0 (toBE 0 0) 0x6afeae344eee556f09089fb4113f2caf, dgParts 9 5 1 0 (toBE 0 0) 0x6afeae344eee556f09089fb4113f2caf, sess, by unfold authentic; decide +kernel⟩,
   ⟨(on (up .solo) fun d => { d with odp := { d.odp with sessions := [{ sess with heard := 9 }] } }), 5, { sess with heard := 9 }, by decide +kernel⟩,
   ⟨up .solo, .mgt, [], by decide +kernel⟩⟩

/-- Hypotheses of RequestsOfASession. -/
theorem witness_RequestsOfASession :
  (∃ s : State, ∃ port : Port, ∃ _source : List Byte, ∃ datagram : List Byte, ∃ g : Dgram, ∃ x : Session, asks s port datagram 1 g x ∧ beAt g.body 4 2 < 0xF000 ∧ beAt g.body 4 2 ≠ 0xA000 ∧ s.dev.isFrozen x.id = true ∧ beAt g.body 4 2 ≠ 0x1112) ∧
  (∃ s : State, ∃ port : Port, ∃ _source : List Byte, ∃ datagram : List Byte, ∃ g : Dgram, ∃ x : Session, asks s port datagram 1 g x ∧ beAt g.body 4 2 < 0xF000 ∧ beAt g.body 4 2 ≠ 0xA000 ∧ s.dev.isFrozen x.id = false ∧ objsAt (beAt g.body 4 2) = []) ∧
  (∃ s : State, ∃ port : Port, ∃ _source : List Byte, ∃ datagram : List Byte, ∃ g : Dgram, ∃ x : Session, ∃ op : Nat, (op = 2 ∨ op = 3) ∧ asks s port datagram op g x ∧ s.dev.almDue (fun _ => true) = [] ∧ s.dev.isFrozen x.id = true) ∧
  (∃ s : State, ∃ port : Port, ∃ source : List Byte, ∃ datagram : List Byte, ∃ g : Dgram, ∃ x : Session, ∃ op : Nat, (op = 2 ∨ op = 3) ∧ asks s port datagram op g x ∧ s.dev.almDue (fun _ => true) = [] ∧ s.dev.isFrozen x.id = false ∧ (Box.ask { base := s.mem, dev := noted s port source g x } (askerOf x) (op = 3) (beAt g.body 4 2) (beAt g.body 6 1) (beAt g.body 7 3) (g.body.drop 12) g.seq).2.status = .ok ∧ (Box.ask { base := s.mem, dev := noted s port source g x } (askerOf x) (op = 3) (beAt g.body 4 2) (beAt g.body 6 1) (beAt g.body 7 3) (g.body.drop 12) g.seq).2.wait = false ∧ ((Box.ask { base := s.mem, dev := noted s port source g x } (askerOf x) (op = 3) (beAt g.body 4 2) (beAt g.body 6 1) (beAt g.body 7 3) (g.body.drop 12) g.seq).1.dev.slotSession (x.id % 32)).isSome = true) ∧
  (∃ s : State, ∃ port : Port, ∃ source : List Byte, ∃ datagram : List Byte, ∃ g : Dgram, ∃ x : Session, asks s port datagram 4 g x ∧ s.dev.isFrozen x.id = false ∧ s.dev.transferOf x.id = none ∧ Dev.domainChecks (noted s port source g x) (askerOf x) (beAt g.body 4 2) (beAt g.body 6 1) (beAt g.body 7 3) (g.body.drop 12) = .ok) ∧
  (∃ s : State, ∃ port : Port, ∃ _source : List Byte, ∃ datagram : List Byte, ∃ g : Dgram, ∃ x : Session, ∃ tr : Transfer, asks s port datagram 5 g x ∧ s.dev.isFrozen x.id = false ∧ s.dev.transferOf x.id = some tr ∧ 4 ≤ (g.body.drop 12).length ∧ beAt (g.body.drop 12) 0 4 = tr.data.length ∧ tr.data.length + ((g.body.drop 12).drop 4).length ≤ tr.total) ∧
  (∃ s : State, ∃ port : Port, ∃ _source : List Byte, ∃ datagram : List Byte, ∃ g : Dgram, ∃ x : Session, ∃ tr : Transfer, ∃ m : Message, asks s port datagram 6 g x ∧ s.dev.isFrozen x.id = false ∧ s.dev.transferOf x.id = some tr ∧ s.dev.journalRoom = true ∧ tr.data.length = tr.total ∧ g.body.drop 12 = [] ∧ s.dev.lib.msgs.find? tr.row = some m ∧ tr.data.length = 3 * m.length ∧ crc32c tr.data = m.audioCrc) ∧
  (∃ s : State, ∃ slot : Fin 32, ∃ x : Session, ∃ tr : Transfer, s.dev.booted = true ∧ s.dev.slotSession slot = some x ∧ s.dev.odp.transfers.find? x.id = some tr ∧ s.dev.past tr.last 10000 = true) ∧
  (∃ s : State, ∃ port : Port, ∃ source : List Byte, ∃ datagram : List Byte, ∃ g : Dgram, ∃ x : Session, let v := g.body.drop 12; asks s port datagram 7 g x ∧ s.dev.isFrozen x.id = false ∧ beAt g.body 4 2 < 0xF000 ∧ beAt g.body 4 2 ≠ 0xA000 ∧ v.length = 2 ∧ 10 ≤ beAt v 0 2 ∧ beAt v 0 2 ≤ 60000 ∧ s.dev.odp.subs.length < 64 ∧ (Dev.dictRead s.mem (noted s port source g x) (askerOf x) (beAt g.body 4 2) (beAt g.body 6 1) (beAt g.body 7 3) (beAt g.body 2 2) [] noticeRoom).1.status = .ok) ∧
  (∃ s : State, ∃ port : Port, ∃ _source : List Byte, ∃ datagram : List Byte, ∃ g : Dgram, ∃ x : Session, asks s port datagram 8 g x ∧ s.dev.isFrozen x.id = false ∧ (g.body.drop 12).length = 4 ∧ (∃ y ∈ s.dev.odp.subs, y.session = x.id ∧ y.id = beAt (g.body.drop 12) 0 4)) ∧
  (∃ s : State, ∃ id : BitVec 32, ∃ y : Subscription, ∃ x : Session, s.dev.odp.subs.find? (fun z => z.id = id.toNat) = some y ∧ s.dev.session y.session = some x ∧ s.dev.odpPort x.port = true ∧ y.onChange = false ∧ s.dev.past y.last y.interval = true ∧ x.noticed = [] ∧ 0 < s.dev.noticeRate ∧ y.index < 0xF000 ∧ y.index ≠ 0xA000) :=
  ⟨⟨(on (talk .solo) fun d => { d with odp := { d.odp with frozen := [⟨5, 5, ⟨0, 0, 0⟩⟩] } }), .mgt, toBE 16 3, dgram 5 5 1 65535 (toBE 12 0x010000011002000000000000) 0x705e21e82073c69df0d246f5519a9d09, dgParts 5 5 1 65535 (toBE 12 0x010000011002000000000000) 0x705e21e82073c69df0d246f5519a9d09, sess, by unfold asks authentic; decide +kernel⟩,
   ⟨talk .solo, .mgt, toBE 16 3, dgram 5 5 1 65535 (toBE 12 0x010000010fff000000000000) 0x3adc200b58702a4276bfc67bde87b55f, dgParts 5 5 1 65535 (toBE 12 0x010000010fff000000000000) 0x3adc200b58702a4276bfc67bde87b55f, sess, by unfold asks authentic; decide +kernel⟩,
   ⟨(on (talk .solo) fun d => { d with odp := { d.odp with frozen := [⟨5, 5, ⟨0, 0, 0⟩⟩] } }), .mgt, toBE 16 3, dgram 5 5 1 65535 (toBE 13 0x02000001103001000000000109) 0xb213426a7db43a59aeb0425016eeea51, dgParts 5 5 1 65535 (toBE 13 0x02000001103001000000000109) 0xb213426a7db43a59aeb0425016eeea51, sess, 2, by unfold asks authentic; decide +kernel⟩,
   ⟨talk .solo, .mgt, toBE 16 3, dgram 5 5 1 65535 (toBE 16 0x03000001111000000000000480000009) 0x28dbe40ff6d1a24761cff9ad7f86d22f, dgParts 5 5 1 65535 (toBE 16 0x03000001111000000000000480000009) 0x28dbe40ff6d1a24761cff9ad7f86d22f, sess, 3, by unfold asks authentic; decide +kernel⟩,
   ⟨talk .commission, .mgt, toBE 16 3, dgram 5 5 1 65535 (toBE 16 0x04000001600100003bff000400000009) 0x8043a4cf8062de64a727299eff839590, dgParts 5 5 1 65535 (toBE 16 0x04000001600100003bff000400000009) 0x8043a4cf8062de64a727299eff839590, sess, by unfold asks authentic noted; decide +kernel⟩,
   ⟨(on (talk .solo) fun d => { d with odp := { d.odp with transfers := [(5, ⟨0x6001, 0, 9, 3, [1], 10 ^ 14⟩)] }, lib := { d.lib with msgs := [(9, { entry := at_ 64 [(0, 7), (4, 1), (16, crc32c [1, 2, 3])] })] } }), .mgt, toBE 16 3, dgram 5 5 1 65535 (toBE 18 0x050000016001000000090006000000010203) 0xdcd6a218d441358638ec7c56c33432c0, dgParts 5 5 1 65535 (toBE 18 0x050000016001000000090006000000010203) 0xdcd6a218d441358638ec7c56c33432c0, sess, ⟨0x6001, 0, 9, 3, [1], 10 ^ 14⟩, by unfold asks authentic; decide +kernel⟩,
   ⟨(on (talk .solo) fun d => { d with odp := { d.odp with transfers := [(5, ⟨0x6001, 0, 9, 3, [1, 2, 3], 10 ^ 14⟩)] }, lib := { d.lib with msgs := [(9, { entry := at_ 64 [(0, 7), (4, 1), (16, crc32c [1, 2, 3])] })] } }), .mgt, toBE 16 3, dgram 5 5 1 65535 (toBE 12 0x060000016001000000090000) 0x73e9e6e09042d8f4c62bbf39d823396a, dgParts 5 5 1 65535 (toBE 12 0x060000016001000000090000) 0x73e9e6e09042d8f4c62bbf39d823396a, sess, ⟨0x6001, 0, 9, 3, [1, 2, 3], 10 ^ 14⟩, { entry := at_ 64 [(0, 7), (4, 1), (16, crc32c [1, 2, 3])] }, by unfold asks authentic; decide +kernel⟩,
   ⟨(on (talk .solo) fun d => { d with odp := { d.odp with transfers := [(5, ⟨0x6001, 0, 9, 3, [], 9⟩)] } }), 5, sess, ⟨0x6001, 0, 9, 3, [], 9⟩, by decide +kernel⟩,
   ⟨talk .solo, .mgt, toBE 16 3, dgram 5 5 1 65535 (toBE 14 0x070000011002000000000002000a) 0x92925853aa700d97bc9df6c013581d01, dgParts 5 5 1 65535 (toBE 14 0x070000011002000000000002000a) 0x92925853aa700d97bc9df6c013581d01, sess, by unfold asks authentic noted; decide +kernel⟩,
   ⟨(on (talk .solo) fun d => { d with odp := { d.odp with subs := [⟨7, 5, 0x1002, 0, 0, 1, 10, false, 5, 0, false, []⟩] } }), .mgt, toBE 16 3, dgram 5 5 1 65535 (toBE 16 0x08000001100200000000000400000007) 0x02da6c1cf622785d8a98a3369166ee94, dgParts 5 5 1 65535 (toBE 16 0x08000001100200000000000400000007) 0x02da6c1cf622785d8a98a3369166ee94, sess, by unfold asks authentic; decide +kernel⟩,
   ⟨(on (talk .solo) fun d => { d with odp := { d.odp with subs := [⟨7, 5, 0x1002, 0, 0, 1, 10, false, 5, 0, false, []⟩] } }), 7, ⟨7, 5, 0x1002, 0, 0, 1, 10, false, 5, 0, false, []⟩, sess, by decide +kernel⟩⟩

/-- Hypotheses of OperationsJournalAndMailbox. -/
theorem witness_OperationsJournalAndMailbox :
  (∃ s : State, ∃ mask : BitVec 16, ∃ b : Nat, hostMay s true 0x1050 0 0 (toBE 2 mask.toNat) ∧ b < 16 ∧ bitAt mask.toNat (s.dev.groupOf b) = true) ∧
  (∃ s : State, ∃ mask : BitVec 16, ∃ b : Nat, hostMay s true 0x1050 0 0 (toBE 2 mask.toNat) ∧ b < 16 ∧ bitAt mask.toNat (s.dev.groupOf b) = true) ∧
  (∃ s : State, ∃ master : BitVec 32, hostMay s true 0x1110 0 0 (toBE 4 master.toNat) ∧ master.toNat ≠ 1) ∧
  (∃ s : State, ∃ slot : Fin 32, ∃ x : Session, ∃ master : BitVec 32, sessionMay s slot x true 0x1111 0 0 (toBE 4 master.toNat) ∧ master.toNat ≠ 0 ∧ s.dev.isFrozen master.toNat = false) ∧
  (∃ s : State, hostMay s true 0x1210 0 0 [] ∧ s.dev.odp.commit = none ∧ s.dev.odp.commitDone = none) ∧
  (∃ s : State, ∃ job : CommitJob, s.dev.alive = true ∧ s.dev.odp.commit = some job ∧ job.seq ≤ s.dev.odp.journal.durable) ∧
  (∃ s : State, s.dev.alive = true ∧ s.dev.odp.journal.lostRange = none ∧ s.dev.odp.journal.ring.length ≤ 65532) ∧
  (∃ s : State, s.dev.alive = true ∧ s.dev.odp.journal.madeThisSecond ≠ 0 ∧ (s.dev.que 7).items.length < queueCap 7) ∧
  (∃ s : State, ∃ item : List Byte, ∃ rest : List (List Byte), let n := leAt item 0 4 % 512; let body := s.dev.dmbBody n; s.dev.booted = true ∧ s.dev.pins.hostRole = true ∧ s.dev.on F.DMB_STATUS_BUSY = false ∧ (s.dev.que 0).items = item :: rest ∧ leAt item 0 4 < 2 ^ 28 ∧ 12 ≤ n ∧ n ≤ 448 ∧ n = 12 + beAt body 10 2 ∧ beAt body 0 1 = 1 ∧ beAt body 4 2 < 0xF000 ∧ beAt body 4 2 ≠ 0xA000 ∧ (s.dev.que 1).items.length < queueCap 1 ∧ (s.dev.que 1).held = none) :=
  ⟨⟨up .solo, 0x800, 1, by unfold hostMay; decide +kernel⟩,
   ⟨up .solo, 1, 15, by unfold hostMay; decide +kernel⟩,
   ⟨up .solo, 0x80000009, by unfold hostMay; decide +kernel⟩,
   ⟨talk .solo, 5, sess, 0x80000009, by unfold sessionMay; decide +kernel⟩,
   ⟨up .solo, by unfold hostMay; decide +kernel⟩,
   ⟨(on (up .solo) fun d => { d with odp := { d.odp with commit := some ⟨0, 0, 0⟩, store := some ⟨true, 1, ⟨0, 0, 0⟩, []⟩ } }), ⟨0, 0, 0⟩, by decide +kernel⟩,
   ⟨up .solo, by decide +kernel⟩,
   ⟨(on (up .solo) fun d => { d with odp := { d.odp with journal := { d.odp.journal with madeThisSecond := 1 } } }), by decide +kernel⟩,
   ⟨(on ((regs (up .solo) [(F.DMB_REQ_BYTES.at [0], 1), (F.DMB_REQ_BYTES.at [1], 0x0210)])) fun d => { d with ques := [(0, { items := [toLE 8 12] })] }), toLE 8 12, [], by dsimp only; decide +kernel⟩⟩

/-- Hypotheses of HostPortFrames. -/
theorem witness_HostPortFrames :
  (∃ s : State, s.dev.hostPort = true ∧ s.dev.isFrozen 1 = false) ∧
  (∃ s : State, ∃ address : BitVec 24, ∃ words : BitVec 16, s.dev.hostPort = true ∧ s.dev.isFrozen 1 = true ∧ address.toNat < 0x2000 ∧ words.toNat = 1) ∧
  (∃ s : State, ∃ _data : Word, s.dev.hostPort = true ∧ s.dev.isFrozen 1 = false ∧ s.dev.hostEarly = false ∧ s.dev.on F.DMB_STATUS_BUSY = false) ∧
  (∃ s : State, ∃ _a : Word, ∃ _b : Word, s.dev.hostPort = true ∧ s.dev.isFrozen 1 = false ∧ s.dev.hostEarly = false ∧ s.dev.on F.DMB_STATUS_BUSY = false) ∧
  (∃ s : State, ∃ _address : BitVec 24, ∃ _data : Word, s.dev.hostPort = true ∧ s.dev.isFrozen 1 = true) ∧
  (∃ s : State, ∃ _data : Word, s.dev.hostPort = true ∧ s.dev.isFrozen 1 = false ∧ s.dev.hostEarly = false ∧ s.dev.mode.mode ≠ .safeHold ∧ bitAt (s.dev.rd F.LKF_LOCK_LOCK) 10 = false) ∧
  (∃ s : State, s.dev.hostPort = true) ∧
  (∃ s : State, s.dev.hostPort = true) ∧
  (∃ s : State, s.dev.alive = true ∧ s.dev.pins.hostRole = true ∧ s.dev.pins.testEn = false ∧ s.dev.host.stalled ≠ []) :=
  ⟨⟨up .solo, by decide +kernel⟩,
   ⟨(on (up .solo) fun d => { d with odp := { d.odp with frozen := [⟨1, 5, ⟨0, 0, 0⟩⟩] } }), 8, 1, by decide +kernel⟩,
   ⟨up .solo, 7, by decide +kernel⟩,
   ⟨up .solo, 7, 8, by decide +kernel⟩,
   ⟨(on (up .solo) fun d => { d with odp := { d.odp with frozen := [⟨1, 5, ⟨0, 0, 0⟩⟩] } }), 8, 7, by decide +kernel⟩,
   ⟨up .solo, 0xFFFFFFFF, by decide +kernel⟩,
   ⟨up .solo, by decide +kernel⟩,
   ⟨up .solo, by decide +kernel⟩,
   ⟨(on (up .solo) fun d => { d with host := { d.host with stalled := [5] } }), by decide +kernel⟩⟩

/-- Hypotheses of RegisterAccessesAndStrobes. -/
theorem witness_RegisterAccessesAndStrobes :
  (∃ s : State, s.dev.hostPort = true ∧ s.dev.isFrozen 1 = false ∧ s.dev.hostEarly = false ∧ s.dev.on F.SNAP_STATUS_VIEW = false) ∧
  (∃ s : State, s.dev.hostPort = true ∧ s.dev.isFrozen 1 = false ∧ s.dev.hostEarly = false ∧ s.dev.time.tai.wf = true) ∧
  (∃ s : State, s.dev.hostPort = true ∧ s.dev.isFrozen 1 = false ∧ s.dev.hostEarly = false) ∧
  (∃ s : State, ∃ _value : Bool, s.dev.hostPort = true ∧ s.dev.isFrozen 1 = false ∧ s.dev.hostEarly = false ∧ s.dev.on F.DMB_STATUS_BUSY = false) ∧
  (∃ s : State, ∃ groups : BitVec 16, ∃ b : Nat, s.dev.hostPort = true ∧ s.dev.isFrozen 1 = false ∧ s.dev.hostEarly = false ∧ s.dev.mode.mode ≠ .safeHold ∧ bitAt (s.dev.rd F.LKF_LOCK_LOCK) 10 = false ∧ b < 16 ∧ bitAt groups.toNat (s.dev.groupOf b) = true) ∧
  (∃ s : State, ∃ groups : BitVec 16, ∃ b : Nat, s.dev.hostPort = true ∧ s.dev.isFrozen 1 = false ∧ s.dev.hostEarly = false ∧ s.dev.mode.mode ≠ .safeHold ∧ bitAt (s.dev.rd F.LKF_LOCK_LOCK) 10 = false ∧ b < 16 ∧ bitAt groups.toNat (s.dev.groupOf b) = true) ∧
  (∃ s : State, ∃ g : Nat, ∃ v : Nat, s.dev.booted = true ∧ s.dev.regs.caps = [⟨12, g, [(F.PWR_RESTORE_RESTORE_HOLD.key, v)]⟩] ∧ v < 2 ^ F.PWR_RESTORE_RESTORE_HOLD.w ∧ pwrBad F.PWR_RESTORE_RESTORE_HOLD v = false ∧ s.dev.sup.testing = none ∧ s.dev.odp.strobes = [] ∧ s.dev.rd F.PWR_THERM_TJ_TARGET < s.dev.rd F.PWR_THERM_TJ_CRIT) ∧
  (∃ s : State, ∃ _clear : Bool, s.dev.hostPort = true ∧ s.dev.isFrozen 1 = false ∧ s.dev.hostEarly = false ∧ bitAt (s.dev.rd F.LKF_LOCK_LOCK) 10 = false) ∧
  (∃ s : State, s.dev.hostPort = true ∧ s.dev.isFrozen 1 = false ∧ s.dev.hostEarly = false ∧ bitAt (s.dev.rd F.LKF_LOCK_LOCK) 10 = false) ∧
  (∃ s : State, s.dev.hostPort = true ∧ s.dev.isFrozen 1 = false ∧ s.dev.hostEarly = false ∧ bitAt (s.dev.rd F.LKF_LOCK_LOCK) 10 = false) ∧
  (∃ s : State, ∃ _bits : BitVec 11, s.dev.hostPort = true ∧ s.dev.isFrozen 1 = false ∧ s.dev.hostEarly = false ∧ s.dev.mode.mode ≠ .safeHold) :=
  ⟨⟨up .solo, by decide +kernel⟩,
   ⟨up .solo, by decide +kernel⟩,
   ⟨up .solo, by decide +kernel⟩,
   ⟨up .solo, true, by decide +kernel⟩,
   ⟨up .solo, 0x800, 1, by decide +kernel⟩,
   ⟨up .solo, 1, 15, by decide +kernel⟩,
   ⟨(on (up .solo) fun d => { d with regs := { d.regs with caps := [⟨12, 10, [(F.PWR_RESTORE_RESTORE_HOLD.key, 100)]⟩] } }), 10, 100, by decide +kernel⟩,
   ⟨up .solo, false, by decide +kernel⟩,
   ⟨up .solo, by decide +kernel⟩,
   ⟨up .solo, by decide +kernel⟩,
   ⟨up .solo, 0x7FF, by decide +kernel⟩⟩

/-- Hypotheses of HostQueues. -/
theorem witness_HostQueues :
  (∃ s : State, ∃ q : Fin 32, q ≠ 0 ∧ s.dev.hostPort = true ∧ s.dev.isFrozen 1 = false ∧ s.dev.hostEarly = false ∧ (s.dev.que q).latch = [] ∧ (s.dev.que q).idle = 0 ∧ (s.dev.que q).items = []) ∧
  (∃ s : State, ∃ q : Fin 32, q ≠ 0 ∧ s.dev.hostPort = true ∧ s.dev.isFrozen 1 = false ∧ s.dev.hostEarly = false ∧ (s.dev.que q).latch = [] ∧ (s.dev.que q).idle = 0 ∧ (s.dev.que q).items = [toLE 32 12]) ∧
  (∃ s : State, ∃ _data : Word, s.dev.hostPort = true ∧ s.dev.isFrozen 1 = false ∧ s.dev.hostEarly = false ∧ (s.dev.que 0).items.length < queueCap 0 ∧ (s.dev.que 0).part = []) ∧
  (∃ s : State, ∃ _data : Word, s.dev.hostPort = true ∧ s.dev.isFrozen 1 = false ∧ s.dev.hostEarly = false ∧ (s.dev.que 0).items.length < queueCap 0 ∧ (s.dev.que 0).part ≠ []) ∧
  (∃ s : State, ∃ _q : Fin 32, s.dev.hostPort = true ∧ s.dev.isFrozen 1 = false ∧ s.dev.hostEarly = false ∧ bitAt (s.dev.rd F.LKF_LOCK_LOCK) 10 = false) ∧
  (∃ s : State, ∃ w : Nat, s.dev.alive = true ∧ s.dev.host.stalled = [w] ∧ (s.dev.que 0).items.length < queueCap 0 ∧ (s.dev.que 0).part = []) ∧
  (∃ s : State, ∃ q : Fin 32, ∃ item : List Byte, s.dev.alive = true ∧ (s.dev.que q).held = some item ∧ (s.dev.que q).items.length < queueCap q) :=
  ⟨⟨up .solo, 31, by decide +kernel⟩,
   ⟨(on (up .solo) fun d => { d with ques := [(31, { items := [toLE 32 12] })] }), 31, by decide +kernel⟩,
   ⟨up .solo, 7, by decide +kernel⟩,
   ⟨(on (up .solo) fun d => { d with ques := [(0, { part := [1, 2, 3, 4] })] }), 7, by decide +kernel⟩,
   ⟨up .solo, 31, by decide +kernel⟩,
   ⟨(on (up .solo) fun d => { d with host := { d.host with stalled := [5] } }), 5, by decide +kernel⟩,
   ⟨(on (up .solo) fun d => { d with ques := [(31, { held := some [1] })] }), 31, [1], by decide +kernel⟩⟩

/-- Hypotheses of TestAccessPort. -/
theorem witness_TestAccessPort :
  (∃ s : State, ∃ _tdi : List Bool, s.dev.pins.supplies = true) ∧
  (∃ s : State, s.dev.pins.supplies = true) ∧
  (∃ s : State, ∃ _balls : List Bool, ∃ _tdi : List Bool, s.dev.pins.supplies = true) ∧
  (∃ s : State, ∃ _balls : List Bool, ∃ _tdi : List Bool, s.dev.pins.supplies = true) :=
  ⟨⟨up .solo, [true], by decide +kernel⟩,
   ⟨up .solo, by decide +kernel⟩,
   ⟨up .solo, [true], [], by decide +kernel⟩,
   ⟨State.reset, [true], [], by decide +kernel⟩⟩

/-- Hypotheses of StepRunsTheFrontCommand. -/
theorem witness_StepRunsTheFrontCommand :
  (∃ s : State, ∃ c : Instr, ∃ rest : List Instr, s.pending = c :: rest) :=
  ⟨{ up .solo with pending := [.idcode] }, .idcode, [], by decide +kernel⟩

/-- Hypotheses of IdleStepIsOneCycle. -/
theorem witness_IdleStepIsOneCycle :
  (∃ s : State, s.dev.alive = true) ∧
  (∃ s : State, s.dev.alive = false) :=
  ⟨⟨up .solo, by decide +kernel⟩,
   ⟨State.reset, by decide +kernel⟩⟩

/-- Hypotheses of DataWindowWritesHostBuffersAlone. -/
theorem witness_DataWindowWritesHostBuffersAlone :
  (∃ s : State, ∃ n : Fin 4, ∃ _k : Fin 512, ∃ _data : Word, let buf := s.dev.rd (F.NET_BUF_SEL_SEL.at [n]); s.dev.hostPort = true ∧ s.dev.isFrozen 1 = false ∧ s.dev.hostEarly = false ∧ s.dev.mode.mode ≠ .safeHold ∧ bitAt (s.dev.rd F.LKF_LOCK_LOCK) 10 = false ∧ s.mem.wf = true ∧ s.dev.hostBuffer (s.dev.rd (F.NET_BUF_SEL_SEL.at [3])) = true) ∧
  (∃ s : State, ∃ n : Fin 4, ∃ _k : Fin 512, ∃ _data : Word, let buf := s.dev.rd (F.NET_BUF_SEL_SEL.at [n]); s.dev.hostPort = true ∧ s.dev.isFrozen 1 = false ∧ s.dev.hostEarly = false ∧ s.dev.mode.mode ≠ .safeHold ∧ bitAt (s.dev.rd F.LKF_LOCK_LOCK) 10 = false ∧ s.mem.wf = true ∧ s.dev.hostBuffer (s.dev.rd (F.NET_BUF_SEL_SEL.at [3])) = false) :=
  ⟨⟨(on ((regs (up .solo) [(F.NET_BUF_SEL_SEL.at [3], 1536)])) fun d => { d with net := { d.net with txAlloc := [1536] } }), 3, 511, 7, by decide +kernel⟩,
   ⟨up .solo, 3, 511, 7, by decide +kernel⟩⟩

/-- Hypotheses of XoFrequencyIsDecidedAtStepOne. -/
theorem witness_XoFrequencyIsDecidedAtStepOne :
  (∃ s : State, ∃ input : BootInput, let n := input.xoEdges; let ten := 900 ≤ n ∧ n ≤ 1100; let forty := 4320 ≤ n ∧ n ≤ 5280; s.dev.booting = true ∧ s.dev.rd F.GCTL_BOOT_STATUS_BOOT_STEP = 0) ∧
  (∃ s : State, ∃ input : BootInput, let n := input.xoEdges; let ten := 900 ≤ n ∧ n ≤ 1100; let forty := 4320 ≤ n ∧ n ≤ 5280; s.dev.booting = true ∧ s.dev.rd F.GCTL_BOOT_STATUS_BOOT_STEP = 0) ∧
  (∃ s : State, ∃ input : BootInput, let n := input.xoEdges; let ten := 900 ≤ n ∧ n ≤ 1100; let forty := 4320 ≤ n ∧ n ≤ 5280; s.dev.booting = true ∧ s.dev.rd F.GCTL_BOOT_STATUS_BOOT_STEP = 0) ∧
  (∃ s : State, ∃ input : BootInput, let n := input.xoEdges; let ten := 900 ≤ n ∧ n ≤ 1100; let forty := 4320 ≤ n ∧ n ≤ 5280; s.dev.booting = true ∧ s.dev.rd F.GCTL_BOOT_STATUS_BOOT_STEP = 0) ∧
  (∃ s : State, ∃ input : BootInput, let n := input.xoEdges; let ten := 900 ≤ n ∧ n ≤ 1100; let forty := 4320 ≤ n ∧ n ≤ 5280; s.dev.booting = true ∧ s.dev.rd F.GCTL_BOOT_STATUS_BOOT_STEP = 0) ∧
  (∃ s : State, ∃ input : BootInput, let n := input.xoEdges; let ten := 900 ≤ n ∧ n ≤ 1100; let forty := 4320 ≤ n ∧ n ≤ 5280; s.dev.booting = true ∧ s.dev.rd F.GCTL_BOOT_STATUS_BOOT_STEP = 0) ∧
  (∃ s : State, ∃ input : BootInput, let n := input.xoEdges; let ten := 900 ≤ n ∧ n ≤ 1100; let forty := 4320 ≤ n ∧ n ≤ 5280; s.dev.booting = true ∧ s.dev.rd F.GCTL_BOOT_STATUS_BOOT_STEP = 0) :=
  ⟨⟨(regs (up .bootstrap) [(F.GCTL_BOOT_STATUS_BOOT_STEP, 0)]), { noInput with xoEdges := 900 }, by dsimp only; decide +kernel⟩,
   ⟨(regs (up .bootstrap) [(F.GCTL_BOOT_STATUS_BOOT_STEP, 0)]), { noInput with xoEdges := 1100 }, by dsimp only; decide +kernel⟩,
   ⟨(regs (up .bootstrap) [(F.GCTL_BOOT_STATUS_BOOT_STEP, 0)]), { noInput with xoEdges := 4320 }, by dsimp only; decide +kernel⟩,
   ⟨(regs (up .bootstrap) [(F.GCTL_BOOT_STATUS_BOOT_STEP, 0)]), { noInput with xoEdges := 5280 }, by dsimp only; decide +kernel⟩,
   ⟨(regs (up .bootstrap) [(F.GCTL_BOOT_STATUS_BOOT_STEP, 0)]), { noInput with xoEdges := 899 }, by dsimp only; decide +kernel⟩,
   ⟨(regs (up .bootstrap) [(F.GCTL_BOOT_STATUS_BOOT_STEP, 0)]), { noInput with xoEdges := 1101 }, by dsimp only; decide +kernel⟩,
   ⟨(regs (up .bootstrap) [(F.GCTL_BOOT_STATUS_BOOT_STEP, 0)]), { noInput with xoEdges := 0 }, by dsimp only; decide +kernel⟩⟩

/-- Hypotheses of NtpTimestampsAreTaiLessTheOffset. -/
theorem witness_NtpTimestampsAreTaiLessTheOffset :
  (∃ s : State, ∃ p : Fin 4, ∃ source : List Byte, ∃ packet : List Byte, ∃ detected : Tai, ∃ launch : Tai, let rx := s.dev.ingress p detected; let tx := s.dev.egress p launch; let seconds := fun (a : Tai) => (((a.sec : Int) - s.dev.utcOffset + 2208988800) % 2 ^ 32).toNat; let fraction := fun (a : Tai) => (a.ns * 2 ^ 16 + a.sub) * 2 ^ 32 / (10 ^ 9 * 2 ^ 16); s.dev.booted = true ∧ s.dev.ntpAnswers = true ∧ packet.length = 48 ∧ beAt packet 0 1 % 8 = 3 ∧ beAt packet 0 1 / 8 % 8 = 4 ∧ s.dev.stepBetween (s.dev.ingress p detected) launch = false ∧ s.dev.on F.TIM_NTP_CFG_PLAIN_EN = true ∧ 256 ≤ ((s.dev.tally (ntpCount 0)).ntpTick.findClient (clientKey source)).2.2.tokens ∧ ((s.dev.tally (ntpCount 0)).ntpTick.findClient (clientKey source)).1.tim.served + 1 ≤ 200 * ((s.dev.tally (ntpCount 0)).ntpTick.findClient (clientKey source)).1.tsUnits) :=
  ⟨(regs (up .solo) [(F.TIM_NTP_CFG_EN, 1), (F.REF_SEL_STATUS_TIME_VALID, 1)]), 3, toBE 16 5, toBE 1 0x23 ++ toBE 47 0, ⟨5, 0, 0⟩, ⟨9, 0, 0⟩, by exact ⟨by decide +kernel, by decide +kernel, by decide +kernel, by decide +kernel, by decide +kernel, no_step _ 3 rfl (by decide +kernel), by decide +kernel, by decide +kernel, by decide +kernel⟩⟩

/-- Hypotheses of AbandonedAccessHasNoEffect. -/
theorem witness_AbandonedAccessHasNoEffect :
  (∃ s : State, s.dev.alive = true ∧ s.dev.pins.hostRole = true ∧ s.dev.pins.testEn = false ∧ s.dev.host.stalled = []) :=
  ⟨up .solo, by decide +kernel⟩

/-- A number that is not the port's own clockIdentity. -/
theorem another_clock (n : Nat) : ∃ c, (c = 5 ∨ c = 6) ∧ c ≠ n := by
  by_cases h : n = 5
  · exact ⟨6, .inr rfl, by omega⟩
  · exact ⟨5, .inl rfl, by omega⟩

/-- A message of another clock in a running port's domain is accepted where no authentication is required. -/
theorem accepted {d : Dev} {p kind : Nat} {m : List Byte} (h1 : ¬ d.ptpState p < 4) (h2 : (ptpHead m).kind = kind)
    (h3 : ¬ m.length < tlvStart kind) (h4 : (ptpHead m).domain = d.rd (F.TIM_PTP_CFG_DOMAIN.at [p]))
    (h5 : (ptpHead m).id.clock ≠ d.clockId p) (h6 : d.on (F.TIM_PTP_CFG_AUTH_REQ.at [p]) = false) : (d.ptpAccept p kind m).2 = true := by
  simp [Dev.ptpAccept, h1, h2, h3, h4, h5, h6]

/-- A slave on port 3 that follows a clock. -/
def slave (clock : Nat) : State :=
  on (regs (up .solo) [(F.TIM_PTP_STATUS_PORT_STATE.at [3], 9)]) fun d =>
    { d with tim := { d.tim with ports := [(3, { master := some ⟨⟨clock, 1⟩, 1, 6, 0x20, 0, 1, clock, 0, 37, true, false, false, 0x20, none⟩
                                                 waiting := some (9, ⟨100000, 0, 0⟩, 0), req := some (9, ⟨100000, 0, 0⟩), syncDiff := some 5 })] } }

/-- A Delay_Resp of a clock that names a requester. -/
def delayResp (clock requester : Nat) : List Byte := ptpMsg 9 0 clock 9 44 ++ (toBE 8 requester ++ toBE 2 4)

theorem ofBE_toBE_eight (n : Nat) (h : n < 2 ^ 64) : ofBE (toBE 8 n) = n := by
  simp [ofBE, toBE, byteOf]
  omega

theorem delayResp_requester (clock n : Nat) (h : n < 2 ^ 64) : beAt (delayResp clock n) 44 8 = n := by
  have e : slice (delayResp clock n) 44 8 = toBE 8 n := by
    simp [slice, delayResp, ptpMsg, toBE]
  rw [beAt, e, ofBE_toBE_eight n h]

theorem ofBE_lt (l : List Byte) : ofBE l < 256 ^ l.length := by
  induction l using List.reverseRecOn with
  | nil => simp [ofBE]
  | append_singleton l b ih =>
    have hb := b.isLt
    have e : ofBE (l ++ [b]) = ofBE l * 256 + b.toNat := by simp [ofBE]
    rw [e, List.length_append, Nat.pow_add]
    simp
    omega

theorem clockId_solo_lt (clock : Nat) : (slave clock).dev.clockId 3 < 2 ^ 64 := by
  have h : ofBE (slice Config.eui64 0 8) < 256 ^ 8 := by
    have := ofBE_lt (slice Config.eui64 0 8)
    have e : (slice Config.eui64 0 8).length = 8 := by
      simp [slice]
    rwa [e] at this
  have g : (slave clock).dev.pins.pairSide = false := rfl
  simp only [Dev.clockId, g, Bool.and_false, Bool.false_eq_true, if_false]
  omega

/-- Hypotheses of PtpReception. -/
theorem witness_PtpReception_accepts :
    (∃ (s : State) (p : Fin 4) (m : List Byte), s.dev.booted = true ∧ (s.dev.ptpAccept p 0xB m).2 = true) ∧
    (∀ two : Bool, ∃ (s : State) (p : Fin 4) (m : List Byte), s.dev.booted = true ∧ (s.dev.ptpAccept p 0 m).2 = true ∧
      s.dev.fromMaster p (ptpHead m) = true ∧ bitAt (ptpHead m).flags 9 = two) ∧
    (∃ (s : State) (p : Fin 4) (m : List Byte) (t2 : Tai) (corr : Int), s.dev.booted = true ∧ (s.dev.ptpAccept p 8 m).2 = true ∧
      s.dev.fromMaster p (ptpHead m) = true ∧ (s.dev.ptp p).waiting = some ((ptpHead m).seq, t2, corr)) := by
  refine ⟨?_, fun two => ?_, ?_⟩
  · obtain ⟨c, h | h, hc⟩ := another_clock ((slave 5).dev.clockId 3)
    all_goals subst h
    · exact ⟨slave 5, 3, ptpMsg 0xB 0 5 9 64, by decide +kernel,
        accepted (by decide +kernel) (by decide +kernel) (by decide +kernel) (by decide +kernel) hc (by decide +kernel)⟩
    · exact ⟨slave 5, 3, ptpMsg 0xB 0 6 9 64, by decide +kernel,
        accepted (by decide +kernel) (by decide +kernel) (by decide +kernel) (by decide +kernel) hc (by decide +kernel)⟩
  · obtain ⟨c, h | h, hc⟩ := another_clock ((slave 5).dev.clockId 3)
    all_goals subst h
    all_goals cases two
    · exact ⟨slave 5, 3, ptpMsg 0 0 5 9 44, by decide +kernel,
        accepted (by decide +kernel) (by decide +kernel) (by decide +kernel) (by decide +kernel) hc (by decide +kernel), by decide +kernel,
        by decide +kernel⟩
    · exact ⟨slave 5, 3, ptpMsg 0 0x200 5 9 44, by decide +kernel,
        accepted (by decide +kernel) (by decide +kernel) (by decide +kernel) (by decide +kernel) hc (by decide +kernel), by decide +kernel,
        by decide +kernel⟩
    · exact ⟨slave 6, 3, ptpMsg 0 0 6 9 44, by decide +kernel,
        accepted (by decide +kernel) (by decide +kernel) (by decide +kernel) (by decide +kernel) hc (by decide +kernel), by decide +kernel,
        by decide +kernel⟩
    · exact ⟨slave 6, 3, ptpMsg 0 0x200 6 9 44, by decide +kernel,
        accepted (by decide +kernel) (by decide +kernel) (by decide +kernel) (by decide +kernel) hc (by decide +kernel), by decide +kernel,
        by decide +kernel⟩
  · obtain ⟨c, h | h, hc⟩ := another_clock ((slave 5).dev.clockId 3)
    all_goals subst h
    · exact ⟨slave 5, 3, ptpMsg 8 0 5 9 44, ⟨100000, 0, 0⟩, 0, by decide +kernel,
        accepted (by decide +kernel) (by decide +kernel) (by decide +kernel) (by decide +kernel) hc (by decide +kernel), by decide +kernel,
        by decide +kernel⟩
    · exact ⟨slave 6, 3, ptpMsg 8 0 6 9 44, ⟨100000, 0, 0⟩, 0, by decide +kernel,
        accepted (by decide +kernel) (by decide +kernel) (by decide +kernel) (by decide +kernel) hc (by decide +kernel), by decide +kernel,
        by decide +kernel⟩

/-- A Delay_Resp to the last Delay_Req of a slave, its requester the port itself. -/
theorem witness_PtpReception_delayResp :
    ∃ (s : State) (p : Fin 4) (m : List Byte) (t3 : Tai) (diff : Int), s.dev.booted = true ∧ (s.dev.ptpAccept p 9 m).2 = true ∧
      s.dev.fromMaster p (ptpHead m) = true ∧ beAt m 44 8 = s.dev.clockId p ∧ beAt m 52 2 = p.val + 1 ∧
      (s.dev.ptp p).req = some ((ptpHead m).seq, t3) ∧ (s.dev.ptp p).syncDiff = some diff := by
  obtain ⟨c, h | h, hc⟩ := another_clock ((slave 5).dev.clockId 3)
  all_goals subst h
  · have e : ptpHead (delayResp 5 ((slave 5).dev.clockId 3)) = ptpHead (delayResp 5 0) := rfl
    refine ⟨slave 5, 3, delayResp 5 ((slave 5).dev.clockId 3), ⟨100000, 0, 0⟩, 5, by decide +kernel,
      accepted (by decide +kernel) ?_ ?_ ?_ ?_ (by decide +kernel), ?_, delayResp_requester 5 _ (clockId_solo_lt 5), ?_, ?_, by decide +kernel⟩
    · rw [e]; decide +kernel
    · exact (by decide +kernel : ¬ (delayResp 5 0).length < tlvStart 9)
    · rw [e]; decide +kernel
    · rw [e]; exact hc
    · rw [e]; decide +kernel
    · exact (by decide +kernel : beAt (delayResp 5 0) 52 2 = 4)
    · rw [e]; decide +kernel
  · have e : ptpHead (delayResp 6 ((slave 6).dev.clockId 3)) = ptpHead (delayResp 6 0) := rfl
    refine ⟨slave 6, 3, delayResp 6 ((slave 6).dev.clockId 3), ⟨100000, 0, 0⟩, 5, by decide +kernel,
      accepted (by decide +kernel) ?_ ?_ ?_ ?_ (by decide +kernel), ?_, delayResp_requester 6 _ (clockId_solo_lt 6), ?_, ?_, by decide +kernel⟩
    · rw [e]; decide +kernel
    · exact (by decide +kernel : ¬ (delayResp 6 0).length < tlvStart 9)
    · rw [e]; decide +kernel
    · rw [e]; exact hc
    · rw [e]; decide +kernel
    · exact (by decide +kernel : beAt (delayResp 6 0) 52 2 = 4)
    · rw [e]; decide +kernel

/-- A Delay_Req of another clock at a master on port 3. -/
theorem witness_PtpTransmissionAndTimeouts_delayReq :
    ∃ (s : State) (p : Fin 4) (m : List Byte), s.dev.booted = true ∧ (s.dev.ptpAccept p 1 m).2 = true ∧ s.dev.mastersOn p = true ∧
      s.dev.standby = false := by
  obtain ⟨c, h | h, hc⟩ := another_clock ((regs (up .solo) [(F.TIM_PTP_STATUS_PORT_STATE.at [3], 6)]).dev.clockId 3)
  all_goals subst h
  · exact ⟨regs (up .solo) [(F.TIM_PTP_STATUS_PORT_STATE.at [3], 6)], 3, ptpMsg 1 0 5 9 44, by decide +kernel,
      accepted (by decide +kernel) (by decide +kernel) (by decide +kernel) (by decide +kernel) hc (by decide +kernel), by decide +kernel,
      by decide +kernel⟩
  · exact ⟨regs (up .solo) [(F.TIM_PTP_STATUS_PORT_STATE.at [3], 6)], 3, ptpMsg 1 0 6 9 44, by decide +kernel,
      accepted (by decide +kernel) (by decide +kernel) (by decide +kernel) (by decide +kernel) hc (by decide +kernel), by decide +kernel,
      by decide +kernel⟩


theorem ingress_at (s : State) (p lat : Nat) (h : s.dev.intLat p false = lat) (c : s.dev.rdS (F.TIM_PTP_RX_CAL_RX_CAL.at [p]) = 0)
    (b : lat < 65536) (f : s.dev.fs = 48000) : s.dev.indexAt (s.dev.ingress p ⟨100, 30000, 0⟩) = 4800001 := by
  simp only [Dev.indexAt, Dev.ingress, h, c, f]
  simp [Tai.addSub, Tai.ofSub, Tai.toSub, subPerSec]
  omega

/-- A context that listens on port 0, one channel of 16 bits, its link offset 48 samples. -/
def listening : State :=
  regs (up .solo) [(F.NET_CFG_EN.at [0], 1), ((F.STR_CTX_STATUS_STATE).un 255, 3), ((F.STR_CTX_MAP_LINK_OFFSET).un 255, 48),
    ((F.STR_CTX_CFG_CHANNELS).un 255, 1), ((F.STR_CTX_CFG_FORMAT).un 255, 0), ((F.STR_CTX_RTP_OFFSET_RTP_OFFSET).un 255, 0),
    ((F.STR_CTX_NET_PT).un 255, 97), ((F.STR_CTX_UDP_UDP_A).un 255, 5004)]

/-- A version 2 packet with one sample, timestamped for the first place of the window. -/
def onePacket : List Byte := toBE 1 0x80 ++ toBE 1 97 ++ toBE 2 0 ++ toBE 4 4799955 ++ toBE 4 0 ++ toBE 2 0x1234

/-- A packet in the window of a listening context (the second clause of the first part of StreamContexts). -/
theorem witness_StreamContexts_packet :
    ∃ (s : State) (c : Fin 256) (p : Fin 4) (vid : Nat) (flow : MediaFlow) (rtp : List Byte) (detected : Tai) (m k : Nat),
      let d := s.dev; let r := Rtp.parse rtp; let l : Int := d.cf F.STR_CTX_MAP_LINK_OFFSET c
      let f : Int := d.indexAt (d.ingress p detected); let bytes := formatBytes (d.cf F.STR_CTX_CFG_FORMAT c)
      d.inServicePort p = true ∧ d.mediaFor p vid flow r.pt = [(c.val, false)] ∧
      r.version = 2 ∧ r.pt = d.cf F.STR_CTX_NET_PT c ∧ d.cf F.STR_CTX_CFG_SSRC_FLT_EN c = 0 ∧
      0 < m ∧ m ≤ 192 ∧ r.payload.length = m * d.ctxCh c * bytes ∧ 0 < d.ctxCh c * bytes ∧ r.ts < 2 ^ 32 ∧
      (k : Int) = placeIndex (f - l) (r.ts + 2 ^ 32 - d.cf F.STR_CTX_RTP_OFFSET_RTP_OFFSET c) ∧
      f - l + 2 ≤ k ∧ (k : Int) + m - 1 < f - l + 1 + d.ringD ∧ (d.ctx c).ringA = [] := by
  have hl : listening.dev.intLat 0 false < 65536 := by
    simp only [Dev.intLat]
    omega
  have hf : listening.dev.indexAt (listening.dev.ingress 0 ⟨100, 30000, 0⟩) = 4800001 :=
    ingress_at listening 0 _ rfl (by decide +kernel) hl (by decide +kernel)
  refine ⟨listening, 255, 0, 0, ⟨false, 5, 0, 5004⟩, onePacket, ⟨100, 30000, 0⟩, 1, 4799955, ?_⟩
  have hc : ((255 : Fin 256) : Nat) = 255 := rfl
  have hp : ((0 : Fin 4) : Nat) = 0 := rfl
  simp only [hc, hp, hf]
  decide +kernel

/-- A state of a server on whose log a phase step stands. -/
def stepped : State :=
  on (regs (up .solo) [(F.TIM_NTP_CFG_EN, 1), (F.REF_SEL_STATUS_TIME_VALID, 1)]) fun d =>
    { d with ref := { d.ref with log := [⟨⟨7, 0, 0⟩, 65536, none, 10, 1⟩] } }

/-- A request with a phase step between its ingress and its launch. -/
theorem witness_NtpRequestAcrossAStepIsDropped :
    ∃ (s : State) (p : Fin 4) (_ : List Byte) (packet : List Byte) (detected launch : Tai), s.dev.booted = true ∧ s.dev.ntpAnswers = true ∧
      48 ≤ packet.length ∧ beAt packet 0 1 % 8 = 3 ∧ (beAt packet 0 1 / 8 % 8 = 3 ∨ beAt packet 0 1 / 8 % 8 = 4) ∧
      s.dev.stepBetween (s.dev.ingress p detected) launch = true := by
  refine ⟨stepped, 3, toBE 16 5, toBE 1 0x23 ++ toBE 47 0, ⟨5, 0, 0⟩, ⟨9, 0, 0⟩, by decide +kernel, by decide +kernel, by decide +kernel,
    by decide +kernel, by decide +kernel, ?_⟩
  have c : stepped.dev.rdS (F.TIM_PTP_RX_CAL_RX_CAL.at [3]) = 0 := by decide +kernel
  have l : stepped.dev.ref.log = [⟨⟨7, 0, 0⟩, 65536, none, 10, 1⟩] := rfl
  have b : stepped.dev.intLat 3 false < 65536 := by
    simp only [Dev.intLat]
    omega
  have v : ((3 : Fin 4) : Nat) = 3 := rfl
  rw [v, Dev.stepBetween, l]
  simp [StepRec.before, Dev.ingress, c, Tai.addSub, Tai.lt, Tai.le, Tai.toSub, Tai.ofSub, subPerSec]
  omega

/-- A step of a state that is in order. -/
theorem witness_EveryStepKeepsTheOrder : ∃ s t : State, s.inv ∧ step s = .next t :=
  ⟨{ up .solo with pending := [.readWord 0] }, _, ⟨by decide +kernel, by decide +kernel⟩, rfl⟩

/-- A command that answers and leaves the TAI counter. -/
theorem witness_NoOtherCommandMovesTai : ∃ (c : Instr) (s t : State), movesTai c = false ∧ exec c s = .next t :=
  ⟨.readWord 0, up .solo, _, by decide +kernel, rfl⟩

/-- A command that answers and stores nothing. -/
theorem witness_NoOtherCommandStores : ∃ (c : Instr) (s t : State), maySt c = false ∧ exec c s = .next t :=
  ⟨.announceReceiptTimeout 3, up .solo, _, by decide +kernel, rfl⟩

/-- A device whose budget scheduler has run a tick, at a TJ in 0.1 °C, with a THERM_CAP. -/
def warm (tj cap : Nat) : State :=
  on (regs (up .solo) [(F.PWR_MEAS_TJ, tj), (F.PWR_CAP_NOW_THERM_CAP, cap)]) fun d => { d with pwr := { d.pwr with ticks := 1000 } }

/-- Each of the three ranges of TJ, at its bounds. -/
theorem witness_ThermCapFollowsTheJunction :
    (∀ x ∈ [(1001, 9500), (1000, 9500), (950, 9500), (949, 9000)],
      (warm x.1 x.2).dev.alive = true ∧ (warm x.1 x.2).dev.pwr.thermAt + 1000 ≤ (warm x.1 x.2).dev.pwr.ticks) ∧
    (let d := (warm 1001 9500).dev; 10 * (d.rd F.PWR_THERM_TJ_TARGET : Int) < d.rdS F.PWR_MEAS_TJ) ∧
    (let d := (warm 1000 9500).dev; d.rdS F.PWR_MEAS_TJ ≤ 10 * (d.rd F.PWR_THERM_TJ_TARGET : Int)) ∧
    (let d := (warm 950 9500).dev; 10 * (d.rd F.PWR_THERM_TJ_TARGET : Int) - 50 ≤ d.rdS F.PWR_MEAS_TJ) ∧
    (let d := (warm 949 9000).dev; d.rdS F.PWR_MEAS_TJ < 10 * (d.rd F.PWR_THERM_TJ_TARGET : Int) - 50 ∧
      d.rd F.PWR_CAP_NOW_THERM_CAP < d.rd F.PWR_LIMITS_POWER_CAP) := by
  dsimp only
  decide +kernel

/-- Devices of PinsOfEachMode: in RESET, under TEST_EN, and in modes of each kind. -/
theorem witness_PinsOfEachMode :
    State.reset.dev.alive = false ∧
    (let d := (on (up .solo) fun d => { d with pins := { d.pins with testEn := true } }).dev; d.pins.testEn = true) ∧
    (∀ m ∈ [Mode.bootstrap, .maintenance, .safeHold, .commission, .solo, .marionette], (up m).dev.alive = true ∧ (up m).dev.pins.testEn = false) ∧
    (up .solo).dev.mode.mode.svc = true ∧ (up .marionette).dev.mode.mode.stby = true ∧ (up .commission).dev.serving = false ∧
    (up .safeHold).dev.fading = false ∧ (up .commission).dev.outService = false ∧ (up .commission).dev.drives = false ∧
    (let d := (on (up .active) fun d => { d with pair := { d.pair with claiming := true } }).dev; d.alive = true ∧ d.pair.claiming = true) ∧
    (up .solo).dev.pair.claiming = false := by
  dsimp only
  decide +kernel

/-! ### Terms that the checks of `WellFormed` refuse -/

/-- A time whose nanoseconds make a whole second. -/
def late : Tai := ⟨1, 1000000000, 0⟩

theorem illformed_bootStepEnd : (Instr.bootStepEnd { noInput with trainedMiB := 3000 }).wf = false := by decide +kernel
theorem illformed_bootStepEnd_header : (Instr.bootStepEnd noInput).wf = false := by decide +kernel
theorem illformed_monitorUpdate : (Instr.monitorUpdate (List.replicate 16 0)).wf = false := by decide +kernel
theorem illformed_refPulseEdge : (Instr.refPulseEdge 0 late).wf = false := by decide +kernel
theorem illformed_leapArm : (Instr.leapArm false ⟨1, 0, 65536⟩).wf = false := by decide +kernel
theorem illformed_ptpSyncRx : (Instr.ptpSyncRx 0 [] late).wf = false := by decide +kernel
theorem illformed_ptpDelayReqRx : (Instr.ptpDelayReqRx 0 [] late none).wf = false := by decide +kernel
theorem illformed_ptpSyncTx : (Instr.ptpSyncTx 0 late).wf = false := by decide +kernel
theorem illformed_ptpDelayReqTx : (Instr.ptpDelayReqTx 0 late).wf = false := by decide +kernel
theorem illformed_ntpRequest : (Instr.ntpRequest 0 [] [] ⟨1, 0, 0⟩ late).wf = false := by decide +kernel
theorem illformed_almanacWrite : (Instr.almanacWrite .host 0 []).wf = false := by decide +kernel
theorem illformed_frameRx : (Instr.frameRx .mgt [] true late).wf = false := by decide +kernel
theorem illformed_mediaPacketRx : (Instr.mediaPacketRx 0 0 ⟨false, 2 ^ 128, 0, 0⟩ [] ⟨1, 0, 0⟩).wf = false := by decide +kernel
theorem illformed_portFrame : (Instr.portFrame 0 .both ⟨1, 0, 0⟩ 0 0 true (List.replicate 33 0)).wf = false := by decide +kernel
theorem illformed_libraryIndexWrite : (Instr.libraryIndexWrite 0 [0]).wf = false := by decide +kernel
theorem illformed_timeFrameRx : (Instr.timeFrameRx ⟨⟨1, 0, 0⟩, ⟨1, 0, 0⟩, 0, 0, 0, late⟩).wf = false := by decide +kernel
theorem illformed_commandFrameRx :
    (Instr.commandFrameRx ⟨5, .safety, 1, 2 ^ 16, 0, 0, [], 0, 0, 0⟩).wf = false := by decide +kernel
theorem illformed_stateFrameRx_library : (Instr.stateFrameRx (.libraryRow 0 [] [])).wf = false := by decide +kernel
theorem illformed_stateFrameRx_context : (Instr.stateFrameRx (.contextSlot 0 false 0 0 (List.replicate 65 0))).wf = false := by decide +kernel
theorem illformed_stateFrameRx_almanac : (Instr.stateFrameRx (.almanac 0 [] 0 0 0 0 ⟨1, 0, 0⟩)).wf = false := by decide +kernel
theorem illformed_stateFrameRx_ring : (Instr.stateFrameRx (.portRing 0 false 0 0 (List.replicate 33 0))).wf = false := by decide +kernel
theorem illformed_stateFrameRx_recorder : (Instr.stateFrameRx (.recorder 0 (List.replicate 65 0) 0 0)).wf = false := by decide +kernel
theorem illformed_stateFrameRx_client : (Instr.stateFrameRx (.client 524288 0 [])).wf = false := by decide +kernel
theorem illformed_sfpRead : (Instr.sfpRead 0 [0]).wf = false := by decide +kernel
theorem illformed_readBurst : (Instr.readBurst 0 0).wf = false := by decide +kernel
theorem illformed_writeBurst : (Instr.writeBurst 0 []).wf = false := by decide +kernel
theorem illformed_updateApply : (Instr.updateApply 0 (some 1)).wf = false := by decide +kernel
theorem illformed_extest : (Instr.extest [] [true]).wf = false := by decide +kernel
theorem illformed_samplePreload : (Instr.samplePreload [] [true]).wf = false := by decide +kernel

/-! ### Single steps, their results from the spec's worked examples -/

/-- R15: a cycle of 2.5 ns at a steering word of 0. -/
theorem test_idle_cycle : ∃ t, step (up .solo) = .next t ∧ t.dev.time.tai = ⟨100000, 2, 32768⟩ := ⟨_, rfl, by decide +kernel⟩

/-- The example of R15: at +1.5 ppm, a word of 98 304 000 000, 400 000 000 cycles gain 1500 ns; so 8 cycles gain 30 fs, 1.96608 units of
2⁻¹⁶ ns, of which one is whole. -/
theorem test_steered_cycles :
    (Nat.repeat (fun x : TimeSt => x.advance 98304000000) 8 { tai := ⟨5, 0, 0⟩ }).tai = ⟨5, 20, 1⟩ := by decide +kernel

/-- R387 to R389's example: 0x1A1234 reaches SUP_STATUS. -/
theorem test_address_hole : decodeAddr 0x1A1234 = (0xA, 4) := by decide +kernel

/-- R390's example: 0x85007C is the alias of SUP_CFG INJECT_EN. -/
theorem test_bit_alias : aliasOf 0x5007C = (0xA, 0, 31) ∧ (F.SUP_CFG_INJECT_EN.blk, F.SUP_CFG_INJECT_EN.off, F.SUP_CFG_INJECT_EN.lo) = (0xA, 0, 31) := by
  decide +kernel

/-- R72's example, CLKOUT2 and CLKOUT5: a step of +1010 ns moves a 27 MHz output by −10 ns in 5 periods and a 1 MHz output by −10 ns
in one. -/
theorem test_output_moves : moveSize (1010 * 65536) 16000 1 = -160 ∧ (⟨-160, 16000, 1, 0⟩ : Move).periods = 1 ∧
    (⟨-160, 16000, 27, 0⟩ : Move).periods = 5 := by
  refine ⟨?_, by decide +kernel, by decide +kernel⟩
  simp [moveSize, Config.openDiv]

/-- R244's example: 0.75 and 0.3 exceed the range and clip; 0.75 and 0.15 do not. -/
theorem test_mix_clips :
    (let p := fun g => levelSum [⟨1030, 0, product42 0x60000000 0x08000000⟩, ⟨1030, 0, product42 1288490189 g⟩] 1030 0 / 2 ^ 11
     (sat31 (p 0x04000000) = 0x7FFFFFFF ∧ p 0x04000000 ≠ sat31 (p 0x04000000)) ∧ sat31 (p 0x02000000) = p 0x02000000) := by decide +kernel

/-- R165's example: 63 bytes are a runt, 64 are not. -/
theorem test_rx_runt :
    (∃ t, exec (.frameRx .net3 (toBE 59 0) true ⟨5, 0, 0⟩) (regs (up .solo) [(F.NET_CFG_EN.at [3], 1)]) = .next t ∧
      t.dev.rd (F.NET_COUNT_COUNT.at [3, 1]) = 1) := ⟨_, rfl, by decide +kernel⟩

/-- A device in COMMISSION with 4 GiB fitted. -/
def fitted : Dev :=
  (on (up .commission) fun d =>
    { d with boot := { d.boot with fitted := 4096, library := 2048, recorder := 768 }
             odp := { d.odp with objs := [(objKey 0x1020 1 0 0, 2048), (objKey 0x1020 2 0 0, 768)] } }).dev

/-- R28's example: beside a library of 2048 MiB in 4 GiB, a recorder of 896 MiB is out of range and one of 768 MiB is accepted. -/
theorem test_recorder_partition :
    (Box.ask { base := [], dev := fitted } hostAsker false 0x1020 2 0 (toBE 4 896) 0).2.status = .range ∧
      (Box.ask { base := [], dev := fitted } hostAsker false 0x1020 2 0 (toBE 4 768) 0).2.status = .ok := by decide +kernel

/-- R371's example: PRIORITY of slot 8 is subindex 5 of object 0x2000, a U8; 1 is accepted and 16 is out of range. -/
theorem test_slot_priority :
    (Box.ask { base := [], dev := (up .solo).dev } hostAsker false 0x2000 5 8 [1] 0).2.status = .ok ∧
      (Box.ask { base := [], dev := (up .solo).dev } hostAsker false 0x2000 5 8 [16] 0).2.status = .range := by decide +kernel

/-- R115: an event a controller arms at a whole second. -/
theorem test_leap_armed : ∃ t, exec (.leapArm false ⟨1798761637, 0, 0⟩)
    (on (up .solo) fun d => { d with time := { d.time with tai := ⟨1798675237, 0, 0⟩ } }) = .next t ∧
      (t.dev.tim.leap.map (·.at_)) = some 1798761637 := ⟨_, rfl, by decide +kernel⟩

/-- R391: a one-bit ROC field returned as 1 becomes 0. -/
theorem test_roc_read_clears : ∃ t, exec (.rocRead 0x020114) (regs (up .solo) [(F.REF_SLOT_STICKY_RANK_CHANGE_SEEN.at [0], 1)]) = .next t ∧
    t.dev.out = [.hostWords [0x40]] ∧ t.dev.rd (F.REF_SLOT_STICKY_RANK_CHANGE_SEEN.at [0]) = 0 := ⟨_, rfl, by decide +kernel⟩

/-- R390, R393, the same example: the host may not write SAFETY's fields, such as SUP_CFG INJECT_EN, through their alias. -/
theorem test_alias_denied : ∃ t, exec (.bitAliasWrite 0x05007C true) (up .solo) = .next t ∧
    t.dev.host.outcome = 3 ∧ t.dev.rd F.SUP_CFG_INJECT_EN = (up .solo).dev.rd F.SUP_CFG_INJECT_EN := ⟨_, rfl, by decide +kernel⟩

end Sys2Proof.Tests
end

/-! PROOFS. The scope chapter: the kinds of effect a command may have, the order that every step keeps, the state after reset and the
error bound. -/

namespace Sys2Proof.Machine

/-! ### The kinds of effect -/

/-- What a command may answer: it acts on the device alone, it may set or step the TAI counter, it moves the counter to a time, or it
may store into the packet memory. -/
inductive Effect (s : State) : Host.Outcome State Fault Refusal → Prop where
  | device (f : Dev → Dev) : Effect s (s.act f)
  | time (f : Dev → Dev) : Effect s (s.actTime f)
  | moveTo (g : Dev → Tai) (f : Dev → Dev) : Effect s (s.actTo g f)
  | memory (f : Mem → Dev → List (Nat × Byte) × Dev) : Effect s (s.actMem f)

/-- The commands on the device with its packet memory are of the kind that may store. -/
theorem Effect.box (s : State) (f : Box → Box) : Effect s (s.actBox f) := .memory _

theorem Effect.hostReads (s : State) (addr n : Nat) : Effect s (s.hostReads addr n) := .box s _

theorem Effect.hostWrites (s : State) (addr : Nat) (ws : List Word) : Effect s (s.hostWrites addr ws) := .box s _

/-- The meaning of every command is one of the kinds. -/
theorem exec_effect (c : Instr) (s : State) : Effect s (exec c s) := by
  cases c <;> dsimp only [exec]
  case powerOn | powerFail | rstNLow | controlCoreWatchdog | safeHoldAutoRestart | modeTransition | rootLockLost => exact .time _
  case loopTick => exact .moveTo _ _
  case frameRx | netTxPost | bootStepEnd => exact .memory _
  case almanacWrite | almanacCancel | almanacConfirm | almanacLaunch | almanacDeferRetest | almanacDeferExpiry | modeRequest |
      cascadeProxyReq | audioFrameBoundary | tokenDeadline | commandFrameRx | takeOver | plannedHandover | applyProposals |
      odpRead | odpWrite | domainBegin | domainSegment | domainEnd | subscribe | unsubscribe | strobeGroups | thaw | freeze |
      commit | dmbRequest | readPortStatus => exact .box _ _
  case readWord | readBurst | rocRead | latchingRead | bitAliasRead | queuePop => exact .hostReads _ _ _
  case writeWord | writeBurst | registerWrite | bitAliasWrite | updStrobe | take | viewOn | viewOff | lockSet | queuePush |
      queueFlush => exact .hostWrites _ _ _
  all_goals exact .device _

/-! ### The order -/

/-- Each kind of effect keeps the order: the TAI counter stays, is moved by the time engine's own operations, which end in range, or is
brought into range; the packet memory stays or is written byte by byte. -/
theorem Effect.keeps_inv {s t : State} {o : Host.Outcome State Fault Refusal} (h : Effect s o) (ho : o = .next t) (hs : s.inv) :
    t.inv := by
  obtain ⟨htai, hmem⟩ := hs
  cases h with
  | device f =>
    cases ho
    exact ⟨htai, hmem⟩
  | time f =>
    cases ho
    exact ⟨TimeSt.norm_wf _, hmem⟩
  | moveTo g f =>
    cases ho
    exact ⟨Tai.ofSub_wf _, hmem⟩
  | memory f =>
    cases ho
    exact ⟨htai, Mem.writeAll_wf _ _ hmem⟩

/-- A command keeps the order. -/
theorem exec_keeps_inv (c : Instr) {s t : State} (h : exec c s = .next t) (hs : s.inv) : t.inv :=
  (exec_effect c s).keeps_inv h hs

theorem step_of_pending_nil {s : State} (h : s.pending = []) : step s = .next { s with dev := s.dev.tick } := by
  unfold step
  rw [h]

theorem step_of_pending_cons {s : State} {c : Instr} {rest : List Instr} (h : s.pending = c :: rest) :
    step s = exec c { s with pending := rest } := by
  unfold step
  rw [h]

/-- Settles O49: an idle cycle advances the counter within its range, and a command has one of the kinds of effect, each of which keeps
the order. -/
theorem everyStepKeepsTheOrder : Obligations.EveryStepKeepsTheOrder := by
  unfold Obligations.EveryStepKeepsTheOrder
  intro s t hs h
  cases hp : s.pending with
  | nil =>
    rw [step_of_pending_nil hp] at h
    cases h
    exact ⟨Dev.tick_wf s.dev hs.1, hs.2⟩
  | cons c rest =>
    rw [step_of_pending_cons hp] at h
    exact exec_keeps_inv c h hs

/-! ### The state after reset -/

/-- Out of reset every field reads the reset value of its table. -/
theorem State.reset_rd (f : Fld) : State.reset.dev.rd f = f.reset := rfl

/-- Settles O48: the counter stands at the epoch and the packet memory is empty. -/
theorem resetIsInOrder : Obligations.ResetIsInOrder := by
  unfold Obligations.ResetIsInOrder
  exact ⟨Tai.epoch_wf, rfl⟩

/-- Settles O47: the stores are empty by the definition of the reset state, and each field reads its reset value. -/
theorem resetLeaves : Obligations.ResetLeaves := by
  unfold Obligations.ResetLeaves
  refine ⟨rfl, rfl, rfl, rfl, rfl, rfl, ?_⟩
  simp only [State.reset_rd]
  decide

/-! ### The error bound -/

/-- A sum of bounds is never above the saturated bound. -/
theorem boundSum_le (l : List Nat) : boundSum l ≤ boundSat := by
  unfold boundSum
  split
  · exact Nat.le_refl _
  · exact Nat.min_le_left _ _

/-- The fields of the seven terms, in the order of the formula. -/
def termFlds : List Fld := (List.range 5).map (fun i => F.REF_TERM_TERM.at [i]) ++ [F.TIM_TERM_ASYM_ASYM, F.TIM_TERM_QUANT_QUANT]

theorem Dev.terms_eq (d : Dev) : d.terms = termFlds.map d.rd := rfl

/-- The terms read alike in devices with the same register file. -/
theorem Dev.terms_of_regs {d e : Dev} (h : d.regs = e.regs) : d.terms = e.terms := by
  rw [Dev.terms_eq, Dev.terms_eq]
  exact List.map_congr_left fun g _ => Dev.rd_of_regs h g

/-- The terms lie outside block QUE and are neither the bound nor its interrupt bit. -/
theorem termFlds_apart : ∀ g ∈ termFlds, g.inQue = false ∧ g.key ≠ F.TIM_IRQ_STATUS_BOUND_SAT_CHANGE.key ∧
    g.key ≠ F.TIM_BOUND_NOW_BOUND.key := by decide

/-- Summing reads every field as before, outside block QUE, but for the bound and its interrupt bit. -/
theorem Dev.rd_sumBound_other (d : Dev) {g : Fld} (hq : g.inQue = false) (hi : g.key ≠ F.TIM_IRQ_STATUS_BOUND_SAT_CHANGE.key)
    (hb : g.key ≠ F.TIM_BOUND_NOW_BOUND.key) : d.sumBound.rd g = d.rd g := by
  unfold Dev.sumBound
  dsimp only
  split
  · exact Dev.rd_wr_other _ _ hb
  · rw [Dev.rd_irq _ _ _ _ _ hq, if_neg hi, Dev.rd_wr_other _ _ hb]

/-- Summing leaves the terms. -/
theorem Dev.sumBound_terms (d : Dev) : d.sumBound.terms = d.terms := by
  rw [Dev.terms_eq, Dev.terms_eq]
  refine List.map_congr_left fun g hg => ?_
  obtain ⟨hq, hi, hb⟩ := termFlds_apart g hg
  exact Dev.rd_sumBound_other d hq hi hb

/-- Summing sets ErrorBoundNow to the saturating sum of the terms. -/
theorem Dev.rd_sumBound_bound (d : Dev) : d.sumBound.rd F.TIM_BOUND_NOW_BOUND = boundSum d.terms := by
  have hfits : boundSum d.terms % 2 ^ F.TIM_BOUND_NOW_BOUND.w = boundSum d.terms :=
    Nat.mod_eq_of_lt (Nat.lt_succ_of_le (boundSum_le d.terms))
  unfold Dev.sumBound
  dsimp only
  split
  · rw [Dev.rd_wr_same, hfits]
  · rw [Dev.rd_irq _ _ _ _ _ (by decide), if_neg (by decide), Dev.rd_wr_same, hfits]

/-- Writing a row of fields leaves every field that is none of them. -/
theorem Dev.rd_foldl_wr_other (l : List Nat) (f : Nat → Fld) (v : Nat) {g : Fld} (h : ∀ i ∈ l, g.key ≠ (f i).key) (d : Dev) :
    (l.foldl (fun d i => d.wr (f i) v) d).rd g = d.rd g := by
  induction l generalizing d with
  | nil => rfl
  | cons i l ih =>
    rw [List.foldl_cons, ih fun j hj => h j (List.mem_cons_of_mem i hj), Dev.rd_wr_other _ _ (h i List.mem_cons_self)]

/-- Saturating the terms leaves ErrorBoundNow saturated. -/
theorem Dev.rd_saturateBound_bound (d : Dev) : d.saturateBound.rd F.TIM_BOUND_NOW_BOUND = boundSat := by
  unfold Dev.saturateBound
  dsimp only
  rw [Dev.rd_foldl_wr_other _ (fun i => F.REF_TERM_TERM.at [i]) _ (by decide), Dev.rd_wr_other _ _ (by decide),
    Dev.rd_wr_other _ _ (by decide)]
  split
  · assumption
  · rw [Dev.rd_irq _ _ _ _ _ (by decide), if_neg (by decide), Dev.rd_wr_same]
    rfl

/-- Before TAI has been set, and after the root is lost, an evaluation saturates the bound. -/
theorem Dev.evalBound_unset {d : Dev} (h : d.on F.REF_SEL_STATUS_TIME_VALID = false ∨ d.clk.rootLost = true) (ms : Nat) :
    d.evalBound ms = d.saturateBound := by
  unfold Dev.evalBound
  rw [if_pos]
  rcases h with h | h <;> simp [h]

/-- With TAI set and the root running, an evaluation sums the terms that it has brought up to date. -/
theorem Dev.evalBound_set {d : Dev} (hv : d.on F.REF_SEL_STATUS_TIME_VALID = true) (hr : d.clk.rootLost = false) (ms : Nat) :
    ∃ e : Dev, d.evalBound ms = e.sumBound := by
  unfold Dev.evalBound
  rw [if_neg (by simp [hv, hr])]
  dsimp only
  split
  · exact ⟨_, rfl⟩
  · exact ⟨_, rfl⟩

/-- A command on the device answers by what its effect makes of the present device. -/
theorem State.act_congr {s : State} {f g : Dev → Dev} (h : f s.dev = g s.dev) : s.act f = s.act g := by
  unfold State.act
  rw [h]

/-- On a device that has ended BOOTSTRAP, ERROR_BOUND_EVAL evaluates the bound. -/
theorem execErrorBoundEval_booted {s : State} (hb : s.dev.booted = true) :
    exec .errorBoundEval s = s.act fun d => d.evalBound 1 :=
  State.act_congr (if_pos hb)

/-- Settles O13: an evaluation ends in a sum over the terms, or with everything saturated. -/
theorem errorBoundIsTheSumOfItsTerms : Obligations.ErrorBoundIsTheSumOfItsTerms := by
  unfold Obligations.ErrorBoundIsTheSumOfItsTerms
  intro s hb
  obtain ⟨t, ht, -, -, -, hdev⟩ := State.act_next s fun d => d.evalBound 1
  have hregs : t.dev.regs = (s.dev.evalBound 1).regs := by rw [hdev]
  have hbound := Dev.rd_of_regs hregs F.TIM_BOUND_NOW_BOUND
  have hterms := Dev.terms_of_regs hregs
  refine ⟨t, (execErrorBoundEval_booted hb).trans ht, ?_⟩
  rw [hbound, hterms]
  by_cases hu : s.dev.on F.REF_SEL_STATUS_TIME_VALID = false ∨ s.dev.clk.rootLost = true
  · rw [Dev.evalBound_unset hu, Dev.rd_saturateBound_bound]
    exact ⟨fun hv hr => absurd hu (by simp [hv, hr]), fun _ => rfl, Nat.le_refl _⟩
  · obtain ⟨hv, hr⟩ : s.dev.on F.REF_SEL_STATUS_TIME_VALID = true ∧ s.dev.clk.rootLost = false := by simpa using hu
    obtain ⟨e, he⟩ := Dev.evalBound_set hv hr 1
    rw [he, Dev.rd_sumBound_bound, Dev.sumBound_terms]
    exact ⟨fun _ _ => rfl, fun h => absurd h hu, boundSum_le _⟩

end Sys2Proof.Machine

/-! PROOFS. The architecture chapter: the cycle that passes on an empty queue, and the commands that leave the TAI counter alone. -/

namespace Sys2Proof.Machine

open Sys2Proof.Claims

/-! ### The idle cycle -/

/-- One cycle of the clock changes nothing of the device but its time engine. -/
theorem Dev.tick_frame (d : Dev) : d.tick = { d with time := d.tick.time } := by
  unfold Dev.tick
  split
  · rfl
  · rfl

theorem Dev.tick_cycles (d : Dev) : d.tick.time.cycles = d.time.cycles + 1 := by
  unfold Dev.tick
  split
  · rfl
  · rfl

/-- Out of power or in RESET the TAI counter stands. -/
theorem Dev.tick_tai_of_not_alive {d : Dev} (h : d.alive = false) : d.tick.time.tai = d.time.tai := by
  unfold Dev.tick
  rw [if_neg (by simp [h])]

/-- Powered and out of RESET the time engine advances by the steering word. -/
theorem Dev.tick_time_of_alive {d : Dev} (h : d.alive = true) : d.tick.time = d.time.advance d.ref.word := by
  unfold Dev.tick
  rw [if_pos h]

/-- The part carried below the counter's last bit is less than one unit of that bit. -/
theorem TimeSt.advance_frac_lt (t : TimeSt) (word : Int) : (t.advance word).frac < fracPerSub :=
  (Int.toNat_lt' (by decide)).2 (Int.emod_lt_of_pos _ (by decide))

/-- What the counter moves by and the part carried make up 2.5 ns × (1 + s) and the part carried before: the carry and the steering split
into whole units of the last bit and a remainder, so nothing is lost (R15). -/
theorem TimeSt.advance_exact (t : TimeSt) (word : Int) :
    ∃ k : Int, (t.advance word).tai = t.tai.addSub k ∧
      k * fracPerSub + (t.advance word).frac = cycleSub * (fracPerSub + word) + t.frac := by
  refine ⟨_, rfl, ?_⟩
  simp only [TimeSt.advance, fracPerSub, cycleSub]
  omega

/-- Settles O46: the step is one cycle of the clock, which touches the time engine alone. -/
theorem idleStepIsOneCycle : Obligations.IdleStepIsOneCycle := by
  unfold Obligations.IdleStepIsOneCycle
  intro s hp
  refine ⟨_, step_of_pending_nil hp, ?_, Dev.tick_cycles s.dev, Dev.tick_tai_of_not_alive, fun ha => ?_⟩
  · exact congrArg (fun d => { s with dev := d }) (Dev.tick_frame s.dev)
  · dsimp only
    rw [Dev.tick_time_of_alive ha]
    exact ⟨TimeSt.advance_frac_lt _ _, TimeSt.advance_exact _ _⟩

/-! ### The commands that leave the TAI counter alone -/

/-- A command that neither powers nor resets the device and is not the loop tick keeps the time engine: each acts on the device, or on
the device and its packet memory, and its outcome carries the time engine of the state before it (R15, R16). -/
theorem exec_keeps_time {c : Instr} (hc : movesTai c = false) {s t : State} (h : exec c s = .next t) : t.dev.time = s.dev.time := by
  cases c
  case powerOn | powerFail | rstNLow | controlCoreWatchdog | safeHoldAutoRestart | modeTransition | rootLockLost | loopTick => cases hc
  all_goals
    cases h
    rfl

/-- Settles O51: the eight commands that power or reset the device or tick the loop are set aside, and every other one keeps the time
engine. -/
theorem noOtherCommandMovesTai : Obligations.NoOtherCommandMovesTai := by
  unfold Obligations.NoOtherCommandMovesTai
  intro c s t hc h
  exact exec_keeps_time hc h

end Sys2Proof.Machine

/-! PROOFS. The chapter on modes and bring-up: supplies and resets, the power-up sequence, and the pins of each mode. -/

namespace Sys2Proof.Machine

open Sys2Proof.Claims

/-! ### Pins (R43, R54) -/

/-- Out of power, in RESET or with TEST_EN high, a pin is an input or high-impedance. -/
theorem Dev.pin_of_off {d : Dev} (h : d.alive = false ∨ d.pins.testEn = true) (x : Signal) :
    d.pin x = .highZ ∨ d.pin x = .input := by
  have hoff : (!d.alive || d.pins.testEn) = true := by
    rcases h with h | h
    · simp [h]
    · simp [h]
  unfold Dev.pin
  rw [if_pos hoff]
  split
  · exact .inr rfl
  · exact .inl rfl

section Driven

variable {d : Dev} (ha : d.alive = true) (ht : d.pins.testEn = false)
include ha ht

theorem Dev.pin_faultOk : d.pin .faultOk =
    drivenTo (d.mode.mode != .bootstrap && d.mode.mode != .maintenance && d.mode.mode != .safeHold) := by
  simp [Dev.pin, Dev.faultOk, ha, ht]

theorem Dev.pin_pulse (n : Fin 4) : d.pin (.pulse n) = d.pulsePin n := by simp [Dev.pin, ha, ht]

theorem Dev.pin_mclk (g : Fin 8) : d.pin (.mclk g) = d.mclkPin g := by simp [Dev.pin, ha, ht]

theorem Dev.pin_clkout (n : Fin 8) : d.pin (.clkout n) = d.clkoutPin n := by simp [Dev.pin, ha, ht]

theorem Dev.pin_roleClaimN : d.pin .roleClaimN = if d.pair.claiming then .low else .highZ := by simp [Dev.pin, ha, ht]

theorem Dev.pin_portIn (p : Fin 16) : d.pin (.portIn p) = .input := by simp [Dev.pin, ha, ht]

theorem Dev.pin_dout_of_silent (h : d.drives = false) (p : Fin 16) : d.pin (.dout p) = .highZ := by
  simp [Dev.pin, ha, ht, h]

end Driven

/-- The modes in which FAULT_OK is high are none of those in which it is low. -/
theorem Mode.not_faulty {m : Mode} (h : m = .commission ∨ m.svc = true ∨ m.stby = true) :
    m ≠ .bootstrap ∧ m ≠ .maintenance ∧ m ≠ .safeHold := by
  cases m <;> simp_all [Mode.svc, Mode.stby]

/-- Settles O54: with the device off no pin is driven; with it on each clause is the pin's own view in the mode it names. -/
theorem pinsOfEachMode : Obligations.PinsOfEachMode := by
  unfold Obligations.PinsOfEachMode
  refine ⟨fun d x hoff => ?_, fun d ha ht => ⟨fun hm => ?_, fun hm => ?_, fun n hs => ?_, fun g hm hf => ?_, fun n hm ho => ?_,
    fun hc => ?_, fun hc => ?_, fun p hd => ⟨Dev.pin_dout_of_silent ha ht hd p, Dev.pin_portIn ha ht p⟩⟩⟩
  · rcases Dev.pin_of_off hoff x with h | h
    · simp [h]
    · simp [h]
  · rw [Dev.pin_faultOk ha ht]
    rcases hm with h | h | h
    · simp [h, drivenTo]
    · simp [h, drivenTo]
    · simp [h, drivenTo]
  · obtain ⟨hb, hk, hsh⟩ := Mode.not_faulty hm
    simp [Dev.pin_faultOk ha ht, hb, hk, hsh, drivenTo]
  · simp [Dev.pin_pulse ha ht, Dev.pulsePin, hs]
  · simp [Dev.pin_mclk ha ht, Dev.mclkPin, hm, hf]
  · simp [Dev.pin_clkout ha ht, Dev.clkoutPin, hm, ho]
  · simp [Dev.pin_roleClaimN ha ht, hc]
  · simp [Dev.pin_roleClaimN ha ht, hc]

/-! ### Outcomes -/

/-- A command that may set the TAI counter answers by what its effect makes of the present device. -/
theorem State.actTime_congr {s : State} {f g : Dev → Dev} (h : f s.dev = g s.dev) : s.actTime f = s.actTime g := by
  unfold State.actTime
  rw [h]

/-! ### The record of a transition (R37, R42) -/

/-- The mode machine once a transition has been recorded. -/
def ModeSt.moved (m : ModeSt) (target : Mode) (cause : Nat) (now : Tai) : ModeSt :=
  { m with mode := target, prev := m.mode, cause := cause, count := (m.count + 1) % 256, decided := none, entered := now }

@[simp] theorem Dev.recordTransition_mode (d : Dev) (target : Mode) (cause master : Nat) :
    (d.recordTransition target cause master).mode = d.mode.moved target cause d.time.tai := by
  unfold Dev.recordTransition
  dsimp only
  rw [Dev.irq_mode, Dev.journal_mode]
  rfl

/-- An entry leaves the configuration store (R53). -/
@[simp] theorem Dev.journal_store (d : Dev) (master role op : Nat) (st : Status) (flags index sub row : Nat) (value : List Byte) :
    (d.journal master role op st flags index sub row value).odp.store = d.odp.store := by
  obtain ⟨r, x, e, j, h⟩ := Dev.journal_shape d master role op st flags index sub row value
  rw [h]

@[simp] theorem Dev.recordTransition_store (d : Dev) (target : Mode) (cause master : Nat) :
    (d.recordTransition target cause master).odp.store = d.odp.store := by
  unfold Dev.recordTransition
  dsimp only
  rw [Dev.irq_odp, Dev.journal_store]

/-- Recording a transition sets MODE_CHANGE; other fields outside block QUE read as before, but for JOURNAL_HIGH. -/
theorem Dev.rd_recordTransition (d : Dev) (target : Mode) (cause master : Nat) {g : Fld} (hq : g.inQue = false)
    (hj : g.key ≠ F.GCTL_IRQ_STATUS_JOURNAL_HIGH.key) :
    (d.recordTransition target cause master).rd g = if g.key = F.GCTL_IRQ_STATUS_MODE_CHANGE.key then 1 else d.rd g := by
  unfold Dev.recordTransition
  dsimp only
  rw [Dev.rd_irq _ _ _ _ _ hq, Dev.rd_journal _ _ _ _ _ _ _ _ _ _ _ hq hj]
  rfl

/-! ### What a reset keeps (R53) -/

/-- What a device shows after a reset, whatever becomes of its pins and of the TAP: registers and mode at their reset values, the counter
at the epoch (R441), the store and the journal as they were. -/
theorem Dev.resetVolatile_fields (d : Dev) {e : Dev} {p : PinSt} {j : JtagSt}
    (h : e = { d.resetVolatile with pins := p, jtag := j, time := d.resetVolatile.time.norm }) :
    e.pins = p ∧ e.mode.mode = .reset ∧ e.regs = {} ∧ e.time.tai = ⟨0, 0, 0⟩ ∧ e.odp.store = d.odp.store ∧
      e.odp.journal = d.odp.journal := by
  have hepoch : d.resetVolatile.time.norm.tai = Tai.epoch := by
    rw [TimeSt.norm_of_wf _ Tai.epoch_wf]
    rfl
  rw [h]
  exact ⟨rfl, rfl, rfl, hepoch, rfl, rfl⟩

/-! ### The start of BOOTSTRAP (R37, R44) -/

theorem bit_mod_two (b : Bool) : bit b % 2 ^ 1 = bit b := by cases b <;> rfl

/-- The straps' own fields are written last, HOST_ROLE after PAIR_SIDE. -/
theorem Dev.rd_sampleStraps_pairSide (d : Dev) : d.sampleStraps.rd F.GCTL_BOOT_STATUS_PAIR_SIDE = bit d.pins.pairSide := by
  unfold Dev.sampleStraps
  dsimp only
  rw [Dev.wrBit_eq, Dev.rd_wr_other _ _ (by decide), Dev.wrBit_eq, Dev.rd_wr_same]
  exact bit_mod_two _

theorem Dev.rd_sampleStraps_hostRole (d : Dev) : d.sampleStraps.rd F.GCTL_BOOT_STATUS_HOST_ROLE = bit d.pins.hostRole := by
  unfold Dev.sampleStraps
  dsimp only
  rw [Dev.wrBit_eq, Dev.rd_wr_same]
  exact bit_mod_two _

@[simp] theorem Dev.startBootstrap_mode (d : Dev) (cause : Nat) :
    (d.startBootstrap cause).mode = d.mode.moved .bootstrap cause d.time.tai := by
  unfold Dev.startBootstrap
  dsimp only
  rw [Dev.recordTransition_mode]
  rfl

@[simp] theorem Dev.startBootstrap_store (d : Dev) (cause : Nat) : (d.startBootstrap cause).odp.store = d.odp.store := by
  unfold Dev.startBootstrap
  dsimp only
  rw [Dev.recordTransition_store]
  rfl

/-- BOOTSTRAP begins with the straps sampled and MODE_CHANGE set. -/
theorem Dev.rd_startBootstrap (d : Dev) (cause : Nat) {g : Fld} (hq : g.inQue = false)
    (hj : g.key ≠ F.GCTL_IRQ_STATUS_JOURNAL_HIGH.key) :
    (d.startBootstrap cause).rd g = if g.key = F.GCTL_IRQ_STATUS_MODE_CHANGE.key then 1 else d.sampleStraps.rd g := by
  unfold Dev.startBootstrap
  dsimp only
  rw [Dev.rd_recordTransition _ _ _ _ hq hj]
  rfl

/-- What a device shows once BOOTSTRAP has begun, whatever its clock. -/
theorem Dev.startBootstrap_fields {d e : Dev} {cause : Nat} {now : TimeSt} (h : e = { d.startBootstrap cause with time := now }) :
    e.mode = d.mode.moved .bootstrap cause d.time.tai ∧ e.rd F.GCTL_BOOT_STATUS_PAIR_SIDE = bit d.pins.pairSide ∧
      e.rd F.GCTL_BOOT_STATUS_HOST_ROLE = bit d.pins.hostRole ∧ e.rd F.GCTL_IRQ_STATUS_MODE_CHANGE = 1 ∧
      e.odp.store = d.odp.store := by
  have hregs : e.regs = (d.startBootstrap cause).regs := by rw [h]
  have hmode : e.mode = (d.startBootstrap cause).mode := by rw [h]
  have hodp : e.odp = (d.startBootstrap cause).odp := by rw [h]
  refine ⟨by rw [hmode, Dev.startBootstrap_mode], ?_, ?_, ?_, by rw [hodp, Dev.startBootstrap_store]⟩
  · rw [Dev.rd_of_regs hregs, Dev.rd_startBootstrap _ _ (by decide) (by decide), if_neg (by decide), Dev.rd_sampleStraps_pairSide]
  · rw [Dev.rd_of_regs hregs, Dev.rd_startBootstrap _ _ (by decide) (by decide), if_neg (by decide), Dev.rd_sampleStraps_hostRole]
  · rw [Dev.rd_of_regs hregs, Dev.rd_startBootstrap _ _ (by decide) (by decide), if_pos rfl]

/-! ### Supplies and RST_N (R41, R43, R44) -/

/-- The device with its supplies become valid. -/
def Dev.poweredOn (d : Dev) : Dev :=
  { d.resetVolatile with pins := { d.resetVolatile.pins with supplies := true, rstN := false, firstRise := true,
                                                             mramInhibit := false } }

theorem execPowerOn_off {s : State} (h : s.dev.pins.supplies = false) : execPowerOn s = s.actTime Dev.poweredOn :=
  State.actTime_congr (by simp [h, Dev.poweredOn])

/-- The device with its staged entries lost (R363). -/
def Dev.stagingLost (d : Dev) : Dev := d.setJournal { d.odp.journal with staged := [] }

/-- The device with its supplies failed. -/
def Dev.poweredOff (d : Dev) : Dev :=
  { d.stagingLost.resetVolatile with
    pins := { d.stagingLost.resetVolatile.pins with supplies := false, mramInhibit := true, rstN := false }, jtag := {} }

theorem execPowerFail_on {s : State} (h : s.dev.pins.supplies = true) : execPowerFail s = s.actTime Dev.poweredOff :=
  State.actTime_congr (by simp [h, Dev.poweredOff, Dev.stagingLost])

/-- The device as RST_N low finds it, the transition recorded: RESET has none to record. -/
def Dev.recordReset (d : Dev) : Dev := if d.mode.mode = .reset then d else d.recordTransition .reset 0x01 0

theorem Dev.recordReset_store (d : Dev) : d.recordReset.odp.store = d.odp.store := by
  unfold Dev.recordReset
  split
  · rfl
  · exact Dev.recordTransition_store d _ _ _

/-- The device reset by RST_N. -/
def Dev.resetByPin (d : Dev) : Dev :=
  { d.recordReset.resetVolatile with pins := { d.recordReset.resetVolatile.pins with rstN := false } }

theorem execRstNLow_high {s : State} (hs : s.dev.pins.supplies = true) (hr : s.dev.pins.rstN = true) :
    execRstNLow s = s.actTime Dev.resetByPin :=
  State.actTime_congr (by simp [hs, hr, Dev.resetByPin, Dev.recordReset])

/-- The pins once RST_N has risen with the straps at the levels given. -/
def PinSt.risen (p : PinSt) (sel : Fin 4) (side host test : Bool) : PinSt :=
  { p with rstN := true, firstRise := false, bootSel := sel, pairSide := side, hostRole := host, testEn := test }

theorem execRstNHigh_low {s : State} (hs : s.dev.pins.supplies = true) (hr : s.dev.pins.rstN = false) (sel : Fin 4)
    (side host test : Bool) :
    execRstNHigh sel side host test s = s.act fun d =>
      Dev.startBootstrap { d with pins := d.pins.risen sel side host test } (if d.pins.firstRise then 0 else 1) :=
  State.act_congr (by simp [hs, hr, PinSt.risen])

/-- Settles O1: power-on, power failure and RST_N low end in the volatile reset, which keeps the store; RST_N high starts BOOTSTRAP. -/
theorem suppliesAndResetPin : Obligations.SuppliesAndResetPin := by
  unfold Obligations.SuppliesAndResetPin
  intro s
  refine ⟨fun hs => ?_, fun hs => ?_, fun hs hr => ?_, fun sel side host test hs hr => ?_⟩
  · obtain ⟨t, ht, -, -, -, hdev⟩ := State.actTime_next s Dev.poweredOn
    obtain ⟨hpins, hmode, hregs, htai, hstore, hjournal⟩ := Dev.resetVolatile_fields s.dev hdev
    exact ⟨t, (execPowerOn_off hs).trans ht, by rw [hpins]; rfl, by rw [hpins]; rfl, hmode, hregs, htai, hstore, hjournal⟩
  · obtain ⟨t, ht, -, -, -, hdev⟩ := State.actTime_next s Dev.poweredOff
    obtain ⟨hpins, hmode, -, -, hstore, hjournal⟩ := Dev.resetVolatile_fields s.dev.stagingLost hdev
    exact ⟨t, (execPowerFail_on hs).trans ht, by rw [hpins]; rfl, by rw [hpins]; rfl, hmode, by rw [hjournal]; rfl,
      by rw [hjournal]; rfl, hstore⟩
  · obtain ⟨t, ht, -, -, -, hdev⟩ := State.actTime_next s Dev.resetByPin
    obtain ⟨hpins, hmode, hregs, htai, hstore, -⟩ := Dev.resetVolatile_fields s.dev.recordReset hdev
    exact ⟨t, (execRstNLow_high hs hr).trans ht, by rw [hpins]; rfl, hmode, hregs, htai, hstore.trans (Dev.recordReset_store s.dev)⟩
  · obtain ⟨t, ht, -, -, -, hdev⟩ := State.act_next s fun d =>
      Dev.startBootstrap { d with pins := d.pins.risen sel side host test } (if d.pins.firstRise then 0 else 1)
    obtain ⟨hmode, hside, hhost, hchange, hstore⟩ := Dev.startBootstrap_fields hdev
    exact ⟨t, (execRstNHigh_low hs hr sel side host test).trans ht, by rw [hmode]; rfl, by rw [hmode]; rfl, by rw [hmode]; rfl,
      by rw [hmode]; rfl, hside, hhost, hchange, hstore⟩

/-! ### The packet memory cleared (R45) -/

/-- An address that the memory does not list reads 0. -/
theorem Mem.read_unlisted (m : Mem) (a : Nat) (h : a ∉ m.map (·.1)) : m.read a = 0 := by
  induction m with
  | nil => rfl
  | cons c t ih =>
    obtain ⟨k, v⟩ := c
    simp only [List.map_cons, List.mem_cons, not_or] at h
    unfold Mem.read
    rw [if_neg h.1, ih h.2, ite_self]

/-- Once zeros are written over addresses, one that was written or read 0 before reads 0. -/
theorem Mem.read_writeAll_zeros (as : List Nat) (m : Mem) (a : Nat) (hw : m.wf = true) (h : a ∈ as ∨ m.read a = 0) :
    (m.writeAll (as.map fun b => (b, 0))).read a = 0 := by
  unfold Mem.writeAll
  induction as generalizing m with
  | nil => exact h.resolve_left List.not_mem_nil
  | cons b as ih =>
    rw [List.map_cons, List.foldl_cons]
    refine ih _ (Mem.write_wf m b 0 hw) ?_
    rw [Mem.read_write m b a 0 hw]
    rcases h with h | h
    · rcases List.mem_cons.1 h with h | h
      · exact .inr (if_pos h)
      · exact .inl h
    · exact .inr (by rw [h, ite_self])

/-- Zeros over every listed address clear the memory. -/
theorem Mem.read_cleared (m : Mem) (hw : m.wf = true) (a : Nat) : (m.writeAll (m.map fun c => (c.1, 0))).read a = 0 := by
  have hkeys : (m.map fun c => (c.1, (0 : Byte))) = (m.map (·.1)).map fun b => (b, 0) := by rw [List.map_map]; rfl
  rw [hkeys]
  refine Mem.read_writeAll_zeros _ m a hw ?_
  by_cases h : a ∈ m.map (·.1)
  · exact .inl h
  · exact .inr (Mem.read_unlisted m a h)

/-! ### The power-up sequence (R45, R46, R61) -/

/-- While the sequence is under way a step's end stores the zeros of step 2, if it is that, and acts on the device. -/
theorem execBootStepEnd_booting {s : State} (h : s.dev.booting = true) (input : BootInput) :
    execBootStepEnd input s = s.actMem fun m d =>
      (if d.nextBootStep = 2 then m.map (fun c => (c.1, 0)) else [], d.bootStepEnd input) := by
  unfold execBootStepEnd State.actMem
  simp [h]

@[simp] theorem Dev.obj_setObj (d : Dev) (index sub row v dflt : Nat) : (d.setObj index sub row v).obj index sub row dflt = v :=
  Tbl.get_put_same _ _ _ _

theorem Dev.bootStepEnd_two {d : Dev} (h : d.nextBootStep = 2) (input : BootInput) :
    d.bootStepEnd input = (d.setObj 0x1040 7 0 ((d.bootCount + 1) % 2 ^ 32)).wr F.GCTL_BOOT_STATUS_BOOT_STEP 2 := by
  simp only [Dev.bootStepEnd, h]

theorem Dev.bootStepEnd_no_image {d : Dev} (h : d.nextBootStep = 4) {input : BootInput}
    (hi : d.pickImage input.slotA input.slotB = none) : d.bootStepEnd input = d.goTo .maintenance 0x13 := by
  simp only [Dev.bootStepEnd, h, hi]

/-- Step 10 decides the mode of a device with the causes and the configuration that it had, BOOT_STEP at 10. -/
theorem Dev.bootStepEnd_ten {d : Dev} (h : d.nextBootStep = 10) (input : BootInput) :
    ∃ e : Dev, d.bootStepEnd input = e.decideMode input.claimLow ∧ e.mode = d.mode ∧ e.boot.configCause = d.boot.configCause ∧
      e.rd F.GCTL_BOOT_STATUS_BOOT_STEP = 10 := by
  have hstep : (d.wr F.GCTL_BOOT_STATUS_BOOT_STEP 10).rd F.GCTL_BOOT_STATUS_BOOT_STEP = 10 := Dev.rd_wr_same _ _ _
  simp only [Dev.bootStepEnd, h]
  split
  · exact ⟨_, rfl, rfl, rfl, (Dev.rd_wr_other _ _ (by decide)).trans hstep⟩
  · exact ⟨_, rfl, rfl, rfl, hstep⟩

/-- A held cause goes before the configuration. -/
theorem Dev.decideMode_held {d : Dev} {c : Nat} (h : firstCause d.mode.held = some c) (claimLow : Bool) :
    d.decideMode claimLow = d.goTo .safeHold c := by
  unfold Dev.decideMode
  rw [h]

/-- With no held cause and no valid configuration the device goes to COMMISSION. -/
theorem Dev.decideMode_unconfigured {d : Dev} (h : firstCause d.mode.held = none) (hc : d.boot.configCause ≠ 5) (claimLow : Bool) :
    d.decideMode claimLow = d.goTo .commission d.boot.configCause := by
  unfold Dev.decideMode
  rw [h]
  exact if_pos hc

theorem Dev.mem_held_holdCause (d : Dev) (cause : Nat) : cause ∈ (d.holdCause cause).mode.held := by
  unfold Dev.holdCause
  split
  · next h => exact List.contains_iff_mem.1 h
  · exact List.mem_append_right _ List.mem_cons_self

theorem Dev.holdCause_regs (d : Dev) (cause : Nat) : (d.holdCause cause).regs = d.regs := by
  unfold Dev.holdCause
  split
  · rfl
  · rfl

/-- On the backup oscillator step 1 is done, the root is not locked, and cause 0x06 is held. -/
theorem Dev.bootOnBackup_spec (d : Dev) :
    d.bootOnBackup.rd F.GCTL_BOOT_STATUS_BOOT_STEP = 1 ∧ d.bootOnBackup.rd F.CLK_ROOT_STATUS_ON_BACKUP = 1 ∧
      d.bootOnBackup.rd F.CLK_ROOT_STATUS_ROOT_LOCKED = 0 ∧ 0x06 ∈ d.bootOnBackup.mode.held := by
  unfold Dev.bootOnBackup
  dsimp only
  refine ⟨?_, ?_, ?_, Dev.mem_held_holdCause _ _⟩
  · rw [Dev.rd_of_regs (Dev.holdCause_regs _ _), Dev.rd_wr_same]
    rfl
  · rw [Dev.rd_of_regs (Dev.holdCause_regs _ _), Dev.rd_wr_other _ _ (by decide)]
    exact Dev.rd_wr_same (d.wr F.CLK_ROOT_STATUS_ROOT_LOCKED 0) _ _
  · rw [Dev.rd_of_regs (Dev.holdCause_regs _ _), Dev.rd_wr_other _ _ (by decide)]
    exact (Dev.rd_wr_other (d.wr F.CLK_ROOT_STATUS_ROOT_LOCKED 0) _ (by decide)).trans (Dev.rd_wr_same d _ _)

theorem execRootLockTimeout_first {s : State} (hb : s.dev.booting = true) (h0 : s.dev.rd F.GCTL_BOOT_STATUS_BOOT_STEP = 0) :
    execRootLockTimeout s = s.act Dev.bootOnBackup :=
  State.act_congr (by simp [hb, h0])

/-- Settles O2: each step's end by the equation of the step, and the root's timeout by what going on from the backup leaves. -/
theorem powerUpSequenceSteps : Obligations.PowerUpSequenceSteps := by
  unfold Obligations.PowerUpSequenceSteps
  refine ⟨fun s input hb hn hw => ?_, fun s input hb hn hi => ?_, fun s input c hb hn hc => ?_, fun s input hb hn hc hcfg => ?_,
    fun s hb h0 => ?_⟩
  · obtain ⟨t, ht, -, hmem, hdev⟩ := State.actMem_next s fun m d =>
      (if d.nextBootStep = 2 then m.map (fun c => (c.1, 0)) else [], d.bootStepEnd input)
    refine ⟨t, (execBootStepEnd_booting hb input).trans ht, ?_⟩
    rw [if_pos hn] at hmem
    rw [hmem, hdev]
    dsimp only
    rw [Dev.bootStepEnd_two hn]
    exact ⟨Dev.rd_wr_same _ _ _, Mem.read_cleared _ hw, Dev.obj_setObj s.dev _ _ _ _ _⟩
  · obtain ⟨t, ht, -, hmem, hdev⟩ := State.actMem_next s fun m d =>
      (if d.nextBootStep = 2 then m.map (fun c => (c.1, 0)) else [], d.bootStepEnd input)
    refine ⟨t, (execBootStepEnd_booting hb input).trans ht, ?_⟩
    rw [if_neg (by omega)] at hmem
    dsimp only at hdev
    rw [Dev.bootStepEnd_no_image hn hi] at hdev
    exact ⟨by unfold decides; rw [hdev]; rfl, hmem⟩
  · obtain ⟨e, he, hmode, -, hstep⟩ := Dev.bootStepEnd_ten hn input
    refine ⟨_, execBootStepEnd_booting hb input, ?_⟩
    dsimp only [decides]
    rw [he, Dev.decideMode_held (by rw [hmode]; exact hc)]
    exact ⟨hstep, rfl⟩
  · obtain ⟨e, he, hmode, hcause, hstep⟩ := Dev.bootStepEnd_ten hn input
    refine ⟨_, execBootStepEnd_booting hb input, ?_⟩
    dsimp only [decides]
    rw [he, Dev.decideMode_unconfigured (by rw [hmode]; exact hc) (by rw [hcause]; exact hcfg), hcause]
    exact ⟨hstep, rfl⟩
  · exact ⟨_, execRootLockTimeout_first hb h0, Dev.bootOnBackup_spec s.dev⟩

end Sys2Proof.Machine

/-! PROOFS. The chapter on modes: requests, the island and LANTERN, contacts and the critical limits. -/

namespace Sys2Proof.Machine

open Sys2Proof.Claims

/-! ### Decisions (R40) -/

/-- Nothing stands against a cause while no transition is decided. -/
theorem Dev.yields_of_undecided {d : Dev} (h : d.mode.decided = none) (rank : Nat) : d.yields rank = true := by
  simp [Dev.yields, h]

/-- A cause that nothing stands against is decided. -/
theorem Dev.arises_decided {d : Dev} {rank : Nat} (h : d.yields rank = true) (target : Mode) (cause master : Nat) :
    (d.arises target cause master rank).mode.decided = some ⟨target, cause, master⟩ := by
  unfold Dev.arises
  rw [if_pos h]
  rfl

/-- Unseating a decision touches the mode machine and the pair's flags. -/
theorem Dev.unseat_shape (d : Dev) : ∃ m p, d.unseat = { d with mode := m, pair := p } := by
  unfold Dev.unseat
  split
  · exact ⟨_, _, rfl⟩
  · dsimp only
    split <;> split <;> exact ⟨_, _, rfl⟩

/-- A cause that arises touches the mode machine and the pair's flags. -/
theorem Dev.arises_shape (d : Dev) (target : Mode) (cause master rank : Nat) :
    ∃ m p, d.arises target cause master rank = { d with mode := m, pair := p } := by
  unfold Dev.arises
  split
  · obtain ⟨m, p, h⟩ := d.unseat_shape
    exact ⟨_, p, by rw [h]; rfl⟩
  · exact ⟨_, _, rfl⟩

theorem Dev.arises_regs (d : Dev) (target : Mode) (cause master rank : Nat) :
    (d.arises target cause master rank).regs = d.regs := by
  obtain ⟨m, p, h⟩ := d.arises_shape target cause master rank
  rw [h]

theorem Dev.arises_island (d : Dev) (target : Mode) (cause master rank : Nat) :
    (d.arises target cause master rank).island = d.island := by
  obtain ⟨m, p, h⟩ := d.arises_shape target cause master rank
  rw [h]

/-! ### Requests (R55) -/

/-- An accepted request for another mode passed test 9: nothing stands against it. -/
theorem Dev.yields_of_judged_ok {d : Dev} {value : Nat} {role : Role} {target : Mode} (hr : requestable (value % 16) = some target)
    (hne : target ≠ d.mode.mode) (h : d.judgeRequest value role = .ok) : d.yields (requestRank target) = true := by
  by_contra hy
  unfold Dev.judgeRequest at h
  rw [hr] at h
  simp only [if_neg hne, Bool.eq_false_iff.2 hy, Bool.not_false, if_true] at h
  split_ifs at h

theorem Dev.startRequest_safeHold (d : Dev) (master : Nat) : d.startRequest .safeHold master = d.arises .safeHold 0x02 master := by
  simp [Dev.startRequest]

/-- An accepted request for SAFE_HOLD decides it. -/
theorem Dev.modeRequest_safeHold {d : Dev} {value : Nat} {role : Role} (hr : requestable (value % 16) = some .safeHold)
    (hne : d.mode.mode ≠ .safeHold) (h : d.judgeRequest value role = .ok) (master : Nat) :
    (d.modeRequest value role master).1.mode.decided = some ⟨.safeHold, 0x02, master⟩ := by
  unfold Dev.modeRequest
  simp only [hr, h, Dev.startRequest_safeHold]
  rw [if_pos (by simpa using hne.symm)]
  exact Dev.arises_decided (Dev.yields_of_judged_ok hr hne.symm h) _ _ _

/-- The Almanac's request is journalled, which leaves the mode machine as the request made it. -/
theorem Dev.almModeRequest_mode (d : Dev) (row : Nat) (x : AlmRow) (value : Nat) :
    (d.almModeRequest row x value).1.mode = (d.modeRequest value ((roleOf x.role).getD .observer) 0).1.mode :=
  Dev.journal_mode _ _ _ _ _ _ _ _ _ _

/-- A command on the device and its packet memory answers by what its effect makes of the present ones. -/
theorem State.actBox_congr {s : State} {f g : Box → Box} (h : f (boxOf s) = g (boxOf s)) : s.actBox f = s.actBox g := by
  unfold State.actBox State.actMem
  dsimp only [boxOf] at h
  dsimp only
  rw [h]

/-- The request of a row whose committed occurrence has come is the one that its action makes. -/
theorem execModeRequest_almanac {s : State} {row : Fin 4096} {value : Byte} {x : AlmRow} {at_ : Tai} (hb : s.dev.booted = true)
    (hrow : s.dev.almRow row = some x) (hst : x.state = 4) (hinst : x.inst = some at_) (hdue : at_.le s.dev.time.tai = true)
    (hasked : x.modeAsked = some value.toNat) :
    execModeRequest (.almanac row value) s = s.actBox fun b => b.up fun d => (d.almModeRequest row x value.toNat).1 :=
  State.actBox_congr (by simp [boxOf, hb, hrow, hst, hinst, hdue, hasked])

/-! ### The island (R56) -/

/-- The device islanded. -/
def Dev.islandedNow (d : Dev) : Dev := { d with island := { d.island with islanded := true, clearAt := none } }

theorem execIslandDetect_silent {s : State} (hb : s.dev.booted = true) (hn : s.dev.mode.mode.netServes = true)
    (hi : s.dev.island.islanded = false) (hp : s.dev.past s.dev.island.heard (s.dev.lanternDetect * 1000) = true) :
    execIslandDetect s = s.act fun d => d.islandedNow.lanternCheck :=
  State.act_congr (by simp [hb, hn, hi, hp, Dev.islandedNow])

theorem Dev.lanternCheck_regs (d : Dev) : d.lanternCheck.regs = d.regs := by
  unfold Dev.lanternCheck
  split
  · exact Dev.arises_regs _ _ _ _ _
  · rfl

theorem Dev.lanternCheck_island (d : Dev) : d.lanternCheck.island = d.island := by
  unfold Dev.lanternCheck
  split
  · exact Dev.arises_island _ _ _ _ _
  · rfl

/-- An islanded device in SOLO with LANTERN enabled has cause 0x0A arise. -/
theorem Dev.lanternCheck_solo {d : Dev} (hi : d.island.islanded = true) (hm : d.mode.mode = .solo)
    (he : d.obj 0x1030 3 0 1 = 1) : d.lanternCheck = d.arises .lantern 0x0A := by
  unfold Dev.lanternCheck
  rw [if_pos (by simp [hi, hm, he])]

theorem execLanternReturn_clear {s : State} {since : Nat} (hb : s.dev.booted = true) (hm : s.dev.mode.mode = .lantern)
    (hi : s.dev.island.islanded = false) (hc : s.dev.island.clearAt = some since) (h0 : s.dev.lanternReturn ≠ 0)
    (hp : s.dev.past since (s.dev.lanternReturn * 1000) = true) :
    execLanternReturn s = s.act fun d => d.arises d.mode.origin 0x0B :=
  State.act_congr (by simp [hb, hm, hi, hc, h0, hp])

/-! ### Contacts (R57, R58) -/

/-- The device with a contact at a level. -/
def Dev.setContact (d : Dev) (gpio : Nat) (closed : Bool) : Dev :=
  { d with contacts := d.contacts.put gpio { d.contacts.get {} gpio with closed := closed } }

theorem Dev.setContact_get (d : Dev) (gpio : Nat) (closed : Bool) :
    (d.setContact gpio closed).contacts.get {} gpio = { d.contacts.get {} gpio with closed := closed } :=
  Tbl.get_put_same _ _ _ _

/-- Outside LANTERN a stable level is taken, and nothing else happens. -/
theorem execLanternTrigger_elsewhere {s : State} (gpio : Fin 16) (level : Bool) (hb : s.dev.booted = true)
    (hm : s.dev.mode.mode ≠ .lantern) :
    execLanternTrigger gpio level s = s.act fun d =>
      if (d.contacts.get {} gpio).closed == (level == (d.trigger gpio 2 == 1)) then d
      else d.setContact gpio (level == (d.trigger gpio 2 == 1)) :=
  State.act_congr (by simp [hb, hm, Dev.setContact])

/-- In LANTERN an enabled play-while-closed row (action 1) stops its play when its contact opens. -/
theorem execLanternTrigger_opens {s : State} (gpio : Fin 16) (level : Bool) (hb : s.dev.booted = true)
    (hm : s.dev.mode.mode = .lantern) (h1 : s.dev.trigger gpio 1 = 1) (h3 : s.dev.trigger gpio 3 = 1)
    (hc : (s.dev.contacts.get {} gpio).closed = true) (hl : (level == (s.dev.trigger gpio 2 == 1)) = false) :
    execLanternTrigger gpio level s = s.act fun d => (d.setContact gpio false).triggerStops gpio := by
  unfold Dev.trigger Dev.obj at h1 h3 hl
  exact State.act_congr (by simp [Dev.trigger, Dev.obj, Dev.setContact, hb, hm, h1, h3, hc, hl])

/-- A trigger that stops leaves its contact without a voice. -/
theorem Dev.triggerStops_contact (d : Dev) (row : Nat) :
    (d.triggerStops row).contacts.get {} row = { d.contacts.get {} row with voice := none } := by
  unfold Dev.triggerStops
  dsimp only
  rw [Dev.journal_contacts]
  exact Tbl.get_put_same _ _ _ _

/-! ### The critical limits (R332) -/

/-- A device in a mode other than RESET, BOOTSTRAP and SAFE_HOLD, with nothing decided, decides SAFE_HOLD for the cause. -/
theorem Dev.safeHoldCause_running {d : Dev} (hr : d.mode.mode ≠ .reset) (hs : d.mode.mode ≠ .safeHold)
    (hb : d.mode.mode ≠ .bootstrap) (hd : d.mode.decided = none) (cause : Nat) :
    d.safeHoldCause cause = d.arises .safeHold cause := by
  unfold Dev.safeHoldCause
  split
  · next h => exact absurd h hr
  · next h => exact absurd h hs
  · next h => exact absurd h hb
  · exact if_pos (Dev.yields_of_undecided hd 2)

theorem Dev.not_reset_of_alive {d : Dev} (h : d.alive = true) : d.mode.mode ≠ .reset := by
  intro hm
  simp [Dev.alive, hm] at h

theorem execCriticalLimit_over {s : State} {rail : Bool} (ha : s.dev.alive = true) (h : rail = true ∨ 10 ≤ s.dev.pwr.hot) :
    execCriticalLimit rail s = s.act fun d => d.safeHoldCause 0x09 :=
  State.act_congr (by rcases h with h | h <;> simp [ha, h])

/-- Settles O4: each command is one cause that arises with nothing against it, or a contact's change. -/
theorem requestsIslandAndLimits : Obligations.RequestsIslandAndLimits := by
  unfold Obligations.RequestsIslandAndLimits
  refine ⟨fun s row value x at_ hb hrow hst hinst hdue hasked => ?_, fun s hb hn hi hp => ?_,
    fun s since hb hm hi hd hc h0 hp => ?_, fun s gpio level hb hm => ?_, fun s gpio level hb hm h1 h3 hc hl => ?_,
    fun s rail ha hl hsh hbs hd => ?_⟩
  · refine ⟨_, execModeRequest_almanac hb hrow hst hinst hdue hasked, ?_⟩
    dsimp only [decides, Box.up]
    rw [Dev.almModeRequest_mode]
    exact ⟨rfl, fun hr hne hok => Dev.modeRequest_safeHold hr hne hok 0⟩
  · refine ⟨_, execIslandDetect_silent hb hn hi hp, ?_⟩
    dsimp only [decides]
    refine ⟨by rw [Dev.lanternCheck_island]; rfl, Dev.lanternCheck_regs _, fun hm he hd => ?_⟩
    rw [Dev.lanternCheck_solo (d := s.dev.islandedNow) rfl hm he]
    exact Dev.arises_decided (d := s.dev.islandedNow) (Dev.yields_of_undecided hd _) _ _ _
  · exact ⟨_, execLanternReturn_clear hb hm hi hc h0 hp, Dev.arises_decided (Dev.yields_of_undecided hd _) _ _ _,
      Dev.arises_regs _ _ _ _ _⟩
  · refine ⟨_, execLanternTrigger_elsewhere gpio level hb hm, ?_⟩
    dsimp only
    split
    · next h => exact ⟨beq_iff_eq.1 h, rfl⟩
    · exact ⟨by rw [Dev.setContact_get], rfl⟩
  · refine ⟨_, execLanternTrigger_opens gpio level hb hm h1 h3 hc hl, ?_⟩
    dsimp only
    rw [Dev.triggerStops_contact, Dev.setContact_get]
  · refine ⟨_, execCriticalLimit_over ha hl, ?_⟩
    dsimp only [decides]
    rw [Dev.safeHoldCause_running (Dev.not_reset_of_alive ha) hsh hbs hd]
    exact ⟨Dev.arises_decided (Dev.yields_of_undecided hd _) _ _ _, Dev.arises_regs _ _ _ _ _⟩

end Sys2Proof.Machine

/-! PROOFS. The Almanac at its instants: launches, skips, deferrals and what resolves them. -/

namespace Sys2Proof.Machine

open Sys2Proof.Claims

/-! ### Numbers in an item (R4) -/

theorem toLE_length (n v : Nat) : (toLE n v).length = n := by
  induction n generalizing v with
  | zero => rfl
  | succ n ih => rw [toLE, List.length_cons, ih]

theorem ofLE_toLE (n v : Nat) : ofLE (toLE n v) = v % 256 ^ n := by
  induction n generalizing v with
  | zero => rw [Nat.pow_zero, Nat.mod_one]; rfl
  | succ n ih =>
    have hcons : ofLE (byteOf v :: toLE n (v / 256)) = v % 256 + 256 * ofLE (toLE n (v / 256)) := rfl
    rw [toLE, hcons, ih, Nat.pow_succ', Nat.mod_mul]

theorem slice_append (p q r : List Byte) : slice (p ++ q ++ r) p.length q.length = q := by
  simp [slice]

/-- A number reads where it was written. -/
theorem leAt_append_toLE (p r : List Byte) (n v : Nat) : leAt (p ++ toLE n v ++ r) p.length n = v % 256 ^ n := by
  have h := slice_append p (toLE n v) r
  rw [toLE_length] at h
  rw [leAt, h, ofLE_toLE]

/-! ### Queues and counters -/

/-- Another queue than the one offered an item is left as it is. -/
theorem Dev.que_enqueue_other (d : Dev) {q q' : Nat} (item : List Byte) (h : q' ≠ q) :
    (d.enqueue q item).que q' = d.que q' := by
  have hset : ∀ x, (d.setQue q x).que q' = d.que q' := fun x => by
    unfold Dev.que
    rw [Dev.setQue_ques, Tbl.get_put, if_neg h]
  unfold Dev.enqueue Dev.peak
  dsimp only
  split
  · rfl
  · split
    · split
      · exact hset _
      · exact hset _
    · split
      · exact hset _
      · exact hset _

/-- A queue with room and no item held back takes the item offered. -/
theorem Dev.mem_que_enqueue (d : Dev) {q : Nat} (item : List Byte) (hroom : (d.que q).items.length < queueCap q)
    (hheld : (d.que q).held = none) : item ∈ ((d.enqueue q item).que q).items := by
  have hset : item ∈ ((d.setQue q { d.que q with items := (d.que q).items ++ [item] }).que q).items := by
    unfold Dev.que
    rw [Dev.setQue_ques, Tbl.get_put_same]
    exact List.mem_append_right _ List.mem_cons_self
  unfold Dev.enqueue Dev.peak
  dsimp only
  rw [if_neg (by simp [hheld]), if_pos hroom]
  split
  · exact hset
  · exact hset

/-- A block's events go to Q2 or to one of Q13 to Q31 (R406). -/
theorem Dev.eventQueue_cases (d : Dev) (blk : Nat) : d.eventQueue blk = 2 ∨ 13 ≤ d.eventQueue blk := by
  unfold Dev.eventQueue
  cases h : ((List.range 19).map (· + 13)).find? (fun q => bitAt (d.rd (F.QUE_CFG_ROUTE.at [q])) blk) with
  | none => exact .inl rfl
  | some q =>
    obtain ⟨a, -, ha⟩ := List.mem_map.1 (List.mem_of_find?_eq_some h)
    exact .inr (by simp only [Option.getD_some]; omega)

/-- An interrupt posts nothing on the completion queue Q4. -/
theorem Dev.que_four_irq (d : Dev) (f : Fld) (unit : Nat) (more : List Byte) : (d.irq f unit more).que 4 = d.que 4 := by
  refine Dev.que_enqueue_other (d.wr f 1) _ ?_
  rcases (d.wr f 1).eventQueue_cases f.blk with h | h
  · omega
  · omega

/-- Counting in both counters reads as counting in the register. -/
theorem Dev.rd_tally_same (d : Dev) (f : Fld) (n : Nat) : (d.tally f n).rd f = satAdd f.w (d.rd f) n := Dev.rd_count_same d f n

/-! ### Rows -/

@[simp] theorem Dev.almRow_setAlm (d : Dev) (row : Nat) (x : AlmRow) : (d.setAlm row x).almRow row = some x :=
  Tbl.find?_put_same _ _ _

theorem Dev.almRow_of_alm {d e : Dev} (h : d.alm = e.alm) (row : Nat) : d.almRow row = e.almRow row := by
  unfold Dev.almRow
  rw [h]

/-- Telling the standby touches the pair alone. -/
theorem Dev.almTell_shape (d : Dev) (row result : Nat) (st : Status) (late : Nat) :
    ∃ p, d.almTell row result st late = { d with pair := p } := by
  unfold Dev.almTell Dev.note
  split
  · exact ⟨_, rfl⟩
  · split
    · exact ⟨_, rfl⟩
    · exact ⟨_, rfl⟩

theorem Dev.almTell_almRow (d : Dev) (row result : Nat) (st : Status) (late r : Nat) :
    (d.almTell row result st late).almRow r = d.almRow r := by
  obtain ⟨p, hp⟩ := d.almTell_shape row result st late
  rw [hp]
  rfl

/-! ### How an occurrence resolves (R150) -/

/-- A row as its occurrence resolves. -/
def AlmRow.resolved (x : AlmRow) (result : Nat) (st : Status) : AlmRow := { x with occ := x.occ + 1, result := result, status := st }

/-- The row of an entry that is DONE, its last occurrence that of `x`. -/
def AlmRow.doneAs (y x : AlmRow) : Prop := y.state = 6 ∧ y.inst = none ∧ y.occ = x.occ ∧ y.result = x.result

/-- An entry of the device's own with no further occurrence is DONE. -/
theorem Dev.almMoveTo_none (d : Dev) (row : Nat) {x : AlmRow} (n : Nat) (hc : x.copy = false) :
    ∃ y : AlmRow, d.almMoveTo row x n none = d.setAlm row y ∧ y.doneAs x := by
  unfold Dev.almMoveTo
  simp only [hc]
  exact ⟨_, rfl, rfl, rfl, rfl, rfl⟩

/-- An entry that does not repeat has no next occurrence. -/
theorem Dev.almNext_once (d : Dev) {b : List Byte} (h : almRepeat b = 0) (tod n : Nat) (t : Tai) : d.almNext b tod n t = none := by
  simp only [Dev.almNext, h]

theorem Dev.almTimed_shape (d : Dev) (x : AlmRow) : ∃ tod, d.almTimed x = { x with tod := tod } := by
  unfold Dev.almTimed
  split
  · exact ⟨_, rfl⟩
  · exact ⟨_, rfl⟩

/-- An entry of the device's own that does not repeat is DONE after its occurrence. -/
theorem Dev.almAdvance_once (d : Dev) (row : Nat) {x : AlmRow} (hc : x.copy = false) (hrep : almRepeat x.bytes = 0) :
    ∃ y : AlmRow, d.almAdvance row x = d.setAlm row y ∧ y.doneAs x := by
  obtain ⟨tod, ht⟩ := d.almTimed_shape x
  unfold Dev.almAdvance
  rw [ht]
  dsimp only
  split
  · rw [Dev.almNext_once _ hrep]
    exact Dev.almMoveTo_none d row _ hc
  · exact Dev.almMoveTo_none d row _ hc

/-- With no RETRACT outstanding none is overdue. -/
theorem Dev.almUnacked_none {d : Dev} (h : d.alm.retracting = []) : d.almUnacked = d := by
  unfold Dev.almUnacked
  rw [h]
  rfl

/-- Only a received copy is remembered as resolved. -/
theorem Dev.almEnded_own (d : Dev) {x : AlmRow} (hc : x.copy = false) (launched : Bool) : d.almEnded x launched = d :=
  if_neg (by simp [hc])

/-- The resolution of the device's own occurrence: posted, told to the standby, and the entry moves on. -/
theorem Dev.almResolve_own {d : Dev} {row : Nat} {x : AlmRow} (hr : d.alm.retracting = []) (hrow : d.almRow row = some x)
    (hc : x.copy = false) (result : Nat) (st : Status) (late : Nat) :
    d.almResolve row result st late = ((d.almPost row (x.resolved result st) result st late).almTell row result st late).almAdvance row
      (x.resolved result st) := by
  unfold Dev.almResolve
  simp only [Dev.almUnacked_none hr, hrow, Dev.almEnded_own _ hc]
  rfl

/-- Where the device's own entry does not repeat, its resolved occurrence leaves the row DONE. -/
theorem rowDone_of_resolved {t : State} {d : Dev} {row : Nat} {x : AlmRow} {result : Nat} {st : Status} {late : Nat}
    (ht : t.dev.alm = (d.almResolve row result st late).alm) (hr : d.alm.retracting = []) (hrow : d.almRow row = some x)
    (hc : x.copy = false) (hrep : almRepeat x.bytes = 0) : rowDone t row x result := by
  obtain ⟨y, hy, hst, hinst, hocc, hres⟩ := Dev.almAdvance_once
    ((d.almPost row (x.resolved result st) result st late).almTell row result st late) row (x := x.resolved result st) hc hrep
  rw [Dev.almResolve_own hr hrow hc, hy] at ht
  exact ⟨y, (Dev.almRow_of_alm ht row).trans (Dev.almRow_setAlm _ _ _), hst, hinst, hocc, hres⟩

/-! ### Admission (R156, R334) -/

/-- Asking for admission counts, and touches nothing but the counters and the scheduler's sum. -/
theorem Dev.allot_shape (d : Dev) (c : WorkClass) (cost : Nat) :
    ∃ r o p, (d.allot c cost).2 = { d with regs := r, odp := o, pwr := p } := by
  unfold Dev.allot
  dsimp only
  split
  · exact ⟨_, _, _, rfl⟩
  · split
    · exact ⟨_, _, _, rfl⟩
    · exact ⟨_, _, _, rfl⟩

theorem Dev.almAdmit_shape (d : Dev) (x : AlmRow) : ∃ r o p, (d.almAdmit x).2 = { d with regs := r, odp := o, pwr := p } := by
  unfold Dev.almAdmit
  dsimp only
  split
  · exact ⟨_, _, _, rfl⟩
  · exact Dev.allot_shape d _ _

theorem Dev.almAdmit_alm (d : Dev) (x : AlmRow) : (d.almAdmit x).2.alm = d.alm := by
  obtain ⟨r, o, p, h⟩ := d.almAdmit_shape x
  rw [h]

theorem Dev.almAdmit_time (d : Dev) (x : AlmRow) : (d.almAdmit x).2.time = d.time := by
  obtain ⟨r, o, p, h⟩ := d.almAdmit_shape x
  rw [h]

theorem Dev.almAdmit_edgeLaunched (d : Dev) (x : AlmRow) : (d.almAdmit x).2.edgeLaunched = d.edgeLaunched := by
  unfold Dev.edgeLaunched Dev.edgeNo
  rw [Dev.almAdmit_alm, Dev.almAdmit_time]

theorem Dev.almAdmit_lateness (d : Dev) (x : AlmRow) (at_ : Tai) : (d.almAdmit x).2.lateness at_ = d.lateness at_ := by
  unfold Dev.lateness
  rw [Dev.almAdmit_time]

/-- The device and its memory once a launch has asked for admission. -/
def Box.admitted (b : Box) (x : AlmRow) : Box := b.up fun d => (d.almAdmit x).2

theorem Box.admitted_alm (b : Box) (x : AlmRow) : (b.admitted x).dev.alm = b.dev.alm := Dev.almAdmit_alm b.dev x

theorem Box.admitted_edgeLaunched (b : Box) (x : AlmRow) : (b.admitted x).dev.edgeLaunched = b.dev.edgeLaunched :=
  Dev.almAdmit_edgeLaunched b.dev x

theorem Box.admitted_lateness (b : Box) (x : AlmRow) (at_ : Tai) : (b.admitted x).dev.lateness at_ = b.dev.lateness at_ :=
  Dev.almAdmit_lateness b.dev x at_

/-! ### Launches (R157, R158) -/

/-- An audio action joins those that wait for the frame boundary. -/
theorem Box.almLaunchNow_audio {b : Box} {x : AlmRow} (ha : almAudio (almAction x.bytes) = true) (h : b.dev.alm.audio = [])
    (row : Nat) : (b.almLaunchNow row x).dev.alm = { b.dev.alm with audio := [row] } := by
  unfold Box.almLaunchNow
  simp [ha, h]

/-- A control action whose edge has launched 64 waits for the next. -/
theorem Box.almLaunchNow_full {b : Box} {x : AlmRow} (ha : almAudio (almAction x.bytes) = false) (h : 64 ≤ b.dev.edgeLaunched)
    (row : Nat) : b.almLaunchNow row x = b.up (·.setAlm row { x with spilled := true }) := by
  unfold Box.almLaunchNow
  simp [ha, h]

/-- The device with one more launch counted on this edge. -/
def Dev.edgeCounted (d : Dev) : Dev := { d with alm := { d.alm with edge := d.edgeNo, edgeCount := d.edgeLaunched + 1 } }

theorem Dev.edgeCounted_almRow (d : Dev) (row : Nat) : d.edgeCounted.almRow row = d.almRow row := rfl

theorem Dev.edgeCounted_retracting (d : Dev) : d.edgeCounted.alm.retracting = d.alm.retracting := rfl

/-- A MARKER acts on nothing: it resolves at once. -/
theorem Box.almLaunchNow_marker {b : Box} {x : AlmRow} {at_ : Tai} (hk : almAction x.bytes = 13) (hinst : x.inst = some at_)
    (h : b.dev.edgeLaunched < 64) (row : Nat) :
    (b.almLaunchNow row x).dev =
      b.dev.edgeCounted.almResolve row (almResult x (b.dev.lateness at_) .ok) .ok (b.dev.lateness at_) := by
  have hctl : almAudio 13 = false := by decide
  unfold Box.almLaunchNow
  simp only [hk, hctl, Nat.not_le.2 h, hinst, Box.almAct]
  rfl

/-- A control action that is neither deferred, nor spilled, nor more than one edge late is LAUNCHED. -/
theorem almResult_on_time {x : AlmRow} {late : Nat} (hd : x.deferred = none) (hs : x.spilled = false) (hl : late < 5) :
    almResult x late .ok = 0 := by
  simp [almResult, hd, hs, Nat.not_le.2 hl]

theorem almResult_deferred {x : AlmRow} {since : Nat} (hd : x.deferred = some since) (late : Nat) : almResult x late .ok = 1 := by
  simp [almResult, hd]

section AtInstant

/-! ### An instant reached (R152, R155, R156) -/

variable {b : Box} {row : Nat} {x : AlmRow} {at_ : Tai} (hrow : b.dev.almRow row = some x) (hinst : x.inst = some at_)
  (hst : x.state = 4) (hdue : at_.le b.dev.time.tai = true) (haud : b.dev.alm.audio = [])
include hrow hinst hst hdue haud

theorem Box.almAtInstant_skipped (hm : bitAt (almModes x.bytes) b.dev.almModeBit = false) :
    b.almAtInstant row = b.up (·.almResolve row 2 .ok) := by
  unfold Box.almAtInstant
  simp [hrow, hinst, hst, hdue, haud, hm]

variable (hm : bitAt (almModes x.bytes) b.dev.almModeBit = true)
include hm

theorem Box.almAtInstant_admitted (ha : (b.dev.almAdmit x).1 = true) :
    b.almAtInstant row = (b.admitted x).almLaunchNow row x := by
  unfold Box.almAtInstant
  simp [hrow, hinst, hst, hdue, haud, hm, ha]
  rfl

theorem Box.almAtInstant_deferred (ha : (b.dev.almAdmit x).1 = false) (hcls : 2 ≤ almClass x.bytes) (hdef : almDefer x.bytes ≠ 0) :
    b.almAtInstant row = b.up fun d => ((d.almAdmit x).2.setAlm row
      { x with state := 5, deferred := some (d.almAdmit x).2.time.cycles }).almTell row 8 .ok 0 := by
  unfold Box.almAtInstant
  simp [hrow, hinst, hst, hdue, haud, hm, ha, hcls, hdef]
  rfl

theorem Box.almAtInstant_refused (ha : (b.dev.almAdmit x).1 = false) (hdef : almDefer x.bytes = 0) :
    b.almAtInstant row = b.up fun d => (d.almAdmit x).2.almResolve row 6 .budget := by
  unfold Box.almAtInstant
  simp [hrow, hinst, hst, hdue, haud, hm, ha, hdef]
  rfl

end AtInstant

/-! ### The commands -/

theorem boxOf_dev (s : State) : (boxOf s).dev = s.dev := rfl

/-- What a command on the device and its packet memory leaves of the Almanac. -/
theorem State.actBox_alm (s : State) (f : Box → Box) : ∃ t, s.actBox f = .next t ∧ t.dev.alm = (f (boxOf s)).dev.alm :=
  ⟨_, rfl, rfl⟩

/-- What a command on the device leaves of the Almanac, the queues and the registers. -/
theorem State.act_alm (s : State) (f : Dev → Dev) :
    ∃ t, s.act f = .next t ∧ t.dev.alm = (f s.dev).alm ∧ t.dev.ques = (f s.dev).ques ∧ t.dev.regs = (f s.dev).regs :=
  ⟨_, rfl, rfl, rfl, rfl⟩

/-- With none due before it, the row's own occurrence is all that ALMANAC_LAUNCH takes. -/
theorem execAlmanacLaunch_alone {s : State} {row : Fin 4096} (hb : s.dev.booted = true) (hf : s.dev.follows = false)
    (h : s.dev.almBefore row = []) : execAlmanacLaunch row s = s.actBox fun b => b.almAtInstant row :=
  State.actBox_congr (by simp [boxOf, hb, hf, h])

theorem execAlmanacDeferRetest_admitted {s : State} {row : Fin 4096} {x : AlmRow} {since : Nat} (hrow : s.dev.almRow row = some x)
    (hf : s.dev.follows = false) (hst : x.state = 5) (hd : x.deferred = some since) (hh : s.dev.almHeld = false)
    (hp : s.dev.past since (almDefer x.bytes) = false) (ha : (s.dev.almAdmit x).1 = true) :
    execAlmanacDeferRetest row s = s.actBox fun b => (b.admitted x).almLaunchNow row x :=
  State.actBox_congr (by simp [boxOf, hrow, hf, hst, hd, hh, hp, ha]; rfl)

theorem execAlmanacDeferExpiry_over {s : State} {row : Fin 4096} {x : AlmRow} {since : Nat} (hb : s.dev.booted = true)
    (hrow : s.dev.almRow row = some x) (hf : s.dev.follows = false) (hst : x.state = 5) (hd : x.deferred = some since)
    (hp : s.dev.past since (almDefer x.bytes) = true) (haud : s.dev.alm.audio = []) :
    execAlmanacDeferExpiry row s = s.actBox fun b => b.up (·.almResolve row 6 .budget) :=
  State.actBox_congr (by simp [boxOf, hb, hrow, hf, hst, hd, hp, haud])

theorem execAlmanacSkipHeld_passed {s : State} {row : Fin 4096} {x : AlmRow} {at_ : Tai} (hb : s.dev.booted = true)
    (hr : s.dev.alm.retracting = []) (hrow : s.dev.almRow row = some x) (hf : s.dev.follows = false) (hinst : x.inst = some at_)
    (hst : x.state = 1) (hdue : at_.le s.dev.time.tai = true) :
    execAlmanacSkipHeld row s = s.act fun d => d.almResolve row 2 .ok :=
  State.act_congr (by simp [hb, Dev.almSkip, Dev.almUnacked_none hr, hrow, hf, hinst, hst, hdue])

/-! ### The completion of a skipped occurrence (R160) -/

/-- An item's first word and its OCCURRENCE read as they were written. -/
theorem leAt_completion (head code flags peers occ : Nat) (stamp tail : List Byte) :
    leAt (toLE 4 head ++ toLE 1 code ++ toLE 1 flags ++ toLE 2 peers ++ toLE 4 occ ++ stamp ++ tail) 0 4 = head % 2 ^ 32 ∧
      leAt (toLE 4 head ++ toLE 1 code ++ toLE 1 flags ++ toLE 2 peers ++ toLE 4 occ ++ stamp ++ tail) 8 4 = occ % 2 ^ 32 := by
  have hhead := leAt_append_toLE [] (toLE 1 code ++ toLE 1 flags ++ toLE 2 peers ++ toLE 4 occ ++ stamp ++ tail) 4 head
  have hocc := leAt_append_toLE (toLE 4 head ++ toLE 1 code ++ toLE 1 flags ++ toLE 2 peers) (stamp ++ tail) 4 occ
  simp only [List.length_append, toLE_length, List.append_assoc, List.nil_append, List.length_nil] at hhead hocc
  simp only [List.append_assoc]
  exact ⟨hhead, hocc⟩

/-- A skipped occurrence posts one item, which names its row and its OCCURRENCE, is counted and raises SKIPPED. -/
theorem Dev.almPost_skipped {d : Dev} (hr : d.alm.retracting = []) {row : Nat} (hrow : row < 2 ^ 24) (x : AlmRow) (st : Status)
    (late : Nat) :
    ∃ item, d.almPost row x 2 st late = ((d.almItem item).almCount 2).irq F.ALM_IRQ_STATUS_SKIPPED row ∧
      leAt item 0 4 = 4 * 2 ^ 28 + 2 * 2 ^ 24 + row ∧ leAt item 8 4 = x.occ % 2 ^ 32 := by
  unfold Dev.almPost
  simp only [hr, List.any_nil, resultIrq]
  refine ⟨_, rfl, ?_, (leAt_completion _ _ _ _ _ _ _).2⟩
  rw [(leAt_completion _ _ _ _ _ _ _).1]
  omega

/-- Where Q4 has room, a skip's item is on it once the occurrence has been posted. -/
theorem Dev.almPost_skipped_que {d : Dev} (hr : d.alm.retracting = []) {row : Nat} (hrow : row < 2 ^ 24) (x : AlmRow) (st : Status)
    (late : Nat) (hroom : (d.que 4).items.length < queueCap 4) (hheld : (d.que 4).held = none) :
    ∃ item ∈ ((d.almPost row x 2 st late).que 4).items,
      leAt item 0 4 = 4 * 2 ^ 28 + 2 * 2 ^ 24 + row ∧ leAt item 8 4 = x.occ % 2 ^ 32 := by
  obtain ⟨item, hpost, hhead, hocc⟩ := Dev.almPost_skipped hr hrow x st late
  refine ⟨item, ?_, hhead, hocc⟩
  rw [hpost, Dev.que_four_irq]
  exact Dev.mem_que_enqueue d item hroom hheld

/-- A skip is counted in its counter. -/
theorem Dev.rd_almPost_skipped {d : Dev} (hr : d.alm.retracting = []) {row : Nat} (hrow : row < 2 ^ 24) (x : AlmRow) (st : Status)
    (late : Nat) :
    (d.almPost row x 2 st late).rd (F.ALM_COUNT_COUNT.at [2]) = satAdd 32 (d.rd (F.ALM_COUNT_COUNT.at [2])) 1 := by
  obtain ⟨item, hpost, -, -⟩ := Dev.almPost_skipped hr hrow x st late
  have hitem : (d.almItem item).rd (F.ALM_COUNT_COUNT.at [2]) = d.rd (F.ALM_COUNT_COUNT.at [2]) :=
    Dev.rd_enqueue d 4 item _ (by decide) (by decide)
  rw [hpost, Dev.rd_irq _ _ _ _ _ (by decide), if_neg (by decide), Dev.almCount, Dev.rd_tally_same, hitem]
  rfl

/-- What follows the posting of the device's own occurrence leaves the queues and the registers. -/
theorem Dev.almResolve_own_posted {d : Dev} {row : Nat} {x : AlmRow} (hr : d.alm.retracting = []) (hrow : d.almRow row = some x)
    (hc : x.copy = false) (hrep : almRepeat x.bytes = 0) (result : Nat) (st : Status) (late : Nat) :
    (d.almResolve row result st late).ques = (d.almPost row (x.resolved result st) result st late).ques ∧
      (d.almResolve row result st late).regs = (d.almPost row (x.resolved result st) result st late).regs := by
  obtain ⟨p, hp⟩ := (d.almPost row (x.resolved result st) result st late).almTell_shape row result st late
  obtain ⟨y, hy, -⟩ := Dev.almAdvance_once ((d.almPost row (x.resolved result st) result st late).almTell row result st late) row
    (x := x.resolved result st) hc hrep
  rw [Dev.almResolve_own hr hrow hc, hy, hp]
  exact ⟨rfl, rfl⟩

section Admitted

/-! ### What an admitted occurrence leaves of the Almanac -/

variable {b : Box} {t : State} {row : Nat} {x : AlmRow} (halm : t.dev.alm = ((b.admitted x).almLaunchNow row x).dev.alm)
include halm

/-- An admitted audio action waits for the frame boundary, its row as it was. -/
theorem audio_of_admitted (ha : almAudio (almAction x.bytes) = true) (haud : b.dev.alm.audio = []) :
    t.dev.alm.audio = [row] ∧ t.dev.almRow row = b.dev.almRow row := by
  rw [Box.almLaunchNow_audio ha (by rw [Box.admitted_alm, haud]), Box.admitted_alm] at halm
  refine ⟨by rw [halm], ?_⟩
  unfold Dev.almRow
  rw [halm]

/-- An admitted control action beyond the 64 of its edge is marked. -/
theorem spilled_of_admitted (ha : almAudio (almAction x.bytes) = false) (h : 64 ≤ b.dev.edgeLaunched) :
    t.dev.almRow row = some { x with spilled := true } := by
  rw [Box.almLaunchNow_full ha (by rw [Box.admitted_edgeLaunched]; exact h), Box.up_dev] at halm
  rw [Dev.almRow_of_alm halm, Dev.almRow_setAlm]

/-- An admitted MARKER of the device's own, one that does not repeat, is DONE with the result of its launch. -/
theorem rowDone_of_admitted_marker {at_ : Tai} (hr : b.dev.alm.retracting = []) (hrow : b.dev.almRow row = some x)
    (hinst : x.inst = some at_) (hc : x.copy = false) (hrep : almRepeat x.bytes = 0) (hk : almAction x.bytes = 13)
    (h : b.dev.edgeLaunched < 64) : rowDone t row x (almResult x (b.dev.lateness at_) .ok) := by
  rw [Box.almLaunchNow_marker hk hinst (by rw [Box.admitted_edgeLaunched]; exact h), Box.admitted_lateness] at halm
  have hcounted : (b.admitted x).dev.edgeCounted.almRow row = some x := by
    rw [Dev.edgeCounted_almRow, Dev.almRow_of_alm (Box.admitted_alm b x), hrow]
  exact rowDone_of_resolved halm (by rw [Dev.edgeCounted_retracting, Box.admitted_alm, hr]) hcounted hc hrep

end Admitted

/-- A deferred occurrence's row is DEFERRED from now on. -/
theorem Dev.almRow_deferred (d : Dev) (row : Nat) (x : AlmRow) :
    (((d.almAdmit x).2.setAlm row { x with state := 5, deferred := some (d.almAdmit x).2.time.cycles }).almTell row 8 .ok 0).almRow
      row = some { x with state := 5, deferred := some d.time.cycles } := by
  rw [Dev.almTell_almRow, Dev.almRow_setAlm, Dev.almAdmit_time]

section Launch

variable {s : State} {row : Fin 4096} {x : AlmRow} {at_ : Tai} (hown : ownRow s row x at_)
include hown

/-- What ALMANAC_LAUNCH makes of an occurrence that no other goes before. -/
theorem almanacLaunch_alone (hf : s.dev.follows = false) (hbefore : s.dev.almBefore row = []) :
    ∃ t, exec (.almanacLaunch row) s = .next t ∧ t.dev.alm = ((boxOf s).almAtInstant row).dev.alm := by
  obtain ⟨hb, -⟩ := hown
  obtain ⟨t, ht, halm⟩ := State.actBox_alm s fun b => b.almAtInstant row
  exact ⟨t, (execAlmanacLaunch_alone hb hf hbefore).trans ht, halm⟩

/-- A held occurrence that passed is skipped with one item on Q4. -/
theorem almanacSkipHeld_passed (hf : s.dev.follows = false) (hst : x.state = 1) (hdue : at_.le s.dev.time.tai = true)
    (hrep : almRepeat x.bytes = 0) (hroom : (s.dev.que 4).items.length < queueCap 4) (hheld : (s.dev.que 4).held = none) :
    ∃ t item, exec (.almanacSkipHeld row) s = .next t ∧ rowDone t row x 2 ∧ item ∈ (t.dev.que 4).items ∧
      leAt item 0 4 = 4 * 2 ^ 28 + 2 * 2 ^ 24 + row.val ∧ leAt item 8 4 = (x.occ + 1) % 2 ^ 32 ∧
      t.dev.rd (F.ALM_COUNT_COUNT.at [2]) = satAdd 32 (s.dev.rd (F.ALM_COUNT_COUNT.at [2])) 1 := by
  obtain ⟨hb, hrow, hinst, hc, hr⟩ := hown
  have hlt : row.val < 2 ^ 24 := row.isLt.trans (by decide)
  obtain ⟨t, ht, halm, hques, hregs⟩ := State.act_alm s fun d => d.almResolve row 2 .ok
  obtain ⟨hposted, hread⟩ := Dev.almResolve_own_posted hr hrow hc hrep 2 .ok 0
  obtain ⟨item, hmem, hhead, hocc⟩ := Dev.almPost_skipped_que hr hlt (x.resolved 2 .ok) .ok 0 hroom hheld
  refine ⟨t, item, (execAlmanacSkipHeld_passed hb hr hrow hf hinst hst hdue).trans ht, rowDone_of_resolved halm hr hrow hc hrep,
    ?_, hhead, hocc, ?_⟩
  · unfold Dev.que at hmem ⊢
    rw [hques.trans hposted]
    exact hmem
  · rw [Dev.rd_of_regs (hregs.trans hread)]
    exact Dev.rd_almPost_skipped hr hlt _ _ _

end Launch

/-- Settles O20: each command comes down to one row's decision, and what the decision leaves of the row is said by its own lemma. -/
theorem almanacOccurrencesLaunch : Obligations.AlmanacOccurrencesLaunch := by
  unfold Obligations.AlmanacOccurrencesLaunch
  refine ⟨fun s row x at_ hown hf hst hdue haud hbefore => ?_, fun s row x at_ since hown hf hst hd hh hp ha haud => ?_,
    fun s row x at_ since hown hf hst hd hp haud hrep => ?_,
    fun s row x at_ hown hf hst hdue hrep hroom hheld => almanacSkipHeld_passed hown hf hst hdue hrep hroom hheld⟩
  · obtain ⟨t, ht, halm⟩ := almanacLaunch_alone hown hf hbefore
    obtain ⟨-, hrow, hinst, hc, hr⟩ := hown
    refine ⟨t, ht, fun hm ha => ?_, fun hm ha => ⟨fun hcls hdef => ?_, fun hdef hrep => ?_⟩, fun hm hrep => ?_⟩
    · rw [Box.almAtInstant_admitted (b := boxOf s) hrow hinst hst hdue haud hm ha] at halm
      refine ⟨fun hact => ?_, fun hact hfull => spilled_of_admitted (b := boxOf s) halm hact hfull, fun hk hrep hedge hd hs hl => ?_⟩
      · obtain ⟨hwait, hkept⟩ := audio_of_admitted (b := boxOf s) halm hact haud
        exact ⟨hwait, hkept.trans hrow⟩
      · have hdone := rowDone_of_admitted_marker (b := boxOf s) halm hr hrow hinst hc hrep hk hedge
        rwa [boxOf_dev, almResult_on_time hd hs hl] at hdone
    · rw [Box.almAtInstant_deferred (b := boxOf s) hrow hinst hst hdue haud hm ha hcls hdef, Box.up_dev, boxOf_dev] at halm
      exact (Dev.almRow_of_alm halm row).trans (Dev.almRow_deferred s.dev row x)
    · rw [Box.almAtInstant_refused (b := boxOf s) hrow hinst hst hdue haud hm ha hdef, Box.up_dev, boxOf_dev] at halm
      have hkeep : (s.dev.almAdmit x).2.alm = s.dev.alm := Dev.almAdmit_alm _ _
      exact rowDone_of_resolved halm (by rw [hkeep, hr]) ((Dev.almRow_of_alm hkeep row).trans hrow) hc hrep
    · rw [Box.almAtInstant_skipped (b := boxOf s) hrow hinst hst hdue haud hm, Box.up_dev, boxOf_dev] at halm
      exact rowDone_of_resolved halm hr hrow hc hrep
  · obtain ⟨-, hrow, hinst, hc, hr⟩ := hown
    obtain ⟨t, ht, halm⟩ := State.actBox_alm s fun b => (b.admitted x).almLaunchNow row x
    refine ⟨t, (execAlmanacDeferRetest_admitted hrow hf hst hd hh hp ha).trans ht,
      fun hact => (audio_of_admitted (b := boxOf s) halm hact haud).1, fun hk hrep hedge => ?_⟩
    have hdone := rowDone_of_admitted_marker (b := boxOf s) halm hr hrow hinst hc hrep hk hedge
    rwa [almResult_deferred hd] at hdone
  · obtain ⟨hb, hrow, hinst, hc, hr⟩ := hown
    obtain ⟨t, ht, halm⟩ := State.actBox_alm s fun b => b.up (·.almResolve row 6 .budget)
    exact ⟨t, (execAlmanacDeferExpiry_over hb hrow hf hst hd hp haud).trans ht, rowDone_of_resolved halm hr hrow hc hrep⟩

end Sys2Proof.Machine

/-! PROOFS. The chapter on the root clock and the synthesizers: the root's loss, its relock and its backup, XO_FREQ at step 1, and the
delay-locked lines. -/

namespace Sys2Proof.Machine

open Sys2Proof.Claims

/-! ### What a command of block CLK leaves -/

/-- What separates `e` from `d`: values of the fields named, the queues and levels that events move, and block CLK's own state. -/
structure Dev.ClkFrame (fs : List Fld) (d e : Dev) : Prop where
  shape : ∃ r x n c, e = { d with regs := r, ques := x, evSeq := n, clk := c }
  rd : ∀ g : Fld, g.inQue = false → g.key ∉ fs.map Fld.key → e.rd g = d.rd g

namespace Dev.ClkFrame

variable {fs gs : List Fld} {d e e' : Dev}

theorem refl : ClkFrame fs d d := ⟨⟨_, _, _, _, rfl⟩, fun _ _ _ => rfl⟩

theorem wr (h : ClkFrame fs d e) {f : Fld} (hf : f ∈ fs) (v : Nat) : ClkFrame fs d (e.wr f v) := by
  refine ⟨?_, fun g hq hg => ?_⟩
  · obtain ⟨r, x, n, c, rfl⟩ := h.shape
    exact ⟨_, _, _, _, rfl⟩
  · have hne : g.key ≠ f.key := fun hk => hg (hk ▸ List.mem_map_of_mem hf)
    rw [Dev.rd_wr_other _ _ hne, h.rd g hq hg]

theorem irq (h : ClkFrame fs d e) {f : Fld} (hf : f ∈ fs) (unit : Nat) (more : List Byte) : ClkFrame fs d (e.irq f unit more) := by
  refine ⟨?_, fun g hq hg => ?_⟩
  · obtain ⟨r, x, n, c, rfl⟩ := h.shape
    obtain ⟨r', x', hirq⟩ := Dev.irq_shape { d with regs := r, ques := x, evSeq := n, clk := c } f unit more
    exact ⟨_, _, _, _, hirq⟩
  · have hne : g.key ≠ f.key := fun hk => hg (hk ▸ List.mem_map_of_mem hf)
    rw [Dev.rd_irq _ _ _ _ _ hq, if_neg hne, h.rd g hq hg]

theorem withClk (h : ClkFrame fs d e) (c : ClkSt) : ClkFrame fs d { e with clk := c } := by
  refine ⟨?_, fun g hq hg => h.rd g hq hg⟩
  obtain ⟨r, x, n, c', rfl⟩ := h.shape
  exact ⟨_, _, _, _, rfl⟩

theorem trans (h : ClkFrame fs d e) (h' : ClkFrame fs e e') : ClkFrame fs d e' := by
  refine ⟨?_, fun g hq hg => (h'.rd g hq hg).trans (h.rd g hq hg)⟩
  obtain ⟨r, x, n, c, rfl⟩ := h.shape
  obtain ⟨r', x', n', c', rfl⟩ := h'.shape
  exact ⟨_, _, _, _, rfl⟩

theorem mono (h : ClkFrame fs d e) (hs : fs ⊆ gs) : ClkFrame gs d e :=
  ⟨h.shape, fun g hq hg => h.rd g hq fun hk => hg (List.map_subset _ hs hk)⟩

theorem foldl {l : List Nat} {step : Dev → Nat → Dev} (hstep : ∀ e, ∀ i ∈ l, ClkFrame fs e (step e i)) (d : Dev) :
    ClkFrame fs d (l.foldl step d) := by
  induction l generalizing d with
  | nil => exact refl
  | cons i l ih =>
    exact (hstep d i List.mem_cons_self).trans (ih (fun e j hj => hstep e j (List.mem_cons_of_mem i hj)) (step d i))

theorem mode (h : ClkFrame fs d e) : e.mode = d.mode := by
  obtain ⟨r, x, n, c, rfl⟩ := h.shape
  rfl

theorem alive (h : ClkFrame fs d e) : e.alive = d.alive := by
  obtain ⟨r, x, n, c, rfl⟩ := h.shape
  rfl

theorem on (h : ClkFrame fs d e) {g : Fld} (hq : g.inQue = false) (hg : g.key ∉ fs.map Fld.key) : e.on g = d.on g := by
  rw [Dev.on_eq, Dev.on_eq, h.rd g hq hg]

end Dev.ClkFrame

/-- The state after a command on the device: the device as the command makes it, its time as it was. -/
def State.after (s : State) (e : Dev) : State := { s with dev := { e with time := s.dev.time } }

theorem State.act_after (s : State) (f : Dev → Dev) : s.act f = .next (s.after (f s.dev)) := rfl

@[simp] theorem State.after_rd (s : State) (e : Dev) (g : Fld) : (s.after e).dev.rd g = e.rd g := rfl

@[simp] theorem State.after_rdS (s : State) (e : Dev) (g : Fld) : (s.after e).dev.rdS g = e.rdS g := rfl

theorem Dev.ClkFrame.registersBut {s : State} {fs : List Fld} {e : Dev} (h : ClkFrame fs s.dev e) :
    registersBut s (s.after e) fs :=
  fun g hq hg => h.rd g (by simpa [Fld.inQue] using hq) hg

/-- Where block CLK's own state is `c`, the rest is the state before, apart from registers and events. -/
theorem Dev.ClkFrame.after_eq {s : State} {fs : List Fld} {e : Dev} (h : ClkFrame fs s.dev e) {c : ClkSt} (hc : e.clk = c) :
    s.after e = { s with dev := { s.dev with regs := e.regs, ques := e.ques, evSeq := e.evSeq, clk := c } } := by
  obtain ⟨r, x, n, c', rfl⟩ := h.shape
  subst hc
  rfl

theorem Dev.ClkFrame.onlyRegisters {s : State} {fs : List Fld} {e : Dev} (h : ClkFrame fs s.dev e) (hc : e.clk = s.dev.clk) :
    onlyRegisters s (s.after e) :=
  h.after_eq hc

/-! ### Fields of one row, and values that fit -/

/-- Fields of rows with the same strides lie apart in every row when they lie apart in the first. -/
theorem Fld.key_at_ne {f g : Fld} (h : f.key ≠ g.key) (hs : f.sts = g.sts) (ix : List Nat) : (f.at ix).key ≠ (g.at ix).key := by
  simp only [Fld.key, Fld.at, hs] at h ⊢
  omega

/-- A write in one column of a row leaves the other columns. -/
theorem Dev.rd_wr_at_other (d : Dev) {f g : Fld} (ix : List Nat) (v : Nat) (h : g.key ≠ f.key) (hs : g.sts = f.sts) :
    (d.wr (f.at ix) v).rd (g.at ix) = d.rd (g.at ix) :=
  Dev.rd_wr_other d v (Fld.key_at_ne h hs ix)

/-- A value that fits its field reads back. -/
theorem Dev.rd_wr_fits (d : Dev) {f : Fld} {v : Nat} (h : v < 2 ^ f.w) : (d.wr f v).rd f = v := by
  rw [Dev.rd_wr_same, Nat.mod_eq_of_lt h]

/-! ### Step 1 (R61) -/

/-- No step is left out before step 5: the first step to end is step 1. -/
theorem Dev.nextBootStep_first {d : Dev} (h : d.rd F.GCTL_BOOT_STATUS_BOOT_STEP = 0) : d.nextBootStep = 1 := by
  simp [Dev.nextBootStep, h]

/-- The end of step 1 decides the root's frequency, and stores nothing. -/
theorem execBootStepEnd_first {s : State} (hb : s.dev.booting = true) (h0 : s.dev.rd F.GCTL_BOOT_STATUS_BOOT_STEP = 0)
    (input : BootInput) : execBootStepEnd input s = s.actMem fun _ d => ([], d.rootStep input.xoEdges) := by
  have hn := Dev.nextBootStep_first h0
  rw [execBootStepEnd_booting hb]
  unfold State.actMem
  simp [Dev.bootStepEnd, hn]

/-- XO_FREQ as step 1 decides it by a count of XO_IN edges. -/
def xoFreq (edges : Nat) : Nat :=
  if decide (900 ≤ edges ∧ edges ≤ 1100) then 1 else if decide (4320 ≤ edges ∧ edges ≤ 5280) then 2 else 0

theorem xoFreq_lt (edges : Nat) : xoFreq edges < 2 ^ F.CLK_ROOT_STATUS_XO_FREQ.w := by
  unfold xoFreq
  split_ifs <;> decide

theorem xoFreq_ten {edges : Nat} (h : 900 ≤ edges ∧ edges ≤ 1100) : xoFreq edges = 1 := by simp [xoFreq, h]

theorem xoFreq_forty {edges : Nat} (h : 4320 ≤ edges ∧ edges ≤ 5280) : xoFreq edges = 2 := by
  have hten : ¬ (900 ≤ edges ∧ edges ≤ 1100) := by omega
  simp [xoFreq, hten, h]

theorem xoFreq_neither {edges : Nat} (ht : ¬ (900 ≤ edges ∧ edges ≤ 1100)) (hf : ¬ (4320 ≤ edges ∧ edges ≤ 5280)) :
    xoFreq edges = 0 := by simp [xoFreq, ht, hf]

/-- The device with XO_FREQ decided and the presence of XO_IN noted. -/
def Dev.xoCounted (d : Dev) (edges : Nat) : Dev :=
  (d.wr F.CLK_ROOT_STATUS_XO_FREQ (xoFreq edges)).wrBit F.CLK_ROOT_STATUS_XO_PRESENT (edges ≠ 0)

theorem Dev.rd_xoCounted_xoFreq (d : Dev) (edges : Nat) : (d.xoCounted edges).rd F.CLK_ROOT_STATUS_XO_FREQ = xoFreq edges := by
  unfold Dev.xoCounted
  rw [Dev.wrBit_eq, Dev.rd_wr_other _ _ (by decide), Dev.rd_wr_same, Nat.mod_eq_of_lt (xoFreq_lt edges)]

theorem Dev.rootStep_eq (d : Dev) (edges : Nat) : d.rootStep edges =
    if xoFreq edges = 0 then (d.xoCounted edges).bootOnBackup
    else ((d.xoCounted edges).wr F.CLK_ROOT_STATUS_ROOT_LOCKED 1).wr F.GCTL_BOOT_STATUS_BOOT_STEP 1 := rfl

/-- Going on from the backup leaves XO_FREQ as counted. -/
theorem Dev.rd_bootOnBackup_xoFreq (d : Dev) : d.bootOnBackup.rd F.CLK_ROOT_STATUS_XO_FREQ = d.rd F.CLK_ROOT_STATUS_XO_FREQ := by
  unfold Dev.bootOnBackup
  dsimp only
  rw [Dev.rd_of_regs (Dev.holdCause_regs _ _), Dev.rd_wr_other _ _ (by decide)]
  exact (Dev.rd_wr_other (d.wr F.CLK_ROOT_STATUS_ROOT_LOCKED 0) _ (by decide)).trans (Dev.rd_wr_other d _ (by decide))

/-- A count near a frequency that the device takes locks the root; the mode machine is as it was. -/
theorem Dev.rootStep_locks (d : Dev) {edges freq : Nat} (h : xoFreq edges = freq) (hf : freq ≠ 0) :
    (d.rootStep edges).rd F.CLK_ROOT_STATUS_XO_FREQ = freq ∧ (d.rootStep edges).rd F.CLK_ROOT_STATUS_ROOT_LOCKED = 1 ∧
      (d.rootStep edges).mode = d.mode := by
  rw [Dev.rootStep_eq, if_neg (h.trans_ne hf)]
  refine ⟨?_, ?_, rfl⟩
  · rw [Dev.rd_wr_other _ _ (by decide), Dev.rd_wr_other _ _ (by decide), Dev.rd_xoCounted_xoFreq, h]
  · rw [Dev.rd_wr_other _ _ (by decide), Dev.rd_wr_same]
    rfl

/-- Any other count leaves XO_FREQ at 0 and goes on from the backup. -/
theorem Dev.rootStep_onBackup (d : Dev) {edges : Nat} (h : xoFreq edges = 0) :
    (d.rootStep edges).rd F.CLK_ROOT_STATUS_XO_FREQ = 0 ∧ (d.rootStep edges).rd F.CLK_ROOT_STATUS_ON_BACKUP = 1 ∧
      0x06 ∈ (d.rootStep edges).mode.held := by
  obtain ⟨-, hbackup, -, hheld⟩ := (d.xoCounted edges).bootOnBackup_spec
  rw [Dev.rootStep_eq, if_pos h]
  exact ⟨by rw [Dev.rd_bootOnBackup_xoFreq, Dev.rd_xoCounted_xoFreq, h], hbackup, hheld⟩

/-- Either way step 1 is done. -/
theorem Dev.rd_rootStep_bootStep (d : Dev) (edges : Nat) : (d.rootStep edges).rd F.GCTL_BOOT_STATUS_BOOT_STEP = 1 := by
  rw [Dev.rootStep_eq]
  split
  · exact (Dev.bootOnBackup_spec _).1
  · exact Dev.rd_wr_same _ _ _

/-- Settles O55: step 1 writes XO_FREQ by the count, and either locks the root or goes on from the backup. -/
theorem xoFrequencyIsDecidedAtStepOne : Obligations.XoFrequencyIsDecidedAtStepOne := by
  unfold Obligations.XoFrequencyIsDecidedAtStepOne
  intro s input hb h0 n ten forty
  exact ⟨_, execBootStepEnd_first hb h0 input, Dev.rd_rootStep_bootStep s.dev n, rfl,
    fun ht => Dev.rootStep_locks s.dev (xoFreq_ten ht) (by decide), fun hf => Dev.rootStep_locks s.dev (xoFreq_forty hf) (by decide),
    fun ht hf => Dev.rootStep_onBackup s.dev (xoFreq_neither ht hf)⟩

/-! ### The root lost (R62, R64, R77) -/

theorem Dev.rootEvent_frame {fs : List Fld} {d e : Dev} (h : ClkFrame fs d e) {irq sticky : Fld} (hi : irq ∈ fs) (hs : sticky ∈ fs) :
    ClkFrame fs d (e.rootEvent irq sticky) :=
  (h.wr hs 1).irq hi _ _

@[simp] theorem Dev.rootEvent_clk (d : Dev) (irq sticky : Fld) : (d.rootEvent irq sticky).clk = d.clk := by
  unfold Dev.rootEvent
  rw [Dev.irq_clk, Dev.wr_clk]

/-- A root event leaves every field outside block QUE but its two bits. -/
theorem Dev.rd_rootEvent_other (d : Dev) {irq sticky g : Fld} (hq : g.inQue = false) (hi : g.key ≠ irq.key) (hs : g.key ≠ sticky.key) :
    (d.rootEvent irq sticky).rd g = d.rd g := by
  unfold Dev.rootEvent
  rw [Dev.rd_irq _ _ _ _ _ hq, if_neg hi, Dev.rd_wr_other _ _ hs]

/-- The fields that the gating of an output writes. -/
def gateFlds (n : Nat) : List Fld :=
  [F.CLK_OUT_STATUS_RUNNING.at [n], F.CLK_OUT_STATUS_GATED.at [n], { F.CLK_IRQ_STATUS_OUT_GATED0 with lo := 8 + n }]

/-- The fields that a synthesizer's loss of lock writes. -/
def synthFlds (s : Nat) : List Fld :=
  [F.CLK_SYN_STATUS_LOCKED.at [s], F.CLK_SYN_STATUS_ALIGNED.at [s], F.CLK_SYN_STATUS_UNLOCK_COUNT.at [s],
    { F.CLK_IRQ_STATUS_SYN_UNLOCK0 with lo := 4 + s }] ++ (List.range 8).flatMap gateFlds

theorem gateFlds_subset_synthFlds {n : Nat} (hn : n < 8) (s : Nat) : gateFlds n ⊆ synthFlds s :=
  fun _ hg => List.mem_append_right _ (List.mem_flatMap.2 ⟨n, List.mem_range.2 hn, hg⟩)

theorem Dev.outputsOf_lt {d : Dev} {s n : Nat} (h : n ∈ d.outputsOf s) : n < 8 :=
  List.mem_range.1 (List.mem_filter.1 h).1

/-- An output gated at its next falling edge. -/
def Dev.gateOutput (d : Dev) (n : Nat) : Dev :=
  let d := (d.wr (F.CLK_OUT_STATUS_RUNNING.at [n]) 0).wr (F.CLK_OUT_STATUS_GATED.at [n]) 1
  Dev.irq { d with clk := { d.clk with waiting := d.clk.waiting.del n } } { F.CLK_IRQ_STATUS_OUT_GATED0 with lo := 8 + n } n

theorem Dev.gateOutput_frame (d : Dev) (n : Nat) : ClkFrame (gateFlds n) d (d.gateOutput n) := by
  have hstatus : ClkFrame (gateFlds n) d ((d.wr (F.CLK_OUT_STATUS_RUNNING.at [n]) 0).wr (F.CLK_OUT_STATUS_GATED.at [n]) 1) :=
    (ClkFrame.refl.wr (by simp [gateFlds]) 0).wr (by simp [gateFlds]) 1
  exact (hstatus.withClk _).irq (by simp [gateFlds]) _ _

/-- A synthesizer was restarted less than 1 ms ago. -/
def Dev.justRestarted (d : Dev) (s : Nat) : Bool :=
  match d.clk.restarted.find? s with
  | some c => !d.past c 1
  | none => false

/-- AUTO_RESTART no longer applies to a synthesizer that loses lock within 1 ms of a restart (R70). -/
def Dev.barSoon (d : Dev) (s : Nat) : Dev :=
  if d.justRestarted s then { d with clk := { d.clk with barred := d.clk.barred.put s true } } else d

theorem Dev.barSoon_frame (d : Dev) (s : Nat) : ClkFrame [] d (d.barSoon s) := by
  unfold Dev.barSoon
  split
  · exact ClkFrame.refl.withClk _
  · exact .refl

/-- A synthesizer with its lock gone, before its outputs are gated. -/
def Dev.unlocked (d : Dev) (s : Nat) : Dev :=
  (((d.barSoon s).wr (F.CLK_SYN_STATUS_LOCKED.at [s]) 0).wr (F.CLK_SYN_STATUS_ALIGNED.at [s]) 0).count
    (F.CLK_SYN_STATUS_UNLOCK_COUNT.at [s])

theorem Dev.unlocked_frame (d : Dev) (s : Nat) : ClkFrame (synthFlds s) d (d.unlocked s) :=
  ((((d.barSoon_frame s).mono (List.nil_subset _)).wr (by simp [synthFlds]) 0).wr (by simp [synthFlds]) 0).wr
    (by simp [synthFlds]) _

theorem Dev.synthUnlock_locked {d : Dev} {s : Nat} (h : d.on (F.CLK_SYN_STATUS_LOCKED.at [s]) = true) :
    d.synthUnlock s = (((d.unlocked s).outputsOf s).foldl Dev.gateOutput (d.unlocked s)).irq
      { F.CLK_IRQ_STATUS_SYN_UNLOCK0 with lo := 4 + s } s :=
  if_pos h

theorem Dev.synthUnlock_frame (d : Dev) (s : Nat) : ClkFrame (synthFlds s) d (d.synthUnlock s) := by
  cases h : d.on (F.CLK_SYN_STATUS_LOCKED.at [s])
  · unfold Dev.synthUnlock
    rw [if_neg (by simp [h])]
    exact .refl
  · rw [Dev.synthUnlock_locked h]
    refine ClkFrame.irq ((d.unlocked_frame s).trans (ClkFrame.foldl (fun e n hn => ?_) _)) (by simp [synthFlds]) _ _
    exact (e.gateOutput_frame n).mono (gateFlds_subset_synthFlds (Dev.outputsOf_lt hn) s)

/-- Every synthesizer's loss of lock. -/
def allSynthFlds : List Fld := (List.range 4).flatMap synthFlds

theorem Dev.synthsUnlock_frame (d : Dev) : ClkFrame allSynthFlds d ((List.range 4).foldl Dev.synthUnlock d) :=
  ClkFrame.foldl (fun e s hs => (e.synthUnlock_frame s).mono fun _ hg => List.mem_flatMap.2 ⟨s, hs, hg⟩) d

/-- The fields that a saturated bound writes. -/
def boundFlds : List Fld := F.TIM_BOUND_NOW_BOUND :: F.TIM_IRQ_STATUS_BOUND_SAT_CHANGE :: termFlds

/-- ErrorBoundNow saturated, with its interrupt where it was not so before. -/
def Dev.saturateNow (d : Dev) : Dev :=
  if d.rd F.TIM_BOUND_NOW_BOUND = boundSat then d
  else (d.wr F.TIM_BOUND_NOW_BOUND boundSat).irq F.TIM_IRQ_STATUS_BOUND_SAT_CHANGE

theorem Dev.saturateNow_frame (d : Dev) : ClkFrame boundFlds d d.saturateNow ∧ d.saturateNow.clk = d.clk := by
  unfold Dev.saturateNow
  split
  · exact ⟨.refl, rfl⟩
  · exact ⟨(ClkFrame.refl.wr (by decide) _).irq (by decide) _ _, by rw [Dev.irq_clk, Dev.wr_clk]⟩

/-- Saturating the bound writes the bound, its interrupt bit and its terms. -/
theorem Dev.saturateBound_frame (d : Dev) : ClkFrame boundFlds d d.saturateBound := by
  have hquant : ClkFrame boundFlds d ((d.saturateNow.wr F.TIM_TERM_ASYM_ASYM boundSat).wr F.TIM_TERM_QUANT_QUANT boundSat) :=
    (d.saturateNow_frame.1.wr (by decide) _).wr (by decide) _
  exact hquant.trans (ClkFrame.foldl (fun e i hi =>
    .wr .refl (List.mem_cons_of_mem _ (List.mem_cons_of_mem _ (List.mem_append_left _ (List.mem_map_of_mem hi)))) _) _)

@[simp] theorem Dev.saturateBound_clk (d : Dev) : d.saturateBound.clk = d.clk := d.saturateNow_frame.2

/-- The watch on XO_IN, whether or not the root is locked (R77). -/
def Dev.xoWatched (d : Dev) (xoLost : Bool) : Dev :=
  if d.alive && xoLost && d.on F.CLK_ROOT_STATUS_XO_PRESENT then
    (d.wr F.CLK_ROOT_STATUS_XO_PRESENT 0).rootEvent F.CLK_IRQ_STATUS_XO_LOST F.CLK_ROOT_STICKY_XO_LOST_SEEN
  else d

theorem Dev.xoWatched_frame (d : Dev) (xoLost : Bool) :
    ClkFrame [F.CLK_ROOT_STATUS_XO_PRESENT, F.CLK_IRQ_STATUS_XO_LOST, F.CLK_ROOT_STICKY_XO_LOST_SEEN] d (d.xoWatched xoLost) := by
  unfold Dev.xoWatched
  split
  · exact Dev.rootEvent_frame (ClkFrame.refl.wr (by decide) 0) (by decide) (by decide)
  · exact .refl

/-- The root unlocked, with its event. -/
def Dev.rootUnlocked (d : Dev) : Dev :=
  (d.wr F.CLK_ROOT_STATUS_ROOT_LOCKED 0).rootEvent F.CLK_IRQ_STATUS_ROOT_UNLOCK F.CLK_ROOT_STICKY_ROOT_UNLOCK_SEEN

/-- The domains switched to the backup, with their event. -/
def Dev.backupSwitched (d : Dev) : Dev :=
  (d.wr F.CLK_ROOT_STATUS_ON_BACKUP 1).rootEvent F.CLK_IRQ_STATUS_BACKUP_SWITCH F.CLK_ROOT_STICKY_BACKUP_SWITCH_SEEN

/-- The fields that the switch from the root to the backup writes. -/
def switchFlds : List Fld :=
  [F.CLK_ROOT_STATUS_ROOT_LOCKED, F.CLK_IRQ_STATUS_ROOT_UNLOCK, F.CLK_ROOT_STICKY_ROOT_UNLOCK_SEEN, F.CLK_ROOT_STATUS_ON_BACKUP,
    F.CLK_IRQ_STATUS_BACKUP_SWITCH, F.CLK_ROOT_STICKY_BACKUP_SWITCH_SEEN]

theorem Dev.backupSwitched_frame (d : Dev) : ClkFrame switchFlds d d.rootUnlocked.backupSwitched :=
  Dev.rootEvent_frame ((Dev.rootEvent_frame (ClkFrame.refl.wr (by decide) 0) (by decide) (by decide)).wr (by decide) 1)
    (by decide) (by decide)

theorem Dev.rd_backupSwitched (d : Dev) : d.rootUnlocked.backupSwitched.rd F.CLK_ROOT_STATUS_ROOT_LOCKED = 0 ∧
    d.rootUnlocked.backupSwitched.rd F.CLK_ROOT_STATUS_ON_BACKUP = 1 := by
  unfold Dev.backupSwitched
  refine ⟨?_, ?_⟩
  · rw [Dev.rd_rootEvent_other _ (by decide) (by decide) (by decide), Dev.rd_wr_other _ _ (by decide)]
    unfold Dev.rootUnlocked
    rw [Dev.rd_rootEvent_other _ (by decide) (by decide) (by decide)]
    exact Dev.rd_wr_same _ _ _
  · rw [Dev.rd_rootEvent_other _ (by decide) (by decide) (by decide)]
    exact Dev.rd_wr_same _ _ _

/-- The loss of the root noted, and the DRAM in self-refresh. -/
def Dev.notesBackup (d : Dev) : Dev :=
  { d with clk := { d.clk with rootLost := true }, boot := { d.boot with onBackup := true, dram := false } }

theorem Dev.notesBackup_regs (d : Dev) : d.notesBackup.regs = d.regs := rfl

theorem Dev.notesBackup_mode (d : Dev) : d.notesBackup.mode = d.mode := rfl

theorem Dev.notesBackup_rootLost (d : Dev) : d.notesBackup.clk.rootLost = true := rfl

/-- The device on its backup, every synthesizer gated. -/
def Dev.runsOnBackup (d : Dev) : Dev := Dev.notesBackup ((List.range 4).foldl Dev.synthUnlock d.rootUnlocked.backupSwitched)

/-- Gating the synthesizers leaves every field that is none of theirs. -/
theorem Dev.rd_runsOnBackup (d : Dev) {g : Fld} (hq : g.inQue = false) (hg : g.key ∉ allSynthFlds.map Fld.key) :
    d.runsOnBackup.rd g = d.rootUnlocked.backupSwitched.rd g := by
  unfold Dev.runsOnBackup
  rw [Dev.rd_of_regs (Dev.notesBackup_regs _)]
  exact (Dev.synthsUnlock_frame _).rd g hq hg

theorem Dev.runsOnBackup_mode (d : Dev) : d.runsOnBackup.mode = d.mode := by
  unfold Dev.runsOnBackup
  rw [Dev.notesBackup_mode, (Dev.synthsUnlock_frame _).mode, d.backupSwitched_frame.mode]

/-- The device on its backup with its bound saturated. -/
def Dev.saturatedOnBackup (d : Dev) : Dev := d.runsOnBackup.saturateBound

/-- It shows the switch and the bound, in the mode that it was in. -/
theorem Dev.saturatedOnBackup_fields (d : Dev) : d.saturatedOnBackup.rd F.CLK_ROOT_STATUS_ROOT_LOCKED = 0 ∧
    d.saturatedOnBackup.rd F.CLK_ROOT_STATUS_ON_BACKUP = 1 ∧ d.saturatedOnBackup.rd F.TIM_BOUND_NOW_BOUND = boundSat ∧
    d.saturatedOnBackup.clk.rootLost = true ∧ d.saturatedOnBackup.mode = d.mode := by
  have hframe := d.runsOnBackup.saturateBound_frame
  obtain ⟨hlocked, hbackup⟩ := d.rd_backupSwitched
  unfold Dev.saturatedOnBackup
  refine ⟨?_, ?_, Dev.rd_saturateBound_bound _, ?_, hframe.mode.trans d.runsOnBackup_mode⟩
  · rw [hframe.rd _ (by decide) (by decide), Dev.rd_runsOnBackup _ (by decide) (by decide), hlocked]
  · rw [hframe.rd _ (by decide) (by decide), Dev.rd_runsOnBackup _ (by decide) (by decide), hbackup]
  · rw [Dev.saturateBound_clk]
    exact Dev.notesBackup_rootLost _

theorem Dev.unclearCause_elsewhere {d : Dev} (h : d.mode.mode ≠ .safeHold) (cause : Nat) : d.unclearCause cause = d :=
  if_neg fun hc => h hc.1

/-- A root lost while the backup is good: the switch, then cause 0x06. -/
theorem Dev.rootLost_switches {d : Dev} (ha : d.alive = true) (hl : d.on F.CLK_ROOT_STATUS_ROOT_LOCKED = true)
    (hf : d.on F.CLK_ROOT_STATUS_BACKUP_FAULT = false) (xoLost : Bool) :
    d.rootLost xoLost = ((d.xoWatched xoLost).saturatedOnBackup.unclearCause 0x06).safeHoldCause 0x06 := by
  have hxo := d.xoWatched_frame xoLost
  have halive : (d.xoWatched xoLost).alive = true := hxo.alive.trans ha
  have hlocked : (d.xoWatched xoLost).on F.CLK_ROOT_STATUS_ROOT_LOCKED = true := (hxo.on (by decide) (by decide)).trans hl
  have hfault : (d.xoWatched xoLost).rootUnlocked.on F.CLK_ROOT_STATUS_BACKUP_FAULT = false := by
    unfold Dev.rootUnlocked
    rw [Dev.on_eq, Dev.rd_rootEvent_other _ (by decide) (by decide) (by decide), Dev.rd_wr_other _ _ (by decide), ← Dev.on_eq]
    exact (hxo.on (by decide) (by decide)).trans hf
  unfold Dev.rootLost
  change (if !(d.xoWatched xoLost).alive || !(d.xoWatched xoLost).on F.CLK_ROOT_STATUS_ROOT_LOCKED then d.xoWatched xoLost
    else if (d.xoWatched xoLost).rootUnlocked.on F.CLK_ROOT_STATUS_BACKUP_FAULT then _ else _) = _
  rw [if_neg (by simp [halive, hlocked]), if_neg (by simp [hfault])]
  unfold Dev.saturatedOnBackup Dev.runsOnBackup Dev.notesBackup Dev.backupSwitched Dev.rootUnlocked Dev.xoWatched
  rfl

theorem Dev.arises_clk (d : Dev) (target : Mode) (cause master rank : Nat) :
    (d.arises target cause master rank).clk = d.clk := by
  obtain ⟨m, p, h⟩ := d.arises_shape target cause master rank
  rw [h]

/-- What a device shows whose root is lost while its backup is good and no transition is decided. -/
theorem Dev.rootLost_fields {d : Dev} (ha : d.alive = true) (hl : d.on F.CLK_ROOT_STATUS_ROOT_LOCKED = true)
    (hf : d.on F.CLK_ROOT_STATUS_BACKUP_FAULT = false) (hb : d.mode.mode ≠ .bootstrap) (hs : d.mode.mode ≠ .safeHold)
    (hd : d.mode.decided = none) (xoLost : Bool) :
    (d.rootLost xoLost).rd F.CLK_ROOT_STATUS_ROOT_LOCKED = 0 ∧ (d.rootLost xoLost).rd F.CLK_ROOT_STATUS_ON_BACKUP = 1 ∧
      (d.rootLost xoLost).rd F.TIM_BOUND_NOW_BOUND = boundSat ∧ (d.rootLost xoLost).clk.rootLost = true ∧
      (d.rootLost xoLost).mode.decided = some ⟨.safeHold, 0x06, 0⟩ := by
  obtain ⟨hlocked, hbackup, hbound, hlost, hmode⟩ := (d.xoWatched xoLost).saturatedOnBackup_fields
  rw [(d.xoWatched_frame xoLost).mode] at hmode
  rw [Dev.rootLost_switches ha hl hf]
  generalize (d.xoWatched xoLost).saturatedOnBackup = e at hlocked hbackup hbound hlost hmode ⊢
  rw [← hmode] at hb hs hd
  have hr : e.mode.mode ≠ .reset := by rw [hmode]; exact Dev.not_reset_of_alive ha
  have hregs := e.arises_regs .safeHold 0x06 0 (causeRank .safeHold 0x06)
  rw [Dev.unclearCause_elsewhere hs, Dev.safeHoldCause_running hr hs hb hd, Dev.rd_of_regs hregs, Dev.rd_of_regs hregs,
    Dev.rd_of_regs hregs, Dev.arises_clk]
  exact ⟨hlocked, hbackup, hbound, hlost, Dev.arises_decided (Dev.yields_of_undecided hd _) _ _ _⟩

/-! ### The root locked again (R65) -/

theorem Dev.clearCause_regs (d : Dev) (cause : Nat) : (d.clearCause cause).regs = d.regs := by
  unfold Dev.clearCause
  split <;> rfl

/-- The cause that SAFE_HOLD was entered for clears now. -/
theorem Dev.clearCause_present {d : Dev} {cause : Nat} (hm : d.mode.mode = .safeHold) (hc : d.mode.cause = cause)
    (hs : d.mode.clearSince = none) : (d.clearCause cause).mode.clearSince = some d.time.cycles := by
  unfold Dev.clearCause
  rw [if_pos ⟨hm, hc, by rw [hs]; rfl⟩]

/-- The root locked, and XO_IN with it. -/
def Dev.relocked (d : Dev) : Dev := (d.wr F.CLK_ROOT_STATUS_ROOT_LOCKED 1).wr F.CLK_ROOT_STATUS_XO_PRESENT 1

theorem Dev.relocked_frame (d : Dev) : ClkFrame [F.CLK_ROOT_STATUS_ROOT_LOCKED, F.CLK_ROOT_STATUS_XO_PRESENT] d d.relocked :=
  (ClkFrame.refl.wr (by decide) 1).wr (by decide) 1

theorem Dev.rd_relocked (d : Dev) :
    d.relocked.rd F.CLK_ROOT_STATUS_ROOT_LOCKED = 1 ∧ d.relocked.rd F.CLK_ROOT_STATUS_XO_PRESENT = 1 := by
  unfold Dev.relocked
  exact ⟨(Dev.rd_wr_other _ _ (by decide)).trans (Dev.rd_wr_same _ _ _), Dev.rd_wr_same _ _ _⟩

theorem Dev.supplies_of_alive {d : Dev} (h : d.alive = true) : d.pins.supplies = true := by
  unfold Dev.alive at h
  exact (Bool.and_eq_true_iff.1 h).1

theorem execRootRelock_unlocked {s : State} (ha : s.dev.alive = true) (hr : s.dev.clk.heldInReset = false)
    (hl : s.dev.on F.CLK_ROOT_STATUS_ROOT_LOCKED = false) : execRootRelock s = s.act fun d => d.relocked.clearCause 0x06 :=
  State.act_congr (by simp [Dev.supplies_of_alive ha, ha, hr, hl, Dev.relocked])

/-- The device let out of the reset in which it held itself. -/
def Dev.letGo (d : Dev) : Dev := { d with clk := { d.clk with heldInReset := false } }

theorem execRootRelock_held {s : State} (hs : s.dev.pins.supplies = true) (hr : s.dev.clk.heldInReset = true) :
    execRootRelock s = s.act fun d => d.letGo.startBootstrap 0x06 :=
  State.act_congr (by simp [hs, hr, Dev.letGo])

@[simp] theorem Dev.startBootstrap_clk (d : Dev) (cause : Nat) : (d.startBootstrap cause).clk = d.clk := by
  unfold Dev.startBootstrap Dev.recordTransition
  dsimp only
  rw [Dev.irq_clk, Dev.journal_clk]
  rfl

/-! ### The backup trimmed (R63) -/

/-- A number within a field's two's-complement range reads back as it was stored. -/
theorem sgn_unsgn {w : Nat} {v : Int} (hw : 0 < w) (hlo : -2 ^ (w - 1) ≤ v) (hhi : v < 2 ^ (w - 1)) : sgn w (unsgn w v) = v := by
  obtain ⟨n, rfl⟩ : ∃ n, w = n + 1 := ⟨w - 1, by omega⟩
  rw [Nat.add_sub_cancel] at hlo hhi
  have hpow : (2 : Int) ^ (n + 1) = 2 * 2 ^ n := pow_succ' 2 n
  have hpowNat : (2 : Nat) ^ (n + 1) = 2 * 2 ^ n := pow_succ' 2 n
  have hcast : ((2 ^ n : Nat) : Int) = 2 ^ n := by norm_cast
  have hres : v % 2 ^ (n + 1) = if 0 ≤ v then v else v + 2 ^ (n + 1) := by
    split
    · exact Int.emod_eq_of_lt (by omega) (by omega)
    · rw [← Int.add_emod_right]
      exact Int.emod_eq_of_lt (by omega) (by omega)
  have hfits : unsgn (n + 1) v % 2 ^ (n + 1) = unsgn (n + 1) v := by
    unfold unsgn
    rw [hres]
    exact Nat.mod_eq_of_lt (by split <;> omega)
  unfold sgn
  rw [hfits, Nat.add_sub_cancel]
  unfold unsgn
  rw [hres]
  split_ifs <;> omega

/-- A signed field reads the value written, when that lies within the field. -/
theorem Dev.rdS_wrS_same (d : Dev) {f : Fld} {v : Int} (hw : 0 < f.w) (hlo : -2 ^ (f.w - 1) ≤ v) (hhi : v < 2 ^ (f.w - 1)) :
    (d.wrS f v).rdS f = v := by
  have hclamp : clampInt (-(2 ^ (f.w - 1))) (2 ^ (f.w - 1) - 1) v = v := by
    unfold clampInt
    omega
  have hmod : ∀ x : Nat, sgn f.w (x % 2 ^ f.w) = sgn f.w x := fun x => by simp only [sgn, Nat.mod_mod]
  unfold Dev.rdS Dev.wrS
  rw [Dev.rd_wr_same, hclamp, hmod, sgn_unsgn hw hlo hhi]

/-- The fields that judging the backup writes. -/
def backupFlds : List Fld :=
  [F.CLK_ROOT_STATUS_BACKUP_FAULT, F.CLK_IRQ_STATUS_BACKUP_FAULT, F.CLK_ROOT_STICKY_BACKUP_FAULT_SEEN]

/-- The backup judged by its trim. -/
def Dev.backupJudged (d : Dev) (trimmed : Bool) : Dev :=
  if trimmed then d.wr F.CLK_ROOT_STATUS_BACKUP_FAULT 0
  else if d.on F.CLK_ROOT_STATUS_BACKUP_FAULT then d
  else (d.wr F.CLK_ROOT_STATUS_BACKUP_FAULT 1).rootEvent F.CLK_IRQ_STATUS_BACKUP_FAULT F.CLK_ROOT_STICKY_BACKUP_FAULT_SEEN

theorem Dev.backupJudged_frame (d : Dev) (trimmed : Bool) : ClkFrame backupFlds d (d.backupJudged trimmed) := by
  unfold Dev.backupJudged
  split_ifs
  · exact ClkFrame.refl.wr (by decide) 0
  · exact .refl
  · exact Dev.rootEvent_frame (ClkFrame.refl.wr (by decide) 1) (by decide) (by decide)

theorem Dev.backupJudged_clk (d : Dev) (trimmed : Bool) : (d.backupJudged trimmed).clk = d.clk := by
  unfold Dev.backupJudged
  split_ifs
  · rfl
  · rfl
  · exact Dev.rootEvent_clk _ _ _

/-- BACKUP_FAULT reads 1 after a trim that failed, whether or not it stood before, and 0 after one that did not. -/
theorem Dev.rd_backupJudged (d : Dev) (trimmed : Bool) :
    (d.backupJudged trimmed).rd F.CLK_ROOT_STATUS_BACKUP_FAULT = bit (!trimmed) := by
  unfold Dev.backupJudged
  cases trimmed
  · rw [if_neg Bool.false_ne_true]
    split
    · next hon => exact beq_iff_eq.1 hon
    · rw [Dev.rd_rootEvent_other _ (by decide) (by decide) (by decide)]
      exact Dev.rd_wr_same _ _ _
  · exact Dev.rd_wr_same _ _ _

theorem execBackupTrim_locked {s : State} (ha : s.dev.alive = true) (hl : s.dev.on F.CLK_ROOT_STATUS_ROOT_LOCKED = true)
    (offset : Int) (trimmed : Bool) :
    execBackupTrim offset trimmed s = s.act fun d => (d.wrS F.CLK_ROOT_STATUS_BACKUP_OFFSET offset).backupJudged trimmed :=
  State.act_congr (by simp [ha, hl, Dev.backupJudged])

theorem Dev.backupTrimmed_frame (d : Dev) (offset : Int) (trimmed : Bool) :
    ClkFrame (F.CLK_ROOT_STATUS_BACKUP_OFFSET :: backupFlds) d ((d.wrS F.CLK_ROOT_STATUS_BACKUP_OFFSET offset).backupJudged trimmed) :=
  (ClkFrame.refl.wr List.mem_cons_self _).trans ((Dev.backupJudged_frame _ trimmed).mono (List.subset_cons_self _ _))

/-- Settles O5: the loss ends in the switch and the cause, the relock in the root's bits or in BOOTSTRAP, and the trim in the offset
reported and the backup judged. -/
theorem rootClockAndItsBackup : Obligations.RootClockAndItsBackup := by
  unfold Obligations.RootClockAndItsBackup
  refine ⟨fun s xo ha hl hf hb hs hd => ⟨_, rfl, Dev.rootLost_fields ha hl hf hb hs hd xo⟩, fun s ha hr hl => ?_, fun s hs hr => ?_,
    fun s offset trimmed ha hl hlo hhi => ?_⟩
  · obtain ⟨hlocked, hpresent⟩ := s.dev.rd_relocked
    have hregs := s.dev.relocked.clearCause_regs 0x06
    exact ⟨_, (execRootRelock_unlocked ha hr hl).trans (s.act_after _), (Dev.rd_of_regs hregs _).trans hlocked,
      (Dev.rd_of_regs hregs _).trans hpresent,
      fun g hq hg => (Dev.rd_of_regs hregs g).trans (s.dev.relocked_frame.registersBut g hq hg),
      fun hm hc hs => Dev.clearCause_present (d := s.dev.relocked) hm hc hs⟩
  · refine ⟨_, (execRootRelock_held hs hr).trans (s.act_after _), ?_⟩
    dsimp only [State.after]
    rw [Dev.startBootstrap_mode, Dev.startBootstrap_clk]
    exact ⟨rfl, rfl, rfl⟩
  · have hframe := s.dev.backupTrimmed_frame offset trimmed
    refine ⟨_, (execBackupTrim_locked ha hl offset trimmed).trans (s.act_after _), ?_, Dev.rd_backupJudged _ _,
      hframe.onlyRegisters (Dev.backupJudged_clk _ _), hframe.registersBut⟩
    rw [State.after_rdS, Dev.rdS, (Dev.backupJudged_frame _ _).rd _ (by decide) (by decide)]
    exact s.dev.rdS_wrS_same (by decide) hlo (Int.lt_of_le_sub_one hhi)

/-! ### Delay-locked lines (R73, R74) -/

/-- The interrupt bit of a DLL's fault. -/
def dllIrq (k : Nat) : Fld := { F.CLK_IRQ_STATUS_DLL_FAULT0 with lo := 16 + k }

/-- The fields that the commands of a DLL write. -/
def dllFlds (k : Nat) : List Fld :=
  [F.CLK_DLL_STATUS_LOCKED.at [k], F.CLK_DLL_STATUS_FB_LOST.at [k], F.CLK_DLL_STATUS_RANGE_ERR.at [k],
    F.CLK_DLL_STATUS_DELAY.at [k], F.CLK_DLL_LOOP_LOOP_DELAY.at [k], dllIrq k]

/-- None of a DLL's status fields lies in block QUE, and none is its interrupt bit. -/
theorem dllStatus_apart (k : Fin 2) {f : Fld}
    (hf : f ∈ [F.CLK_DLL_STATUS_FB_LOST, F.CLK_DLL_STATUS_RANGE_ERR, F.CLK_DLL_STATUS_DELAY, F.CLK_DLL_LOOP_LOOP_DELAY]) :
    (f.at [k]).inQue = false ∧ (f.at [k]).key ≠ (dllIrq k).key := by
  revert k f
  decide

section Fault

variable {d e : Dev} {k : Fin 2} {f g : Fld}

/-- A fault sets its bit, the interrupt and an event. -/
theorem Dev.dllFault_eq (h : d.on (f.at [k]) = false) : d.dllFault k f = (d.wr (f.at [k]) 1).irq (dllIrq k) k := by
  unfold Dev.dllFault
  rw [h]
  rfl

theorem Dev.dllFault_on (h : d.on (f.at [k]) = true) : d.dllFault k f = d := if_pos h

theorem Dev.dllFault_frame {fs : List Fld} (h : ClkFrame fs d e) (hf : f.at [k] ∈ fs) (hi : dllIrq k ∈ fs) :
    ClkFrame fs d (e.dllFault k f) := by
  cases hon : e.on (f.at [k])
  · rw [Dev.dllFault_eq hon]
    exact (h.wr hf 1).irq hi _ _
  · rwa [Dev.dllFault_on hon]

@[simp] theorem Dev.dllFault_clk (d : Dev) (k : Fin 2) (f : Fld) : (d.dllFault k f).clk = d.clk := by
  cases hon : d.on (f.at [k])
  · rw [Dev.dllFault_eq hon, Dev.irq_clk, Dev.wr_clk]
  · rw [Dev.dllFault_on hon]

/-- A fault bit reads 1 once its fault is there, whether or not it stood before. -/
theorem Dev.rd_dllFault_same (hf : f = F.CLK_DLL_STATUS_FB_LOST ∨ f = F.CLK_DLL_STATUS_RANGE_ERR) :
    (d.dllFault k f).rd (f.at [k]) = 1 := by
  obtain ⟨hq, hi⟩ := dllStatus_apart k (f := f) (by rcases hf with rfl | rfl <;> decide)
  cases hon : d.on (f.at [k])
  · rw [Dev.dllFault_eq hon, Dev.rd_irq _ _ _ _ _ hq, if_neg hi, Dev.rd_wr_same]
    rcases hf with rfl | rfl <;> rfl
  · rw [Dev.dllFault_on hon]
    exact beq_iff_eq.1 hon

/-- A fault leaves the other fields of the line. -/
theorem Dev.rd_dllFault_other (hg : g ∈ [F.CLK_DLL_STATUS_FB_LOST, F.CLK_DLL_STATUS_RANGE_ERR, F.CLK_DLL_STATUS_DELAY,
      F.CLK_DLL_LOOP_LOOP_DELAY]) (hne : g.key ≠ f.key) (hs : g.sts = f.sts) :
    (d.dllFault k f).rd (g.at [k]) = d.rd (g.at [k]) := by
  obtain ⟨hq, hi⟩ := dllStatus_apart k hg
  cases hon : d.on (f.at [k])
  · rw [Dev.dllFault_eq hon, Dev.rd_irq _ _ _ _ _ hq, if_neg hi, Dev.rd_wr_at_other _ _ _ hne hs]
  · rw [Dev.dllFault_on hon]

end Fault

/-- The line with its loop delay measured and a delay set. -/
def Dev.dllSet (d : Dev) (k loop delay : Nat) : Dev :=
  (d.wr (F.CLK_DLL_LOOP_LOOP_DELAY.at [k]) loop).wr (F.CLK_DLL_STATUS_DELAY.at [k]) delay

theorem Dev.dllSet_frame (d : Dev) (k loop delay : Nat) : ClkFrame (dllFlds k) d (d.dllSet k loop delay) :=
  (ClkFrame.refl.wr (by simp [dllFlds]) loop).wr (by simp [dllFlds]) delay

theorem Dev.rd_dllSet_loop (d : Dev) (k : Nat) (loop : BitVec 16) (delay : Nat) :
    (d.dllSet k loop.toNat delay).rd (F.CLK_DLL_LOOP_LOOP_DELAY.at [k]) = loop.toNat := by
  unfold Dev.dllSet
  rw [Dev.rd_wr_at_other _ _ _ (by decide) (by decide)]
  exact Dev.rd_wr_fits d loop.isLt

theorem Dev.rd_dllSet_delay (d : Dev) (k loop : Nat) {delay : Nat} (h : delay ≤ 1536) :
    (d.dllSet k loop delay).rd (F.CLK_DLL_STATUS_DELAY.at [k]) = delay :=
  Dev.rd_wr_fits _ (Nat.lt_of_le_of_lt h (by decide : 1536 < 2 ^ 11))

/-- The line acquired on a delay. -/
def Dev.dllAcquired (d : Dev) (k loop delay : Nat) : Dev :=
  ((d.dllSet k loop delay).wr (F.CLK_DLL_STATUS_RANGE_ERR.at [k]) 0).wr (F.CLK_DLL_STATUS_LOCKED.at [k]) 1

theorem Dev.dllAcquired_frame (d : Dev) (k loop delay : Nat) : ClkFrame (dllFlds k) d (d.dllAcquired k loop delay) :=
  ((d.dllSet_frame k loop delay).wr (by simp [dllFlds]) 0).wr (by simp [dllFlds]) 1

/-- Acquiring leaves the delay and the loop delay as they were set. -/
theorem Dev.rd_dllAcquired (d : Dev) (k loop delay : Nat) {g : Fld}
    (hg : g = F.CLK_DLL_STATUS_DELAY ∨ g = F.CLK_DLL_LOOP_LOOP_DELAY) :
    (d.dllAcquired k loop delay).rd (g.at [k]) = (d.dllSet k loop delay).rd (g.at [k]) := by
  unfold Dev.dllAcquired
  rcases hg with rfl | rfl <;>
    rw [Dev.rd_wr_at_other _ _ _ (by decide) (by decide), Dev.rd_wr_at_other _ _ _ (by decide) (by decide)]

theorem Dev.rd_dllAcquired_locked (d : Dev) (k loop delay : Nat) :
    (d.dllAcquired k loop delay).rd (F.CLK_DLL_STATUS_LOCKED.at [k]) = 1 := Dev.rd_wr_same _ _ _

theorem Dev.rd_dllAcquired_rangeErr (d : Dev) (k loop delay : Nat) :
    (d.dllAcquired k loop delay).rd (F.CLK_DLL_STATUS_RANGE_ERR.at [k]) = 0 := by
  unfold Dev.dllAcquired
  rw [Dev.rd_wr_at_other _ _ _ (by decide) (by decide)]
  exact Dev.rd_wr_same _ _ _

section Commands

variable {s : State} {k : Fin 2} (ha : s.dev.alive = true) (he : s.dev.on (F.CLK_DLL_CFG_EN.at [k]) = true)

include ha he

theorem execDllLock_inRange (hf : s.dev.on (F.CLK_DLL_STATUS_FB_LOST.at [k]) = false) (hm : s.dev.dllMeasures k = true)
    {loop : BitVec 16} (hn : s.dev.dllNeed k loop.toNat ≤ 1536) :
    execDllLock k loop s = s.act fun d => d.dllAcquired k loop.toNat (d.dllNeed k loop.toNat) :=
  State.act_congr (by simp [ha, he, hf, hm, Nat.not_lt.2 hn, Dev.dllAcquired, Dev.dllSet])

theorem execDllLock_beyond (hf : s.dev.on (F.CLK_DLL_STATUS_FB_LOST.at [k]) = false) (hm : s.dev.dllMeasures k = true)
    {loop : BitVec 16} (hn : 1536 < s.dev.dllNeed k loop.toNat) :
    execDllLock k loop s = s.act fun d => (d.dllSet k loop.toNat 1536).dllFault k F.CLK_DLL_STATUS_RANGE_ERR :=
  State.act_congr (by simp [ha, he, hf, hm, hn, Dev.dllSet])

theorem execDllFbLost_enabled : execDllFbLost k s = s.act fun d => d.dllFault k F.CLK_DLL_STATUS_FB_LOST :=
  State.act_congr (by simp [ha, he])

theorem execDllFbRestored_enabled : execDllFbRestored k s = s.act fun d => d.wr (F.CLK_DLL_STATUS_FB_LOST.at [k]) 0 :=
  State.act_congr (by simp [ha, he])

end Commands

/-- No move within the last millisecond: the line may move again (R74). -/
def Dev.dllMay (d : Dev) (k : Nat) : Bool :=
  match d.clk.tracked.find? k with
  | some c => d.past c 1
  | none => true

theorem Dev.dllMay_eq_all (d : Dev) (k : Nat) : d.dllMay k = (d.clk.tracked.find? k).all fun c => d.past c 1 := by
  unfold Dev.dllMay
  cases d.clk.tracked.find? k with
  | none => rfl
  | some c => exact Option.all_some.symm

theorem Dev.dllMay_wr (d : Dev) (f : Fld) (v k : Nat) : (d.wr f v).dllMay k = d.dllMay k := rfl

/-- The delay after a tracking step: one step toward the needed delay or toward the end of the line (R74). -/
def Dev.dllNext (d : Dev) (k loop : Nat) : Nat :=
  let have_ := d.rd (F.CLK_DLL_STATUS_DELAY.at [k])
  let goal := min (d.dllNeed k loop) 1536
  if !(d.wr (F.CLK_DLL_LOOP_LOOP_DELAY.at [k]) loop).dllMay k then have_
  else if have_ < goal then have_ + 1 else if goal < have_ then have_ - 1 else have_

/-- The line moved to a delay, the move noted where it is one. -/
def Dev.dllMoved (d : Dev) (k loop next : Nat) : Dev :=
  let e := d.dllSet k loop next
  if next = d.rd (F.CLK_DLL_STATUS_DELAY.at [k]) then e
  else { e with clk := { e.clk with tracked := e.clk.tracked.put k e.time.cycles } }

/-- The line moved to a delay and its range judged. -/
def Dev.dllTracked (d : Dev) (k loop next : Nat) : Dev :=
  if 1536 < d.dllNeed k loop then (d.dllMoved k loop next).dllFault k F.CLK_DLL_STATUS_RANGE_ERR
  else (d.dllMoved k loop next).wr (F.CLK_DLL_STATUS_RANGE_ERR.at [k]) 0

theorem execDllTrack_locked {s : State} {k : Fin 2} (ha : s.dev.alive = true) (he : s.dev.on (F.CLK_DLL_CFG_EN.at [k]) = true)
    (hl : s.dev.on (F.CLK_DLL_STATUS_LOCKED.at [k]) = true) (hf : s.dev.on (F.CLK_DLL_STATUS_FB_LOST.at [k]) = false)
    (loop : BitVec 16) : execDllTrack k loop s = s.act fun d => d.dllTracked k loop.toNat (d.dllNext k loop.toNat) :=
  State.act_congr ((if_neg (by simp [ha, he, hl, hf])).trans rfl)

section Track

variable {d : Dev} {k loop next : Nat}

theorem Dev.dllNext_near : d.dllNext k loop ≤ d.rd (F.CLK_DLL_STATUS_DELAY.at [k]) + 1 ∧
    d.rd (F.CLK_DLL_STATUS_DELAY.at [k]) ≤ d.dllNext k loop + 1 := by
  unfold Dev.dllNext
  dsimp only
  split_ifs <;> omega

theorem Dev.dllNext_le (h : d.rd (F.CLK_DLL_STATUS_DELAY.at [k]) ≤ 1536) : d.dllNext k loop ≤ 1536 := by
  unfold Dev.dllNext
  dsimp only
  split_ifs <;> omega

theorem Dev.dllNext_up (hm : ((d.clk.tracked.find? k).all fun c => d.past c 1) = true)
    (hn : d.rd (F.CLK_DLL_STATUS_DELAY.at [k]) < d.dllNeed k loop) (h : d.rd (F.CLK_DLL_STATUS_DELAY.at [k]) < 1536) :
    d.dllNext k loop = d.rd (F.CLK_DLL_STATUS_DELAY.at [k]) + 1 := by
  have hmay : d.dllMay k = true := (d.dllMay_eq_all k).trans hm
  simp [Dev.dllNext, Dev.dllMay_wr, hmay, hn, h]

theorem Dev.dllMoved_regs : (d.dllMoved k loop next).regs = (d.dllSet k loop next).regs := by
  unfold Dev.dllMoved
  split <;> rfl

theorem Dev.dllMoved_clk : (d.dllMoved k loop next).clk = { d.clk with tracked := (d.dllMoved k loop next).clk.tracked } := by
  unfold Dev.dllMoved
  split <;> rfl

theorem Dev.dllMoved_frame : ClkFrame (dllFlds k) d (d.dllMoved k loop next) := by
  unfold Dev.dllMoved
  split
  · exact d.dllSet_frame k loop _
  · exact (d.dllSet_frame k loop _).withClk _

end Track

theorem Dev.dllTracked_frame (d : Dev) (k : Fin 2) (loop next : Nat) : ClkFrame (dllFlds k) d (d.dllTracked k loop next) := by
  unfold Dev.dllTracked
  split
  · exact Dev.dllFault_frame Dev.dllMoved_frame (by simp [dllFlds]) (by simp [dllFlds])
  · exact Dev.dllMoved_frame.wr (by simp [dllFlds]) 0

/-- Tracking notes the instant of a move and leaves the rest of block CLK's own state. -/
theorem Dev.dllTracked_clk (d : Dev) (k : Fin 2) (loop next : Nat) :
    (d.dllTracked k loop next).clk = { d.clk with tracked := (d.dllTracked k loop next).clk.tracked } := by
  have hclk : (d.dllTracked k loop next).clk = (d.dllMoved k loop next).clk := by
    unfold Dev.dllTracked
    split
    · exact Dev.dllFault_clk _ _ _
    · rfl
  rw [hclk]
  exact Dev.dllMoved_clk

/-- Judging the range leaves the delay and the loop delay as the tracking step set them. -/
theorem Dev.rd_dllTracked (d : Dev) (k : Fin 2) (loop next : Nat) {g : Fld}
    (hg : g = F.CLK_DLL_STATUS_DELAY ∨ g = F.CLK_DLL_LOOP_LOOP_DELAY) :
    (d.dllTracked k loop next).rd (g.at [k]) = (d.dllSet k loop next).rd (g.at [k]) := by
  have hne : g.key ≠ F.CLK_DLL_STATUS_RANGE_ERR.key := by rcases hg with rfl | rfl <;> decide
  have hs : g.sts = F.CLK_DLL_STATUS_RANGE_ERR.sts := by rcases hg with rfl | rfl <;> rfl
  rw [← Dev.rd_of_regs Dev.dllMoved_regs]
  unfold Dev.dllTracked
  split
  · exact Dev.rd_dllFault_other (by rcases hg with rfl | rfl <;> decide) hne hs
  · exact Dev.rd_wr_at_other _ _ _ hne hs

/-- Settles O7: acquisition ends on the needed delay or at the line's end, tracking takes one step, and the feedback's loss and return
touch one bit. -/
theorem delayLockedLines : Obligations.DelayLockedLines := by
  unfold Obligations.DelayLockedLines
  refine ⟨fun s k loop ha he hf hm hn => ?_, fun s k loop ha he hf hm hn => ?_, fun s k loop ha he hl hf hle => ?_,
    fun s k ha he => ?_, fun s k ha he => ?_⟩
  · refine ⟨_, (execDllLock_inRange ha he hf hm hn).trans (s.act_after _), ?_, Dev.rd_dllAcquired_locked _ _ _ _,
      Dev.rd_dllAcquired_rangeErr _ _ _ _, ?_, (Dev.dllAcquired_frame _ _ _ _).onlyRegisters rfl⟩
    · rw [State.after_rd, Dev.rd_dllAcquired _ _ _ _ (.inl rfl), Dev.rd_dllSet_delay _ _ _ hn]
    · rw [State.after_rd, Dev.rd_dllAcquired _ _ _ _ (.inr rfl), Dev.rd_dllSet_loop]
  · refine ⟨_, (execDllLock_beyond ha he hf hm hn).trans (s.act_after _), ?_, Dev.rd_dllFault_same (.inr rfl), ?_⟩
    · rw [State.after_rd, Dev.rd_dllFault_other (by decide) (by decide) (by decide), Dev.rd_dllSet_delay _ _ _ (Nat.le_refl _)]
    · exact (Dev.dllFault_frame (s.dev.dllSet_frame k _ _) (by simp [dllFlds]) (by simp [dllFlds])).onlyRegisters
        (Dev.dllFault_clk _ _ _)
  · have hdelay : (s.dev.dllTracked k loop.toNat (s.dev.dllNext k loop.toNat)).rd (F.CLK_DLL_STATUS_DELAY.at [k]) =
        s.dev.dllNext k loop.toNat := by
      rw [Dev.rd_dllTracked _ _ _ _ (.inl rfl), Dev.rd_dllSet_delay _ _ _ (Dev.dllNext_le hle)]
    refine ⟨_, (execDllTrack_locked ha he hl hf loop).trans (s.act_after _), ?_⟩
    rw [State.after_rd, State.after_rd, hdelay, Dev.rd_dllTracked _ _ _ _ (.inr rfl), Dev.rd_dllSet_loop]
    exact ⟨rfl, Dev.dllNext_near.1, Dev.dllNext_near.2, Dev.dllNext_up,
      (Dev.dllTracked_frame _ _ _ _).after_eq (Dev.dllTracked_clk _ _ _ _)⟩
  · exact ⟨_, (execDllFbLost_enabled ha he).trans (s.act_after _), Dev.rd_dllFault_same (.inl rfl),
      Dev.rd_dllFault_other (by decide) (by decide) (by decide),
      (Dev.dllFault_frame (fs := dllFlds k) .refl (by simp [dllFlds]) (by simp [dllFlds])).onlyRegisters (Dev.dllFault_clk _ _ _)⟩
  · have hframe : Dev.ClkFrame [F.CLK_DLL_STATUS_FB_LOST.at [k]] s.dev (s.dev.wr (F.CLK_DLL_STATUS_FB_LOST.at [k]) 0) :=
      Dev.ClkFrame.refl.wr List.mem_cons_self 0
    exact ⟨_, (execDllFbRestored_enabled ha he).trans (s.act_after _), Dev.rd_wr_same _ _ _, hframe.onlyRegisters rfl,
      hframe.registersBut⟩

end Sys2Proof.Machine

/-! PROOFS. The chapter on reference selection and holdover: how the loop tick moves TAI, the monitors and states of reference slots,
and what pulses, sentences and gates leave. -/

namespace Sys2Proof.Machine

open Sys2Proof.Claims

/-! ### How TAI moves at a loop tick (R100, R441) -/

/-- LOOP_MODE HOLD leaves no selection in force. -/
theorem Dev.choiceNow_of_hold {d : Dev} (h : d.rd F.REF_LOOP_CFG_LOOP_MODE = 1) : d.choiceNow = {} := if_pos h

theorem Dev.choiceNow_of_not_hold {d : Dev} (h : d.rd F.REF_LOOP_CFG_LOOP_MODE ≠ 1) : d.choiceNow = d.ref.choice := if_neg h

/-- Under LOOP_MODE HOLD, or without a slot or an offset decided, the choice in force moves nothing. -/
theorem Dev.choiceNow_incomplete {d : Dev}
    (h : d.rd F.REF_LOOP_CFG_LOOP_MODE = 1 ∨ d.ref.choice.time = none ∨ d.ref.choice.delta = none) :
    d.choiceNow.time = none ∨ d.choiceNow.delta = none := by
  by_cases hm : d.rd F.REF_LOOP_CFG_LOOP_MODE = 1
  · rw [Dev.choiceNow_of_hold hm]
    exact .inl rfl
  · rw [Dev.choiceNow_of_not_hold hm]
    exact h.resolve_left hm

/-- A unit that follows no partner stays where its choice moves nothing. -/
theorem Dev.taiMove_stay {d : Dev} (hf : d.follows = false) (hc : d.choiceNow.time = none ∨ d.choiceNow.delta = none) :
    d.taiMove = .stay := by
  unfold Dev.taiMove
  rcases hc with hc | hc
  · simp [hf, hc]
  · cases ht : d.choiceNow.time with
    | none => simp [hf, ht]
    | some n => simp [hf, ht, hc]

/-- A unit that follows no partner, or follows one that told of no setting, moves by its own choice: a step with TIME_VALID, the first
setting before it. -/
theorem Dev.taiMove_own {d : Dev} {n : Nat} {x : Int}
    (hown : d.follows = false ∨ d.on F.REF_SEL_STATUS_TIME_VALID = false ∧ d.pair.setTai = none)
    (hn : d.choiceNow.time = some n) (hx : d.choiceNow.delta = some x) :
    d.taiMove = if d.on F.REF_SEL_STATUS_TIME_VALID then .step x n else .set (d.time.tai.addSub (x * 4096)) n := by
  unfold Dev.taiMove
  rcases hown with hf | ⟨hv, hs⟩
  · simp [hf, hn, hx]
  · simp [hv, hs, hn, hx]

/-- A follower told of no step stays. -/
theorem Dev.taiMove_undue {d : Dev} (hf : d.follows = true) (hv : d.on F.REF_SEL_STATUS_TIME_VALID = true)
    (hd : d.ref.due = none) : d.taiMove = .stay := by
  simp [Dev.taiMove, hf, hv, hd]

/-- A follower steps from the tick that the record names on. -/
theorem Dev.taiMove_due {d : Dev} {k : Nat} {x : Int} (hf : d.follows = true) (hv : d.on F.REF_SEL_STATUS_TIME_VALID = true)
    (hd : d.ref.due = some (k, x)) : d.taiMove = if k ≤ loopTickNo d.time.tai then .step x 14 else .stay := by
  simp [Dev.taiMove, hf, hv, hd]

/-- Before TIME_VALID a follower takes the time that its partner set. -/
theorem Dev.taiMove_told {d : Dev} {m : Tai} (hf : d.follows = true) (hv : d.on F.REF_SEL_STATUS_TIME_VALID = false)
    (hs : d.pair.setTai = some m) : d.taiMove = .set m 14 := by
  simp [Dev.taiMove, hf, hv, hs]

theorem Dev.tickTai_stay {d : Dev} (h : d.taiMove = .stay) : d.tickTai = d.time.tai := by
  unfold Dev.tickTai
  rw [h]

theorem Dev.tickTai_set {d : Dev} {m : Tai} {n : Nat} (h : d.taiMove = .set m n) : d.tickTai = m := by
  unfold Dev.tickTai
  rw [h]

theorem Dev.tickTai_step {d : Dev} {x : Int} {n : Nat} (h : d.taiMove = .step x n) :
    d.tickTai = d.time.tai.addSub (x * 4096) := by
  unfold Dev.tickTai
  rw [h]

/-- The unit's own choice moves the counter by its offset, be it a step or the first setting. -/
theorem Dev.tickTai_own {d : Dev} {n : Nat} {x : Int}
    (hown : d.follows = false ∨ d.on F.REF_SEL_STATUS_TIME_VALID = false ∧ d.pair.setTai = none)
    (hm : d.rd F.REF_LOOP_CFG_LOOP_MODE ≠ 1) (hn : d.ref.choice.time = some n) (hx : d.ref.choice.delta = some x) :
    d.tickTai = d.time.tai.addSub (x * 4096) := by
  rw [← Dev.choiceNow_of_not_hold hm] at hn hx
  have hmove := Dev.taiMove_own hown hn hx
  split at hmove
  · exact Dev.tickTai_step hmove
  · exact Dev.tickTai_set hmove

/-- The counter after a step that is told for tick `k`. -/
theorem Dev.tickTai_due {d : Dev} {k : Nat} {x : Int} (hf : d.follows = true) (hv : d.on F.REF_SEL_STATUS_TIME_VALID = true)
    (hd : d.ref.due = some (k, x)) :
    d.tickTai = if k ≤ loopTickNo d.time.tai then d.time.tai.addSub (x * 4096) else d.time.tai := by
  have hmove := Dev.taiMove_due hf hv hd
  split at hmove
  · next hk => rw [if_pos hk, Dev.tickTai_step hmove]
  · next hk => rw [if_neg hk, Dev.tickTai_stay hmove]

/-- Where the loop runs, the counter takes the tick's time, brought into its range; the cycles and the packet memory stay. -/
theorem execLoopTick_running {s : State} (h : s.dev.loopRuns = true) (edges : BitVec 16) (ferr perr : Int) :
    ∃ t, exec (.loopTick edges ferr perr) s = .next t ∧ t.dev.time.cycles = s.dev.time.cycles ∧ t.mem = s.mem ∧
      t.dev.time.tai = Tai.ofSub s.dev.tickTai.toSub :=
  ⟨_, rfl, rfl, rfl, congrArg (fun m : Tai => Tai.ofSub m.toSub) (if_pos h)⟩

/-- Settles O8: each clause names the move of its case, and the counter takes it as it is because every such time is in range. -/
theorem loopTickMovesTaiOnlyBySelection : Obligations.LoopTickMovesTaiOnlyBySelection := by
  unfold Obligations.LoopTickMovesTaiOnlyBySelection
  intro s edges ferr perr hruns hwf
  obtain ⟨t, ht, hcycles, hmem, htai⟩ := execLoopTick_running hruns edges ferr perr
  have hmoves : ∀ m : Tai, m.wf = true → s.dev.tickTai = m → t.dev.time.tai = m := fun m hm h => by
    rw [htai, h, Tai.ofSub_toSub m hm]
  refine ⟨t, ht, hcycles, hmem, fun hf hc => ?_, fun n x hf hm hn hx => ?_, fun hf hv hd => ?_, fun k x hf hv hd => ?_,
    fun m hf hv hs hm => ?_, fun n x hf hv hs hm hn hx => ?_⟩
  · exact hmoves _ hwf (Dev.tickTai_stay (Dev.taiMove_stay hf (Dev.choiceNow_incomplete hc)))
  · exact hmoves _ (Tai.addSub_wf _ _) (Dev.tickTai_own (.inl hf) hm hn hx)
  · exact hmoves _ hwf (Dev.tickTai_stay (Dev.taiMove_undue hf hv hd))
  · refine hmoves _ ?_ (Dev.tickTai_due hf hv hd)
    split
    · exact Tai.addSub_wf _ _
    · exact hwf
  · exact hmoves m hm (Dev.tickTai_set (Dev.taiMove_told hf hv hs))
  · exact hmoves _ (Tai.addSub_wf _ _) (Dev.tickTai_own (.inr ⟨hv, hs⟩) hm hn hx)

/-! ### The registers of a reference slot -/

/-- The registers of consecutive slots lie 0x40 bytes apart (R111). -/
theorem slotFld_key {f : Fld} (h : f.sts = [0x40]) (i : Nat) : (f.at [i]).key = f.key + 2048 * i := by
  simp only [Fld.key, Fld.at, h, strideSum]
  omega

/-- Two columns of the slots' registers share no field, whatever the slots. -/
theorem slotFld_ne {f g : Fld} (hf : f.sts = [0x40]) (hg : g.sts = [0x40]) (hne : f.key % 2048 ≠ g.key % 2048) (i j : Nat) :
    (f.at [i]).key ≠ (g.at [j]).key := by
  rw [slotFld_key hf, slotFld_key hg]
  omega

/-- A column has a field of its own for each slot. -/
theorem slotFld_ne_of_slot {f : Fld} (h : f.sts = [0x40]) {i j : Nat} (hij : i ≠ j) : (f.at [i]).key ≠ (f.at [j]).key := by
  rw [slotFld_key h, slotFld_key h]
  omega

/-- A column whose 16 registers lie in block REF is outside block QUE. -/
theorem slotFld_inQue {f : Fld} (hs : f.sts = [0x40]) (hr : 2 * 2097152 ≤ f.key ∧ f.key + 2048 * 16 ≤ 3 * 2097152) (n : Fin 16) :
    (f.at [n.val]).inQue = false := by
  obtain ⟨hlo, hhi⟩ := hr
  have hn := n.isLt
  rw [Fld.inQue, slotFld_key hs, beq_eq_false_iff_ne]
  omega

@[simp] theorem Dev.slot_setSlot (d : Dev) (n : Nat) (x : SlotSt) : (d.setSlot n x).slot n = x := Tbl.get_put_same _ _ _ _

/-- A slot's hidden state is no register. -/
@[simp] theorem Dev.rd_setSlot (d : Dev) (n : Nat) (x : SlotSt) (g : Fld) : (d.setSlot n x).rd g = d.rd g := rfl

@[simp] theorem Dev.slotState_setSlot (d : Dev) (n : Nat) (x : SlotSt) (m : Nat) : (d.setSlot n x).slotState m = d.slotState m := rfl

@[simp] theorem State.after_slotState (s : State) (e : Dev) (n : Nat) : (s.after e).dev.slotState n = e.slotState n := rfl

@[simp] theorem State.after_slot (s : State) (e : Dev) (n : Nat) : (s.after e).dev.slot n = e.slot n := rfl

/-- An event of a column leaves the slot's other columns. -/
theorem Dev.rd_sticky_at_other (d : Dev) {f g : Fld} (n : Fin 16) (h : g.key ≠ f.key) (hs : g.sts = f.sts) (hf : f.sts = [0x40])
    (hr : 2 * 2097152 ≤ g.key ∧ g.key + 2048 * 16 ≤ 3 * 2097152) :
    (d.sticky (f.at [n]) n).rd (g.at [n]) = d.rd (g.at [n]) := by
  rw [Dev.rd_sticky _ _ _ _ _ (slotFld_inQue (hs.trans hf) hr n), if_neg (Fld.key_at_ne h hs _)]

/-- An event sets the bit that it is for. -/
theorem Dev.rd_sticky_at_same (d : Dev) {f : Fld} (n : Fin 16) (hf : f.sts = [0x40]) (hw : f.w = 1)
    (hr : 2 * 2097152 ≤ f.key ∧ f.key + 2048 * 16 ≤ 3 * 2097152) : (d.sticky (f.at [n]) n).rd (f.at [n]) = 1 := by
  rw [Dev.rd_sticky _ _ _ _ _ (slotFld_inQue hf hr n), if_pos rfl, Fld.at, hw]
  rfl

/-- Every field outside block QUE reads alike in both devices, but for the fields named. -/
def Dev.ReadsBut (fs : List Fld) (d e : Dev) : Prop := ∀ g : Fld, g.inQue = false → g.key ∉ fs.map Fld.key → e.rd g = d.rd g

namespace Dev.ReadsBut

variable {fs : List Fld} {d e : Dev}

theorem refl : ReadsBut fs d d := fun _ _ _ => rfl

theorem wr (h : ReadsBut fs d e) {f : Fld} (hf : f ∈ fs) (v : Nat) : ReadsBut fs d (e.wr f v) := fun g hq hg => by
  have hne : g.key ≠ f.key := fun hk => hg (hk ▸ List.mem_map_of_mem hf)
  rw [Dev.rd_wr_other _ _ hne, h g hq hg]

theorem sticky (h : ReadsBut fs d e) {f : Fld} (hf : f ∈ fs) (unit : Nat) : ReadsBut fs d (e.sticky f unit) := fun g hq hg => by
  have hne : g.key ≠ f.key := fun hk => hg (hk ▸ List.mem_map_of_mem hf)
  rw [Dev.rd_sticky _ _ _ _ _ hq, if_neg hne, h g hq hg]

theorem setSlot (h : ReadsBut fs d e) (n : Nat) (x : SlotSt) : ReadsBut fs d (e.setSlot n x) := h

theorem registersBut {s : State} (h : ReadsBut fs s.dev e) : registersBut s (s.after e) fs :=
  fun g hq hg => h g (by simpa [Fld.inQue] using hq) hg

end Dev.ReadsBut

/-- A field set with an event of its own leaves all but registers, queues and the event number. -/
theorem State.onlyRegisters_wr_sticky (s : State) (f g : Fld) (v unit : Nat) :
    onlyRegisters s (s.after ((s.dev.wr f v).sticky g unit)) := by
  obtain ⟨r, x, h⟩ := (s.dev.wr f v).sticky_shape g unit []
  rw [h]
  rfl

/-! ### Monitors (R89) -/

/-- A signed field of 32 bits takes any value, saturated. -/
theorem Dev.rdS_wrS_saturated (d : Dev) {f : Fld} (hw : f.w = 32) (v : Int) :
    (d.wrS f v).rdS f = clampInt (-2147483648) 2147483647 v := by
  have hclamp : d.wrS f v = d.wrS f (clampInt (-2147483648) 2147483647 v) := by
    simp only [Dev.wrS, hw]
    congr 2
    simp only [clampInt]
    omega
  rw [hclamp, Dev.rdS_wrS_same d (by omega)]
  · rw [hw]
    simp only [clampInt]
    omega
  · rw [hw]
    simp only [clampInt]
    omega

/-- An active slot's monitor takes its measured frequency. -/
theorem Dev.monitorSlot_active {d : Dev} {n : Nat} (hs : d.slotState n ≠ 0)
    (ha : d.on (F.REF_SLOT_STATUS_ACTIVITY.at [n]) = true) (ppt : Int) :
    (d.monitorSlot n ppt).measFreq n = clampInt (-2147483648) 2147483647 ppt := by
  unfold Dev.monitorSlot
  rw [if_neg (by simp [hs, ha])]
  exact Dev.rdS_wrS_saturated d rfl ppt

/-- A slot's monitor writes MEAS_FREQ of that slot alone. -/
theorem Dev.rd_monitorSlot (d : Dev) (n : Nat) (ppt : Int) {g : Fld} (h : g.key ≠ (F.REF_SLOT_MEAS_FREQ_MEAS_FREQ.at [n]).key) :
    (d.monitorSlot n ppt).rd g = d.rd g := by
  unfold Dev.monitorSlot
  split
  · rfl
  · rw [Dev.rd_setSlot, Dev.wrS, Dev.rd_wr_other _ _ h]

/-- The slots' monitors are updated one after the other. -/
def Dev.monitorSlots (d : Dev) (ppt : List Int) (l : List Nat) : Dev := l.foldl (fun d n => d.monitorSlot n (ppt.getD n 0)) d

/-- A slot whose monitor is not updated shows the frequency as before. -/
theorem Dev.measFreq_monitorSlots_of_notMem (ppt : List Int) {n : Nat} {l : List Nat} (hl : n ∉ l) (d : Dev) :
    (d.monitorSlots ppt l).measFreq n = d.measFreq n := by
  refine List.foldlRecOn (motive := fun e : Dev => e.measFreq n = d.measFreq n) l _ rfl fun e he m hm => ?_
  rw [Dev.measFreq, Dev.rdS, Dev.rd_monitorSlot _ _ _ (slotFld_ne_of_slot rfl fun h : n = m => hl (h ▸ hm))]
  exact he

/-- A monitor that is updated shows the slot's frequency once all are. -/
theorem Dev.measFreq_monitorSlots (ppt : List Int) {n : Nat} {l : List Nat} (hl : n ∈ l) {d : Dev} (hs : d.slotState n ≠ 0)
    (ha : d.on (F.REF_SLOT_STATUS_ACTIVITY.at [n]) = true) :
    (d.monitorSlots ppt l).measFreq n = clampInt (-2147483648) 2147483647 (ppt.getD n 0) := by
  induction l generalizing d with
  | nil => cases hl
  | cons m l ih =>
    by_cases hn : n ∈ l
    · refine ih hn ?_ ?_
      · rwa [Dev.slotState, Dev.rd_monitorSlot _ _ _ (slotFld_ne rfl rfl (by decide) n m)]
      · rwa [Dev.on_eq, Dev.rd_monitorSlot _ _ _ (slotFld_ne rfl rfl (by decide) n m)]
    · obtain rfl : n = m := (List.mem_cons.1 hl).resolve_right hn
      rw [← Dev.monitorSlot_active hs ha (ppt.getD n 0)]
      exact Dev.measFreq_monitorSlots_of_notMem ppt hn _

/-- Judging a slot writes DISAGREE and its sticky bit. -/
theorem Dev.rd_judged (d : Dev) (m : Nat) (x : SlotSt) (disagrees new : Bool) {g : Fld} (hq : g.inQue = false)
    (hd : g.key ≠ (F.REF_SLOT_STATUS_DISAGREE.at [m]).key) (hs : g.key ≠ (F.REF_SLOT_STICKY_DISAGREE_SEEN.at [m]).key) :
    (if new then ((d.setSlot m x).wrBit (F.REF_SLOT_STATUS_DISAGREE.at [m]) disagrees).sticky
        (F.REF_SLOT_STICKY_DISAGREE_SEEN.at [m]) m
      else (d.setSlot m x).wrBit (F.REF_SLOT_STATUS_DISAGREE.at [m]) disagrees).rd g = d.rd g := by
  have hwr : ((d.setSlot m x).wrBit (F.REF_SLOT_STATUS_DISAGREE.at [m]) disagrees).rd g = d.rd g := Dev.rd_wr_other _ _ hd
  split
  · rw [Dev.rd_sticky _ _ _ _ _ hq, if_neg hs, hwr]
  · exact hwr

/-- Checking a group writes DISAGREE and its sticky bits, and nothing else outside block QUE (R93). -/
theorem Dev.rd_checkGroup (d : Dev) (time : Bool) {g : Fld} (hq : g.inQue = false)
    (hd : ∀ m, g.key ≠ (F.REF_SLOT_STATUS_DISAGREE.at [m]).key) (hs : ∀ m, g.key ≠ (F.REF_SLOT_STICKY_DISAGREE_SEEN.at [m]).key) :
    (d.checkGroup time).rd g = d.rd g := by
  unfold Dev.checkGroup
  extract_lets _ _ _ _ _ _ judged
  have hfold : judged.rd g = d.rd g :=
    List.foldlRecOn (motive := fun e : Dev => e.rd g = d.rd g) _ _ rfl fun e he m _ =>
      (Dev.rd_judged e m _ _ _ hq (hd m) (hs m)).trans he
  split
  · exact hfold
  · exact hfold

/-- The step limits that clear write STEP_LIMIT alone (R100). -/
theorem Dev.rd_clearStepLimits (d : Dev) (l : List Nat) {g : Fld} (h : ∀ m, g.key ≠ (F.REF_SLOT_STATUS_STEP_LIMIT.at [m]).key) :
    (l.foldl Dev.clearStepLimit d).rd g = d.rd g := by
  refine List.foldlRecOn (motive := fun e : Dev => e.rd g = d.rd g) l _ rfl fun e he m _ => ?_
  unfold Dev.clearStepLimit
  split
  · rw [Dev.rd_wr_other _ _ (h m), he]
  · exact he

/-- The device after MONITOR_UPDATE. -/
def Dev.monitored (d : Dev) (ppt : List Int) : Dev :=
  (List.range 15).foldl Dev.clearStepLimit (((d.monitorSlots ppt (List.range 16)).checkGroup false).checkGroup true)

theorem execMonitorUpdate_booted {s : State} (hb : s.dev.booted = true) (ppt : List Int) :
    execMonitorUpdate ppt s = s.act fun d => d.monitored ppt :=
  State.act_congr (if_neg (by simp [hb]))

/-- What follows the monitors leaves the frequency that they show. -/
theorem Dev.measFreq_monitored (d : Dev) (ppt : List Int) (n : Fin 16) :
    (d.monitored ppt).measFreq n = (d.monitorSlots ppt (List.range 16)).measFreq n := by
  have hcheck : ∀ (e : Dev) (time : Bool),
      (e.checkGroup time).rd (F.REF_SLOT_MEAS_FREQ_MEAS_FREQ.at [n]) = e.rd (F.REF_SLOT_MEAS_FREQ_MEAS_FREQ.at [n]) := fun e time =>
    Dev.rd_checkGroup e time (slotFld_inQue rfl (by decide) n) (slotFld_ne rfl rfl (by decide) n) (slotFld_ne rfl rfl (by decide) n)
  simp only [Dev.measFreq, Dev.rdS, Dev.monitored]
  rw [Dev.rd_clearStepLimits _ _ (slotFld_ne rfl rfl (by decide) n), hcheck, hcheck]

/-! ### Loss of activity, qualification and wait to restore (R88, R90) -/

/-- A slot without activity, neither qualified nor on the way to it. -/
def Dev.lost (d : Dev) (n : Nat) : Dev :=
  (((d.wr (F.REF_SLOT_STATUS_ACTIVITY.at [n]) 0).unjudge n).setSlotState n 1).sticky (F.REF_SLOT_STICKY_LOS_SEEN.at [n]) n

/-- A qualifying, qualified or waiting slot that loses its activity is LOST. -/
theorem Dev.loseSlot_running {d : Dev} {n : Nat} (h : d.slotState n = 2 ∨ d.slotState n = 3 ∨ d.slotState n = 4) :
    d.loseSlot n = d.lost n := by
  have hst : (d.wr (F.REF_SLOT_STATUS_ACTIVITY.at [n]) 0).slotState n = d.slotState n :=
    Dev.rd_wr_at_other d _ _ (by decide) rfl
  rw [← hst] at h
  exact if_pos h

/-- What a lost slot shows. -/
theorem Dev.rd_lost (d : Dev) (n : Fin 16) :
    (d.lost n).slotState n = 1 ∧ (d.lost n).rd (F.REF_SLOT_STATUS_ACTIVITY.at [n]) = 0 ∧
      (d.lost n).rd (F.REF_SLOT_STICKY_LOS_SEEN.at [n]) = 1 ∧ (d.lost n).rd (F.REF_SLOT_STATUS_DISAGREE.at [n]) = 0 := by
  refine ⟨?_, ?_, Dev.rd_sticky_at_same _ _ rfl rfl (by decide), ?_⟩
  · simp (disch := decide) only [Dev.slotState, Dev.lost, Dev.setSlotState, Dev.rd_sticky_at_other, Dev.rd_wr_same]
    rfl
  · simp (disch := decide) only [Dev.lost, Dev.setSlotState, Dev.unjudge, Dev.rd_sticky_at_other, Dev.rd_wr_at_other,
      Dev.rd_setSlot, Dev.rd_wr_same, Nat.zero_mod]
  · simp (disch := decide) only [Dev.lost, Dev.setSlotState, Dev.unjudge, Dev.rd_sticky_at_other, Dev.rd_wr_at_other,
      Dev.rd_setSlot, Dev.rd_wr_same, Nat.zero_mod]

/-- The loss writes four fields of the slot. -/
theorem Dev.lost_reads (d : Dev) (n : Nat) :
    ReadsBut [F.REF_SLOT_STATUS_STATE.at [n], F.REF_SLOT_STATUS_ACTIVITY.at [n], F.REF_SLOT_STATUS_DISAGREE.at [n],
      F.REF_SLOT_STICKY_LOS_SEEN.at [n]] d (d.lost n) :=
  ((((ReadsBut.refl.wr (by simp) 0).wr (by simp) 0).setSlot n _).wr (by simp) 1).sticky (by simp) n

theorem execActivityLoss_missing {s : State} {n : Fin 16} (hb : s.dev.booted = true)
    (hst : s.dev.slotState n = 2 ∨ s.dev.slotState n = 3 ∨ s.dev.slotState n = 4) (hp : s.dev.pulsesMissing n = true) :
    execActivityLoss n s = s.act fun d => (d.lost n).setSlot n { (d.lost n).slot n with pulse := none } := by
  refine State.act_congr ((if_pos (by simp [hb, hp])).trans ?_)
  dsimp only
  rw [Dev.loseSlot_running hst]

/-- The device with a slot QUALIFIED at the end of its window. -/
def Dev.qualifies (d : Dev) (n : Nat) : Dev := (d.setSlotState n 3).sticky (F.REF_SLOT_STICKY_QUALIFIED_SEEN.at [n]) n

theorem execQualWinElapsed_passed {s : State} {n : Fin 16} (hb : s.dev.booted = true) (hst : s.dev.slotState n = 2)
    (hf : (s.dev.slot n).failed = false) (hp : s.dev.past (s.dev.slot n).winStart s.dev.qualWinMs = true) :
    execQualWinElapsed n s = s.act fun d => d.qualifies n :=
  State.act_congr (if_pos (by simp [hb, hst, hf, hp]))

/-- A slot that qualifies shows it. -/
theorem Dev.rd_qualifies (d : Dev) (n : Fin 16) :
    (d.qualifies n).slotState n = 3 ∧ (d.qualifies n).rd (F.REF_SLOT_STICKY_QUALIFIED_SEEN.at [n]) = 1 := by
  refine ⟨?_, Dev.rd_sticky_at_same _ _ rfl rfl (by decide)⟩
  simp (disch := decide) only [Dev.slotState, Dev.qualifies, Dev.setSlotState, Dev.rd_sticky_at_other, Dev.rd_wr_same]
  rfl

/-- Qualifying writes the slot's state and its sticky bit. -/
theorem Dev.qualifies_reads (d : Dev) (n : Nat) :
    ReadsBut [F.REF_SLOT_STATUS_STATE.at [n], F.REF_SLOT_STICKY_QUALIFIED_SEEN.at [n]] d (d.qualifies n) :=
  (ReadsBut.refl.wr (by simp) 3).sticky (by simp) n

theorem execWtrElapsed_over {s : State} {n : Fin 16} (hb : s.dev.booted = true) (hst : s.dev.slotState n = 4)
    (hp : s.dev.past (s.dev.slot n).wtrStart (1000 * s.dev.rd F.REF_QUAL_CFG_WTR) = true)
    (hu : (s.dev.slot n).updated = true ∨ s.dev.rd F.REF_QUAL_CFG_WTR ≠ 0) :
    execWtrElapsed n s = s.act fun d => if d.passedWindow n then d.setSlotState n 3
      else d.setSlot n { d.slot n with wtrStart := d.time.cycles, updated := false } :=
  State.act_congr (if_pos (by simp [hb, hst, hp, hu]))

/-- Settles O9: the monitors' fold shows each slot's frequency, and each change of state is one device of its own. -/
theorem slotMonitorsAndQualification : Obligations.SlotMonitorsAndQualification := by
  unfold Obligations.SlotMonitorsAndQualification
  refine ⟨fun s ppt n hb hst ha => ?_, fun s n hb hst hp => ?_, fun s n hb hst hf hp => ?_, fun s n hb hst hp hu => ?_⟩
  · have hshown := Dev.measFreq_monitorSlots ppt (List.mem_range.2 n.isLt) hst ha
    rw [← Dev.measFreq_monitored] at hshown
    refine ⟨_, (execMonitorUpdate_booted hb ppt).trans (s.act_after _), ?_⟩
    rw [State.after_rdS]
    exact hshown
  · obtain ⟨hstate, hactivity, hseen, hdisagree⟩ := Dev.rd_lost s.dev n
    refine ⟨_, (execActivityLoss_missing hb hst hp).trans (s.act_after _), ?_, ?_, ?_, ?_, ?_,
      ((Dev.lost_reads s.dev n).setSlot n _).registersBut⟩
    · rw [State.after_slotState, Dev.slotState_setSlot, hstate]
    · rw [State.after_rd, Dev.rd_setSlot, hactivity]
    · rw [State.after_rd, Dev.rd_setSlot, hseen]
    · rw [State.after_slot, Dev.slot_setSlot]
    · rw [State.after_rd, Dev.rd_setSlot, hdisagree]
  · obtain ⟨hstate, hseen⟩ := Dev.rd_qualifies s.dev n
    exact ⟨_, (execQualWinElapsed_passed hb hst hf hp).trans (s.act_after _), hstate, hseen, s.onlyRegisters_wr_sticky _ _ _ _,
      (Dev.qualifies_reads s.dev n).registersBut⟩
  · refine ⟨_, (execWtrElapsed_over hb hst hp hu).trans (s.act_after _), fun hw => ?_, fun hw => ?_⟩
    · rw [if_pos hw]
      exact ⟨Dev.rd_wr_same _ _ _, (Dev.ReadsBut.refl.wr (by simp) 3).registersBut⟩
    · rw [if_neg (by simp [hw])]
      exact ⟨rfl, congrArg SlotSt.wtrStart (Dev.slot_setSlot _ _ _)⟩

/-! ### Pulses, sentences and gates (R80 to R83) -/

/-- A slot with a pulse: it is active, and the pulse is kept. -/
def Dev.pulsed (d : Dev) (n : Nat) (stamp : Tai) : Dev :=
  (d.wr (F.REF_SLOT_STATUS_ACTIVITY.at [n]) 1).setSlot n { d.slot n with pulse := some stamp }

/-- The nearest second to a pulse. -/
def Tai.nearestSec (stamp : Tai) : Nat := stamp.sec + (if 500000000 ≤ stamp.ns then 1 else 0)

/-- A pulse leaves PHASE_CORR, and with it what the pulse's phase is. -/
theorem Dev.phaseOf_pulsed (d : Dev) (n label : Nat) (stamp : Tai) :
    (d.pulsed n stamp).phaseOf n label stamp = d.phaseOf n label stamp := by
  simp (disch := decide) only [Dev.phaseOf, Dev.rdS, Dev.pulsed, Dev.rd_setSlot, Dev.rd_wr_at_other]

theorem execRefPulseEdge_pps {s : State} {n : Fin 5} (hn : n.val < 4) (hb : s.dev.booted = true)
    (he : s.dev.on (F.REF_SLOT_CFG_EN.at [n]) = true) (hp : s.dev.pulseSlot n = true) (stamp : Tai) :
    execRefPulseEdge n stamp s = s.act fun d => (d.pulsed n stamp).setPhase n (d.phaseOf n stamp.nearestSec stamp) := by
  refine State.act_congr ((if_neg (by simp [hb, he, hp])).trans ((if_pos hn).trans ?_))
  exact congrArg ((s.dev.pulsed n stamp).setPhase n) (Dev.phaseOf_pulsed s.dev n stamp.nearestSec stamp)

/-- Giving a slot a phase leaves its activity. -/
theorem Dev.setPhase_activity (d : Dev) (n : Nat) (p : Int) :
    (d.setPhase n p).rd (F.REF_SLOT_STATUS_ACTIVITY.at [n]) = d.rd (F.REF_SLOT_STATUS_ACTIVITY.at [n]) := by
  simp (disch := decide) only [Dev.setPhase, Dev.rd_setSlot, Dev.wrS, Dev.rd_wr_at_other]

theorem Dev.setPhase_slot (d : Dev) (n : Nat) (p : Int) : (d.setPhase n p).slot n = { d.slot n with offset := p } := Dev.slot_setSlot _ _ _

/-- The GNSS receiver's date and time of a second, kept with the TAI second that they label. -/
def Dev.dated (d : Dev) (utc : Nat) (leap : Bool) : Dev :=
  { d with ref := { d.ref with gnss :=
    { d.ref.gnss with zda := some (utc, d.time.cycles), zdaTai := d.labelTai utc leap } } }

/-- A ZDA whose second is usable waits for its RMC. -/
theorem execNmeaSentence_zda {s : State} {leap : Bool} (hb : s.dev.booted = true) (hs : s.dev.secondOk leap = true)
    (hr : s.dev.ref.gnss.rmc = none) (utc : Nat) : execNmeaSentence (.zda utc leap) s = s.act fun d => d.dated utc leap :=
  State.act_congr (by simp [hb, hs, hr, Dev.dated])

/-- Status V closes the gate of the GNSS rank, and no label follows. -/
theorem execNmeaSentence_void {s : State} (hb : s.dev.booted = true) (hr : s.dev.ref.gnss.rmc = none) (utc : Nat) :
    execNmeaSentence (.rmc utc false) s = s.act fun d => d.setSlot 4 { d.slot 4 with gated := true } :=
  State.act_congr (by simp [hb, hr])

theorem execAtomLockLoss_booted {s : State} (hb : s.dev.booted = true) :
    execAtomLockLoss s = s.act fun d => d.setSlot 5 { d.slot 5 with gated := true } :=
  State.act_congr (if_pos hb)

theorem execAtomLockReturn_booted {s : State} (hb : s.dev.booted = true) :
    execAtomLockReturn s = s.act fun d => d.setSlot 5 { d.slot 5 with gated := false } :=
  State.act_congr (if_pos hb)

theorem execEsmcTimeout_booted {s : State} (hb : s.dev.booted = true) (p : Fin 4) :
    execEsmcTimeout p s = s.act fun d => d.setSlot (6 + p) { d.slot (6 + p) with advRank := 255 } :=
  State.act_congr (if_pos hb)

/-- Settles O10: a pulse sets the slot's phase after its activity, and a sentence or a gate changes hidden state alone. -/
theorem pulsesSentencesAndGates : Obligations.PulsesSentencesAndGates := by
  unfold Obligations.PulsesSentencesAndGates
  refine ⟨fun s n stamp hn hb he hp => ?_, fun s utc leap hb hs hr => ?_, fun s utc hb hr => ?_, fun s hb => ?_, fun s hb => ?_,
    fun s p hb => ?_⟩
  · have hslot := (s.dev.pulsed n stamp).setPhase_slot n (s.dev.phaseOf n stamp.nearestSec stamp)
    refine ⟨_, (execRefPulseEdge_pps hn hb he hp stamp).trans (s.act_after _), ?_, ?_, congrArg SlotSt.offset hslot⟩
    · rw [State.after_rd, Dev.setPhase_activity, Dev.pulsed, Dev.rd_setSlot, Dev.rd_wr_same]
      rfl
    · exact (congrArg SlotSt.pulse hslot).trans (congrArg SlotSt.pulse (Dev.slot_setSlot _ _ _))
  · exact ⟨_, (execNmeaSentence_zda hb hs hr utc).trans (s.act_after _), rfl, rfl, rfl⟩
  · exact ⟨_, (execNmeaSentence_void hb hr utc).trans (s.act_after _), congrArg SlotSt.gated (Dev.slot_setSlot _ _ _), rfl⟩
  · exact ⟨_, (execAtomLockLoss_booted hb).trans (s.act_after _), congrArg SlotSt.gated (Dev.slot_setSlot _ _ _), rfl⟩
  · exact ⟨_, (execAtomLockReturn_booted hb).trans (s.act_after _), congrArg SlotSt.gated (Dev.slot_setSlot _ _ _), rfl⟩
  · exact ⟨_, (execEsmcTimeout_booted hb p).trans (s.act_after _), congrArg SlotSt.advRank (Dev.slot_setSlot _ _ _), rfl⟩

end Sys2Proof.Machine

/-! PROOFS. The chapter on the time service: leap events. -/

namespace Sys2Proof.Machine

open Sys2Proof.Claims

/-! ### Leap events (R115, R116) -/

theorem unsgn_lt (w : Nat) (v : Int) : unsgn w v < 2 ^ w := by
  have hpos : (0 : Int) < 2 ^ w := by positivity
  have hlt := Int.emod_lt_of_pos v hpos
  have hnn := Int.emod_nonneg v hpos.ne'
  unfold unsgn
  zify
  rwa [Int.toNat_of_nonneg hnn]

/-- An interrupt leaves the state before, apart from registers and events. -/
theorem State.onlyRegisters_irq (s : State) (f : Fld) : onlyRegisters s (s.after (s.dev.irq f)) := by
  obtain ⟨r, x, h⟩ := s.dev.irq_shape f noUnit []
  rw [h]
  rfl

theorem Dev.ReadsBut.irq {fs : List Fld} {d e : Dev} (h : ReadsBut fs d e) {f : Fld} (hf : f ∈ fs) (unit : Nat) (more : List Byte) :
    ReadsBut fs d (e.irq f unit more) := fun g hq hg => by
  have hne : g.key ≠ f.key := fun hk => hg (hk ▸ List.mem_map_of_mem hf)
  rw [Dev.rd_irq _ _ _ _ _ hq, if_neg hne, h g hq hg]

theorem Dev.armLeap_of_refused {d : Dev} {at_ : Nat} {deletion byPtp : Bool} (h : d.leapRefused at_ deletion byPtp = true) :
    (d.armLeap at_ deletion byPtp).1 = d.irq F.TIM_IRQ_STATUS_LEAP_REFUSED := by
  unfold Dev.armLeap
  rw [if_pos h]

/-- What an event that passes its checks leaves. -/
theorem Dev.armLeap_of_passed {d : Dev} {at_ : Nat} {deletion byPtp : Bool} (h : d.leapRefused at_ deletion byPtp = false) :
    (d.armLeap at_ deletion byPtp).1.rd F.TIM_STATUS_LEAP_ARMED = 1 ∧
      (d.armLeap at_ deletion byPtp).1.rd F.TIM_STATUS_LEAP_DIR = bit deletion ∧
      (d.armLeap at_ deletion byPtp).1.tim.leap =
        some ⟨at_, d.utcOffset, if deletion then d.utcOffset - 1 else d.utcOffset + 1, byPtp, false⟩ := by
  unfold Dev.armLeap
  rw [if_neg (by simp [h])]
  dsimp only
  refine ⟨?_, ?_, ?_⟩
  · rw [Dev.rd_irq _ _ _ _ _ (by decide), if_neg (by decide), Dev.wrBit_eq, Dev.wrBit_eq, Dev.rd_wr_other _ _ (by decide),
      Dev.rd_wr_other _ _ (by decide), Dev.rd_wr_same]
    rfl
  · rw [Dev.rd_irq _ _ _ _ _ (by decide), if_neg (by decide), Dev.wrBit_eq, Dev.wrBit_eq, Dev.rd_wr_other _ _ (by decide),
      Dev.rd_wr_same]
    exact bit_mod_two deletion
  · rw [Dev.irq_tim]
    rfl

/-- A cancel in time disarms the event; the offset in force stays. -/
theorem Dev.cancelLeap_in_time {d : Dev} {l : Leap} (hl : d.tim.leap = some l) (h : d.cancelTooLate = false) :
    d.cancelLeap.1.tim.leap = none ∧ d.cancelLeap.1.rd F.TIM_STATUS_LEAP_ARMED = 0 ∧
      d.cancelLeap.1.rd F.TIM_IRQ_STATUS_LEAP_CANCELLED = 1 ∧
      d.cancelLeap.1.rd F.TIM_STATUS_UTC_OFFSET = d.rd F.TIM_STATUS_UTC_OFFSET := by
  have hcancel : d.cancelLeap.1 = (({ d with tim := { d.tim with leap := none } } : Dev).wr F.TIM_STATUS_LEAP_ARMED 0).irq
      F.TIM_IRQ_STATUS_LEAP_CANCELLED := by simp [Dev.cancelLeap, hl, h]
  rw [hcancel]
  refine ⟨by rw [Dev.irq_tim, Dev.wr_tim], ?_, ?_, ?_⟩
  · rw [Dev.rd_irq _ _ _ _ _ (by decide), if_neg (by decide), Dev.rd_wr_same, Nat.zero_mod]
  · rw [Dev.rd_irq _ _ _ _ _ (by decide), if_pos rfl]
    rfl
  · rw [Dev.rd_irq _ _ _ _ _ (by decide), if_neg (by decide), Dev.rd_wr_other _ _ (by decide)]
    rfl

/-- A cancel that comes too late changes nothing. -/
theorem Dev.cancelLeap_too_late {d : Dev} (h : d.cancelTooLate = true) : d.cancelLeap.1 = d := by
  unfold Dev.cancelLeap
  split
  · rfl
  · rw [if_pos h]

@[simp] theorem Dev.leapDone_tim (d : Dev) (l : Leap) : (d.leapDone l).tim = { d.tim with lastLeap := some l } := by
  simp [Dev.leapDone]

/-- Completing a leap sets LEAP_DONE; of the other fields outside block QUE, the journal's own interrupt bit alone may change. -/
theorem Dev.rd_leapDone (d : Dev) (l : Leap) {g : Fld} (hq : g.inQue = false) (hj : g.key ≠ F.GCTL_IRQ_STATUS_JOURNAL_HIGH.key) :
    (d.leapDone l).rd g = if g.key = F.TIM_IRQ_STATUS_LEAP_DONE.key then 1 else d.rd g := by
  unfold Dev.leapDone
  dsimp only
  rw [Dev.rd_deviceEvent _ _ _ _ hq hj, Dev.rd_irq _ _ _ _ _ hq]
  rfl

/-- The device once a leap whose second was passing behind the armed one is done (R116). -/
def Dev.passingDone (d : Dev) : Dev :=
  match d.tim.passing with
  | some l =>
    if l.stepped && decide (l.at_ + 1 ≤ d.time.tai.sec) then ({ d with tim := { d.tim with passing := none } } : Dev).leapDone l else d
  | none => d

theorem Dev.passingDone_leap (d : Dev) : d.passingDone.tim.leap = d.tim.leap := by
  unfold Dev.passingDone
  split
  · split
    · rw [Dev.leapDone_tim]
    · rfl
  · rfl

theorem Dev.rd_passingDone (d : Dev) {g : Fld} (hq : g.inQue = false) (hj : g.key ≠ F.GCTL_IRQ_STATUS_JOURNAL_HIGH.key)
    (hd : g.key ≠ F.TIM_IRQ_STATUS_LEAP_DONE.key) : d.passingDone.rd g = d.rd g := by
  unfold Dev.passingDone
  split
  · split
    · rw [Dev.rd_leapDone _ _ hq hj, if_neg hd]
      rfl
    · rfl
  · rfl

/-- Completion of the armed leap, after one that was passing. -/
theorem Dev.finishLeap_eq {d : Dev} {l : Leap} (h : d.tim.leap = some l) : d.finishLeap =
    if l.stepped && decide (l.at_ + 1 ≤ d.time.tai.sec) then
      (({ d.passingDone with tim := { d.passingDone.tim with leap := none } } : Dev).wr F.TIM_STATUS_LEAP_ARMED 0).leapDone l
    else d.passingDone := by
  have hfinish : d.finishLeap = match d.passingDone.tim.leap with
      | some l => if l.stepped && decide (l.at_ + 1 ≤ d.time.tai.sec) then
          (({ d.passingDone with tim := { d.passingDone.tim with leap := none } } : Dev).wr F.TIM_STATUS_LEAP_ARMED 0).leapDone l
        else d.passingDone
      | none => d.passingDone := rfl
  rw [hfinish, d.passingDone_leap, h]

/-- Before its second has passed, the armed leap stays. -/
theorem Dev.finishLeap_before {d : Dev} {l : Leap} (h : d.tim.leap = some l) (hs : ¬ l.at_ + 1 ≤ d.time.tai.sec) :
    d.finishLeap = d.passingDone := by
  rw [Dev.finishLeap_eq h, if_neg (by simp [hs])]

/-- Once its second has passed, the leap is done. -/
theorem Dev.finishLeap_after {d : Dev} {l : Leap} (h : d.tim.leap = some l) (hst : l.stepped = true)
    (hs : l.at_ + 1 ≤ d.time.tai.sec) :
    d.finishLeap.tim.leap = none ∧ d.finishLeap.tim.lastLeap = some l ∧ d.finishLeap.rd F.TIM_STATUS_LEAP_ARMED = 0 ∧
      d.finishLeap.rd F.TIM_IRQ_STATUS_LEAP_DONE = 1 := by
  rw [Dev.finishLeap_eq h, if_pos (by simp [hst, hs])]
  refine ⟨by rw [Dev.leapDone_tim, Dev.wr_tim], by rw [Dev.leapDone_tim], ?_, ?_⟩
  · rw [Dev.rd_leapDone _ _ (by decide) (by decide), if_neg (by decide), Dev.rd_wr_same, Nat.zero_mod]
  · rw [Dev.rd_leapDone _ _ (by decide) (by decide), if_pos rfl]

/-- The device with a leap's new offset in force. -/
def Dev.leapStepped (d : Dev) (l : Leap) : Dev :=
  (({ d with tim := { d.tim with leap := some { l with stepped := true } } } : Dev).wr F.TIM_STATUS_UTC_OFFSET
    (unsgn 16 l.new)).irq F.TIM_IRQ_STATUS_OFFSET_CHANGE

/-- At LEAP_AT the new offset comes into force; under MANUAL, MANUAL_OFFSET moves with it. -/
theorem Dev.stepLeap_eq {d : Dev} {l : Leap} (h : d.tim.leap = some l) (hst : l.stepped = false) (hs : l.at_ ≤ d.time.tai.sec) :
    d.stepLeap = if (d.leapStepped l).on F.TIM_UTC_CFG_SRC then
      (d.leapStepped l).wrBoth F.TIM_UTC_CFG_MANUAL_OFFSET (unsgn 16 l.new) else d.leapStepped l := by
  unfold Dev.stepLeap
  rw [h]
  exact if_pos (by simp [hst, hs])

/-- What the step of a leap leaves. -/
theorem Dev.stepLeap_reached {d : Dev} {l : Leap} (h : d.tim.leap = some l) (hst : l.stepped = false)
    (hs : l.at_ ≤ d.time.tai.sec) :
    d.stepLeap.tim.leap = some { l with stepped := true } ∧ d.stepLeap.rd F.TIM_STATUS_UTC_OFFSET = unsgn 16 l.new ∧
      d.stepLeap.rd F.TIM_IRQ_STATUS_OFFSET_CHANGE = 1 ∧ d.stepLeap.time = d.time := by
  have hstepped : (d.leapStepped l).tim.leap = some { l with stepped := true } ∧
      (d.leapStepped l).rd F.TIM_STATUS_UTC_OFFSET = unsgn 16 l.new ∧
      (d.leapStepped l).rd F.TIM_IRQ_STATUS_OFFSET_CHANGE = 1 ∧ (d.leapStepped l).time = d.time := by
    unfold Dev.leapStepped
    refine ⟨by rw [Dev.irq_tim, Dev.wr_tim], ?_, ?_, by rw [Dev.irq_time, Dev.wr_time]⟩
    · rw [Dev.rd_irq _ _ _ _ _ (by decide), if_neg (by decide)]
      exact Dev.rd_wr_fits _ (unsgn_lt 16 _)
    · rw [Dev.rd_irq _ _ _ _ _ (by decide), if_pos rfl]
      rfl
  rw [Dev.stepLeap_eq h hst hs]
  split
  · simpa (disch := decide) only [Dev.wrBoth, Dev.rd_wr_other, Dev.rd_wrB, Dev.wr_tim, Dev.wrB_tim, Dev.wr_time, Dev.wrB_time]
      using hstepped
  · exact hstepped

/-- A leap that has stepped does not step again. -/
theorem Dev.stepLeap_stepped {d : Dev} {l : Leap} (h : d.tim.leap = some l) (hst : l.stepped = true) : d.stepLeap = d := by
  simp [Dev.stepLeap, h, hst]

section Commands

variable {s : State} (hb : s.dev.booted = true)
include hb

theorem execLeapArm_fraction (deletion : Bool) {a : Tai} (h : a.ns ≠ 0) :
    execLeapArm deletion a s = s.act fun d => d.irq F.TIM_IRQ_STATUS_LEAP_REFUSED :=
  State.act_congr (by simp [hb, h])

theorem execLeapArm_whole (deletion : Bool) {a : Tai} (h : a.ns = 0) :
    execLeapArm deletion a s = s.act fun d => (d.armLeap a.sec deletion false).1 :=
  State.act_congr (by simp [hb, h])

theorem execLeapArm_refused {deletion : Bool} {a : Tai} (h : a.ns ≠ 0 ∨ s.dev.leapRefused a.sec deletion false = true) :
    execLeapArm deletion a s = s.act fun d => d.irq F.TIM_IRQ_STATUS_LEAP_REFUSED := by
  by_cases hns : a.ns = 0
  · exact (execLeapArm_whole hb deletion hns).trans (State.act_congr (Dev.armLeap_of_refused (h.resolve_left (absurd hns))))
  · exact execLeapArm_fraction hb deletion hns

theorem execLeapCancel_booted : execLeapCancel s = s.act fun d => d.cancelLeap.1 := State.act_congr (if_pos hb)

theorem execLeapTakesEffect_booted : execLeapTakesEffect s = s.act fun d => d.stepLeap.finishLeap := State.act_congr (if_pos hb)

end Commands

/-- A cancel that comes too late changes nothing, also before BOOTSTRAP has ended. -/
theorem execLeapCancel_too_late {s : State} (h : s.dev.cancelTooLate = true) : execLeapCancel s = s.act id :=
  State.act_congr (by
    split
    · exact Dev.cancelLeap_too_late h
    · rfl)

/-- Settles O14: each command comes down to one operation on the leap, and what that leaves is said by its own lemma. -/
theorem leapEvents : Obligations.LeapEvents := by
  unfold Obligations.LeapEvents
  refine ⟨fun s deletion a hb hns hok => ?_, fun s deletion a hb hbad => ?_, fun s l hb hl hin => ?_, fun s hlate => ?_,
    fun s l hb hl hst hat => ?_, fun s l hb hl hst hpast => ?_⟩
  · exact ⟨_, (execLeapArm_whole hb deletion hns).trans (s.act_after _), Dev.armLeap_of_passed hok⟩
  · refine ⟨_, (execLeapArm_refused hb hbad).trans (s.act_after _), ?_, s.onlyRegisters_irq _,
      (Dev.ReadsBut.refl.irq (List.mem_singleton_self _) _ _).registersBut⟩
    rw [State.after_rd, Dev.rd_irq _ _ _ _ _ (by decide), if_pos rfl]
    rfl
  · exact ⟨_, (execLeapCancel_booted hb).trans (s.act_after _), Dev.cancelLeap_in_time hl hin⟩
  · exact ⟨_, (execLeapCancel_too_late hlate).trans (s.act_after _), rfl⟩
  · obtain ⟨hleap, hoffset, hchange, htime⟩ := Dev.stepLeap_reached hl hst (Nat.le_of_eq hat)
    have hpassing := Dev.finishLeap_before hleap (by rw [htime, ← hat]; exact Nat.not_succ_le_self _)
    refine ⟨_, (execLeapTakesEffect_booted hb).trans (s.act_after _), ?_, ?_, ?_⟩
    · rw [State.after_rd, hpassing, Dev.rd_passingDone _ (by decide) (by decide) (by decide), hoffset]
    · exact (congrArg (fun e : Dev => e.tim.leap) hpassing).trans ((Dev.passingDone_leap _).trans hleap)
    · rw [State.after_rd, hpassing, Dev.rd_passingDone _ (by decide) (by decide) (by decide), hchange]
  · have hstay := Dev.stepLeap_stepped hl hst
    have hdone := Dev.finishLeap_after hl hst hpast
    rw [← hstay] at hdone
    exact ⟨_, (execLeapTakesEffect_booted hb).trans (s.act_after _), hdone⟩

end Sys2Proof.Machine

/-! PROOFS. The chapter on the time service: PTP messages sent and PTP timeouts. -/

namespace Sys2Proof.Machine

open Sys2Proof.Claims

/-! ### Numbers in a message (R4) -/

theorem toBE_length (n v : Nat) : (toBE n v).length = n := by
  induction n with
  | zero => rfl
  | succ n ih => rw [toBE, List.length_cons, ih]

/-- Bytes read most significant first, after a number that has been read before them. -/
theorem foldl_toBE (n v a : Nat) : (toBE n v).foldl (fun a b => a * 256 + b.toNat) a = a * 256 ^ n + v % 256 ^ n := by
  induction n generalizing a with
  | zero => simp [toBE, Nat.mod_one]
  | succ n ih =>
    have hbyte : (byteOf (v / 256 ^ n)).toNat = v / 256 ^ n % 256 := by simp [byteOf]
    rw [toBE, List.foldl_cons, ih, hbyte, Nat.pow_succ, Nat.mod_mul]
    ring

theorem ofBE_toBE (n v : Nat) : ofBE (toBE n v) = v % 256 ^ n := by
  rw [ofBE, foldl_toBE, Nat.zero_mul, Nat.zero_add]

/-- A number reads where it was written. -/
theorem beAt_append_toBE (p r : List Byte) (n v : Nat) : beAt (p ++ toBE n v ++ r) p.length n = v % 256 ^ n := by
  have h := slice_append p (toBE n v) r
  rw [toBE_length] at h
  rw [beAt, h, ofBE_toBE]

/-- A PTP message says its type. -/
theorem Dev.ptpMessage_kind (d : Dev) (p : Nat) {kind : Nat} (h : kind < 16) (flags : Nat) (corr : Int) (seq : Nat) (interval : Int)
    (body tlv : List Byte) : (ptpHead (d.ptpMessage p kind flags corr seq interval body tlv)).kind = kind := by
  have hfirst (rest : List Byte) : beAt (toBE 1 kind ++ rest) 0 1 % 16 = kind := by
    have hat := beAt_append_toBE [] rest 1 kind
    rw [List.nil_append, List.length_nil] at hat
    omega
  unfold Dev.ptpMessage
  dsimp only
  split
  · simp only [List.append_assoc]
    exact hfirst _
  · simp only [List.append_assoc]
    exact hfirst _

/-! ### The transmitter (R179) -/

theorem Dev.rd_tally (d : Dev) (f g : Fld) (n : Nat) : (d.tally f n).rd g = if g.key = f.key then satAdd f.w (d.rd f) n else d.rd g :=
  Dev.rd_count d f g n

theorem Dev.ReadsBut.tally {fs : List Fld} {d e : Dev} (h : ReadsBut fs d e) {f : Fld} (hf : f ∈ fs) (n : Nat) :
    ReadsBut fs d (e.tally f n) := fun g hq hg => by
  have hne : g.key ≠ f.key := fun hk => hg (hk ▸ List.mem_map_of_mem hf)
  rw [Dev.rd_tally, if_neg hne, h g hq hg]

/-- A network port's frame is counted in its own counter. -/
theorem Dev.netCount_port (d : Dev) (p : Fin 4) (c n : Nat) : d.netCount p c n = d.tally (F.NET_COUNT_COUNT.at [p, c]) n :=
  if_neg (by omega)

theorem Dev.netCount_shape (d : Dev) (p c n : Nat) : ∃ r x, d.netCount p c n = { d with regs := r, odp := x } := by
  unfold Dev.netCount
  split
  · exact ⟨_, _, rfl⟩
  · exact ⟨_, _, rfl⟩

theorem Dev.send_free {d : Dev} {p cls : Nat} (h : d.txFree p cls = true) (o : Out) :
    d.send p cls o = (d.emit o).netCount p 14 := if_pos h

theorem Dev.send_waits {d : Dev} {p cls : Nat} (h : d.txFree p cls = false) (o : Out) :
    d.send p cls o = d.setPort p { d.port p with txq := (d.port p).txq ++ [⟨cls, none, o⟩] } := if_neg (by simp [h])

/-- Sending touches the counters, the port's queue and what is sent. -/
theorem Dev.send_shape (d : Dev) (p cls : Nat) (o : Out) :
    ∃ r x n u, d.send p cls o = { d with regs := r, odp := x, net := n, out := u } := by
  unfold Dev.send
  split
  · obtain ⟨r, x, h⟩ := (d.emit o).netCount_shape p 14 1
    exact ⟨r, x, d.net, _, h⟩
  · exact ⟨d.regs, d.odp, _, d.out, rfl⟩

@[simp] theorem Dev.send_tim (d : Dev) (p cls : Nat) (o : Out) : (d.send p cls o).tim = d.tim := by
  obtain ⟨r, x, n, u, h⟩ := d.send_shape p cls o
  rw [h]

@[simp] theorem Dev.send_mode (d : Dev) (p cls : Nat) (o : Out) : (d.send p cls o).mode = d.mode := by
  obtain ⟨r, x, n, u, h⟩ := d.send_shape p cls o
  rw [h]

@[simp] theorem Dev.send_time (d : Dev) (p cls : Nat) (o : Out) : (d.send p cls o).time = d.time := by
  obtain ⟨r, x, n, u, h⟩ := d.send_shape p cls o
  rw [h]

/-- A frame sent on a network port moves the counter of the frames that the port has sent, and no other field. -/
theorem Dev.ReadsBut.send {d e : Dev} {p : Fin 4} (h : ReadsBut [F.NET_COUNT_COUNT.at [p, 14]] d e) (cls : Nat) (o : Out) :
    ReadsBut [F.NET_COUNT_COUNT.at [p, 14]] d (e.send p cls o) := by
  unfold Dev.send
  split
  · rw [Dev.netCount_port]
    exact Dev.ReadsBut.tally (e := e.emit o) h (List.mem_singleton_self _) 1
  · exact h

/-- What a frame sent leaves: it has left, or it waits in the port's queue. -/
theorem Dev.send_leaves (d : Dev) (p cls : Nat) (o : Out) :
    (d.txFree p cls = true → (d.send p cls o).out = d.out ++ [o] ∧ (d.send p cls o).net = d.net) ∧
    (d.txFree p cls = false → (d.send p cls o).out = d.out ∧
      (d.send p cls o).port p = { d.port p with txq := (d.port p).txq ++ [⟨cls, none, o⟩] }) := by
  refine ⟨fun h => ?_, fun h => ?_⟩
  · obtain ⟨r, x, hc⟩ := (d.emit o).netCount_shape p 14 1
    rw [Dev.send_free h, hc]
    exact ⟨rfl, rfl⟩
  · rw [Dev.send_waits h]
    exact ⟨rfl, Tbl.get_put_same _ _ _ _⟩

/-- The device with another state of its time service. -/
def Dev.withTim (d : Dev) (t : TimSt) : Dev := { d with tim := t }

@[simp] theorem Dev.withTim_tim (d : Dev) (t : TimSt) : (d.withTim t).tim = t := rfl

@[simp] theorem Dev.withTim_out (d : Dev) (t : TimSt) : (d.withTim t).out = d.out := rfl

/-- A port's state of PTP is part of the time service. -/
@[simp] theorem Dev.withTim_setPtp (d : Dev) (p : Nat) (x : PtpPort) (t : TimSt) : (d.setPtp p x).withTim t = d.withTim t := rfl

theorem Dev.ReadsBut.withTim {fs : List Fld} {d e : Dev} (h : ReadsBut fs d e) (t : TimSt) : ReadsBut fs d (e.withTim t) := h

/-- What is sent from a device that differs from the one before in its time service alone. -/
theorem sends_of_tim (s : State) (t : TimSt) (p cls : Nat) (o : Out) : sends s.dev (s.after ((s.dev.withTim t).send p cls o)) p cls o := by
  obtain ⟨hfree, hwaits⟩ := (s.dev.withTim t).send_leaves p cls o
  exact ⟨fun h => (hfree h).1, fun h => ⟨(hwaits h).1, congrArg NetPortSt.txq (hwaits h).2⟩⟩

/-! ### Two frames one after the other (R179) -/

/-- The counter of a port's frames sent lies apart from the relays' bits and from the port's PTP transport. -/
theorem txFrames_apart : ∀ p : Fin 4, ∀ g ∈ [F.NET_BYPASS_STATUS_A_SETTLING, F.NET_BYPASS_STATUS_B_SETTLING,
    F.TIM_PTP_CFG_TRANSPORT.at [p]], g.inQue = false ∧ g.key ∉ [F.NET_COUNT_COUNT.at [p, 14]].map Fld.key := by decide

/-- What `e` shows of two frames that `d` has sent on a port, of a class and then of one no higher: both have left, or the second waits,
or both wait. -/
def Dev.sendsTwo (d e : Dev) (p cls c : Nat) (o o' : Out) : Prop :=
  (d.txFree p c = true → e.out = d.out ++ [o, o']) ∧
  (d.txFree p cls = true → d.txFree p c = false → e.out = d.out ++ [o] ∧ (e.port p).txq = (d.port p).txq ++ [⟨c, none, o'⟩]) ∧
  (d.txFree p cls = false → e.out = d.out ∧ (e.port p).txq = (d.port p).txq ++ [⟨cls, none, o⟩, ⟨c, none, o'⟩])

section Free

variable {d : Dev} {p : Fin 4} {cls c : Nat} {o : Out}

/-- Where a class is free, every higher one is. -/
theorem Dev.txFree_of_le {p : Nat} (hle : c ≤ cls) (h : d.txFree p c = true) : d.txFree p cls = true := by
  simp only [Dev.txFree, Bool.and_eq_true, Bool.not_eq_true', List.any_eq_false, decide_eq_true_eq] at h ⊢
  obtain ⟨hstop, hq⟩ := h
  exact ⟨hstop, fun f hf hcls => hq f hf (Nat.le_trans hle hcls)⟩

theorem Dev.on_send_apart {g : Fld} (h : g.inQue = false ∧ g.key ∉ [F.NET_COUNT_COUNT.at [p, 14]].map Fld.key) :
    (d.send p cls o).on g = d.on g := by
  rw [Dev.on_eq, Dev.on_eq, (Dev.ReadsBut.refl (d := d)).send cls o g h.1 h.2]

/-- A frame that has left leaves the transmitter as free as it was. -/
theorem Dev.txFree_send_free (h : d.txFree p cls = true) : (d.send p cls o).txFree p c = d.txFree p c := by
  have hnet : (d.send p cls o).net = d.net := ((d.send_leaves p cls o).1 h).2
  have ha := Dev.on_send_apart (d := d) (cls := cls) (o := o) (txFrames_apart p _ (.head _))
  have hb := Dev.on_send_apart (d := d) (cls := cls) (o := o) (txFrames_apart p _ (.tail _ (.head _)))
  simp only [Dev.txFree, Dev.paused, Dev.portSettles, Dev.settling, Dev.port, hnet, Dev.send_time, ha, hb]

/-- Behind a frame that waits, no class up to its own is free. -/
theorem Dev.txFree_send_waits (h : d.txFree p cls = false) (hle : c ≤ cls) : (d.send p cls o).txFree p c = false := by
  have hport := ((d.send_leaves p cls o).2 h).2
  simp [Dev.txFree, hport, hle]

/-- Two frames sent one after the other, the second of a class no higher. The time service may change between the two. -/
theorem Dev.sendsTwo_send (hle : c ≤ cls) (o' : Out) (t : TimSt) :
    d.sendsTwo (((d.send p cls o).withTim t).send p c o') p cls c o o' := by
  obtain ⟨hfree, hwaits⟩ := d.send_leaves p cls o
  obtain ⟨hfree', hwaits'⟩ := ((d.send p cls o).withTim t).send_leaves p c o'
  refine ⟨fun hc => ?_, fun hcls hc => ?_, fun hcls => ?_⟩
  · have hcls := Dev.txFree_of_le hle hc
    rw [(hfree' ((Dev.txFree_send_free hcls).trans hc)).1, Dev.withTim_out, (hfree hcls).1, List.append_assoc]
    rfl
  · obtain ⟨hout, hnet⟩ := hfree hcls
    obtain ⟨hout', hport'⟩ := hwaits' ((Dev.txFree_send_free hcls).trans hc)
    refine ⟨hout'.trans hout, ?_⟩
    rw [hport']
    exact congrArg (fun n : NetSt => (n.ports.get {} p).txq ++ [⟨c, none, o'⟩]) hnet
  · obtain ⟨hout, hport⟩ := hwaits hcls
    obtain ⟨hout', hport'⟩ := hwaits' (Dev.txFree_send_waits hcls hle)
    refine ⟨hout'.trans hout, ?_⟩
    rw [hport']
    refine (congrArg (fun x : NetPortSt => x.txq ++ [⟨c, none, o'⟩]) hport).trans ?_
    rw [List.append_assoc]
    rfl

end Free

/-! ### What a port sends (R119, R124, R129) -/

/-- The class of a PTP message: an event, or a general message. -/
def ptpClass (m : List Byte) : Nat := if (ptpHead m).kind ≤ 1 then clsPtpEvent else clsPtpGeneral

theorem ptpClass_event {m : List Byte} (h : (ptpHead m).kind ≤ 1) : ptpClass m = 7 := if_pos h

theorem ptpClass_general {m : List Byte} (h : 1 < (ptpHead m).kind) : ptpClass m = 6 := if_neg (Nat.not_le.2 h)

theorem Dev.launchPtp_eq (d : Dev) (p : Nat) (dest m : List Byte) : d.launchPtp p dest m = d.send p (ptpClass m) (.ptp p dest m) := rfl

/-- A unit that is no standby sends what it computes; its series may note it first. -/
theorem Dev.sendPtp_active {d : Dev} (h : d.standby = false) (p : Nat) (launch : Tai) (m : List Byte) :
    ∃ t : TimSt, t.ports = d.tim.ports ∧
      d.sendPtp p launch m = (d.withTim t).send p (ptpClass m) (.ptp p (d.ptpDest p) m) := by
  unfold Dev.sendPtp
  by_cases hpair : d.on F.PAIR_CFG_EN
  · rw [if_pos hpair]
    exact ⟨{ d.tim with series := d.tim.series ++ [(launch, p, seriesBytes m)] }, rfl, if_neg (by exact Bool.eq_false_iff.1 h)⟩
  · rw [if_neg hpair]
    exact ⟨d.tim, rfl, if_neg (Bool.eq_false_iff.1 h)⟩

@[simp] theorem Dev.send_standby (d : Dev) (p cls : Nat) (o : Out) : (d.send p cls o).standby = d.standby := by
  simp only [Dev.standby, Dev.roleMode, Dev.send_mode]

theorem Dev.send_ptpDest (d : Dev) (p : Fin 4) (cls : Nat) (o : Out) : (d.send p cls o).ptpDest p = d.ptpDest p := by
  rw [Dev.ptpDest, Dev.on_send_apart (txFrames_apart p _ (by simp)), Dev.ptpDest]

theorem Dev.setPtp_ptpDest (d : Dev) (p : Nat) (x : PtpPort) : (d.setPtp p x).ptpDest p = d.ptpDest p := rfl

theorem Dev.ptp_setPtp (d : Dev) (p : Nat) (x : PtpPort) : (d.setPtp p x).ptp p = x := Tbl.get_put_same _ _ _ _

/-- A message sent from a device that differs from the one before in its time service alone: what is sent, what the port's state of PTP
is, and which register has moved. -/
theorem send_sends (s : State) (p : Fin 4) {t : TimSt} {x : PtpPort} (hx : t.ports.get {} p = x) (cls : Nat) (o : Out) :
    let e := (s.dev.withTim t).send p cls o
    sends s.dev (s.after e) p cls o ∧ (s.after e).dev.ptp p = x ∧ registersBut s (s.after e) [F.NET_COUNT_COUNT.at [p, 14]] := by
  refine ⟨sends_of_tim s t p cls o, ?_, (Dev.ReadsBut.refl.withTim t |>.send cls o).registersBut⟩
  exact (congrArg (fun u : TimSt => u.ports.get {} p.val) (Dev.send_tim (s.dev.withTim t) p cls o)).trans hx

/-- One message of a series sent by a unit that is no standby. -/
theorem sendPtp_sends {s : State} (h : s.dev.standby = false) (p : Fin 4) (x : PtpPort) (launch : Tai) {m : List Byte} {cls : Nat}
    (hm : ptpClass m = cls) :
    let e := (s.dev.setPtp p x).sendPtp p launch m
    sends s.dev (s.after e) p cls (.ptp p (s.dev.ptpDest p) m) ∧ (s.after e).dev.ptp p = x ∧
      registersBut s (s.after e) [F.NET_COUNT_COUNT.at [p, 14]] := by
  obtain ⟨t, hports, hsend⟩ := Dev.sendPtp_active (d := s.dev.setPtp p x) h p launch m
  dsimp only
  rw [hsend, hm]
  exact send_sends s p (t := t) ((congrArg (·.get {} p.val) hports).trans (s.dev.ptp_setPtp p x)) cls _

/-- Two messages of a series, an event and a general message, sent by a unit that is no standby. -/
theorem sendPtp_sendsTwo {s : State} (h : s.dev.standby = false) (p : Fin 4) (x : PtpPort) (launch : Tai) {m m' : List Byte}
    (hm : ptpClass m = 7) (hm' : ptpClass m' = 6) :
    let e := ((s.dev.setPtp p x).sendPtp p launch m).sendPtp p launch m'
    s.dev.sendsTwo e p 7 6 (.ptp p (s.dev.ptpDest p) m) (.ptp p (s.dev.ptpDest p) m') ∧ e.ptp p = x ∧
      Dev.ReadsBut [F.NET_COUNT_COUNT.at [p, 14]] s.dev e := by
  obtain ⟨t, hports, hsend⟩ := Dev.sendPtp_active (d := s.dev.setPtp p x) h p launch m
  rw [Dev.withTim_setPtp, Dev.setPtp_ptpDest, hm] at hsend
  have hstandby : ((s.dev.setPtp p x).sendPtp p launch m).standby = false := by
    rw [hsend, Dev.send_standby]
    exact h
  obtain ⟨t', hports', hsend'⟩ := Dev.sendPtp_active hstandby p launch m'
  rw [hsend, Dev.send_ptpDest, hm'] at hsend'
  rw [hsend, Dev.send_tim, Dev.withTim_tim, hports] at hports'
  dsimp only
  rw [hsend, hsend']
  refine ⟨(s.dev.withTim t).sendsTwo_send (by decide) _ t', ?_, ((Dev.ReadsBut.refl.withTim t).send 7 _ |>.withTim t').send 6 _⟩
  rw [Dev.ptp, Dev.send_tim, Dev.withTim_tim, hports']
  exact s.dev.ptp_setPtp p x

/-! ### Entering a port state (R122) -/

theorem Dev.ReadsBut.trans {fs : List Fld} {d e e' : Dev} (h : ReadsBut fs d e) (h' : ReadsBut fs e e') : ReadsBut fs d e' :=
  fun g hq hg => (h' g hq hg).trans (h g hq hg)

theorem Dev.ReadsBut.mono {fs gs : List Fld} {d e : Dev} (h : ReadsBut fs d e) (hs : fs ⊆ gs) : ReadsBut gs d e :=
  fun g hq hg => h g hq fun hk => hg (List.map_subset _ hs hk)

/-- The interrupt bit of a PTP port. -/
def ptpIrq (p : Nat) : Fld := { F.TIM_IRQ_STATUS_PTP_PORT0 with lo := 12 + p }

theorem Dev.ptpSticky_eq (d : Dev) (f : Fld) (p : Nat) : d.ptpSticky f p = (d.sticky (f.at [p]) p).wr (ptpIrq p) 1 := rfl

theorem Dev.ptpSticky_reads (d : Dev) (f : Fld) (p : Nat) : ReadsBut [f.at [p], ptpIrq p] d (d.ptpSticky f p) :=
  (ReadsBut.refl.sticky (.head _) p).wr (.tail _ (.head _)) 1

@[simp] theorem Dev.ptpSticky_tim (d : Dev) (f : Fld) (p : Nat) : (d.ptpSticky f p).tim = d.tim := by
  rw [Dev.ptpSticky_eq, Dev.wr_tim, Dev.sticky_tim]

@[simp] theorem Dev.showTimeRole_tim (d : Dev) : d.showTimeRole.tim = d.tim := by
  unfold Dev.showTimeRole
  extract_lets m f r
  split
  · rfl
  · rw [Dev.irq_tim, Dev.wr_tim]

@[simp] theorem Dev.loseSlot_tim (d : Dev) (n : Nat) : (d.loseSlot n).tim = d.tim := by
  unfold Dev.loseSlot Dev.toLost
  dsimp only
  split
  · rw [Dev.sticky_tim]
    rfl
  · rfl

/-- What TIME_ROLE shows, and the event of its change. -/
def roleFlds : List Fld := [F.TIM_STATUS_TIME_ROLE, F.TIM_IRQ_STATUS_ROLE_CHANGE]

theorem Dev.showTimeRole_reads (d : Dev) : ReadsBut roleFlds d d.showTimeRole := by
  unfold Dev.showTimeRole
  extract_lets m f r
  split
  · exact ReadsBut.refl
  · exact (ReadsBut.refl.wr (.head _) _).irq (.tail _ (.head _)) _ _

/-- What a reference slot shows of its loss. -/
def lossFlds (n : Nat) : List Fld :=
  [F.REF_SLOT_STATUS_STATE.at [n], F.REF_SLOT_STATUS_ACTIVITY.at [n], F.REF_SLOT_STATUS_DISAGREE.at [n],
    F.REF_SLOT_STICKY_LOS_SEEN.at [n]]

/-- A slot that loses its activity is lost, or was not running. -/
theorem Dev.loseSlot_reads (d : Dev) (n : Nat) : ReadsBut (lossFlds n) d (d.loseSlot n) := by
  unfold Dev.loseSlot Dev.toLost
  dsimp only
  split
  · exact d.lost_reads n
  · exact ReadsBut.refl.wr (.tail _ (.head _)) 0

/-- What entering a state touches beside PORT_STATE. -/
def enterFlds (p : Nat) : List Fld :=
  [F.TIM_PTP_STICKY_STATE_CHANGE_SEEN.at [p], ptpIrq p] ++ (lossFlds (10 + p) ++ roleFlds)

/-- A port enters a state other than UNCALIBRATED and SLAVE: what this leaves of the time service and of the registers. -/
theorem Dev.setPtpState_enters {d : Dev} {p v : Nat} (hne : d.ptpState p ≠ v) (h8 : v ≠ 8) (h9 : v ≠ 9) :
    (d.setPtpState p v).tim = d.tim ∧
      ReadsBut (enterFlds p) (d.wr (F.TIM_PTP_STATUS_PORT_STATE.at [p]) v) (d.setPtpState p v) := by
  have hshow (e : Dev) : ReadsBut (enterFlds p) e ((e.ptpSticky F.TIM_PTP_STICKY_STATE_CHANGE_SEEN p).showTimeRole) :=
    ((Dev.ptpSticky_reads e _ p).mono (List.subset_append_left _ _)).trans
      ((Dev.showTimeRole_reads _).mono fun _ hg => List.mem_append_right _ (List.mem_append_right _ hg))
  unfold Dev.setPtpState
  rw [if_neg hne]
  simp only [h8, h9, if_false]
  split
  · refine ⟨by simp, ReadsBut.trans ?_ (hshow _)⟩
    exact (Dev.loseSlot_reads _ _).mono fun _ hg => List.mem_append_right _ (List.mem_append_left _ hg)
  · exact ⟨by simp, hshow _⟩

/-- What entering a state touches beside PORT_STATE is neither PORT_STATE nor TIMEOUT_SEEN. -/
theorem enterFlds_apart : ∀ p : Fin 4, ∀ g ∈ [F.TIM_PTP_STATUS_PORT_STATE.at [p], F.TIM_PTP_STICKY_TIMEOUT_SEEN.at [p]],
    g.inQue = false ∧ g.key ∉ (enterFlds p).map Fld.key := by decide

/-- The port is in the state that it entered. -/
theorem Dev.ptpState_setPtpState {d : Dev} {p : Fin 4} {v : Nat} (hne : d.ptpState p ≠ v) (h8 : v ≠ 8) (h9 : v ≠ 9) (hv : v < 16) :
    (d.setPtpState p v).ptpState p = v := by
  obtain ⟨hq, hg⟩ := enterFlds_apart p _ (.head _)
  rw [Dev.ptpState, (Dev.setPtpState_enters hne h8 h9).2 _ hq hg]
  exact Dev.rd_wr_fits _ hv

/-- What the registers show of a port's master. -/
def masterFlds (p : Nat) : List Fld :=
  [F.TIM_PTP_STATUS_BOUND_TLV_SEEN.at [p], F.TIM_PTP_STATUS_MASTER_CLASS.at [p], F.TIM_PTP_STATUS_MASTER_ACCURACY.at [p],
    F.TIM_PTP_STATUS_STEPS_REMOVED.at [p]]

theorem Dev.noMaster_reads (d : Dev) (p : Nat) : ReadsBut (masterFlds p) d (d.noMaster p) :=
  ((((show ReadsBut (masterFlds p) d (d.setPtp p { d.ptp p with master := none }) from ReadsBut.refl).wr (.head _) 0).wr
    (.tail _ (.head _)) 255).wr (.tail _ (.tail _ (.head _))) 0xFE).wr (.tail _ (.tail _ (.tail _ (.head _)))) 0

theorem Dev.noMaster_master (d : Dev) (p : Nat) : ((d.noMaster p).ptp p).master = none :=
  congrArg PtpPort.master (d.ptp_setPtp p _)

/-- What a port shows of its master lies apart from its state and from TIMEOUT_SEEN. -/
theorem masterFlds_apart : ∀ p : Fin 4, ∀ g ∈ [F.TIM_PTP_STATUS_PORT_STATE.at [p], F.TIM_PTP_STICKY_TIMEOUT_SEEN.at [p]],
    g.inQue = false ∧ g.key ∉ (masterFlds p).map Fld.key := by decide

/-! ### The commands (R119, R122, R124, R129) -/

/-- A port in UNCALIBRATED or SLAVE: it follows a master. -/
def Dev.followsMaster (d : Dev) (p : Nat) : Prop := d.ptpState p = 8 ∨ d.ptpState p = 9

theorem Dev.followsMaster.ne {d : Dev} {p v : Nat} (h : d.followsMaster p) (h8 : v ≠ 8) (h9 : v ≠ 9) : d.ptpState p ≠ v := by
  rcases h with h | h
  · exact h.trans_ne h8.symm
  · exact h.trans_ne h9.symm

/-- The announce receipt timeout of a port that follows a master: it is shown, and `foreigns` are the foreign masters left. -/
def Dev.announceTimedOut (d : Dev) (p : Nat) (foreigns : List Foreign) : Dev :=
  (d.ptpSticky F.TIM_PTP_STICKY_TIMEOUT_SEEN p).setPtp p { (d.ptpSticky F.TIM_PTP_STICKY_TIMEOUT_SEEN p).ptp p with foreigns := foreigns }

theorem execAnnounceReceiptTimeout_following {s : State} {p : Fin 4} (hb : s.dev.booted = true) (hf : s.dev.followsMaster p) :
    ∃ foreigns, execAnnounceReceiptTimeout p s = s.act fun d => ((d.announceTimedOut p foreigns).noMaster p).setPtpState p 4 :=
  ⟨_, State.act_congr ((if_neg (by simp [hb])).trans (if_pos hf))⟩

/-- TIMEOUT_SEEN and a port's interrupt bit lie apart from the port's state. -/
theorem timeoutFlds_apart : ∀ p : Fin 4, (F.TIM_PTP_STATUS_PORT_STATE.at [p]).inQue = false ∧
    (F.TIM_PTP_STATUS_PORT_STATE.at [p]).key ∉ [F.TIM_PTP_STICKY_TIMEOUT_SEEN.at [p], ptpIrq p].map Fld.key ∧
    (F.TIM_PTP_STICKY_TIMEOUT_SEEN.at [p]).inQue = false ∧ (F.TIM_PTP_STICKY_TIMEOUT_SEEN.at [p]).key ≠ (ptpIrq p).key := by decide

/-- TIMEOUT_SEEN is shown, and the port's state is as it was until it changes. -/
theorem Dev.rd_announceTimedOut (d : Dev) (p : Fin 4) (foreigns : List Foreign) :
    (d.announceTimedOut p foreigns).rd (F.TIM_PTP_STICKY_TIMEOUT_SEEN.at [p]) = 1 ∧
      (d.announceTimedOut p foreigns).ptpState p = d.ptpState p := by
  obtain ⟨hstate, hapart, htimeout, hirq⟩ := timeoutFlds_apart p
  refine ⟨?_, d.ptpSticky_reads _ p _ hstate hapart⟩
  change (d.ptpSticky F.TIM_PTP_STICKY_TIMEOUT_SEEN p).rd _ = 1
  rw [Dev.ptpSticky_eq, Dev.rd_wr_other _ _ hirq, Dev.rd_sticky _ _ _ _ _ htimeout, if_pos rfl]
  rfl

/-- After the timeout the port listens, without a master. -/
theorem Dev.announceTimedOut_listens {d : Dev} {p : Fin 4} (hf : d.followsMaster p) (foreigns : List Foreign) :
    let e := ((d.announceTimedOut p foreigns).noMaster p).setPtpState p 4
    e.ptpState p = 4 ∧ (e.ptp p).master = none ∧ e.rd (F.TIM_PTP_STICKY_TIMEOUT_SEEN.at [p]) = 1 := by
  obtain ⟨hseen, hst⟩ := d.rd_announceTimedOut p foreigns
  have hstate := masterFlds_apart p _ (.head _)
  have htimeout := masterFlds_apart p _ (.tail _ (.head _))
  have htimeout' := enterFlds_apart p _ (.tail _ (.head _))
  have hne : ((d.announceTimedOut p foreigns).noMaster p).ptpState p ≠ 4 := by
    rw [Dev.ptpState, Dev.noMaster_reads _ _ _ hstate.1 hstate.2]
    exact hst.trans_ne (hf.ne (by decide) (by decide))
  obtain ⟨htim, hreads⟩ := Dev.setPtpState_enters hne (by decide) (by decide)
  refine ⟨Dev.ptpState_setPtpState hne (by decide) (by decide) (by decide), ?_, ?_⟩
  · rw [Dev.ptp, htim]
    exact Dev.noMaster_master _ _
  · rw [hreads _ htimeout'.1 htimeout'.2, Dev.rd_wr_at_other _ _ _ (by decide) (by decide),
      Dev.noMaster_reads _ _ _ htimeout.1 htimeout.2, hseen]

theorem execQualificationTimeout_passed {s : State} {p : Fin 4} (hb : s.dev.booted = true) (hst : s.dev.ptpState p = 5)
    (hm : s.dev.masterMode = true) : execQualificationTimeout p s = s.act fun d => d.setPtpState p 6 :=
  State.act_congr (if_pos (by simp [hb, hst, hm]))

theorem execPtpAnnounceTx_master {s : State} {p : Fin 4} (hb : s.dev.booted = true) (hm : s.dev.mastersOn p = true)
    (hv : s.dev.on F.REF_SEL_STATUS_TIME_VALID = true) :
    ∃ m, (ptpHead m).kind = 0xB ∧ execPtpAnnounceTx p s = s.act fun d =>
      (d.setPtp p { d.ptp p with annSeq := ((d.ptp p).annSeq + 1) % 65536 }).sendPtp p d.time.tai m := by
  refine ⟨_, ?_, State.act_congr (if_neg (by simp [hb, hm, hv]))⟩
  exact Dev.ptpMessage_kind _ _ (by decide) _ _ _ _ _ _

/-- A port with the next Sync's sequenceId. -/
def PtpPort.syncCounted (x : PtpPort) : PtpPort := { x with syncSeq := (x.syncSeq + 1) % 65536 }

section Sync

variable {s : State} {p : Fin 4} (hb : s.dev.booted = true) (hm : s.dev.mastersOn p = true)
include hb hm

theorem execPtpSyncTx_oneStep (ho : s.dev.on (F.TIM_PTP_CFG_ONE_STEP.at [p]) = true) (launch : Tai) :
    ∃ m, (ptpHead m).kind = 0 ∧ execPtpSyncTx p launch s = s.act fun d =>
      (d.setPtp p (d.ptp p).syncCounted).sendPtp p launch m := by
  refine ⟨_, ?_, State.act_congr ((if_neg (by simp [hb, hm])).trans (if_pos ho))⟩
  exact Dev.ptpMessage_kind _ _ (by decide) _ _ _ _ _ _

theorem execPtpSyncTx_twoStep (ho : s.dev.on (F.TIM_PTP_CFG_ONE_STEP.at [p]) = false) (launch : Tai) :
    ∃ m m', (ptpHead m).kind = 0 ∧ (ptpHead m').kind = 8 ∧ execPtpSyncTx p launch s = s.act fun d =>
      ((d.setPtp p (d.ptp p).syncCounted).sendPtp p launch m).sendPtp p launch m' := by
  refine ⟨_, _, ?_, ?_, State.act_congr ((if_neg (by simp [hb, hm])).trans (if_neg (Bool.eq_false_iff.1 ho)))⟩
  · exact Dev.ptpMessage_kind _ _ (by decide) _ _ _ _ _ _
  · exact Dev.ptpMessage_kind _ _ (by decide) _ _ _ _ _ _

end Sync

/-- A port with its Delay_Req's sequenceId and egress kept, and the next sequenceId. -/
def PtpPort.requested (x : PtpPort) (egress : Tai) : PtpPort :=
  { x with req := some (x.reqSeq, egress), reqSeq := (x.reqSeq + 1) % 65536 }

theorem execPtpDelayReqTx_following {s : State} {p : Fin 4} (hb : s.dev.booted = true) (hf : s.dev.followsMaster p) (launch : Tai) :
    ∃ m, (ptpHead m).kind = 1 ∧ execPtpDelayReqTx p launch s = s.act fun d =>
      (d.setPtp p ((d.ptp p).requested (d.egress p launch))).launchPtp p (d.ptpDest p) m := by
  refine ⟨_, ?_, State.act_congr (if_neg ?_)⟩
  · exact Dev.ptpMessage_kind _ _ (by decide) _ _ _ _ _ _
  · rcases hf with h | h
    · simp [hb, h]
    · simp [hb, h]

/-- An accepted Delay_Req leaves the device as it was. -/
theorem Dev.ptpAccept_delayReq {d : Dev} {p : Nat} {m : List Byte} (h : (d.ptpAccept p 1 m).2 = true) : d.ptpAccept p 1 m = (d, true) := by
  unfold Dev.ptpAccept at h ⊢
  dsimp only at h ⊢
  split at h
  · cases h
  · next hforeign =>
    split at h
    · cases h
    · next hauthentic =>
      rw [if_neg hforeign, if_neg hauthentic]
      rfl

/-- The Delay_Resp to a unicast Delay_Req: its ingress, its sender and its sequenceId. -/
def Dev.delayResp (d : Dev) (p : Nat) (m : List Byte) (detected : Tai) : List Byte :=
  let t4 := d.ingress p detected
  d.ptpMessage p 9 (ptpFlags false true 0) ((ptpHead m).corr - t4.sub) (ptpHead m).seq
    (d.rdS (F.TIM_PTP_INTV_LOG_DELAY_REQ.at [p])) (stampBytes t4 ++ toBE 8 (ptpHead m).id.clock ++ toBE 2 (ptpHead m).id.port) []

theorem Dev.delayResp_kind (d : Dev) (p : Nat) (m : List Byte) (detected : Tai) : (ptpHead (d.delayResp p m detected)).kind = 9 :=
  Dev.ptpMessage_kind _ _ (by decide) _ _ _ _ _ _

theorem execPtpDelayReqRx_unicast {s : State} {p : Fin 4} {m : List Byte} (hb : s.dev.booted = true)
    (ha : (s.dev.ptpAccept p 1 m).2 = true) (hm : s.dev.mastersOn p = true) (hs : s.dev.standby = false) (detected : Tai)
    (source : List Byte) :
    execPtpDelayReqRx p m detected (some source) s = s.act fun d => d.launchPtp p source (d.delayResp p m detected) := by
  refine State.act_congr ((if_neg (by simp [hb])).trans ?_)
  dsimp only
  rw [Dev.ptpAccept_delayReq ha]
  exact if_neg (by simp [hm, hs])

/-- Settles O16: each command sends by the transmitter's own rule, a two-step Sync twice, and a timeout enters a port state. -/
theorem ptpTransmissionAndTimeouts : Obligations.PtpTransmissionAndTimeouts := by
  unfold Obligations.PtpTransmissionAndTimeouts
  refine ⟨fun s p m source detected hb ha hm hs => ?_, fun s p hb hm hs hv => ?_, fun s p launch hb hm hs ho => ?_,
    fun s p launch hb hm hs ho => ?_, fun s p launch hb hf => ?_, fun s p hb hf => ?_, fun s p hb hst hm => ?_⟩
  · have hkind := s.dev.delayResp_kind p m detected
    refine ⟨_, _, (execPtpDelayReqRx_unicast hb ha hm hs detected source).trans (s.act_after _), ?_, hkind⟩
    rw [Dev.launchPtp_eq, ptpClass_general (by omega)]
    exact sends_of_tim s s.dev.tim p 6 _
  · obtain ⟨m, hkind, hexec⟩ := execPtpAnnounceTx_master hb hm hv
    obtain ⟨hsends, hptp, hregs⟩ := sendPtp_sends hs p { s.dev.ptp p with annSeq := ((s.dev.ptp p).annSeq + 1) % 65536 }
      s.dev.time.tai (ptpClass_general (m := m) (by omega))
    exact ⟨_, m, hexec.trans (s.act_after _), hsends, hkind, congrArg PtpPort.annSeq hptp, hregs⟩
  · obtain ⟨m, hkind, hexec⟩ := execPtpSyncTx_oneStep hb hm ho launch
    obtain ⟨hsends, hptp, hregs⟩ := sendPtp_sends hs p (s.dev.ptp p).syncCounted launch (ptpClass_event (m := m) (by omega))
    exact ⟨_, m, hexec.trans (s.act_after _), hsends, hkind, congrArg PtpPort.syncSeq hptp, hregs⟩
  · obtain ⟨m, m', hkind, hkind', hexec⟩ := execPtpSyncTx_twoStep hb hm ho launch
    obtain ⟨⟨hboth, hfirst, hnone⟩, hptp, hregs⟩ := sendPtp_sendsTwo hs p (s.dev.ptp p).syncCounted launch
      (ptpClass_event (m := m) (by omega)) (ptpClass_general (m := m') (by omega))
    exact ⟨_, m, m', hexec.trans (s.act_after _), hkind, hkind', hboth, hfirst, hnone, congrArg PtpPort.syncSeq hptp,
      hregs.registersBut⟩
  · obtain ⟨m, hkind, hexec⟩ := execPtpDelayReqTx_following hb hf launch
    simp only [Dev.launchPtp_eq, ptpClass_event (m := m) (by omega)] at hexec
    obtain ⟨hsends, hptp, hregs⟩ := send_sends s p (s.dev.ptp_setPtp p ((s.dev.ptp p).requested (s.dev.egress p launch))) 7
      (.ptp p (s.dev.ptpDest p) m)
    exact ⟨_, m, hexec.trans (s.act_after _), hsends, hkind, congrArg PtpPort.req hptp, hregs⟩
  · obtain ⟨foreigns, hexec⟩ := execAnnounceReceiptTimeout_following hb hf
    exact ⟨_, hexec.trans (s.act_after _), Dev.announceTimedOut_listens hf foreigns⟩
  · have hne : s.dev.ptpState p ≠ 6 := hst.trans_ne (by decide)
    exact ⟨_, (execQualificationTimeout_passed hb hst hm).trans (s.act_after _),
      Dev.ptpState_setPtpState hne (by decide) (by decide) (by decide), (Dev.setPtpState_enters hne (by decide) (by decide)).1⟩

end Sys2Proof.Machine

/-! PROOFS. The chapter on the time service: NTP requests across a phase step, and what an NTP response says of its times. -/

namespace Sys2Proof.Machine

open Sys2Proof.Claims

/-! ### A request counted (R130) -/

/-- The device with a request counted in NTP_RX. -/
def Dev.requested (d : Dev) : Dev := d.tally (ntpCount 0)

/-- The fields that decide whether a request is served and what its times are. -/
def requestFlds (p : Nat) : List Fld :=
  [F.TIM_NTP_CFG_EN, F.REF_SEL_STATUS_TIME_VALID, F.TIM_NTP_CFG_EXPIRED_POLICY, F.REF_HO_STATUS_HO_EXPIRED, F.TIM_NTP_CFG_PLAIN_EN,
    F.NET_STATUS_SPEED_ACTIVE.at [p], F.TIM_PTP_RX_CAL_RX_CAL.at [p], F.TIM_PTP_TX_CAL_TX_CAL.at [p]]

theorem requestFlds_apart : ∀ p : Fin 4, ∀ g ∈ requestFlds p, g.key ≠ (ntpCount 0).key := by decide

theorem Dev.rd_requested (d : Dev) (p : Fin 4) {g : Fld} (h : g ∈ requestFlds p) : d.requested.rd g = d.rd g := by
  rw [Dev.requested, Dev.rd_tally, if_neg (requestFlds_apart p g h)]

theorem Dev.requested_ntpAnswers (d : Dev) : d.requested.ntpAnswers = d.ntpAnswers := by
  have hon {g : Fld} (h : g ∈ requestFlds 0) : d.requested.on g = d.on g := by rw [Dev.on_eq, Dev.on_eq, d.rd_requested 0 h]
  have hserving : d.requested.serving = d.serving := rfl
  rw [Dev.ntpAnswers, Dev.ntpAnswers, hserving, hon (by simp [requestFlds]), hon (by simp [requestFlds]), hon (by simp [requestFlds]),
    hon (by simp [requestFlds])]

theorem Dev.requested_ingress (d : Dev) (p : Fin 4) (detected : Tai) : d.requested.ingress p detected = d.ingress p detected := by
  rw [Dev.ingress, Dev.ingress, Dev.intLat, Dev.intLat, Dev.rdS, Dev.rdS, d.rd_requested p (by simp [requestFlds]),
    d.rd_requested p (by simp [requestFlds])]

theorem Dev.requested_egress (d : Dev) (p : Fin 4) (launch : Tai) : d.requested.egress p launch = d.egress p launch := by
  rw [Dev.egress, Dev.egress, Dev.intLat, Dev.intLat, Dev.rdS, Dev.rdS, d.rd_requested p (by simp [requestFlds]),
    d.rd_requested p (by simp [requestFlds])]

theorem Dev.requested_stepBetween (d : Dev) (rx tx : Tai) : d.requested.stepBetween rx tx = d.stepBetween rx tx := rfl

/-! ### A request across a phase step (R133) -/

theorem execNtpRequest_acrossStep {s : State} {p : Fin 4} {packet : List Byte} {detected launch : Tai} (hb : s.dev.booted = true)
    (ha : s.dev.ntpAnswers = true) (hlen : 48 ≤ packet.length) (hmode : beAt packet 0 1 % 8 = 3)
    (hv : beAt packet 0 1 / 8 % 8 = 3 ∨ beAt packet 0 1 / 8 % 8 = 4)
    (hstep : s.dev.stepBetween (s.dev.ingress p detected) launch = true) (source : List Byte) :
    execNtpRequest p source packet detected launch s = s.act fun d => d.requested.tally (ntpCount 6) := by
  rw [← Dev.requested_ntpAnswers] at ha
  rw [← Dev.requested_ingress, ← Dev.requested_stepBetween] at hstep
  unfold Dev.requested at ha hstep ⊢
  exact State.act_congr ((if_neg (by simp [hb])).trans ((if_neg (by simp [ha])).trans ((if_neg (by omega)).trans (if_pos hstep))))

/-- Settles O57: the request is counted as received and as dropped, and nothing else is done. -/
theorem ntpRequestAcrossAStepIsDropped : Obligations.NtpRequestAcrossAStepIsDropped := by
  unfold Obligations.NtpRequestAcrossAStepIsDropped
  intro s p source packet detected launch hb ha hlen hmode hv hstep
  refine ⟨_, (execNtpRequest_acrossStep hb ha hlen hmode hv hstep source).trans (s.act_after _), rfl, ?_, rfl,
    ((Dev.ReadsBut.refl.tally (.head _) 1).tally (.tail _ (.head _)) 1).registersBut⟩
  rw [State.after_rd, Dev.rd_tally_same, Dev.requested, Dev.rd_tally, if_neg (by decide)]
  rfl

/-! ### What a response says of its times (R131, R132) -/

theorem toBE_add (m n v : Nat) : toBE (m + n) v = toBE m (v / 256 ^ n) ++ toBE n v := by
  induction m with
  | zero => rw [Nat.zero_add]; rfl
  | succ m ih => rw [Nat.add_right_comm, toBE, toBE, ih, Nat.div_div_eq_div_mul, ← Nat.pow_add, Nat.add_comm n m, List.cons_append]

theorem slice_length (bs : List Byte) (i n : Nat) : (slice bs i n).length = n := by
  simp only [slice, List.length_append, List.length_take, List.length_drop, List.length_replicate]
  omega

/-- The receive timestamp's first word is the seconds of the ingress. -/
theorem Dev.ntpHeader_rxSeconds (d : Dev) (p : Nat) (m : List Byte) (rx tx : Tai) (kiss : Option (List Byte)) (r : List Byte) :
    beAt (d.ntpHeader p m rx tx kiss ++ r) 32 4 = d.ntpStamp rx / 2 ^ 32 % 2 ^ 32 := by
  have hhead (q r : List Byte) (hq : q.length = 32) (v : Nat) : beAt (q ++ toBE 8 v ++ r) 32 4 = v / 2 ^ 32 % 2 ^ 32 := by
    have h := beAt_append_toBE q (toBE 4 v ++ r) 4 (v / 256 ^ 4)
    rw [hq] at h
    rw [toBE_add 4 4 v]
    simpa using h
  unfold Dev.ntpHeader
  extract_lets v expired li stratum poll
  rw [List.append_assoc _ (toBE 8 _) r]
  exact hhead _ _ (by simp only [List.length_append, toBE_length, slice_length]) _

/-- The seconds of a time in range, less the offset that labels it. -/
theorem Dev.ntpStamp_seconds (d : Dev) {t : Tai} (h : t.wf = true) :
    d.ntpStamp t / 2 ^ 32 % 2 ^ 32 = (((t.sec : Int) - d.offsetAt t.sec + 2208988800) % 2 ^ 32).toNat := by
  simp only [Tai.wf, Bool.and_eq_true, decide_eq_true_eq] at h
  obtain ⟨⟨-, hns⟩, hsub⟩ := h
  have hword {n f : Nat} (hn : n < 2 ^ 32) (hf : f < 2 ^ 32) : (n * 2 ^ 32 + f) / 2 ^ 32 % 2 ^ 32 = n := by omega
  exact hword (by omega) (by omega)

/-! ### A plain request served (R130, R141) -/

/-- Serving a client changes neither the leaps that the device knows of nor what it has sent. -/
def Dev.ServesFrom (d e : Dev) : Prop := e.leaps = d.leaps ∧ e.out = d.out

theorem Dev.ServesFrom.refl (d : Dev) : ServesFrom d d := ⟨rfl, rfl⟩

theorem Dev.ServesFrom.trans {d e e' : Dev} (h : ServesFrom d e) (h' : ServesFrom e e') : ServesFrom d e' :=
  ⟨h'.1.trans h.1, h'.2.trans h.2⟩

theorem Dev.ServesFrom.served {d e : Dev} (h : ServesFrom d e) (n : Nat) : ServesFrom d { e with tim := { e.tim with served := n } } := h

theorem Dev.ntpTick_servesFrom (d : Dev) : ServesFrom d d.ntpTick := by
  unfold Dev.ntpTick
  extract_lets now
  split
  · exact ServesFrom.refl d
  · exact ⟨rfl, rfl⟩

theorem Dev.findClient_servesFrom (d : Dev) (key : List Byte) : ServesFrom d (d.findClient key).1 := by
  unfold Dev.findClient
  extract_lets ways age oldest
  split
  · exact ServesFrom.refl d
  · split
    · exact ServesFrom.refl d
    · split
      · exact ⟨rfl, rfl⟩
      · exact ServesFrom.refl d

theorem Dev.setClient_servesFrom (d : Dev) (k : Option Nat) (c : Client) : ServesFrom d (d.setClient k c) := by
  cases k with
  | none => exact ⟨rfl, rfl⟩
  | some k => exact ⟨rfl, rfl⟩

/-- A client with a token, in a tick with room, is served. -/
theorem Dev.ntpServe_plain {d : Dev} {source : List Byte} (htok : 256 ≤ (d.ntpTick.findClient (clientKey source)).2.2.tokens)
    (hroom : (d.ntpTick.findClient (clientKey source)).1.tim.served + 1 ≤ 200 * (d.ntpTick.findClient (clientKey source)).1.tsUnits)
    (t : NtpTo) (m : List Byte) (bound : Bool) :
    ∃ e, ServesFrom d e ∧ d.ntpServe t source m none bound = e.servePlain t m bound := by
  refine ⟨_, ?_, (if_pos htok).trans (if_pos hroom)⟩
  have hfound := d.ntpTick_servesFrom.trans (d.ntpTick.findClient_servesFrom (clientKey source))
  exact (hfound.trans (Dev.setClient_servesFrom _ _ _)).served _

/-- A packet of 48 bytes has no extension fields. -/
theorem ntpFields_none {m : List Byte} {i : Nat} (h : m.length = i) (n : Nat) : ntpFields m (n + 1) i = ([], true) := by
  unfold ntpFields
  exact if_pos h

/-- What a frame that leaves at once adds to what is sent is the frame. -/
theorem Dev.sent_of_send {d : Dev} {p cls : Nat} {o o' : Out} (h : (d.send p cls o).out = d.out ++ [o']) : o = o' := by
  cases hfree : d.txFree p cls with
  | true =>
    rw [((d.send_leaves p cls o).1 hfree).1] at h
    exact List.singleton_inj.1 (List.append_cancel_left h)
  | false =>
    rw [((d.send_leaves p cls o).2 hfree).1] at h
    exact absurd (List.self_eq_append_right.1 h) (List.cons_ne_nil _ _)

section Plain

variable {s t : State} {p : Fin 4} {source packet r : List Byte} {detected launch : Tai} (hb : s.dev.booted = true)
  (ha : s.dev.ntpAnswers = true) (hlen : packet.length = 48) (hmode : beAt packet 0 1 % 8 = 3) (hv : beAt packet 0 1 / 8 % 8 = 4)
  (hstep : s.dev.stepBetween (s.dev.ingress p detected) launch = false) (hplain : s.dev.on F.TIM_NTP_CFG_PLAIN_EN = true)
  (htok : 256 ≤ (s.dev.requested.ntpTick.findClient (clientKey source)).2.2.tokens)
  (hroom : (s.dev.requested.ntpTick.findClient (clientKey source)).1.tim.served + 1 ≤
    200 * (s.dev.requested.ntpTick.findClient (clientKey source)).1.tsUnits)
include hb ha hlen hmode hv hstep hplain htok hroom

theorem execNtpRequest_plain : ∃ e, Dev.ServesFrom s.dev e ∧ execNtpRequest p source packet detected launch s = s.act fun _ =>
    e.servePlain ⟨portOf p, source, p, s.dev.ingress p detected, s.dev.egress p launch⟩ packet false := by
  obtain ⟨e, hframe, hserve⟩ := Dev.ntpServe_plain htok hroom
    ⟨portOf p, source, p, s.dev.ingress p detected, s.dev.egress p launch⟩ packet false
  refine ⟨e, hframe, State.act_congr (Eq.trans ?_ hserve)⟩
  have hfields := ntpFields_none hlen 511
  rw [← Dev.requested_ntpAnswers] at ha
  rw [← Dev.requested_ingress, ← Dev.requested_stepBetween] at hstep
  rw [Dev.on_eq, ← s.dev.rd_requested 0 (by simp [requestFlds]), ← Dev.on_eq] at hplain
  have hnone : s.dev.requested.asksBound packet [] = false := by simp [Dev.asksBound]
  rw [← Dev.requested_ingress, ← Dev.requested_egress]
  unfold Dev.requested at ha hstep hplain hnone ⊢
  simp [hb, ha, hlen, hmode, hv, hstep, hplain, hfields, hnone]

/-- The response to a request that came in before a leap that has stepped since: its receive timestamp is under the offset from before
the leap, which need not be the offset in force any more (R116). -/
theorem ntpRequest_rxSeconds_beforeLeap {l : Leap}
    (hl : (s.dev.leaps.filter (·.stepped)).find? (fun l => decide ((s.dev.ingress p detected).sec < l.at_)) = some l)
    (hexec : exec (.ntpRequest p source packet detected launch) s = .next t)
    (hout : t.dev.out = s.dev.out ++ [.ntp (portOf p) source r]) :
    beAt r 32 4 = ((((s.dev.ingress p detected).sec : Int) - l.old + 2208988800) % 2 ^ 32).toNat := by
  obtain ⟨e, ⟨hleaps, hkept⟩, hserve⟩ := execNtpRequest_plain hb ha hlen hmode hv hstep hplain htok hroom
  have hlabel : e.offsetAt (s.dev.ingress p detected).sec = l.old := by
    unfold Dev.offsetAt
    rw [hleaps, hl]
  obtain rfl : s.after _ = t := Host.Outcome.next.inj (hserve.symm.trans hexec)
  rw [← hkept] at hout
  have hr := Dev.sent_of_send hout
  have hwf : (s.dev.ingress p detected).wf = true := Tai.addSub_wf _ _
  rw [← (Out.ntp.inj hr).2.2, Dev.ntpHeader_rxSeconds]
  dsimp only
  rw [Dev.ntpStamp_seconds _ hwf, hlabel]

end Plain

/-- A server in the second of the leap of R116's example: LEAP_AT is 1 798 761 637, and the offset has gone from 37 s to 38 s. -/
def inLeapSecond : State :=
  { dev := ((({ pins := { rstN := true }, mode := { mode := .solo }, time := { tai := ⟨1798761637, 0, 0⟩ }
                tim := { leap := some ⟨1798761637, 37, 38, false, true⟩ } } : Dev).wr F.TIM_NTP_CFG_EN 1).wr
      F.REF_SEL_STATUS_TIME_VALID 1).wr F.TIM_STATUS_UTC_OFFSET 38 }

/-- A plain request of version 4. -/
def plainRequest : List Byte := toBE 1 0x23 ++ toBE 47 0

/-- Its ingress lies in the second before LEAP_AT, whatever INT_LAT is. -/
theorem inLeapSecond_ingress :
    (inLeapSecond.dev.ingress 0 ⟨1798761636, 900000000, 0⟩).sec = 1798761636 ∧
      inLeapSecond.dev.stepBetween (inLeapSecond.dev.ingress 0 ⟨1798761636, 900000000, 0⟩) ⟨1798761637, 0, 0⟩ = false := by
  have hcal : inLeapSecond.dev.rdS (F.TIM_PTP_RX_CAL_RX_CAL.at [0]) = 0 := by decide
  have hlog : inLeapSecond.dev.ref.log = [] := rfl
  have hlat : inLeapSecond.dev.intLat 0 false < 65536 := by
    unfold Dev.intLat
    omega
  simp only [Dev.stepBetween, hlog, Dev.ingress, hcal, Tai.addSub, Tai.lt, Tai.toSub, Tai.ofSub, subPerSec, List.any_nil, Bool.or_false,
    decide_eq_false_iff_not]
  omega

/-- Refutes O56: a request that comes in before a leap and is answered after it carries a receive timestamp under the old offset, as R116
has it, and not under the offset in force. -/
theorem not_ntpTimestampsAreTaiLessTheOffset : ¬ Obligations.NtpTimestampsAreTaiLessTheOffset := by
  unfold Obligations.NtpTimestampsAreTaiLessTheOffset
  intro h
  have hb : inLeapSecond.dev.booted = true := by decide
  have ha : inLeapSecond.dev.ntpAnswers = true := by decide
  have hlen : plainRequest.length = 48 := by decide
  have hmode : beAt plainRequest 0 1 % 8 = 3 := by decide
  have hv : beAt plainRequest 0 1 / 8 % 8 = 4 := by decide
  have hplain : inLeapSecond.dev.on F.TIM_NTP_CFG_PLAIN_EN = true := by decide
  have htok : 256 ≤ (inLeapSecond.dev.requested.ntpTick.findClient (clientKey (toBE 16 5))).2.2.tokens := by decide
  have hroom : (inLeapSecond.dev.requested.ntpTick.findClient (clientKey (toBE 16 5))).1.tim.served + 1 ≤
    200 * (inLeapSecond.dev.requested.ntpTick.findClient (clientKey (toBE 16 5))).1.tsUnits := by decide
  have hoffset : inLeapSecond.dev.utcOffset = 38 := by decide
  obtain ⟨hsec, hstep⟩ := inLeapSecond_ingress
  obtain ⟨t, r, hexec, ⟨hsent, -⟩, hrx, -⟩ := h inLeapSecond 0 (toBE 16 5) plainRequest ⟨1798761636, 900000000, 0⟩
    ⟨1798761637, 0, 0⟩ hb ha hlen hmode hv hstep hplain htok hroom
  have hold := ntpRequest_rxSeconds_beforeLeap (p := 0) (l := ⟨1798761637, 37, 38, false, true⟩) hb ha hlen hmode hv hstep hplain
    htok hroom (by rw [Fin.val_zero, hsec]; decide) hexec (hsent (by decide))
  dsimp only at hrx
  rw [hold, Fin.val_zero, hsec, hoffset] at hrx
  exact absurd hrx (by decide)

end Sys2Proof.Machine

/-! PROOFS. What the Almanac's operations leave: a test that staging ends, the cascade's messages, the last occurrence of an entry. -/

namespace Sys2Proof.Machine

open Sys2Proof.Claims

/-- One fold of a command's steps keeps what each step keeps of the Almanac. -/
theorem Dev.foldl_alm {α : Type} {step : Dev → α → Dev} (h : ∀ d a, (step d a).alm = d.alm) (l : List α) (d : Dev) :
    (l.foldl step d).alm = d.alm := by
  induction l generalizing d with
  | nil => rfl
  | cons a l ih => rw [List.foldl_cons, ih, h]

/-! ### A test that a staged occurrence ends (R296) -/

theorem Dev.testHold_alm (d : Dev) (row : Nat) (on : Bool) : (d.testHold row on).alm = d.alm := by
  unfold Dev.testHold
  dsimp only
  split_ifs <;> rfl

theorem Dev.putResult_alm (d : Dev) (row : Nat) (r : TestResult) : (d.putResult row r).alm = d.alm := by
  have hq6 : ∀ (e : Dev) (id inst : Nat), (e.q6 id inst r).alm = e.alm := fun e id inst => Dev.enqueue_alm e 6 _
  have hflag : ∀ e : Dev, (if r.result = 1 then e.irq F.SUP_IRQ_STATUS_ST_FAIL row
      else if r.result = 2 then e.irq F.SUP_IRQ_STATUS_ST_INCOMPLETE row else e).alm = e.alm := fun e => by
    split_ifs
    · exact Dev.irq_alm _ _ _ _
    · exact Dev.irq_alm _ _ _ _
    · rfl
  unfold Dev.putResult
  dsimp only
  rw [hflag]
  split
  · exact hq6 _ _ _
  · exact hq6 _ _ _

/-- A test that is cut leaves the Almanac. -/
theorem Dev.cutTest_alm (d : Dev) (result cause : Nat) : (d.cutTest result cause).alm = d.alm := by
  unfold Dev.cutTest
  split
  · rfl
  · exact (Dev.putResult_alm _ _ _).trans (Dev.testHold_alm _ _ _)

theorem Dev.serviceRow_alm (d : Dev) (row : Nat) : (d.serviceRow row).alm = d.alm := by
  unfold Dev.serviceRow
  split
  · split
    · exact Dev.cutTest_alm d _ _
    · rfl
  · rfl

theorem Dev.serviceFields_alm (d : Dev) (fs : List Fld) : (d.serviceFields fs).alm = d.alm := by
  unfold Dev.serviceFields
  split
  · rfl
  · split
    · exact Dev.serviceRow_alm d _
    · rfl

theorem Dev.serviceStrobe_alm (d : Dev) (vals : Tbl Nat) : (d.serviceStrobe vals).alm = d.alm := by
  unfold Dev.serviceStrobe
  split
  · rfl
  · split
    · exact Dev.serviceRow_alm d _
    · rfl

theorem Dev.serviceLanes_alm (d : Dev) (ports : List Nat) : (d.serviceLanes ports).alm = d.alm :=
  Dev.foldl_alm (fun d _ => Dev.serviceRow_alm d _) ports d

/-- Staging an occurrence whose target is under test leaves the Almanac. -/
theorem Dev.almService_alm (d : Dev) (b : List Byte) : (d.almService b).alm = d.alm := by
  unfold Dev.almService
  dsimp only
  split
  · split
    · exact Dev.serviceFields_alm d _
    · rfl
  · exact Dev.serviceStrobe_alm d _
  · exact Dev.foldl_alm (fun d _ => Dev.serviceLanes_alm d _) _ d
  · exact Dev.foldl_alm (fun d _ => Dev.serviceLanes_alm d _) _ d
  · exact Dev.foldl_alm (fun d _ => Dev.serviceRow_alm d _) _ d
  · exact Dev.foldl_alm (fun d _ => Dev.serviceRow_alm d _) _ d
  · rfl

section NoTest

variable {d : Dev} (h : d.sup.testing = none)
include h

theorem Dev.serviceRow_idle (row : Nat) : d.serviceRow row = d := by
  unfold Dev.serviceRow
  rw [h]

theorem Dev.serviceFields_idle (fs : List Fld) : d.serviceFields fs = d := by
  unfold Dev.serviceFields
  rw [h]

theorem Dev.serviceStrobe_idle (vals : Tbl Nat) : d.serviceStrobe vals = d := by
  unfold Dev.serviceStrobe
  rw [h]

theorem Dev.serviceLanes_idle (ports : List Nat) : d.serviceLanes ports = d := by
  refine List.foldl_fixed' (fun _ => ?_) ports
  exact Dev.serviceRow_idle h _

/-- With no test running there is none to end. -/
theorem Dev.almService_idle (b : List Byte) : d.almService b = d := by
  unfold Dev.almService
  dsimp only
  split
  · split
    · exact Dev.serviceFields_idle h _
    · rfl
  · exact Dev.serviceStrobe_idle h _
  · refine List.foldl_fixed' (fun _ => ?_) _
    exact Dev.serviceLanes_idle h _
  · refine List.foldl_fixed' (fun _ => ?_) _
    exact Dev.serviceLanes_idle h _
  · refine List.foldl_fixed' (fun _ => ?_) _
    exact Dev.serviceRow_idle h _
  · refine List.foldl_fixed' (fun _ => ?_) _
    exact Dev.serviceRow_idle h _
  · rfl

end NoTest

/-! ### What the cascade's messages leave (R322) -/

theorem Dev.casPort_lt (d : Dev) : d.casPort < 4 := by
  unfold Dev.casPort
  cases h : (List.range 4).find? (fun p => d.inServicePort p && d.linkUp p) with
  | none => simp
  | some p => simpa using List.mem_range.1 (List.mem_of_find?_eq_some h)

/-- The port that carries the device's cascade messages. -/
def Dev.casNet (d : Dev) : Fin 4 := ⟨d.casPort, d.casPort_lt⟩

/-- What separates `e` from `d` once cascade messages have been sent: the count of frames on the port that carries them, block ODP's own
state, the ports' queues, and what has left. -/
structure Dev.CasFrame (d e : Dev) : Prop where
  shape : ∃ r x n u, e = { d with regs := r, odp := x, net := n, out := u }
  reads : ReadsBut [F.NET_COUNT_COUNT.at [d.casPort, 14]] d e

/-- The count of frames sent lies apart from what says whether a port carries cascade messages. -/
theorem casFlds_apart : ∀ p q : Fin 4, ∀ g ∈ [F.NET_STATUS_LINK.at [q], F.NET_CFG_EN.at [q], F.NET_STATUS_SELF_TEST.at [q]],
    g.inQue = false ∧ g.key ∉ [F.NET_COUNT_COUNT.at [p, 14]].map Fld.key := by decide

namespace Dev.CasFrame

variable {d e e' : Dev}

theorem refl : CasFrame d d := ⟨⟨_, _, _, _, rfl⟩, .refl⟩

theorem alm (h : CasFrame d e) : e.alm = d.alm := by
  obtain ⟨r, x, n, u, rfl⟩ := h.shape
  rfl

/-- Messages sent do not move the port that carries them. -/
theorem casPort (h : CasFrame d e) : e.casPort = d.casPort := by
  have hon : ∀ q : Fin 4, ∀ g ∈ [F.NET_STATUS_LINK.at [q], F.NET_CFG_EN.at [q], F.NET_STATUS_SELF_TEST.at [q]], e.on g = d.on g :=
    fun q g hg => by
      obtain ⟨hq, hk⟩ := casFlds_apart d.casNet q g hg
      rw [Dev.on_eq, Dev.on_eq, h.reads g hq hk]
  have hcarries : ∀ q ∈ List.range 4, (e.inServicePort q && e.linkUp q) = (d.inServicePort q && d.linkUp q) := fun q hq => by
    have hlt : q < 4 := List.mem_range.1 hq
    have hlink := hon ⟨q, hlt⟩ _ (.head _)
    have hen := hon ⟨q, hlt⟩ _ (.tail _ (.head _))
    have htest := hon ⟨q, hlt⟩ _ (.tail _ (.tail _ (.head _)))
    obtain ⟨r, x, n, u, rfl⟩ := h.shape
    have hne : q ≠ 4 := by omega
    simp only [Dev.inServicePort, Dev.linkUp, Dev.portEn, Dev.booted, Dev.alive, if_neg hne, hlink, hen, htest]
  unfold Dev.casPort
  rw [List.find?_congr hcarries]

theorem trans (h : CasFrame d e) (h' : CasFrame e e') : CasFrame d e' := by
  refine ⟨?_, h.reads.trans (h.casPort ▸ h'.reads)⟩
  obtain ⟨r, x, n, u, rfl⟩ := h.shape
  obtain ⟨r', x', n', u', rfl⟩ := h'.shape
  exact ⟨_, _, _, _, rfl⟩

end Dev.CasFrame

theorem Dev.casSend_frame (d : Dev) (address body : List Byte) : CasFrame d (d.casSend address body) := by
  unfold Dev.casSend
  split
  · exact .refl
  · refine ⟨?_, ?_⟩
    · obtain ⟨r, x, n, u, h⟩ := Dev.send_shape { d with odp := { d.odp with casSeq := d.odp.casSeq + 1 } } d.casPort clsOdp
        (.datagram (portOf d.casPort) address (sealedDatagram 0x11 d.cascadeKey d.bootCount d.odp.casSeq body))
      exact ⟨r, x, n, u, h⟩
    · exact Dev.ReadsBut.send (p := d.casNet) (e := { d with odp := { d.odp with casSeq := d.odp.casSeq + 1 } }) .refl _ _

theorem Dev.casDown_frame (d : Dev) (body : List Byte) : CasFrame d (d.casDown body) := by
  have hfold : ∀ (l : Tbl Child) (e : Dev), CasFrame e (l.foldl (fun d c => d.casSend c.2.address body) e) := fun l => by
    induction l with
    | nil => exact fun e => .refl
    | cons c l ih => exact fun e => (e.casSend_frame c.2.address body).trans (ih _)
  exact hfold _ d

theorem Dev.almSendConfirm_frame (d : Dev) (x : AlmRow) : CasFrame d (d.almSendConfirm x) := by
  unfold Dev.almSendConfirm
  split
  · exact d.casDown_frame _
  · exact .refl

/-! ### Resolving the device's own last occurrence (R150, R153) -/

/-- An entry of the device's own that is told to end has no further occurrence. -/
theorem Dev.almMoveTo_ending (d : Dev) (row : Nat) {x : AlmRow} (n : Nat) (hc : x.copy = false) (he : x.ending = true)
    (next : Option Tai) : d.almMoveTo row x n next = d.almMoveTo row x n none := by
  unfold Dev.almMoveTo
  cases next with
  | none => rfl
  | some t => simp [hc, he]

/-- An entry of the device's own that does not repeat, or is told to end, is DONE after its occurrence. -/
theorem Dev.almAdvance_last (d : Dev) (row : Nat) {x : AlmRow} (hc : x.copy = false)
    (hlast : almRepeat x.bytes = 0 ∨ x.ending = true) : ∃ y : AlmRow, d.almAdvance row x = d.setAlm row y ∧ y.doneAs x := by
  rcases hlast with hrep | he
  · exact Dev.almAdvance_once d row hc hrep
  · obtain ⟨tod, ht⟩ := d.almTimed_shape x
    unfold Dev.almAdvance
    rw [ht]
    dsimp only
    rw [Dev.almMoveTo_ending (x := { x with tod := tod }) d row _ hc he]
    exact Dev.almMoveTo_none (x := { x with tod := tod }) d row _ hc

/-- A row that RETRACT_UNACKED may have been marked in. -/
def AlmRow.marked (x : AlmRow) (u : Bool) : AlmRow := { x with unacked := u }

/-- A RETRACT without its acknowledgements may mark a row, and leaves it otherwise. -/
theorem Dev.almUnackedOne_almRow {d : Dev} {row : Nat} {x : AlmRow} (hrow : d.almRow row = some x) (r : Retract) :
    ∃ u, (d.almUnackedOne r).almRow row = some (x.marked u) := by
  unfold Dev.almUnackedOne
  dsimp only
  rw [Dev.almRow_of_alm (Dev.irq_alm _ _ _ _)]
  split
  · refine ⟨x.unacked, ?_⟩
    unfold Dev.almRow Dev.almItem
    dsimp only
    rw [Dev.enqueue_alm]
    exact hrow
  · split
    · next y hy =>
      split
      · unfold Dev.almRow Dev.setAlm at *
        by_cases h : row = r.row
        · subst h
          obtain rfl : x = y := Option.some.inj (hrow.symm.trans hy)
          exact ⟨true, Tbl.find?_put_same _ _ _⟩
        · exact ⟨x.unacked, (Tbl.find?_put_ne _ _ h).trans hrow⟩
      · exact ⟨x.unacked, hrow⟩
    · exact ⟨x.unacked, hrow⟩

theorem Dev.almUnacked_almRow {d : Dev} {row : Nat} {x : AlmRow} (hrow : d.almRow row = some x) :
    ∃ u, d.almUnacked.almRow row = some (x.marked u) := by
  have hfold : ∀ (l : List Retract) (e : Dev) (u : Bool), e.almRow row = some (x.marked u) →
      ∃ v, (l.foldl Dev.almUnackedOne e).almRow row = some (x.marked v) := fun l => by
    induction l with
    | nil => exact fun e u h => ⟨u, h⟩
    | cons r l ih =>
      intro e u h
      obtain ⟨v, hv⟩ := Dev.almUnackedOne_almRow h r
      exact ih _ v hv
  unfold Dev.almUnacked
  dsimp only
  split
  · exact ⟨x.unacked, hrow⟩
  · exact hfold _ _ x.unacked hrow

/-- The device's own last occurrence leaves its row DONE as it resolves, whatever RETRACTs are outstanding. -/
theorem Dev.almResolve_last {d : Dev} {row : Nat} {x : AlmRow} (hrow : d.almRow row = some x) (hc : x.copy = false)
    (hlast : almRepeat x.bytes = 0 ∨ x.ending = true) (result : Nat) (st : Status) (late : Nat) :
    ∃ y, (d.almResolve row result st late).almRow row = some y ∧ y.doneAs (x.resolved result st) := by
  obtain ⟨u, hu⟩ := Dev.almUnacked_almRow hrow
  obtain ⟨y, hy, hdone⟩ := Dev.almAdvance_last ((d.almUnacked.almPost row ((x.marked u).resolved result st) result st late).almTell
    row result st late) row (x := (x.marked u).resolved result st) hc hlast
  refine ⟨y, ?_, hdone⟩
  unfold Dev.almResolve
  dsimp only
  rw [hu]
  dsimp only
  rw [Dev.almEnded_own (x := x.marked u) _ hc]
  exact (congrArg (fun e : Dev => e.almRow row) hy).trans (Dev.almRow_setAlm _ _ _)

theorem rowDone_of_last {t : State} {d : Dev} {row : Nat} {x : AlmRow} {result : Nat} {st : Status} {late : Nat}
    (ht : t.dev.alm = (d.almResolve row result st late).alm) (hrow : d.almRow row = some x) (hc : x.copy = false)
    (hlast : almRepeat x.bytes = 0 ∨ x.ending = true) : rowDone t row x result := by
  obtain ⟨y, hy, hst, hinst, hocc, hres⟩ := Dev.almResolve_last hrow hc hlast result st late
  exact ⟨y, (Dev.almRow_of_alm ht row).trans hy, hst, hinst, hocc, hres⟩

/-- A RETRACT is sent and awaited; the rows stay. -/
theorem Dev.almRetract_almRow (d : Dev) (row r : Nat) : (d.almRetract row).almRow r = d.almRow r := by
  unfold Dev.almRetract
  split
  · rfl
  · dsimp only
    split
    · split
      · exact Dev.almRow_of_alm (d.casDown_frame _).alm r
      · unfold Dev.almRow
        dsimp only
        rw [(d.casDown_frame _).alm]
    · rfl

/-- An occurrence that was not sent has no RETRACT. -/
theorem Dev.almRetract_unsent {d : Dev} {row : Nat} {x : AlmRow} (hrow : d.almRow row = some x) (hs : x.sent = false) :
    d.almRetract row = d := by
  unfold Dev.almRetract
  simp [hrow, hs]

end Sys2Proof.Machine

/-! PROOFS. The Almanac before its instants: staging, the cutoff. -/

namespace Sys2Proof.Machine

open Sys2Proof.Claims

/-! ### Staging (R152, R153) -/

/-- A row as it enters STAGING. -/
def Dev.stagedRow (d : Dev) (x : AlmRow) : AlmRow :=
  { x with state := 2, guard := if x.copy then x.guard else d.rd F.ALM_CFG_GUARD_MS, sent := almScope x.bytes ≠ 0 && !x.copy,
           confirmed := x.copy && x.confirmed, staged := 0, refused := 0 }

/-- The device with a row in STAGING, its message fetched and a test of its target ended. -/
def Dev.stagedHere (d : Dev) (row : Nat) (x : AlmRow) : Dev := ((d.setAlm row (d.stagedRow x)).almFetch x.bytes).almService x.bytes

/-- The device once the occurrence has been sent to the peers that it names. -/
def Dev.stagedAll (d : Dev) (row : Nat) (x : AlmRow) : Dev :=
  if (d.stagedRow x).sent then (d.stagedHere row x).casDown (toBE 1 2 ++ (d.stagedRow x).shown) else d.stagedHere row x

/-- A row's occurrence is staged, or nothing happens. -/
theorem Dev.almStage_cases {d : Dev} {row : Nat} {x : AlmRow} (hrow : d.almRow row = some x) :
    d.almStage row = d ∨ d.almStage row = d.stagedAll row x := by
  unfold Dev.almStage
  simp only [hrow]
  split
  · exact .inl rfl
  · split
    · exact .inl rfl
    · exact .inr rfl

/-- An ARMED occurrence whose lead has been reached is staged in a mode that holds none. -/
theorem Dev.almStage_due {d : Dev} {row : Nat} {x : AlmRow} {at_ : Tai} (hrow : d.almRow row = some x) (hinst : x.inst = some at_)
    (hst : x.state = 1) (hh : d.almHeld = false) (hlead : (msBefore at_ (d.almLeadMs x.bytes)).le d.time.tai = true) :
    d.almStage row = d.stagedAll row x := by
  unfold Dev.almStage
  rw [hrow]
  dsimp only
  split
  · next hnone => exact absurd (hinst.symm.trans hnone) (by simp)
  · next t ht =>
    obtain rfl : at_ = t := Option.some.inj (hinst.symm.trans ht)
    rw [if_neg (by simp [hst, hh, hlead])]
    rfl

theorem Dev.almFetch_shape (d : Dev) (b : List Byte) : ∃ l, d.almFetch b = { d with lib := l } := by
  unfold Dev.almFetch
  split
  · exact ⟨_, rfl⟩
  · split
    · split
      · exact ⟨_, rfl⟩
      · exact ⟨_, rfl⟩
    · exact ⟨_, rfl⟩

theorem Dev.almFetch_alm (d : Dev) (b : List Byte) : (d.almFetch b).alm = d.alm := by
  obtain ⟨l, h⟩ := d.almFetch_shape b
  rw [h]

theorem Dev.stagedAll_frame (d : Dev) (row : Nat) (x : AlmRow) : CasFrame (d.stagedHere row x) (d.stagedAll row x) := by
  unfold Dev.stagedAll
  split
  · exact Dev.casDown_frame _ _
  · exact .refl

theorem Dev.stagedAll_almRow (d : Dev) (row : Nat) (x : AlmRow) : (d.stagedAll row x).almRow row = some (d.stagedRow x) := by
  have hhere : (d.stagedHere row x).alm = (d.setAlm row (d.stagedRow x)).alm :=
    (Dev.almService_alm _ _).trans (Dev.almFetch_alm _ _)
  exact (Dev.almRow_of_alm ((d.stagedAll_frame row x).alm.trans hhere) row).trans (Dev.almRow_setAlm _ _ _)

/-- With no test running, staging moves no register but the count of frames sent. -/
theorem Dev.stagedAll_reads {d : Dev} (h : d.sup.testing = none) (row : Nat) (x : AlmRow) :
    ReadsBut [F.NET_COUNT_COUNT.at [d.casPort, 14]] d (d.stagedAll row x) := by
  obtain ⟨l, hl⟩ := (d.setAlm row (d.stagedRow x)).almFetch_shape x.bytes
  have hhere : d.stagedHere row x = { d.setAlm row (d.stagedRow x) with lib := l } := by
    unfold Dev.stagedHere
    rw [hl]
    exact Dev.almService_idle (d := { d.setAlm row (d.stagedRow x) with lib := l }) h _
  have hreads := (d.stagedAll_frame row x).reads
  rw [hhere] at hreads
  exact hreads

/-- The rows after a write of one do not bear on what the registers read. -/
theorem Dev.ReadsBut.setAlm {fs : List Fld} {d e : Dev} (h : ReadsBut fs d e) (row : Nat) (x : AlmRow) :
    ReadsBut fs d (e.setAlm row x) := h

section Staged

/-! ### STAGING to STAGED (R152) -/

variable {d : Dev} {row : Nat} {x : AlmRow} (hrow : d.almRow row = some x) (hst : x.state = 2) (hready : d.almReady x.bytes = true)
  (hc : x.copy = false)
include hrow hst hready hc

theorem Dev.almStaged_holding (hh : almHold x.bytes = true) : d.almStaged row = d.setAlm row { x with state := 3 } := by
  unfold Dev.almStaged
  simp [hrow, hst, hready, hc, hh]

theorem Dev.almStaged_confirms (hh : almHold x.bytes = false) :
    d.almStaged row = (d.almSendConfirm x).setAlm row { x with state := 3, confirmed := true } := by
  unfold Dev.almStaged
  simp [hrow, hst, hready, hc, hh]

end Staged

section Cutoff

/-! ### The cutoff (R152) -/

variable {d : Dev} {row : Nat} {x : AlmRow} {at_ : Tai} (hrow : d.almRow row = some x) (hinst : x.inst = some at_)
  (hcut : (d.almCutoff x at_).le d.time.tai = true)
include hrow hinst hcut

theorem Dev.almAtCutoff_unconfirmed (hst : x.state = 3) (hh : almHold x.bytes = true) (hconf : x.confirmed = false) :
    d.almAtCutoff row = (d.almRetract row).almResolve row 4 .ok := by
  unfold Dev.almAtCutoff
  simp [hrow, hinst, hcut, hst, hh, hconf]

variable (hc : x.copy = false)
include hc

theorem Dev.almAtCutoff_commits (hst : x.state = 3) (hconf : almHold x.bytes = true → x.confirmed = true) :
    d.almAtCutoff row = d.setAlm row { x with state := 4 } := by
  have hgo : ¬ (almHold x.bytes = true ∧ x.confirmed = false) := fun h => by simp [hconf h.1] at h
  unfold Dev.almAtCutoff
  simp [hrow, hinst, hcut, hc, hst, hgo]

theorem Dev.almAtCutoff_unready (hst : x.state = 2) : d.almAtCutoff row = (d.almRetract row).almResolve row 5 .busy := by
  unfold Dev.almAtCutoff
  simp [hrow, hinst, hcut, hc, hst]

end Cutoff

/-! ### The commands of time (R152) -/

theorem execAlmanacStage_booted {s : State} (hb : s.dev.booted = true) (row : Fin 4096) :
    execAlmanacStage row s = s.act fun d => d.almStage row := State.act_congr (if_pos hb)

theorem execAlmanacStagingComplete_booted {s : State} (hb : s.dev.booted = true) (row : Fin 4096) :
    execAlmanacStagingComplete row s = s.act fun d => d.almStaged row := State.act_congr (if_pos hb)

theorem execAlmanacCutoff_booted {s : State} (hb : s.dev.booted = true) (row : Fin 4096) :
    execAlmanacCutoff row s = s.act fun d => d.almAtCutoff row := State.act_congr (if_pos hb)

/-- Settles O19: each command does what its row's state makes of it, and a RETRACT sent at the cutoff does not keep the row from
resolving. -/
theorem almanacOccurrencesStage : Obligations.AlmanacOccurrencesStage := by
  unfold Obligations.AlmanacOccurrencesStage
  refine ⟨fun s row x at_ hown hst hh hlead => ?_, fun s row x at_ hown hst hready => ?_, fun s row x at_ hown hst hcut hconf => ?_,
    fun s row x at_ hown hrep hcut => ?_⟩
  · obtain ⟨hb, hrow, hinst, hc, -⟩ := hown
    refine ⟨_, s.dev.stagedRow x, (execAlmanacStage_booted hb row).trans (s.act_after _), ?_⟩
    rw [Dev.almStage_due hrow hinst hst hh hlead]
    exact ⟨s.dev.stagedAll_almRow row x, rfl, by simp [Dev.stagedRow, hc], by simp [Dev.stagedRow, hc], by simp [Dev.stagedRow, hc],
      hinst, fun htest => (Dev.stagedAll_reads htest row x).registersBut⟩
  · obtain ⟨hb, hrow, -, hc, -⟩ := hown
    cases hh : almHold x.bytes with
    | true =>
      refine ⟨_, { x with state := 3 }, (execAlmanacStagingComplete_booted hb row).trans (s.act_after _), ?_⟩
      rw [Dev.almStaged_holding hrow hst hready hc hh]
      exact ⟨Dev.almRow_setAlm _ _ _, rfl, nofun, fun _ => rfl, (Dev.ReadsBut.refl.setAlm row _).registersBut⟩
    | false =>
      refine ⟨_, { x with state := 3, confirmed := true }, (execAlmanacStagingComplete_booted hb row).trans (s.act_after _), ?_⟩
      rw [Dev.almStaged_confirms hrow hst hready hc hh]
      exact ⟨Dev.almRow_setAlm _ _ _, rfl, fun _ => rfl, nofun, ((s.dev.almSendConfirm_frame x).reads.setAlm row _).registersBut⟩
  · obtain ⟨hb, hrow, hinst, hc, -⟩ := hown
    refine ⟨_, (execAlmanacCutoff_booted hb row).trans (s.act_after _), ?_⟩
    rw [Dev.almAtCutoff_commits hrow hinst hcut hc hst hconf]
    exact ⟨Dev.almRow_setAlm _ _ _, rfl⟩
  · obtain ⟨hb, hrow, hinst, hc, -⟩ := hown
    obtain ⟨t, ht, halm, -, -⟩ := State.act_alm s fun d => d.almAtCutoff row
    have hkept : (s.dev.almRetract row).almRow row = some x := (s.dev.almRetract_almRow row row).trans hrow
    refine ⟨t, (execAlmanacCutoff_booted hb row).trans ht, fun hst hh hconf => ?_, fun hst => ?_⟩
    · rw [Dev.almAtCutoff_unconfirmed hrow hinst hcut hst hh hconf] at halm
      exact rowDone_of_last halm hkept hc (.inl hrep)
    · rw [Dev.almAtCutoff_unready hrow hinst hcut hc hst] at halm
      exact rowDone_of_last halm hkept hc (.inl hrep)

end Sys2Proof.Machine

/-! PROOFS. The Almanac as the host asks: a row written, read, cancelled, confirmed. -/

namespace Sys2Proof.Machine

open Sys2Proof.Claims

/-! ### What the host asks for (R349, R393) -/

/-- The host port as it asks by a command of its own, with no answer to send. -/
def hostAsks : Asker := { hostAsker with origin := 0 }

/-- An accepted command sent on to the standby is emitted, and nothing else. -/
theorem Dev.forward_shape (d : Dev) (a : Asker) (op index sub row : Nat) (value : List Byte) (jseq : Nat) :
    ∃ u, d.forward a op index sub row value jseq = { d with out := u } := by
  unfold Dev.forward
  split
  · exact ⟨_, rfl⟩
  · exact ⟨_, rfl⟩

@[simp] theorem Dev.forward_alm (d : Dev) (a : Asker) (op index sub row : Nat) (value : List Byte) (jseq : Nat) :
    (d.forward a op index sub row value jseq).alm = d.alm := by
  obtain ⟨u, h⟩ := d.forward_shape a op index sub row value jseq
  rw [h]

section Accepted

variable {b : Box} {a : Asker} (hf : b.dev.isFrozen a.master = false) (hroom : b.dev.journalRoom = true)
include hf hroom

/-- An EXEC that passes the checks answers with the status of what it runs; its entry leaves the Almanac as that made it. -/
theorem Box.ask_exec {index sub row : Nat} {value : List Byte} (hi : index < 0xF000)
    (hst : b.dev.execChecks a index sub row value = .ok) (reqSeq : Nat) :
    (b.ask a true index sub row value reqSeq).2.status = (b.dev.execObj a index value reqSeq b.dev.nextSeq).2.status ∧
      (b.ask a true index sub row value reqSeq).1.dev.alm = (b.dev.execObj a index value reqSeq b.dev.nextSeq).1.alm := by
  unfold Box.ask
  simp only [hf, hroom, hst, Nat.not_le.2 hi, if_true, if_false, Bool.not_true, Bool.false_eq_true, ne_eq, not_true_eq_false, Box.up_dev,
    true_and]
  split
  · rw [Dev.forward_alm, Dev.journal_alm]
  · rw [Dev.journal_alm]

/-- A WRITE that passes the checks answers with the status of the object's own rules. -/
theorem Box.ask_write {index sub row : Nat} {value : List Byte} {o : Obj} (hi : index < 0xF000) (ho : objAt index sub = some o)
    (hst : View.writeChecks ⟨b.mem, b.dev, a.master⟩ a index sub row value = .ok) (reqSeq : Nat) :
    let w := b.writeObj a (View.request ⟨b.mem, b.dev, a.master⟩ o index sub row value)
    (b.ask a false index sub row value reqSeq).2.status = w.2 ∧ (b.ask a false index sub row value reqSeq).1.dev.alm = w.1.dev.alm := by
  unfold Box.ask
  simp only [hf, hroom, hst, ho, Nat.not_le.2 hi, if_false, Bool.not_true, Bool.false_eq_true, ne_eq, not_true_eq_false, Box.up_dev,
    true_and]
  split
  · rw [Dev.forward_alm, Dev.journal_alm]
  · rw [Dev.journal_alm]

end Accepted

/-- What the host asks of the Almanac and is answered OK shows status 0 and leaves the Almanac as the request made it. -/
theorem Box.almBy_host_ok {b : Box} (hb : b.dev.booted = true) (hh : b.dev.pins.hostRole = true) {exec : Bool} {index row : Nat}
    {value : List Byte} (hok : (b.ask hostAsks exec index 0 row value 0).2.status = .ok) :
    (b.almBy .host exec index row value).dev =
      (b.ask hostAsks exec index 0 row value 0).1.dev.wr F.ALM_ENT_RESULT_STATUS 0 := by
  unfold hostAsks at hok
  unfold Box.almBy Box.by_
  simp only [hb, hh, hok]
  rfl

/-- What a command on the device and its packet memory leaves of the Almanac and of a field. -/
theorem State.actBox_after (s : State) (f : Box → Box) :
    ∃ t, s.actBox f = .next t ∧ t.dev.alm = (f (boxOf s)).dev.alm ∧ ∀ g, t.dev.rd g = (f (boxOf s)).dev.rd g :=
  ⟨_, rfl, rfl, fun _ => rfl⟩

/-- An EXEC of the host's that passes the checks and runs well. -/
theorem almBy_exec {s : State} {index : Nat} {value : List Byte} (hmay : hostMay s true index 0 0 value) (hi : index < 0xF000)
    (hok : (s.dev.execObj hostAsks index value 0 s.dev.nextSeq).2.status = .ok) :
    ∃ t, (s.actBox fun b => b.almBy .host true index 0 value) = .next t ∧
      t.dev.alm = (s.dev.execObj hostAsks index value 0 s.dev.nextSeq).1.alm ∧ t.dev.rd F.ALM_ENT_RESULT_STATUS = 0 := by
  obtain ⟨hb, hh, hf, hroom, hst⟩ := hmay
  obtain ⟨hstatus, halm⟩ := Box.ask_exec (b := boxOf s) (a := hostAsks) hf hroom hi hst 0
  have hdev := Box.almBy_host_ok (b := boxOf s) hb hh (hstatus.trans hok)
  obtain ⟨t, ht, hta, hrd⟩ := State.actBox_after s fun b => b.almBy .host true index 0 value
  refine ⟨t, ht, ?_, ?_⟩
  · rw [hta, hdev, Dev.wr_alm, halm]
    rfl
  · rw [hrd, hdev, Dev.rd_wr_same]
    rfl

/-! ### The rows as an object (R375) -/

/-- No register stands behind a row of the Almanac. -/
theorem objAt_almanac : ∃ o, objAt 0x3000 0 = some o ∧ ∀ row, ∀ c ∈ o.cols row, c.behind = [] :=
  ⟨_, rfl, fun _ c hc => by rw [List.mem_singleton.1 hc]; rfl⟩

/-- A value is cut into the fields that it carries. -/
theorem mem_of_mem_cutCols {cs : List (Nat × Col)} {value : List Byte} {p : Nat × Col × Nat} (h : p ∈ cutCols cs value) :
    (p.1, p.2.1) ∈ cs := by
  induction cs generalizing value with
  | nil => cases h
  | cons c cs ih =>
    rcases List.mem_cons.1 h with rfl | h
    · exact List.mem_cons_self
    · exact List.mem_cons_of_mem c (ih h)

/-- The fields that an address names are the object's. -/
theorem Obj.mem_cols_of_named {o : Obj} {sub row : Nat} {cs : List (Nat × Col)} (h : o.named sub row = some cs) {c : Nat × Col}
    (hc : c ∈ cs) : c.2 ∈ o.cols row := by
  have hall : ∀ x ∈ (((o.cols row).zipIdx 1).map (fun x => (x.2, x.1))).filter (fun x => !x.2.absent), x.2 ∈ o.cols row := fun x hx => by
    obtain ⟨y, hy, rfl⟩ := List.mem_map.1 (List.mem_filter.1 hx).1
    exact List.fst_mem_of_mem_zipIdx hy
  unfold Obj.named at h
  dsimp only at h
  split at h
  · cases h
  · split at h
    · split at h
      · cases h
        exact hall c hc
      · split at h
        · next x hx =>
          cases h
          rw [List.mem_singleton.1 hc]
          exact hall x (List.mem_of_find?_eq_some hx)
        · cases h
    · cases h
      obtain ⟨x, hx, rfl⟩ := List.mem_map.1 hc
      exact hall x hx
    · cases h
      cases hc

/-- A list filtered on a condition holds what it held. -/
theorem mem_of_mem_kept {α : Type} {p : α} {c : Bool} {f : α → Bool} {l : List α} (h : p ∈ if c then l.filter f else l) : p ∈ l := by
  cases c with
  | true => exact (List.mem_filter.1 h).1
  | false => exact h

/-- A request keeps what was asked, and covers fields of the object alone. -/
theorem View.request_spec (v : View) (o : Obj) (index sub row : Nat) (value : List Byte) :
    (v.request o index sub row value).index = index ∧ (v.request o index sub row value).row = row ∧
      (v.request o index sub row value).value = value ∧ ∀ p ∈ (v.request o index sub row value).checked, p.2.1 ∈ o.cols row := by
  unfold View.request
  split
  · exact ⟨rfl, rfl, rfl, nofun⟩
  · next cs hcs =>
    dsimp only
    split
    · exact ⟨rfl, rfl, rfl, nofun⟩
    · exact ⟨rfl, rfl, rfl, fun p hp => Obj.mem_cols_of_named hcs (mem_of_mem_cutCols (mem_of_mem_kept hp))⟩

theorem Dev.serviceFields_nil (d : Dev) : d.serviceFields [] = d := by
  unfold Dev.serviceFields
  split
  · rfl
  · rfl

/-- A row of the Almanac written with an entry that passes the checks of R148 takes it. -/
theorem Box.writeObj_almanac {b : Box} {a : Asker} {r : Request} (hi : r.index = 0x3000)
    (hcols : ∀ p ∈ r.checked, p.2.1.behind = []) (hne : r.checked.isEmpty = false)
    (hst : View.almStatus ⟨b.mem, b.dev, a.master⟩ r.row r.value = .ok) :
    b.writeObj a r = (b.up (·.almWrite r.row r.value a), .ok) := by
  have hserve : b.up (·.serviceFields (r.checked.flatMap (fun p => p.2.1.behind))) = b := by
    rw [List.flatMap_eq_nil_iff.2 hcols]
    exact congrArg (fun d => { b with dev := d }) b.dev.serviceFields_nil
  unfold Box.writeObj
  simp only [hserve, hi, hne, hst]
  rfl

/-! ### Writing a row (R148) -/

/-- What an entry keeps as its occurrences go on: its bytes, its author, that it is the device's own, its OCCURRENCE. -/
def AlmRow.entryOf (y : AlmRow) (bytes : List Byte) (author occ : Nat) : Prop :=
  y.bytes = bytes ∧ y.author = author ∧ y.copy = false ∧ y.occ = occ

/-- An entry of the device's own stays in its row as it takes an occurrence, or none. -/
theorem Dev.almMoveTo_own (d : Dev) (row : Nat) {x : AlmRow} (hc : x.copy = false) (n : Nat) (next : Option Tai) :
    ∃ y, d.almMoveTo row x n next = d.setAlm row y ∧ y.entryOf x.bytes x.author x.occ := by
  unfold Dev.almMoveTo
  simp only [hc]
  split
  · split
    · exact ⟨_, rfl, rfl, rfl, rfl, rfl⟩
    · exact ⟨_, rfl, rfl, rfl, rfl, rfl⟩
  · exact ⟨_, rfl, rfl, rfl, rfl, rfl⟩

/-- Staging leaves the entry. -/
theorem Dev.almStage_entry {d : Dev} {row : Nat} {x : AlmRow} (hrow : d.almRow row = some x) {bytes : List Byte} {author occ : Nat}
    (hx : x.entryOf bytes author occ) : ∃ y, (d.almStage row).almRow row = some y ∧ y.entryOf bytes author occ := by
  rcases Dev.almStage_cases hrow with h | h
  · exact ⟨x, by rw [h, hrow], hx⟩
  · exact ⟨d.stagedRow x, by rw [h, Dev.stagedAll_almRow], hx⟩

/-- A write whose action is not NONE leaves its entry in the row, at its first occurrence. -/
theorem Dev.almWrite_entry (d : Dev) (row : Nat) {entry : List Byte} (ha : almAction entry ≠ 0) (a : Asker) :
    ∃ y, (d.almWrite row entry a).almRow row = some y ∧ y.entryOf entry a.master 0 := by
  unfold Dev.almWrite
  rw [if_neg ha]
  obtain ⟨y, hy, hentry⟩ := Dev.almMoveTo_own ((d.almCancel row true).1.dropAlm row) row
    (x := { bytes := entry, author := a.master, role := a.role.code, originRank := ((d.almCancel row true).1.dropAlm row).rank,
            originRow := row, tod := ((d.almCancel row true).1.dropAlm row).almTod entry }) rfl 0
    (some (((d.almCancel row true).1.dropAlm row).almFirst entry))
  dsimp only
  rw [hy]
  exact Dev.almStage_entry (Dev.almRow_setAlm _ _ _) hentry

/-- The host's write of an entry that passes the checks. -/
theorem almanacWrite_host {s : State} {row : Fin 4096} {entry : List Byte} (hmay : hostMay s false 0x3000 0 row entry)
    (hne : (objAt 0x3000 0).map (fun o => (View.request ⟨(boxOf s).mem, s.dev, 1⟩ o 0x3000 0 row entry).checked.isEmpty) = some false)
    (hst : View.almStatus ⟨(boxOf s).mem, s.dev, 1⟩ row entry = .ok) :
    ∃ t, exec (.almanacWrite .host row entry) s = .next t ∧ t.dev.alm = (s.dev.almWrite row entry hostAsks).alm ∧
      t.dev.rd F.ALM_ENT_RESULT_STATUS = 0 := by
  obtain ⟨hb, hh, hf, hroom, hchecks⟩ := hmay
  obtain ⟨o, ho, hcols⟩ := objAt_almanac
  obtain ⟨hi, hrow, hvalue, hmem⟩ := View.request_spec ⟨(boxOf s).mem, s.dev, 1⟩ o 0x3000 0 row entry
  rw [ho, Option.map_some, Option.some_inj] at hne
  have hwrite := Box.writeObj_almanac (b := boxOf s) (a := hostAsks) hi (fun p hp => hcols _ _ (hmem p hp)) hne
    (by rw [hrow, hvalue]; exact hst)
  rw [hrow, hvalue] at hwrite
  obtain ⟨hstatus, halm⟩ := Box.ask_write (b := boxOf s) (a := hostAsks) hf hroom (by decide) ho hchecks 0
  have hdev := Box.almBy_host_ok (b := boxOf s) hb hh (hstatus.trans (congrArg Prod.snd hwrite))
  obtain ⟨t, ht, hta, hrd⟩ := State.actBox_after s fun b => b.almBy .host false 0x3000 row entry
  refine ⟨t, ht, ?_, ?_⟩
  · rw [hta, hdev, Dev.wr_alm, halm]
    exact congrArg (fun w : Box × Status => w.1.dev.alm) hwrite
  · rw [hrd, hdev, Dev.rd_wr_same]
    rfl

/-! ### Reading a row (R161) -/

theorem ofLE_lt (b : List Byte) : ofLE b < 256 ^ b.length := by
  induction b with
  | nil => decide
  | cons x b ih =>
    have hx := x.isLt
    have hcons : ofLE (x :: b) = x.toNat + 256 * ofLE b := rfl
    rw [hcons, List.length_cons, Nat.pow_succ']
    omega

theorem leAt_lt (b : List Byte) (i n : Nat) : leAt b i n < 256 ^ n := by
  have h := ofLE_lt (slice b i n)
  rwa [slice_length] at h

/-- Writing a run of words leaves all but registers. -/
theorem Dev.writeWords_shape (f : Nat → Fld) (v : Nat → Nat) (l : List Nat) (d : Dev) :
    ∃ r, l.foldl (fun d w => d.wr (f w) (v w)) d = { d with regs := r } := by
  induction l generalizing d with
  | nil => exact ⟨_, rfl⟩
  | cons w l ih =>
    obtain ⟨r, h⟩ := ih (d.wr (f w) (v w))
    exact ⟨r, h⟩

/-- A word written among fields that lie apart reads what was written to it. -/
theorem Dev.rd_writeWords {f : Nat → Fld} (hf : ∀ w u, w ≠ u → (f w).key ≠ (f u).key) (v : Nat → Nat) {l : List Nat} {w : Nat}
    (hw : w ∈ l) (d : Dev) : (l.foldl (fun d w => d.wr (f w) (v w)) d).rd (f w) = v w % 2 ^ (f w).w := by
  induction l using List.reverseRecOn with
  | nil => cases hw
  | append_singleton l u ih =>
    rw [List.foldl_append, List.foldl_cons, List.foldl_nil]
    by_cases h : w = u
    · rw [h, Dev.rd_wr_same]
    · rw [Dev.rd_wr_other _ _ (hf w u h)]
      exact ih ((List.mem_append.1 hw).resolve_right fun hu => h (List.mem_singleton.1 hu))

theorem windowFlds_apart (w u : Nat) (h : w ≠ u) : (F.ALM_ENT_DATA_DATA.at [w]).key ≠ (F.ALM_ENT_DATA_DATA.at [u]).key := by
  simp only [Fld.key, Fld.at, F.ALM_ENT_DATA_DATA, strideSum]
  omega

theorem windowFlds_ne_status : ∀ w : Fin 32, (F.ALM_ENT_DATA_DATA.at [w]).key ≠ F.ALM_ENT_RESULT_STATUS.key := by decide

/-- The window shows the row, word by word. -/
theorem Dev.rd_almWindow (d : Dev) (row : Nat) (w : Fin 32) :
    (d.almWindow row).rd (F.ALM_ENT_DATA_DATA.at [w]) = leAt (d.almShown row) (4 * w) 4 := by
  unfold Dev.almWindow
  dsimp only
  rw [Dev.rd_wr_other _ _ (windowFlds_ne_status w),
    Dev.rd_writeWords (f := fun w => F.ALM_ENT_DATA_DATA.at [w]) windowFlds_apart (fun w => leAt (d.almShown row) (4 * w) 4)
      (List.mem_range.2 w.isLt)]
  exact Nat.mod_eq_of_lt (leAt_lt _ _ 4)

theorem Dev.rd_almWindow_status (d : Dev) (row : Nat) : (d.almWindow row).rd F.ALM_ENT_RESULT_STATUS = 0 := by
  unfold Dev.almWindow
  dsimp only
  rw [Dev.rd_wr_same, Nat.zero_mod]

theorem almWindow_onlyRegisters (s : State) (row : Nat) : onlyRegisters s (s.after (s.dev.almWindow row)) := by
  obtain ⟨r, h⟩ := Dev.writeWords_shape (fun w => F.ALM_ENT_DATA_DATA.at [w]) (fun w => leAt (s.dev.almShown row) (4 * w) 4)
    (List.range 32) s.dev
  unfold Dev.almWindow
  dsimp only
  rw [h]
  rfl

theorem execAlmanacEntryRead_booted {s : State} (hb : s.dev.booted = true) (row : Fin 4096) :
    execAlmanacEntryRead row s = s.act fun d => d.almWindow row := State.act_congr (if_pos hb)

/-! ### Cancelling and confirming (R154, R162) -/

/-- A request's row reads back. -/
theorem beAt_row (row : Fin 4096) (r : List Byte) : beAt (toBE 2 row ++ r) 0 2 = row := by
  have h := beAt_append_toBE [] r 2 row
  rw [List.nil_append, List.length_nil] at h
  rw [h]
  have := row.isLt
  omega

theorem Dev.execObj_cancel (d : Dev) (a : Asker) (value : List Byte) (reqSeq jseq : Nat) :
    d.execObj a 0x3020 value reqSeq jseq =
      ((d.almCancel (beAt value 0 2) (beAt value 2 1 = 1)).1, { status := (d.almCancel (beAt value 0 2) (beAt value 2 1 = 1)).2 }) := rfl

theorem Dev.execObj_confirm (d : Dev) (a : Asker) (value : List Byte) (reqSeq jseq : Nat) :
    d.execObj a 0x3021 value reqSeq jseq = ((d.almConfirm (beAt value 0 2)).1, { status := (d.almConfirm (beAt value 0 2)).2 }) := rfl

/-- A cancel of an entry whose ARMED occurrence was not sent resolves it as the last. -/
theorem Dev.almCancel_armed {d : Dev} {row : Nat} {x : AlmRow} {at_ : Tai} (hrow : d.almRow row = some x) (hinst : x.inst = some at_)
    (hc : x.copy = false) (hst : x.state = 1) (hs : x.sent = false) :
    d.almCancel row true = ((d.setAlm row { x with ending := true }).almResolve row 3 .ok, .ok) := by
  unfold Dev.almCancel
  simp [hrow, hinst, hc, hst, Dev.almRetract_unsent hrow hs]

/-- A confirm before the cutoff marks an occurrence that waits for it. -/
theorem Dev.almConfirm_held {d : Dev} {row : Nat} {x : AlmRow} {at_ : Tai} (hrow : d.almRow row = some x) (hinst : x.inst = some at_)
    (hc : x.copy = false) (hst : x.state = 3) (hh : almHold x.bytes = true) (hcut : (d.almCutoff x at_).le d.time.tai = false) :
    d.almConfirm row = ((d.almSendConfirm x).setAlm row { x with confirmed := true }, .ok) := by
  unfold Dev.almConfirm
  simp [hrow, hinst, hc, hst, hh, hcut]

theorem execObj_cancel_row (d : Dev) (a : Asker) (row : Fin 4096) (jseq : Nat) :
    d.execObj a 0x3020 (toBE 2 row ++ toBE 1 1) 0 jseq = ((d.almCancel row true).1, { status := (d.almCancel row true).2 }) := by
  have hwhole := beAt_append_toBE (toBE 2 row) [] 1 1
  rw [List.append_nil, toBE_length] at hwhole
  rw [Dev.execObj_cancel, beAt_row, hwhole]
  rfl

theorem execObj_confirm_row (d : Dev) (a : Asker) (row : Fin 4096) (jseq : Nat) :
    d.execObj a 0x3021 (toBE 2 row) 0 jseq = ((d.almConfirm row).1, { status := (d.almConfirm row).2 }) := by
  have hrow := beAt_row row []
  rw [List.append_nil] at hrow
  rw [Dev.execObj_confirm, hrow]

/-- Settles O18: the host's request passes its checks, and its status and row are those of the operation that it names. -/
theorem almanacIsWrittenReadCancelledConfirmed : Obligations.AlmanacIsWrittenReadCancelledConfirmed := by
  unfold Obligations.AlmanacIsWrittenReadCancelledConfirmed
  refine ⟨fun s row entry hmay hne hst ha => ?_, fun s row hb => ?_, fun s row x at_ hmay hown hst hs => ?_,
    fun s row x at_ hmay hown hst hh hcut => ?_⟩
  · obtain ⟨t, ht, halm, hstatus⟩ := almanacWrite_host hmay hne hst
    obtain ⟨y, hy, hbytes, hauthor, hc, hocc⟩ := s.dev.almWrite_entry row ha hostAsks
    exact ⟨t, y, ht, (Dev.almRow_of_alm halm row).trans hy, hbytes, hauthor, hc, hocc, hstatus⟩
  · refine ⟨_, (execAlmanacEntryRead_booted hb row).trans (s.act_after _), almWindow_onlyRegisters s row, ?_, fun w => ?_⟩
    · rw [State.after_rd, Dev.rd_almWindow_status]
    · rw [State.after_rd, Dev.rd_almWindow]
  · obtain ⟨-, hrow, hinst, hc, -⟩ := hown
    have hrun := (execObj_cancel_row s.dev hostAsks row s.dev.nextSeq).trans
      (by rw [Dev.almCancel_armed hrow hinst hc hst hs])
    obtain ⟨t, ht, halm, hstatus⟩ := almBy_exec hmay (by decide) (congrArg (fun r : Dev × Ran => r.2.status) hrun)
    rw [hrun] at halm
    have hending : (s.dev.setAlm row { x with ending := true }).almRow row = some { x with ending := true } := Dev.almRow_setAlm _ _ _
    have hdone := rowDone_of_last halm hending hc (.inr rfl)
    exact ⟨t, ht, hdone, hstatus⟩
  · obtain ⟨-, hrow, hinst, hc, -⟩ := hown
    have hrun := (execObj_confirm_row s.dev hostAsks row s.dev.nextSeq).trans
      (by rw [Dev.almConfirm_held hrow hinst hc hst hh hcut])
    obtain ⟨t, ht, halm, hstatus⟩ := almBy_exec hmay (by decide) (congrArg (fun r : Dev × Ran => r.2.status) hrun)
    rw [hrun] at halm
    exact ⟨t, ht, (Dev.almRow_of_alm halm row).trans (Dev.almRow_setAlm _ _ _), hstatus⟩

end Sys2Proof.Machine

/-! PROOFS. The audio chapter: the end of a level's hang. -/

namespace Sys2Proof.Machine

open Sys2Proof.Claims

/-! ### The end of a level's hang (R249) -/

/-- The device with a level of a zone no longer ACTIVE, its hang forgotten. -/
def Dev.levelEnded (d : Dev) (z level : Nat) : Dev :=
  (d.wr (F.MTX_ZN_STATUS_ACTIVE.un z) (setBit (d.zf F.MTX_ZN_STATUS_ACTIVE z) level false)).setZone z
    { d.zone z with ended := (d.zone z).ended.del level }

theorem execZoneHangExpiry_over {s : State} {z : Fin 1536} {level : Fin 8} {e k : Nat} (hb : s.dev.booted = true)
    (he : (s.dev.zone z).ended.find? level = some e) (hk : s.dev.mtx.last = some k)
    (hover : e + s.dev.zf F.MTX_ZN_CFG_HANG_MS z * s.dev.fs / 1000 ≤ k + 1) :
    execZoneHangExpiry z level s = s.act fun d => d.levelEnded z level :=
  State.act_congr (by simp [hb, he, hk, hover, Dev.levelEnded])

/-- ACTIVE takes the value within its 8 bits. -/
theorem Dev.zf_levelEnded (d : Dev) (z level : Nat) : (d.levelEnded z level).zf F.MTX_ZN_STATUS_ACTIVE z =
    setBit (d.zf F.MTX_ZN_STATUS_ACTIVE z) level false % 2 ^ 8 :=
  Dev.rd_wr_same d (F.MTX_ZN_STATUS_ACTIVE.un z) _

/-- A device in SOLO whose register file holds 256 for the ACTIVE of zone 0, a field of 8 bits, and whose level 0 there ended its claim at
frame 0. Every write of a field is cut to its width, so no run comes here; the statement takes every state. -/
def wideActive : State :=
  { dev := { pins := { rstN := true }, mode := { mode := .solo }, regs := { live := [((F.MTX_ZN_STATUS_ACTIVE.un 0).key, 256)] }
             mtx := { last := some 0, zones := [(0, { ended := [(0, 0)] })] } } }

/-- Refutes O27 in its third clause: where ACTIVE holds more than the field's 8 bits, the level's end stores the value with the level's bit
cleared cut to those bits, and not that value itself. -/
theorem not_audioFramesAndZoneLevels : ¬ Obligations.AudioFramesAndZoneLevels := by
  unfold Obligations.AudioFramesAndZoneLevels
  rintro ⟨-, -, h⟩
  have hb : wideActive.dev.booted = true := by decide
  have he : (wideActive.dev.zone 0).ended.find? 0 = some 0 := by decide
  have hk : wideActive.dev.mtx.last = some 0 := rfl
  have hover : 0 + wideActive.dev.zf F.MTX_ZN_CFG_HANG_MS 0 * wideActive.dev.fs / 1000 ≤ 0 + 1 := by decide
  have hwide : wideActive.dev.zf F.MTX_ZN_STATUS_ACTIVE 0 = 256 := by decide
  obtain ⟨t, ht, hactive, -⟩ := h wideActive 0 0 0 0 hb he hk hover
  have hend := (execZoneHangExpiry_over (z := 0) (level := 0) hb he hk hover).trans (wideActive.act_after _)
  obtain rfl : wideActive.after (wideActive.dev.levelEnded 0 0) = t := Host.Outcome.next.inj (hend.symm.trans ht)
  have hcut : setBit 256 0 false % 2 ^ 8 = setBit 256 0 false := by
    rw [← hwide]
    exact (Dev.zf_levelEnded _ 0 0).symm.trans hactive
  exact absurd hcut (by decide)

end Sys2Proof.Machine

/-! PROOFS. The chapter on network ports: the commands that leave the packet memory alone, and what the host's data window stores. -/

namespace Sys2Proof.Machine

open Sys2Proof.Claims

/-! ### Reading stores nothing (R169, R178, R186) -/

/-- A word read by the host port stores no byte. -/
@[simp] theorem Box.hostRead_writes (b : Box) (addr : Nat) : (b.hostRead addr).1.writes = b.writes := by
  unfold Box.hostRead
  dsimp only
  split
  · rfl
  · split
    · rfl
    · rfl

/-- Nor does a burst of reads. -/
@[simp] theorem Box.readBurst_writes (b : Box) (addr n : Nat) : (b.readBurst addr n).1.writes = b.writes := by
  induction n generalizing b addr with
  | zero => rfl
  | succ n ih => exact (ih _ _).trans (b.hostRead_writes addr)

/-- A command on the device and its packet memory that stores no byte leaves the memory. -/
theorem State.actBox_mem_of_writes {s t : State} {f : Box → Box} (hf : (f { base := s.mem, dev := s.dev }).writes = [])
    (h : s.actBox f = .next t) : t.mem = s.mem := by
  cases h
  exact congrArg s.mem.writeAll hf

/-- A frame that reads words leaves the packet memory. -/
theorem State.hostReads_mem {s t : State} {addr n : Nat} (h : s.hostReads addr n = .next t) : t.mem = s.mem := by
  refine State.actBox_mem_of_writes ?_ h
  dsimp only
  split
  · rfl
  · exact Box.readBurst_writes _ addr n

/-- The port status frame leaves the packet memory. -/
theorem execReadPortStatus_mem {s t : State} (h : execReadPortStatus s = .next t) : t.mem = s.mem := by
  refine State.actBox_mem_of_writes ?_ h
  dsimp only
  split
  · rfl
  · rfl

/-- A command that neither receives a frame, nor writes through a register or an object, nor boots keeps the packet memory: the host
port's reads and its status frame store no byte, and every other such command acts on the device alone or, as NET_TX_POST, only reads
the memory. -/
theorem exec_keeps_mem {c : Instr} (hc : maySt c = false) {s t : State} (h : exec c s = .next t) : t.mem = s.mem := by
  cases c
  case readWord | readBurst | rocRead | latchingRead | bitAliasRead | queuePop => exact State.hostReads_mem h
  case readPortStatus => exact execReadPortStatus_mem h
  case bootStepEnd | frameRx | writeWord | writeBurst | registerWrite | bitAliasWrite | updStrobe | take | viewOn | viewOff | lockSet |
      queuePush | queueFlush | modeRequest | almanacWrite | almanacCancel | almanacConfirm | almanacLaunch | almanacDeferRetest |
      almanacDeferExpiry | cascadeProxyReq | audioFrameBoundary | tokenDeadline | commandFrameRx | takeOver | plannedHandover |
      applyProposals | odpRead | odpWrite | domainBegin | domainSegment | domainEnd | subscribe | unsubscribe | strobeGroups | thaw |
      freeze | commit | dmbRequest => cases hc
  all_goals
    cases h
    rfl

/-- Settles O52: the commands that store are set aside, and every other one keeps the packet memory. -/
theorem noOtherCommandStores : Obligations.NoOtherCommandStores := by
  unfold Obligations.NoOtherCommandStores
  intro c s t hc h
  exact exec_keeps_mem hc h

/-! ### The packet memory after a list of writes -/

/-- Where no address is written twice, each byte of the list stands at its address. -/
theorem Mem.read_writeAll_mem {l : List (Nat × Byte)} (hl : (l.map (·.1)).Nodup) {m : Mem} (hw : m.wf = true) {a : Nat} {v : Byte}
    (h : (a, v) ∈ l) : (m.writeAll l).read a = v := by
  induction l generalizing m with
  | nil => exact absurd h List.not_mem_nil
  | cons c l ih =>
    rw [List.map_cons, List.nodup_cons] at hl
    obtain ⟨hc, hl⟩ := hl
    rcases List.mem_cons.1 h with rfl | h
    · have hother : ∀ x ∈ l, x.1 ≠ a := fun x hx e => hc (List.mem_map.2 ⟨x, hx, e⟩)
      exact (Mem.read_writeAll_other l _ a (Mem.write_wf m a v hw) hother).trans ((Mem.read_write m a a v hw).trans (if_pos rfl))
    · exact ih hl (Mem.write_wf m c.1 c.2 hw) h

/-! ### The register that an address of the data window names (R186, R387 to R389) -/

/-- One more than the largest offset at which an array of these dimensions holds an element. -/
def dimsSpan : List (Nat × Nat) → Nat
  | [] => 1
  | (n, st) :: rest => (n - 1) * st + dimsSpan rest

/-- What has an index in an array has one in the rows below. -/
theorem indexIn_cons_isSome {n st x : Nat} {rest : List (Nat × Nat)} (h : (indexIn ((n, st) :: rest) x).isSome = true) :
    (indexIn rest (x % st)).isSome = true := by
  unfold indexIn at h
  split at h
  · exact Option.isSome_map ▸ h
  · cases h

/-- An offset that has an array index lies within the array. -/
theorem lt_dimsSpan_of_indexIn {dims : List (Nat × Nat)} {x : Nat} (h : (indexIn dims x).isSome = true) : x < dimsSpan dims := by
  induction dims generalizing x with
  | nil =>
    cases x with
    | zero => exact Nat.one_pos
    | succ x => cases h
  | cons c rest ih =>
    obtain ⟨n, st⟩ := c
    have hrest := ih (indexIn_cons_isSome h)
    unfold indexIn at h
    split at h
    · next hlt =>
      have hmul : st * (x / st) ≤ st * (n - 1) := Nat.mul_le_mul_left st (by omega)
      calc x = st * (x / st) + x % st := (Nat.div_add_mod x st).symm
        _ < st * (n - 1) + dimsSpan rest := by omega
        _ = dimsSpan ((n, st) :: rest) := by rw [dimsSpan, Nat.mul_comm]
    · cases h

/-- The register lies outside the data windows of the NET ports: in each port's page below its window, or in one page below the first
window or between the first and the second. -/
def Reg.offWindow (r : Reg) : Bool :=
  match r.dims with
  | (_, 0x4000) :: rest => decide (r.off + dimsSpan rest ≤ 0x2000)
  | dims => decide (r.off + dimsSpan dims ≤ 0x2000) || (decide (0x4000 ≤ r.off) && decide (r.off + dimsSpan dims ≤ 0x6000))

/-- The offset in block NET of word `k` of port `n`'s data window. -/
def windowOff (n : Fin 4) (k : Fin 512) : Nat := n.val * 0x4000 + 0x2000 + 4 * k.val

/-- The address of that word in the host map (R186, R387). -/
def windowAddr (n : Fin 4) (k : Fin 512) : Nat := 0x52000 + n.val * 0x4000 + 4 * k.val

/-- A register outside the windows has no array index there. -/
theorem Reg.index?_windowOff {r : Reg} (h : r.offWindow = true) (n : Fin 4) (k : Fin 512) : r.index? (windowOff n k) = none := by
  obtain ⟨blk, off, dims, units, flds⟩ := r
  unfold Reg.index?
  split
  · rfl
  · next hoff =>
    refine Option.not_isSome_iff_eq_none.1 fun hsome => ?_
    unfold windowOff at hoff hsome
    unfold Reg.offWindow at h
    dsimp only at h hoff hsome
    split at h
    · next c rest =>
      have hrest := lt_dimsSpan_of_indexIn (indexIn_cons_isSome hsome)
      have hend := of_decide_eq_true h
      omega
    · have hdims := lt_dimsSpan_of_indexIn hsome
      rw [Bool.or_eq_true, Bool.and_eq_true, decide_eq_true_eq, decide_eq_true_eq, decide_eq_true_eq] at h
      omega

/-- The registers of the data windows. -/
def netDataReg : Reg := ⟨5, 0x2000, [(4, 0x4000), (512, 4)], 1, [F.NET_DATA_DATA]⟩

theorem netDataReg_index? (n : Fin 4) (k : Fin 512) : netDataReg.index? (windowOff n k) = some [n.val, k.val] := by
  have hport : (windowOff n k - 0x2000) / 0x4000 = n.val := by unfold windowOff; omega
  have hword : (windowOff n k - 0x2000) % 0x4000 / 4 = k.val := by unfold windowOff; omega
  have hrest : (windowOff n k - 0x2000) % 0x4000 % 4 = 0 := by unfold windowOff; omega
  have hoff : ¬ windowOff n k < 0x2000 := by unfold windowOff; omega
  simp only [Reg.index?, netDataReg, indexIn, hport, hword, hrest, if_neg hoff, n.isLt, k.isLt, if_true, Option.map_some]

/-- A word of a data window is an element of the data registers, and of no other register of the block. -/
theorem findReg_windowOff (n : Fin 4) (k : Fin 512) : findReg 5 (windowOff n k) = some (netDataReg, [n.val, k.val]) := by
  have hbefore : ∀ r ∈ regsNET0 ++ regsNET1 ++ regsNET2.take 2, r.offWindow = true := by decide
  refine List.findSome?_eq_some_iff.2 ⟨regsNET0 ++ regsNET1 ++ regsNET2.take 2, netDataReg, regsNET2.drop 3, rfl, ?_, fun r hr => ?_⟩
  · rw [netDataReg_index?]
    rfl
  · rw [Reg.index?_windowOff (hbefore r hr)]
    rfl

/-- An address of a port's data window leads to its word (R387 to R389). -/
theorem decodeAddr_window (n : Fin 4) (k : Fin 512) : decodeAddr (windowAddr n k) = (5, windowOff n k) := by
  have hblk : windowAddr n k / 65536 % 16 = 5 := by unfold windowAddr; omega
  have hwin : windowAddr n k / 0x4000 % 4 = n.val := by unfold windowAddr; omega
  have hlow : (windowAddr n k % 65536).land (offsetMask 5) / 4 * 4 = 0x2000 + 4 * k.val := by
    have hmask := Nat.and_two_pow_sub_one_eq_mod (windowAddr n k % 65536) 14
    change (windowAddr n k % 65536 &&& 2 ^ 14 - 1) / 4 * 4 = _
    rw [hmask]
    unfold windowAddr
    omega
  have hpage : pageBase 5 n.val (0x2000 + 4 * k.val) + (0x2000 + 4 * k.val) = windowOff n k := by
    unfold pageBase windowOff
    rw [if_pos rfl, if_neg (by omega)]
    omega
  unfold decodeAddr
  simp only [hblk, hwin, hlow, if_true]
  unfold foldOff
  rw [hpage, findReg_windowOff, Option.isSome_some, if_pos rfl]

/-! ### A word written at a data window (R178, R186) -/

/-- The bytes that a word written at a data window stores: those of the selected buffer where the host holds it, and none else. -/
def Dev.windowWrites (d : Dev) (buf : Nat) (k : Fin 512) (data : Nat) : List (Nat × Byte) :=
  if d.hostBuffer buf then (List.range 4).map (fun i => (bufAddr buf (4 * k.val + i), byteOf (data / 256 ^ i))) else []

/-- The field of a word of a data window. -/
def dataFld (n : Fin 4) (k : Fin 512) : Fld := F.NET_DATA_DATA.at [n.val, k.val]

theorem Dev.regFields_window (d : Dev) (n : Fin 4) (k : Fin 512) : d.regFields netDataReg [n.val, k.val] (windowOff n k) = [dataFld n k] := rfl

/-- No field of block NET needs SAFETY for its row (R247, R251, R274). -/
theorem View.regNeedsSafety_net (v : View) {fs : List (Fld × Nat)} (h : ∀ x ∈ fs, x.1.blk = 5) : v.regNeedsSafety fs = false := by
  unfold View.regNeedsSafety
  refine List.any_eq_false.2 fun x hx => ?_
  split
  · simp [h x hx]
  · exact Bool.false_ne_true

theorem dataFld_off (n : Fin 4) (k : Fin 512) : (dataFld n k).off = windowOff n k := by
  simp only [dataFld, Fld.at, F.NET_DATA_DATA, strideSum, windowOff]
  omega

/-- Any word may be stored in a data window. -/
theorem fieldBad_dataFld (n : Fin 4) (k : Fin 512) (v : Nat) : fieldBad (dataFld n k) v = false := by
  have hmod : windowOff n k % 0x4000 = 0x2000 + 4 * k.val := by unfold windowOff; omega
  have hmgt : windowOff n k ≠ 0x4000 := by unfold windowOff; omega
  have hzero : windowOff n k ≠ 0 := by unfold windowOff; omega
  have hcfg : 0x2000 + 4 * k.val ≠ 0x400 := by omega
  have htol : 0x2000 + 4 * k.val ≠ 0x424 := by omega
  have hflt : ¬ 0x2000 + 4 * k.val < 0x700 := by omega
  have hblk : (dataFld n k).blk = 5 := rfl
  unfold fieldBad
  rw [dataFld_off, hblk]
  simp [hmod, hmgt, hzero, hcfg, htol, hflt]

/-- A word written at a data window is refused by no right, lock or mode of its own: the register stores it and does what its write
brings. -/
theorem Box.writeReg_window (b : Box) {w : Writer} (hw : w.raw = false) (n : Fin 4) (k : Fin 512) (data : Nat) :
    b.writeReg w 5 (windowOff n k) data none =
      ((b.up fun d => d.wr (dataFld n k) (fieldAt data 0 32)).regAct w netDataReg [n.val, k.val] (windowOff n k) data, .ok) := by
  have hdata : ∀ p : Fld × Nat → Bool, ∀ x ∈ [(dataFld n k, fieldAt data 0 32)].filter p, x.1 = dataFld n k := fun p x hx => by
    rw [List.mem_singleton.1 (List.mem_filter.1 hx).1]
  have hsafety : ∀ p : Fld × Nat → Bool, ([(dataFld n k, fieldAt data 0 32)].filter p).any (fun x => x.1.sa) = false := fun p =>
    List.any_eq_false.2 fun x hx => by rw [hdata p x hx]; exact Bool.false_ne_true
  have hneeds : ∀ (v : View) (p : Fld × Nat → Bool), v.regNeedsSafety ([(dataFld n k, fieldAt data 0 32)].filter p) = false :=
    fun v p => v.regNeedsSafety_net fun x hx => by rw [hdata p x hx]; rfl
  have hfields : [dataFld n k].filter (fun f => true && (decide (f.acc = .b) || decide (f.acc = .i) || decide (f.acc = .s) ||
      decide (f.acc = .w))) = [dataFld n k] := rfl
  have hvals : [dataFld n k].map (fun f => (f, fieldAt data f.lo f.w)) = [(dataFld n k, fieldAt data 0 32)] := rfl
  unfold Box.writeReg
  rw [findReg_windowOff]
  dsimp only
  rw [Dev.regFields_window, hfields, hvals, hw, hsafety, hneeds]
  simp only [List.filter_singleton, fieldBad_dataFld]
  rfl

/-- Writing a data window stores the word's bytes in the selected buffer (R178, R186). -/
theorem Box.regAct_window (b : Box) (w : Writer) (n : Fin 4) (k : Fin 512) (data : Nat) :
    (b.regAct w netDataReg [n.val, k.val] (windowOff n k) data).writes =
      b.writes ++ b.dev.windowWrites (b.dev.rd (F.NET_BUF_SEL_SEL.at [n.val])) k data := by
  have hat : windowOff n k % 0x4000 - 0x2000 = 4 * k.val := by unfold windowOff; omega
  unfold Box.regAct Dev.windowWrites
  simp only [netDataReg, List.headD_cons, hat, Nat.reduceEqDiff, decide_true, decide_false, Bool.false_and, Bool.or_false, if_true,
    Bool.false_eq_true, if_false]
  split
  · rfl
  · exact (List.append_nil _).symm

/-- The selected buffer is another field than the word's. -/
theorem bufSel_ne_dataFld (n : Fin 4) (k : Fin 512) : (F.NET_BUF_SEL_SEL.at [n.val]).key ≠ (dataFld n k).key := by
  simp only [dataFld, Fld.key, Fld.at, F.NET_BUF_SEL_SEL, F.NET_DATA_DATA, strideSum]
  omega

/-- What a word stores that a writer other than RawRegisters writes at an address of a port's data window. -/
theorem Box.writeWord_window (b : Box) {w : Writer} (hw : w.raw = false) (n : Fin 4) (k : Fin 512) (data : Nat) :
    (b.writeWord w (windowAddr n k) data).1.writes =
      b.writes ++ b.dev.windowWrites (b.dev.rd (F.NET_BUF_SEL_SEL.at [n.val])) k data := by
  have halias : bitAt (windowAddr n k) 23 = false := by
    unfold bitAt
    rw [Nat.div_eq_of_lt (by unfold windowAddr; omega)]
    rfl
  have hsel : ∀ v, (b.dev.wr (dataFld n k) v).rd (F.NET_BUF_SEL_SEL.at [n.val]) = b.dev.rd (F.NET_BUF_SEL_SEL.at [n.val]) :=
    fun v => Dev.rd_wr_other _ v (bufSel_ne_dataFld n k)
  unfold Box.writeWord
  rw [halias, if_neg Bool.false_ne_true]
  dsimp only
  rw [decodeAddr_window, b.writeReg_window hw, Box.regAct_window, Box.up_dev, hsel]
  rfl

/-- Where the port is neither frozen nor starting nor in SAFE_HOLD, and no lock bars it, a written word stores what its register's write
stores. -/
theorem Box.hostWrite_writes {b : Box} (hf : b.dev.isFrozen 1 = false) (he : b.dev.hostEarly = false) (hm : b.dev.mode.mode ≠ .safeHold)
    (hl : bitAt (b.dev.rd F.LKF_LOCK_LOCK) 10 = false) (addr data : Nat) :
    (b.hostWrite addr data).writes = (b.writeWord { asker := hostAsker, raw := false } addr data).1.writes := by
  unfold Box.hostWrite
  simp [hf, he, hm, hl]

/-- The packet memory after WRITE_WORD at an address of a port's data window. -/
theorem execWriteWord_window {s : State} (hp : s.dev.hostPort = true) (hf : s.dev.isFrozen 1 = false) (he : s.dev.hostEarly = false)
    (hm : s.dev.mode.mode ≠ .safeHold) (hl : bitAt (s.dev.rd F.LKF_LOCK_LOCK) 10 = false) (n : Fin 4) (k : Fin 512) (data : Word) :
    ∃ t, exec (.writeWord (BitVec.ofNat 24 (windowAddr n k)) data) s = .next t ∧
      t.mem = s.mem.writeAll (s.dev.windowWrites (s.dev.rd (F.NET_BUF_SEL_SEL.at [n.val])) k data.toNat) := by
  obtain ⟨t, ht, -, hmem, -⟩ := s.actBox_next fun b => if b.dev.hostPort then
    b.writeBurst (BitVec.ofNat 24 (windowAddr n k)).toNat [data] else b
  have haddr : (BitVec.ofNat 24 (windowAddr n k)).toNat = windowAddr n k := by
    rw [BitVec.toNat_ofNat]
    exact Nat.mod_eq_of_lt (by unfold windowAddr; omega)
  refine ⟨t, ht, hmem.trans (congrArg s.mem.writeAll ?_)⟩
  dsimp only
  rw [if_pos hp, haddr]
  exact (Box.hostWrite_writes hf he hm hl _ _).trans (Box.writeWord_window _ rfl n k data.toNat)

/-- The four addresses of a word in a buffer differ. -/
theorem windowWrites_nodup (d : Dev) (buf : Nat) (k : Fin 512) (data : Nat) : ((d.windowWrites buf k data).map (·.1)).Nodup := by
  unfold Dev.windowWrites
  split
  · rw [List.map_map]
    refine List.Nodup.map (fun i j h => ?_) List.nodup_range
    simp only [Function.comp_apply, bufAddr] at h
    omega
  · exact List.nodup_nil

/-- A host transmit buffer takes the word's bytes in little-endian order. -/
theorem Dev.mem_windowWrites {d : Dev} {buf : Nat} (hb : d.hostBuffer buf = true) (k : Fin 512) (data : Nat) {c : Nat × Byte} :
    c ∈ d.windowWrites buf k data ↔ ∃ i : Fin 4, c = (bufAddr buf (4 * k.val + i.val), byteOf (data / 256 ^ i.val)) := by
  unfold Dev.windowWrites
  rw [if_pos hb, List.mem_map]
  constructor
  · rintro ⟨i, hi, rfl⟩
    exact ⟨⟨i, List.mem_range.1 hi⟩, rfl⟩
  · rintro ⟨i, rfl⟩
    exact ⟨i.val, List.mem_range.2 i.isLt, rfl⟩

/-- Settles O53: the address decodes to the word's register, whose write stores the four bytes where the host holds the selected buffer,
and stores nothing elsewhere. -/
theorem dataWindowWritesHostBuffersAlone : Obligations.DataWindowWritesHostBuffersAlone := by
  unfold Obligations.DataWindowWritesHostBuffersAlone
  intro s n k data hp hf he hm hl hw buf
  obtain ⟨t, ht, hmem⟩ := execWriteWord_window hp hf he hm hl n k data
  refine ⟨t, ht, fun hb i => ?_, fun hb a ha => ?_, fun hb => ?_⟩
  · rw [hmem]
    exact Mem.read_writeAll_mem (windowWrites_nodup _ _ _ _) hw ((Dev.mem_windowWrites hb k _).2 ⟨i, rfl⟩)
  · rw [hmem]
    refine Mem.read_writeAll_other _ _ _ hw fun c hc => ?_
    obtain ⟨i, rfl⟩ := (Dev.mem_windowWrites hb k _).1 hc
    exact (ha i).symm
  · rw [hmem, Dev.windowWrites, if_neg (by rw [hb]; exact Bool.false_ne_true)]
    rfl

end Sys2Proof.Machine

/-! PROOFS. The chapter on network ports: the device's own ARP requests, and a context whose destination stands past the NET ports. -/

namespace Sys2Proof.Machine

open Sys2Proof.Claims

/-! ### A context whose destination the register file gives to MGT (R179, R196) -/

/-- The ARP request for the MAC address of a context's IPv4 destination (R196). -/
def Dev.arpRequest (d : Dev) (c : Nat) : List Byte :=
  let t := d.ctxDest c false
  arpFrame (2 ^ 48 - 1) (d.station t.1) 1 (d.station t.1) (d.ip4 t.1).1 0 (d.nextHop t.1 t.2)

/-- An IPv4 unicast destination behind a port in service is asked for by ARP. -/
theorem Dev.resolve_ipv4 {d : Dev} {c : Nat} (h4 : d.cf F.STR_CTX_CFG_IPV6 c = 0) (hs : d.inServicePort (d.ctxDest c false).1 = true)
    (hg : isGroup false (d.ctxDest c false).2 = false) (hz : (d.ctxDest c false).2 ≠ 0) :
    d.resolve c false = d.queueTx (d.ctxDest c false).1 3 (d.arpRequest c) := by
  unfold Dev.resolve Dev.arpRequest
  simp [h4, hs, hg, hz]

theorem execArpRefresh_ipv4 {s : State} {c : Fin 256} (hb : s.dev.booted = true) (hst : s.dev.ctxState c = 4)
    (h4 : s.dev.cf F.STR_CTX_CFG_IPV6 c = 0) (hs : s.dev.inServicePort (s.dev.ctxDest c false).1 = true)
    (hg : isGroup false (s.dev.ctxDest c false).2 = false) (hz : (s.dev.ctxDest c false).2 ≠ 0) :
    execArpRefresh c false s = s.act fun d => d.queueTx (d.ctxDest c false).1 3 (d.arpRequest c) := by
  refine State.act_congr ?_
  rw [if_pos (by simp [hb, hst])]
  exact Dev.resolve_ipv4 h4 hs hg hz

/-- A frame of the device's own waits in its class at the end of the port's queue, with the port's tag. -/
theorem Dev.queueTx_own (d : Dev) (p cls : Nat) (bytes : List Byte) :
    ((d.queueTx p cls bytes).port p).txq = (d.port p).txq ++ [⟨cls, none, .frame (portOf p) (padFrame (d.tagOwn p bytes))⟩] :=
  congrArg NetPortSt.txq (Tbl.get_put_same _ _ _ _)

/-- MGT tags none of the device's own frames: it has no VLAN row (R179). -/
theorem Dev.tagOwn_mgt (d : Dev) (b : List Byte) : d.tagOwn 4 b = b := by
  unfold Dev.tagOwn
  exact if_pos (.inl rfl)

/-- The EtherType of an untagged ARP frame. -/
theorem beAt_arpFrame_etype (dst src op sha spa tha tpa : Nat) : beAt (padFrame (arpFrame dst src op sha spa tha tpa)) 12 2 = 0x0806 := by
  have hetype : ∀ r, beAt (toBE 6 dst ++ toBE 6 src ++ toBE 2 0x0806 ++ r) 12 2 = 0x0806 := fun r =>
    beAt_append_toBE (toBE 6 dst ++ toBE 6 src) r 2 0x0806
  simp only [List.append_assoc] at hetype
  simp only [padFrame, arpFrame, ethHead, List.append_assoc]
  exact hetype _

/-- A device in SOLO whose register file holds 4 for PORT_A of context 0, a field of 2 bits, and 1 under the key that the SVC_VID of a port 4
would have, where no register lies; the context transmits to 10.0.0.1. Every write of a field is cut to its width, so no run comes here; the
statement takes every state. -/
def mgtDest : State :=
  { dev := { pins := { rstN := true }, mode := { mode := .solo }
             regs := { live := [((F.STR_CTX_NET_PORT_A.un 0).key, 4), (((F.STR_CTX_DST_A_ADDR.at [3]).un 0).key, 0x0A000001),
               ((F.STR_CTX_STATUS_STATE.un 0).key, 4), ((F.NET_VLAN_SVC_VID.at [4]).key, 1)] } } }

/-- Refutes O24 in its sixth clause: where PORT_A holds 4, past the field's 2 bits, the ARP request waits on MGT, which tags no frame, though
a value stands where the clause looks for a VLAN of the port. -/
theorem not_networkTransmission : ¬ Obligations.NetworkTransmission := by
  unfold Obligations.NetworkTransmission
  rintro ⟨-, -, -, -, -, h, -⟩
  have hb : mgtDest.dev.booted = true := by decide
  have hst : mgtDest.dev.ctxState (0 : Fin 256) = 4 := by decide
  have h4 : mgtDest.dev.cf F.STR_CTX_CFG_IPV6 (0 : Fin 256) = 0 := by decide
  have hport : (mgtDest.dev.ctxDest (0 : Fin 256) false).1 = 4 := by decide
  have hs : mgtDest.dev.inServicePort (mgtDest.dev.ctxDest (0 : Fin 256) false).1 = true := by decide
  have hg : isGroup false (mgtDest.dev.ctxDest (0 : Fin 256) false).2 = false := by decide
  have hz : (mgtDest.dev.ctxDest (0 : Fin 256) false).2 ≠ 0 := by decide
  have hvid : mgtDest.dev.rd (F.NET_VLAN_SVC_VID.at [(mgtDest.dev.ctxDest (0 : Fin 256) false).1]) ≠ 0 := by decide
  obtain ⟨t, bytes, ht, -, -, htag, htxq, -⟩ := h mgtDest 0 hb hst h4 hs hg hz
  have hexec := (execArpRefresh_ipv4 hb hst h4 hs hg hz).trans (mgtDest.act_after _)
  obtain rfl := Host.Outcome.next.inj (hexec.symm.trans ht)
  have hqueued := (Dev.queueTx_own mgtDest.dev _ 3 (mgtDest.dev.arpRequest (0 : Fin 256))).symm.trans htxq
  have hbytes : padFrame (mgtDest.dev.arpRequest (0 : Fin 256)) = bytes := by
    rw [hport, Dev.tagOwn_mgt] at hqueued
    simpa using hqueued
  have htagged := (htag hvid).1
  rw [← hbytes] at htagged
  exact absurd ((beAt_arpFrame_etype _ _ _ _ _ _ _).symm.trans htagged) (by decide)

end Sys2Proof.Machine

/-! PROOFS. The chapter on media streams: packets in and out of a context, its silence, its history. -/

namespace Sys2Proof.Machine

open Sys2Proof.Claims

/-! ### Columns of the context registers (R210) -/

/-- A field's place in the register map, whatever unit its select register opens. -/
def Fld.column (f : Fld) : Nat := f.key % 33554432

@[simp] theorem Fld.column_un (f : Fld) (c : Nat) : (f.un c).column = f.column := by
  simp only [Fld.column, Fld.key, Fld.un]
  omega

/-- A column lies in block QUE in every unit or in none. -/
@[simp] theorem Fld.inQue_un (f : Fld) (c : Nat) : (f.un c).inQue = f.inQue := by
  simp only [Fld.inQue, Fld.key, Fld.un]
  congr 1
  omega

/-- Every field outside block QUE reads alike in both devices, but for the columns of the fields named. -/
def Dev.ColumnsBut (fs : List Fld) (d e : Dev) : Prop :=
  ∀ g : Fld, g.inQue = false → g.column ∉ fs.map Fld.column → e.rd g = d.rd g

namespace Dev.ColumnsBut

variable {fs gs : List Fld} {d e e' : Dev}

theorem refl : ColumnsBut fs d d := fun _ _ _ => rfl

theorem trans (h : ColumnsBut fs d e) (h' : ColumnsBut gs e e') : ColumnsBut (fs ++ gs) d e' := fun g hq hg => by
  rw [List.map_append, List.mem_append, not_or] at hg
  rw [h' g hq hg.2, h g hq hg.1]

/-- What changes one field changes its column. -/
theorem step (h : ColumnsBut fs d e) {f : Fld} (h' : ReadsBut [f] e e') (hf : f.column ∈ fs.map Fld.column) : ColumnsBut fs d e' :=
  fun g hq hg => by
    have hne : g.key ∉ [f].map Fld.key := fun hk => hg (by
      rw [Fld.column, List.mem_singleton.1 hk]
      exact hf)
    rw [h' g hq hne, h g hq hg]

theorem wr (h : ColumnsBut fs d e) {f : Fld} (hf : f.column ∈ fs.map Fld.column) (v : Nat) : ColumnsBut fs d (e.wr f v) :=
  h.step (ReadsBut.refl.wr List.mem_cons_self v) hf

theorem tally (h : ColumnsBut fs d e) {f : Fld} (hf : f.column ∈ fs.map Fld.column) (n : Nat) : ColumnsBut fs d (e.tally f n) :=
  h.step (ReadsBut.refl.tally List.mem_cons_self n) hf

theorem sticky (h : ColumnsBut fs d e) {f : Fld} (hf : f.column ∈ fs.map Fld.column) (unit : Nat) : ColumnsBut fs d (e.sticky f unit) :=
  h.step (ReadsBut.refl.sticky List.mem_cons_self unit) hf

/-- A context's field outside the columns named reads as before. -/
theorem cf (h : ColumnsBut fs d e) {g : Fld} (hq : g.inQue = false) (hg : g.column ∉ fs.map Fld.column) (c : Nat) :
    e.cf g c = d.cf g c :=
  h (g.un c) (by simpa using hq) (by simpa using hg)

theorem on (h : ColumnsBut fs d e) {g : Fld} (hq : g.inQue = false) (hg : g.column ∉ fs.map Fld.column) : e.on g = d.on g := by
  rw [Dev.on_eq, Dev.on_eq, h g hq hg]

end Dev.ColumnsBut

@[simp] theorem Dev.ctx_setCtx (d : Dev) (c : Nat) (x : CtxSt) : (d.setCtx c x).ctx c = x := Tbl.get_put_same _ _ _ _

theorem Dev.ctx_of_str {d e : Dev} (h : e.str = d.str) (c : Nat) : e.ctx c = d.ctx c := by
  unfold Dev.ctx
  rw [h]

/-! ### What only writes fields and posts events -/

theorem onlyRegisters_wr {s : State} {e : Dev} (h : onlyRegisters s (s.after e)) (f : Fld) (v : Nat) :
    onlyRegisters s (s.after (e.wr f v)) := by
  have hset := congrArg (fun t : State => { t with dev := { t.dev with regs := (e.wr f v).regs } }) h
  exact hset

theorem onlyRegisters_sticky {s : State} {e : Dev} (h : onlyRegisters s (s.after e)) (f : Fld) (unit : Nat) :
    onlyRegisters s (s.after (e.sticky f unit)) := by
  obtain ⟨r, x, hshape⟩ := e.sticky_shape f unit []
  rw [hshape]
  have hset := congrArg (fun t : State => { t with dev := { t.dev with regs := r, ques := x, evSeq := (e.evSeq + 1) % 65536 } }) h
  exact hset

/-! ### Silence (R203, R205) -/

/-- A context that is LOST. -/
def Dev.streamLost (d : Dev) (c : Nat) : Dev :=
  ((d.wr (F.STR_CTX_STATUS_STATE.un c) 3).flag F.STR_IRQ_STATUS_LOST).sticky (F.STR_CTX_STICKY_LOST_SEEN.un c) c

theorem execStreamTimeout_silent {s : State} {c : Fin 256} (hb : s.dev.booted = true) (hst : s.dev.ctxState c = 2)
    (ha : s.dev.ctxSilent c (s.dev.ctx c).heardA = true) (hs : s.dev.ctxSilent c (s.dev.ctx c).heardB = true) :
    execStreamTimeout c s = s.act fun d => d.streamLost c :=
  State.act_congr (if_pos (by simp [hb, hst, ha, hs]))

/-- A context's bit that an event sets. -/
theorem Dev.rd_sticky_un (d : Dev) {f : Fld} (hq : f.inQue = false) (hw : f.w = 1) (c unit : Nat) :
    (d.sticky (f.un c) unit).rd (f.un c) = 1 := by
  rw [Dev.rd_sticky _ _ _ _ _ (by simpa using hq), if_pos rfl, Fld.un, hw]
  rfl

theorem Dev.ctxState_streamLost (d : Dev) (c : Nat) : (d.streamLost c).ctxState c = 3 := by
  have hkept : ColumnsBut [F.STR_IRQ_STATUS_LOST, F.STR_CTX_STICKY_LOST_SEEN] (d.wr (F.STR_CTX_STATUS_STATE.un c) 3) (d.streamLost c) :=
    (ColumnsBut.refl.wr (by simp) 1).sticky (by simp) c
  exact (hkept.cf (by decide) (by decide) c).trans (Dev.rd_wr_same _ _ _)

theorem streamLost_onlyRegisters (s : State) (c : Nat) : onlyRegisters s (s.after (s.dev.streamLost c)) :=
  onlyRegisters_sticky (onlyRegisters_wr (onlyRegisters_wr rfl _ _) _ _) _ _

/-- The bit that says whether a copy is heard. -/
def copyOk (copyB : Bool) : Fld := pick copyB F.STR_CTX_STATUS_COPY_A_OK F.STR_CTX_STATUS_COPY_B_OK

/-- A context whose copy is not heard any more. -/
def Dev.copyLost (d : Dev) (c : Nat) (copyB : Bool) : Dev := d.wr ((copyOk copyB).un c) 0

/-- A paired context that runs on its other copy. -/
def Dev.degraded (d : Dev) (c : Nat) : Dev :=
  ((d.wr (F.STR_CTX_STATUS_DEGRADED.un c) 1).flag F.STR_IRQ_STATUS_COPY_LOST).sticky (F.STR_CTX_STICKY_COPY_LOST_SEEN.un c) c

theorem copyOk_apart : ∀ copyB : Bool, ∀ g ∈ [F.STR_CTX_STATUS_STATE, F.STR_CTX_CFG_PAIRED],
    g.inQue = false ∧ g.column ∉ [copyOk copyB].map Fld.column := by decide

/-- A copy's timeout leaves the context's STATE and PAIRED. -/
theorem Dev.copyLost_runs (d : Dev) (c : Nat) (copyB : Bool) :
    (d.copyLost c copyB).ctxState c = d.ctxState c ∧ (d.copyLost c copyB).ctxPaired c = d.ctxPaired c := by
  have hkept : ColumnsBut [copyOk copyB] d (d.copyLost c copyB) := ColumnsBut.refl.wr (by simp) 0
  obtain ⟨hq, hg⟩ := copyOk_apart copyB F.STR_CTX_STATUS_STATE (by simp)
  obtain ⟨hq', hg'⟩ := copyOk_apart copyB F.STR_CTX_CFG_PAIRED (by simp)
  refine ⟨hkept.cf hq hg c, ?_⟩
  rw [Dev.ctxPaired, hkept.cf hq' hg' c, Dev.ctxPaired]

theorem Dev.rd_copyLost (d : Dev) (c : Nat) (copyB : Bool) : (d.copyLost c copyB).rd ((copyOk copyB).un c) = 0 := by
  rw [Dev.copyLost, Dev.rd_wr_same, Nat.zero_mod]

/-- A degraded context shows it, and which copies it hears as before. -/
theorem Dev.rd_degraded (d : Dev) (c : Nat) (copyB : Bool) :
    (d.degraded c).rd (F.STR_CTX_STATUS_DEGRADED.un c) = 1 ∧ (d.degraded c).rd (F.STR_CTX_STICKY_COPY_LOST_SEEN.un c) = 1 ∧
      (d.degraded c).rd ((copyOk copyB).un c) = d.rd ((copyOk copyB).un c) := by
  have hevent : ColumnsBut [F.STR_IRQ_STATUS_COPY_LOST, F.STR_CTX_STICKY_COPY_LOST_SEEN] (d.wr (F.STR_CTX_STATUS_DEGRADED.un c) 1)
      (d.degraded c) := (ColumnsBut.refl.wr (by simp) 1).sticky (by simp) c
  have hkept : ColumnsBut [F.STR_CTX_STATUS_DEGRADED, F.STR_IRQ_STATUS_COPY_LOST, F.STR_CTX_STICKY_COPY_LOST_SEEN] d (d.degraded c) :=
    ((ColumnsBut.refl.wr (by simp) 1).wr (by simp) 1).sticky (by simp) c
  refine ⟨(hevent.cf (by decide) (by decide) c).trans (Dev.rd_wr_same _ _ _), Dev.rd_sticky_un _ rfl rfl _ _, ?_⟩
  cases copyB
  case false => exact hkept.cf (by decide) (by decide) c
  case true => exact hkept.cf (by decide) (by decide) c

/-- The device after a copy's timeout: a paired context that is RUNNING is degraded. -/
def Dev.copyTimedOut (d : Dev) (c : Nat) (copyB : Bool) : Dev :=
  if d.ctxState c = 2 && d.ctxPaired c then (d.copyLost c copyB).degraded c else d.copyLost c copyB

theorem execCopyTimeout_silent {s : State} {c : Fin 256} {copyB : Bool} (hb : s.dev.booted = true)
    (hon : s.dev.on ((copyOk copyB).un c) = true)
    (hs : s.dev.ctxSilent c (pick copyB (s.dev.ctx c).heardA (s.dev.ctx c).heardB) = true) :
    execCopyTimeout c copyB s = s.act fun d => d.copyTimedOut c copyB := by
  refine State.act_congr ((if_pos (by simpa [hb, hs, copyOk] using hon)).trans ?_)
  obtain ⟨hstate, hpaired⟩ := s.dev.copyLost_runs c copyB
  rw [Dev.copyTimedOut, ← hstate, ← hpaired]
  rfl

theorem Dev.copyTimedOut_spec (d : Dev) (c : Nat) (copyB : Bool) :
    (d.copyTimedOut c copyB).rd ((copyOk copyB).un c) = 0 ∧
      (d.ctxState c = 2 → d.ctxPaired c = true → (d.copyTimedOut c copyB).rd (F.STR_CTX_STATUS_DEGRADED.un c) = 1 ∧
        (d.copyTimedOut c copyB).rd (F.STR_CTX_STICKY_COPY_LOST_SEEN.un c) = 1) := by
  unfold Dev.copyTimedOut
  split
  case isTrue =>
    obtain ⟨hdegraded, hseen, hok⟩ := (d.copyLost c copyB).rd_degraded c copyB
    exact ⟨hok.trans (d.rd_copyLost c copyB), fun _ _ => ⟨hdegraded, hseen⟩⟩
  case isFalse hruns =>
    exact ⟨d.rd_copyLost c copyB, fun hst hpaired => absurd (by simp [hst, hpaired]) hruns⟩

theorem copyTimedOut_onlyRegisters (s : State) (c : Nat) (copyB : Bool) : onlyRegisters s (s.after (s.dev.copyTimedOut c copyB)) := by
  have hlost : onlyRegisters s (s.after (s.dev.copyLost c copyB)) := onlyRegisters_wr rfl _ _
  unfold Dev.copyTimedOut
  split
  · exact onlyRegisters_sticky (onlyRegisters_wr (onlyRegisters_wr hlost _ _) _ _) _ _
  · exact hlost

/-! ### The history (R211) -/

/-- A context's sticky bits, in the order in which they are cleared. -/
def ctxStickies : List Fld :=
  [F.STR_CTX_STICKY_STEP_JUMP_SEEN, F.STR_CTX_STICKY_COPY_LOST_SEEN, F.STR_CTX_STICKY_SSRC_CHANGE_SEEN,
    F.STR_CTX_STICKY_FORMAT_ERR_SEEN, F.STR_CTX_STICKY_EARLY_SEEN, F.STR_CTX_STICKY_LATE_SEEN, F.STR_CTX_STICKY_LOST_SEEN]

/-- Fields of a context cleared one after the other. -/
def Dev.cleared (d : Dev) (c : Nat) (l : List Fld) : Dev := l.foldl (fun d f => d.wr (f.un c) 0) d

theorem Dev.streamHistoryClear_eq (d : Dev) (c : Nat) :
    d.streamHistoryClear c = (d.cleared c ctxStickies).wr (F.STR_CTX_MARGIN_MIN_MARGIN.un c) 0x7FFFFFFF := rfl

/-- A field that reads 0 reads 0 when others have been cleared. -/
theorem Dev.rd_cleared_of_zero {d : Dev} {g : Fld} (h : d.rd g = 0) (c : Nat) (l : List Fld) : (d.cleared c l).rd g = 0 :=
  List.foldlRecOn (motive := fun e : Dev => e.rd g = 0) l _ h fun e he f _ => by
    rw [Dev.rd_wr, Nat.zero_mod, he, ite_self]

theorem Dev.rd_cleared {l : List Fld} {f : Fld} (hf : f ∈ l) (d : Dev) (c : Nat) : (d.cleared c l).rd (f.un c) = 0 := by
  induction l generalizing d with
  | nil => cases hf
  | cons g l ih =>
    obtain rfl | hl := List.mem_cons.1 hf
    · exact Dev.rd_cleared_of_zero ((Dev.rd_wr_same _ _ _).trans (Nat.zero_mod _)) c l
    · exact ih hl _

theorem ctxStickies_apart : ∀ f ∈ ctxStickies, f.inQue = false ∧ f.column ∉ [F.STR_CTX_MARGIN_MIN_MARGIN].map Fld.column := by decide

/-- The history of a context holds no sticky bit once cleared. -/
theorem Dev.rd_streamHistoryClear {f : Fld} (hf : f ∈ ctxStickies) (d : Dev) (c : Nat) :
    (d.streamHistoryClear c).rd (f.un c) = 0 := by
  obtain ⟨hq, hg⟩ := ctxStickies_apart f hf
  rw [Dev.streamHistoryClear_eq]
  exact ((ColumnsBut.refl.wr (by simp) _).cf hq hg c).trans (Dev.rd_cleared hf d c)

theorem streamHistoryClear_onlyRegisters (s : State) (c : Nat) : onlyRegisters s (s.after (s.dev.streamHistoryClear c)) :=
  onlyRegisters_wr (List.foldlRecOn (motive := fun e : Dev => onlyRegisters s (s.after e)) _ _ rfl
    fun _ he _ _ => onlyRegisters_wr he _ _) _ _

theorem execStreamHistoryClear_booted {s : State} (hb : s.dev.booted = true) (c : Fin 256) :
    execStreamHistoryClear c s = s.act fun d => d.streamHistoryClear c :=
  State.act_congr (if_pos hb)

/-! ### Transmit (R196, R199) -/

/-- A write of TS_LAST leaves the address that a copy goes to. -/
theorem Dev.ctxAddr_wr_ts (d : Dev) (c v : Nat) :
    (d.wr (F.STR_CTX_TS_LAST_TS.un c) v).ctxAddr F.STR_CTX_DST_A_ADDR c = d.ctxAddr F.STR_CTX_DST_A_ADDR c := by
  have hkept : ColumnsBut [F.STR_CTX_TS_LAST_TS] d (d.wr (F.STR_CTX_TS_LAST_TS.un c) v) := ColumnsBut.refl.wr (by simp) v
  have haddr : ∀ j ∈ List.range 4, (F.STR_CTX_DST_A_ADDR.at [j]).inQue = false ∧
      (F.STR_CTX_DST_A_ADDR.at [j]).column ∉ [F.STR_CTX_TS_LAST_TS].map Fld.column := by decide
  refine List.foldl_ext _ _ _ fun a j hj => ?_
  obtain ⟨hq, hg⟩ := haddr j hj
  exact congrArg (a * 2 ^ 32 + ·) (hkept.cf hq hg c)

theorem Dev.ctxDest_wr_ts (d : Dev) (c v : Nat) : (d.wr (F.STR_CTX_TS_LAST_TS.un c) v).ctxDest c false = d.ctxDest c false := by
  have hkept : ColumnsBut [F.STR_CTX_TS_LAST_TS] d (d.wr (F.STR_CTX_TS_LAST_TS.un c) v) := ColumnsBut.refl.wr (by simp) v
  exact Prod.ext (hkept.cf (by decide) (by decide) c) (d.ctxAddr_wr_ts c v)

theorem Dev.ctxMac_wr_ts (d : Dev) (c v : Nat) : (d.wr (F.STR_CTX_TS_LAST_TS.un c) v).ctxMac c false = d.ctxMac c false := by
  have hkept : ColumnsBut [F.STR_CTX_TS_LAST_TS] d (d.wr (F.STR_CTX_TS_LAST_TS.un c) v) := ColumnsBut.refl.wr (by simp) v
  unfold Dev.ctxMac
  rw [Dev.ctxDest_wr_ts, hkept.cf (by decide) (by decide) c]
  rfl

/-- A copy whose destination is resolved goes to its port's launch queue and is counted. -/
def Dev.copySent (d : Dev) (c : Nat) (m : MediaTx) : Dev :=
  let p := (d.ctxDest c false).1
  (d.setPort p { d.port p with media := (d.port p).media ++ [m] }).tally (copyCount false 0 c)

theorem Dev.launchCopy_resolved {d : Dev} {c mac : Nat} (h : d.ctxMac c false = some mac) (launch : Tai) (rtp : List Byte) :
    d.launchCopy c false launch rtp = d.copySent c ⟨launch, c, false, d.mediaFrame c false mac rtp⟩ := by
  unfold Dev.launchCopy
  rw [h]
  rfl

/-- TS_LAST takes the timestamp of the packet at the context's next boundary. -/
def Dev.stamped (d : Dev) (c : Nat) : Dev :=
  d.wr (F.STR_CTX_TS_LAST_TS.un c) ((d.ctx c).nextK + d.cf F.STR_CTX_RTP_OFFSET_RTP_OFFSET c)

/-- The first copy of the packet at the context's next boundary, launched 4 µs after the packet is complete (R199). -/
def Dev.firstCopy (d : Dev) (c mac : Nat) : MediaTx :=
  ⟨(d.gridAt ((d.ctx c).nextK + d.ctxN c)).addNs 4000, c, false, (d.stamped c).mediaFrame c false mac (d.rtpPacket c (d.ctx c).nextK)⟩

/-- The context past its next boundary, the samples sent forgotten. -/
def Dev.nextPacket (d : Dev) (c : Nat) : CtxSt :=
  { d.ctx c with
    nextK := (d.ctx c).nextK + d.ctxN c
    tx := (d.ctx c).tx.filter fun r => decide ((d.ctx c).nextK + d.ctxN c ≤ r.1) }

/-- The device with the packet of a context of one copy launched. -/
def Dev.launched (d : Dev) (c mac : Nat) : Dev :=
  ((d.stamped c).copySent c (d.firstCopy c mac)).setCtx c (d.nextPacket c)

theorem Dev.launchAt_of_no_jump {d : Dev} {c k : Nat} (h : (d.ctx c).jumpTo ≤ k) (e : Nat) :
    d.launchAt c k e = (d.gridAt e).addNs 4000 :=
  if_neg (by simp [Nat.not_lt.2 h])

theorem Dev.ctxPaired_copySent (d : Dev) (c : Nat) (m : MediaTx) : ((d.stamped c).copySent c m).ctxPaired c = d.ctxPaired c := by
  have hsent : ColumnsBut [F.STR_CTX_COUNT_A_COUNT.at [0]] (d.stamped c) ((d.stamped c).copySent c m) :=
    ColumnsBut.tally (fun _ _ _ => rfl) (by simp [copyCount]) 1
  have hts : ColumnsBut [F.STR_CTX_TS_LAST_TS] d (d.stamped c) := ColumnsBut.refl.wr (by simp) _
  rw [Dev.ctxPaired, (hts.trans hsent).cf (by decide) (by decide) c, Dev.ctxPaired]

theorem execMediaPacketLaunch_complete {s : State} {c : Fin 256} {top mac : Nat} (hb : s.dev.booted = true)
    (hst : s.dev.ctxState c = 4) (htop : (s.dev.ctx c).top = some top) (hfull : (s.dev.ctx c).nextK + s.dev.ctxN c ≤ top + 1)
    (hend : (s.dev.ctx c).endK = none) (hjump : (s.dev.ctx c).jumpTo ≤ (s.dev.ctx c).nextK) (hpair : s.dev.on F.PAIR_CFG_EN = false)
    (hserves : s.dev.serving = true) (hone : s.dev.ctxPaired c = false) (hmac : s.dev.ctxMac c false = some mac) :
    execMediaPacketLaunch c s = s.act fun d => d.launched c mac := by
  have hts : Dev.ColumnsBut [F.STR_CTX_TS_LAST_TS] s.dev (s.dev.stamped c) := Dev.ColumnsBut.refl.wr (by simp) _
  have hpair' : (s.dev.stamped c).on F.PAIR_CFG_EN = false := (hts.on (by decide) (by decide)).trans hpair
  have hserves' : (s.dev.stamped c).serving = true := hserves
  have hmac' : (s.dev.stamped c).ctxMac c false = some mac := (s.dev.ctxMac_wr_ts c _).trans hmac
  have hcopy : (s.dev.stamped c).launchCopy c false (s.dev.launchAt c (s.dev.ctx c).nextK ((s.dev.ctx c).nextK + s.dev.ctxN c))
      (s.dev.rtpPacket c (s.dev.ctx c).nextK) = (s.dev.stamped c).copySent c (s.dev.firstCopy c mac) := by
    rw [Dev.launchCopy_resolved hmac', Dev.launchAt_of_no_jump hjump]
    rfl
  have hone' := (s.dev.ctxPaired_copySent c (s.dev.firstCopy c mac)).trans hone
  refine State.act_congr ((if_neg (by simp [hb, hst, htop, hfull])).trans ?_)
  simp only [Dev.stamped] at hpair' hserves' hcopy hone'
  simp [hend, hpair', hserves', hcopy, hone', Dev.launched, Dev.stamped, Dev.nextPacket]

/-- What the launch leaves: the context's next boundary, the copy on its port, the count of packets. -/
theorem Dev.launched_spec (d : Dev) (c mac : Nat) :
    ((d.launched c mac).ctx c).nextK = (d.ctx c).nextK + d.ctxN c ∧
      ((d.launched c mac).port (d.ctxDest c false).1).media = (d.port (d.ctxDest c false).1).media ++ [d.firstCopy c mac] ∧
      (d.launched c mac).rd (copyCount false 0 c) = satAdd 32 (d.rd (copyCount false 0 c)) 1 := by
  have hts : ColumnsBut [F.STR_CTX_TS_LAST_TS] d (d.stamped c) := ColumnsBut.refl.wr (by simp) _
  have hport : (d.launched c mac).port (d.ctxDest c false).1 =
      { d.port (d.ctxDest c false).1 with media := (d.port (d.ctxDest c false).1).media ++ [d.firstCopy c mac] } := by
    rw [← d.ctxDest_wr_ts c]
    exact Tbl.get_put_same _ _ _ _
  have hcount : (d.stamped c).rd (copyCount false 0 c) = d.rd (copyCount false 0 c) := hts.cf (by decide) (by decide) c
  refine ⟨congrArg CtxSt.nextK (Dev.ctx_setCtx _ _ _), congrArg NetPortSt.media hport, ?_⟩
  rw [← hcount]
  exact Dev.rd_tally_same _ _ _

/-! ### Receive (R193, R198) -/

/-- A counted event of a copy leaves the contexts' hidden state. -/
@[simp] theorem Dev.copyEvent_str (d : Dev) (c : Nat) (copyB : Bool) (i : Nat) (sticky irq : Fld) :
    (d.copyEvent c copyB i sticky irq).str = d.str :=
  Dev.sticky_str _ _ _ _

theorem Dev.ColumnsBut.copyEvent {fs : List Fld} {d e : Dev} (h : ColumnsBut fs d e) {c i : Nat} {sticky irq : Fld}
    (hc : (F.STR_CTX_COUNT_A_COUNT.at [i]).column ∈ fs.map Fld.column) (hs : sticky.column ∈ fs.map Fld.column)
    (hi : irq.column ∈ fs.map Fld.column) : ColumnsBut fs d (e.copyEvent c false i sticky irq) :=
  ((h.tally (by simpa [copyCount] using hc) 1).wr hi 1).sticky (by simpa using hs) c

/-- The device after a packet of a wrong format. -/
def Dev.formatErr (d : Dev) (c : Nat) : Dev := d.copyEvent c false 5 F.STR_CTX_STICKY_FORMAT_ERR_SEEN F.STR_IRQ_STATUS_FORMAT_ERR

theorem Dev.rd_formatErr (d : Dev) (c : Nat) :
    (d.formatErr c).rd (F.STR_CTX_STICKY_FORMAT_ERR_SEEN.un c) = 1 ∧
      (d.formatErr c).rd (copyCount false 5 c) = satAdd 32 (d.rd (copyCount false 5 c)) 1 := by
  have hevent : ColumnsBut [F.STR_IRQ_STATUS_FORMAT_ERR, F.STR_CTX_STICKY_FORMAT_ERR_SEEN] (d.tally (copyCount false 5 c))
      (d.formatErr c) := (ColumnsBut.refl.wr (by simp) 1).sticky (by simp) c
  exact ⟨Dev.rd_sticky_un _ rfl rfl _ _, (hevent.cf (by decide) (by decide) c).trans (Dev.rd_tally_same _ _ _)⟩

theorem Dev.mediaIn_wrong_version {d : Dev} {rtp : List Byte} (h : (Rtp.parse rtp).version ≠ 2) (c : Nat) (ingress : Tai) :
    d.mediaIn c false rtp ingress = d.formatErr c :=
  if_pos (by simp [h])

/-- A packet that is for one copy alone reaches that copy. -/
theorem execMediaPacketRx_one {s : State} {p : Fin 4} {vid c : Nat} {flow : MediaFlow} {rtp : List Byte} {copyB : Bool}
    (hs : s.dev.inServicePort p = true) (hfor : s.dev.mediaFor p vid flow (Rtp.parse rtp).pt = [(c, copyB)]) (detected : Tai) :
    execMediaPacketRx p vid flow rtp detected s = s.act fun d => d.mediaIn c copyB rtp (d.ingress p detected) := by
  refine State.act_congr ((if_pos hs).trans ?_)
  rw [hfor]
  rfl

/-- A copy that a packet is for belongs to a receive context that runs. -/
theorem Dev.ctxState_of_mediaCopies {d : Dev} {p vid ip port : Nat} {v6 : Bool} {x : Nat × Bool}
    (h : x ∈ d.mediaCopies p vid v6 ip port) : d.ctxState x.1 = 1 ∨ d.ctxState x.1 = 2 ∨ d.ctxState x.1 = 3 := by
  obtain ⟨c, -, hx⟩ := List.mem_flatMap.1 h
  obtain ⟨hruns, hx⟩ := List.mem_ite_nil_right.1 hx
  have hc : x.1 = c := by
    rcases List.mem_append.1 hx with hx | hx
    · obtain ⟨-, hx⟩ := List.mem_ite_nil_right.1 hx
      exact congrArg Prod.fst (List.mem_singleton.1 hx)
    · obtain ⟨-, hx⟩ := List.mem_ite_nil_right.1 hx
      exact congrArg Prod.fst (List.mem_singleton.1 hx)
  rw [hc]
  exact hruns.1

theorem Dev.ctxState_of_mediaFor {d : Dev} {p vid pt : Nat} {flow : MediaFlow} {x : Nat × Bool} (h : x ∈ d.mediaFor p vid flow pt) :
    d.ctxState x.1 = 1 ∨ d.ctxState x.1 = 2 ∨ d.ctxState x.1 = 3 := by
  unfold Dev.mediaFor at h
  dsimp only at h
  split at h
  · exact Dev.ctxState_of_mediaCopies (List.mem_of_mem_filter h)
  · exact Dev.ctxState_of_mediaCopies (List.mem_of_mem_filter (List.mem_of_mem_filter h))

/-- The columns in which the tracking of a copy's SSRC and sequence shows. -/
def trackFlds : List Fld :=
  [F.STR_CTX_COUNT_A_COUNT.at [6], F.STR_CTX_STICKY_SSRC_CHANGE_SEEN, F.STR_IRQ_STATUS_SSRC_CHANGE, F.STR_CTX_SSRC_A_SSRC,
    F.STR_CTX_COUNT_A_COUNT.at [4]]

/-- Tracking writes those columns, and leaves the samples a context holds (R198). -/
theorem Dev.trackSsrc_frame (d : Dev) (c : Nat) (r : Rtp) :
    ColumnsBut trackFlds d (d.trackSsrc c false r) ∧ ((d.trackSsrc c false r).ctx c).ringA = (d.ctx c).ringA := by
  unfold Dev.trackSsrc
  extract_lets f x latched put differs changed last latch
  have hlatch : ColumnsBut trackFlds d latch := by
    refine ColumnsBut.wr ?_ (by simp [f, pick, trackFlds]) _
    simp only [changed]
    split
    · exact ColumnsBut.refl.copyEvent (by simp [trackFlds]) (by simp [trackFlds]) (by simp [trackFlds])
    · exact .refl
  have hstr : latch.str = d.str := by
    simp only [latch, changed, Dev.wr_str]
    split
    · exact Dev.copyEvent_str _ _ _ _ _ _
    · rfl
  have hput : ∀ q : Option Nat, ((latch.setCtx c (put x q)).ctx c).ringA = (d.ctx c).ringA := fun q => by
    rw [Dev.ctx_setCtx]
    rfl
  clear_value last
  cases last with
  | none => exact ⟨hlatch, hput _⟩
  | some q =>
    dsimp only
    split
    · exact ⟨hlatch, hput _⟩
    · split
      · exact ⟨ColumnsBut.tally (e := latch.setCtx c (put x (some r.seq))) hlatch (by simp [copyCount, trackFlds]) _, hput _⟩
      · exact ⟨hlatch, congrArg CtxSt.ringA (Dev.ctx_of_str hstr c)⟩

/-- MARGIN_MIN takes a margin below the smallest seen (R201). -/
def Dev.marginNoted (d : Dev) (c : Nat) (margin : Int) : Dev :=
  if margin < sgn 32 (d.cf F.STR_CTX_MARGIN_MIN_MARGIN c) then d.wrS (F.STR_CTX_MARGIN_MIN_MARGIN.un c) margin else d

theorem Dev.marginNoted_frame (d : Dev) (c : Nat) (margin : Int) :
    ColumnsBut [F.STR_CTX_MARGIN_MIN_MARGIN] d (d.marginNoted c margin) ∧ (d.marginNoted c margin).str = d.str := by
  unfold Dev.marginNoted
  split
  · exact ⟨ColumnsBut.refl.wr (by simp) _, rfl⟩
  · exact ⟨.refl, rfl⟩

/-- The device after the tracking of a packet of the first copy and the note of its margin. -/
def Dev.judgedRtp (d : Dev) (c : Nat) (r : Rtp) (margin : Int) : Dev := (d.trackSsrc c false r).marginNoted c margin

theorem Dev.judgedRtp_frame (d : Dev) (c : Nat) (r : Rtp) (margin : Int) :
    ColumnsBut (trackFlds ++ [F.STR_CTX_MARGIN_MIN_MARGIN]) d (d.judgedRtp c r margin) ∧
      ((d.judgedRtp c r margin).ctx c).ringA = (d.ctx c).ringA := by
  obtain ⟨htrack, hring⟩ := d.trackSsrc_frame c r
  obtain ⟨hmargin, hstr⟩ := (d.trackSsrc c false r).marginNoted_frame c margin
  exact ⟨htrack.trans hmargin, (congrArg CtxSt.ringA (Dev.ctx_of_str hstr c)).trans hring⟩

theorem Dev.fs_of_columns {fs : List Fld} {d e : Dev} (h : ColumnsBut fs d e)
    (hg : F.MTX_RATE_RATE_NOW.column ∉ fs.map Fld.column) : e.fs = d.fs := by
  rw [Dev.fs, h.on (by decide) hg, Dev.fs]

theorem Dev.ringD_of_columns {fs : List Fld} {d e : Dev} (h : ColumnsBut fs d e)
    (hg : F.MTX_RATE_RATE_NOW.column ∉ fs.map Fld.column) : e.ringD = d.ringD := by
  rw [Dev.ringD, Dev.is96, h.on (by decide) hg, Dev.ringD, Dev.is96]

/-- Tracking leaves all that a packet's place is found by (R193): the frame of its ingress, LINK_OFFSET and RTP_OFFSET. -/
theorem Dev.trackSsrc_window (d : Dev) (c : Nat) (r : Rtp) (ingress : Tai) :
    (d.trackSsrc c false r).indexAt ingress = d.indexAt ingress ∧
      (d.trackSsrc c false r).cf F.STR_CTX_MAP_LINK_OFFSET c = d.cf F.STR_CTX_MAP_LINK_OFFSET c ∧
      (d.trackSsrc c false r).cf F.STR_CTX_RTP_OFFSET_RTP_OFFSET c = d.cf F.STR_CTX_RTP_OFFSET_RTP_OFFSET c := by
  obtain ⟨htrack, -⟩ := d.trackSsrc_frame c r
  refine ⟨?_, htrack.cf (by decide) (by decide) c, htrack.cf (by decide) (by decide) c⟩
  rw [Dev.indexAt, Dev.fs_of_columns htrack (by decide), Dev.indexAt]

/-- A packet of `m` samples whose first belongs at index `k`: it passes every test of R198, and its place lies in the window (R201) of a
copy that holds nothing. -/
structure Dev.Fits (d : Dev) (c : Nat) (r : Rtp) (ingress : Tai) (m k : Nat) : Prop where
  version : r.version = 2
  pt : r.pt = d.cf F.STR_CTX_NET_PT c
  unfiltered : d.cf F.STR_CTX_CFG_SSRC_FLT_EN c = 0
  nonempty : 0 < m
  most : m ≤ 192
  length : r.payload.length = m * d.ctxCh c * formatBytes (d.cf F.STR_CTX_CFG_FORMAT c)
  frame : 0 < d.ctxCh c * formatBytes (d.cf F.STR_CTX_CFG_FORMAT c)
  place : (k : Int) = placeIndex ((d.indexAt ingress : Int) - (d.cf F.STR_CTX_MAP_LINK_OFFSET c : Int))
    (r.ts + 2 ^ 32 - d.cf F.STR_CTX_RTP_OFFSET_RTP_OFFSET c)
  notLate : (d.indexAt ingress : Int) - (d.cf F.STR_CTX_MAP_LINK_OFFSET c : Int) + 2 ≤ k
  notEarly : (k : Int) + m - 1 < (d.indexAt ingress : Int) - (d.cf F.STR_CTX_MAP_LINK_OFFSET c : Int) + 1 + d.ringD
  ringEmpty : (d.ctx c).ringA = []

/-- The device with samples of the first copy in its ring, the packet counted. -/
def Dev.stored (d : Dev) (c k ts : Nat) (samples : List (List Int)) : Dev :=
  ((d.setCtx c { d.ctx c with ringA := ringWrite [] d.ringD k samples }).wr (F.STR_CTX_TS_LAST_TS.un c) ts).tally (copyCount false 0 c)

theorem Dev.mediaIn_fits {d : Dev} {c m k : Nat} {rtp : List Byte} {ingress : Tai} (h : d.Fits c (Rtp.parse rtp) ingress m k) :
    ∃ margin, d.mediaIn c false rtp ingress = ((d.judgedRtp c (Rtp.parse rtp) margin).stored c k (Rtp.parse rtp).ts
      (payloadSamples (formatBytes (d.cf F.STR_CTX_CFG_FORMAT c)) (d.ctxCh c) m (Rtp.parse rtp).payload)).ctxValid c false := by
  obtain ⟨hindex, hlink, hoffset⟩ := d.trackSsrc_window c (Rtp.parse rtp) ingress
  unfold Dev.mediaIn
  extract_lets r ch bytes m' most bad tracked l f k' margin old noted x held n ring filled shown
  obtain ⟨hframe, hring⟩ := d.judgedRtp_frame c r margin
  have hm : m' = m := by
    simp only [m', r, ch, bytes, h.length, Nat.mul_assoc]
    exact Nat.mul_div_cancel _ h.frame
  have hmost : 192 ≤ most := by
    simp only [most]
    split <;> decide
  have hk : k' = k := by
    simp only [k', f, l, tracked, r, hindex, hlink, hoffset]
    exact h.place.symm
  have hnoted : noted = d.judgedRtp c r margin := rfl
  have hringD : noted.ringD = d.ringD := Dev.ringD_of_columns hframe (by decide)
  have hheld : held = [] := hring.trans h.ringEmpty
  have hwritten : ring = ringWrite [] noted.ringD k (payloadSamples bytes ch m r.payload) := by
    simp only [ring, n, hheld, hm, hk, Int.toNat_natCast]
  have hl : l = d.cf F.STR_CTX_MAP_LINK_OFFSET c := congrArg Nat.cast hlink
  have hf : f = d.indexAt ingress := congrArg Nat.cast hindex
  have hversion : r.version = 2 := h.version
  have hpt : r.pt = d.cf F.STR_CTX_NET_PT c := h.pt
  have hlength : r.payload.length = m * ch * bytes := h.length
  have hmatches : ¬(r.version ≠ 2 || r.pt ≠ d.cf F.STR_CTX_NET_PT c ||
      (d.cf F.STR_CTX_CFG_SSRC_FLT_EN c = 1 && r.ssrc ≠ d.cf F.STR_CTX_SSRC_SSRC c)) = true := by simp [hversion, hpt, h.unfiltered]
  have hwhole : ¬(r.payload.length ≠ m' * ch * bytes || m' = 0 || most < m') = true := by
    simpa [hm, hlength] using ⟨h.nonempty.ne', h.most.trans hmost⟩
  have honTime : ¬(k' < f - l + 2 || k' < 0) = true := by
    simpa [hk, hl, hf] using h.notLate
  have hinRing : ¬f - l + 1 + noted.ringD ≤ k' + m' - 1 := by
    rw [hringD, hm, hk, hl, hf, not_le]
    exact h.notEarly
  have hfree : ¬((List.range m').any fun i => (ringAt held noted.ringD (n + i)).isSome) = true := by simp [hheld, ringAt]
  refine ⟨margin, ?_⟩
  rw [if_neg hmatches, if_neg hwhole, if_neg honTime, if_neg hinRing, if_neg hfree]
  unfold Dev.stored
  rw [← hnoted, ← hwritten]
  rfl

/-- Qualifying traffic is noted in the island watch (R56), which no register shows. -/
theorem Dev.islandHeard_shape (d : Dev) : ∃ i, d.islandHeard = { d with island := i } := by
  unfold Dev.islandHeard
  split
  · exact ⟨_, rfl⟩
  · split
    · exact ⟨_, rfl⟩
    · exact ⟨_, rfl⟩

theorem Dev.ColumnsBut.islandHeard {fs : List Fld} {d e : Dev} (h : ColumnsBut fs d e) : ColumnsBut fs d e.islandHeard := by
  obtain ⟨i, hi⟩ := e.islandHeard_shape
  rw [hi]
  exact h

theorem Dev.islandHeard_str (d : Dev) : d.islandHeard.str = d.str := by
  obtain ⟨i, hi⟩ := d.islandHeard_shape
  rw [hi]

/-- The device with the first copy of a context heard, not degraded where the other copy is heard too (R205). -/
def Dev.firstHeard (d : Dev) (c : Nat) : Dev :=
  let e := (d.setCtx c { d.ctx c with heardA := some d.time.cycles }).wr (F.STR_CTX_STATUS_COPY_A_OK.un c) 1
  if e.cf F.STR_CTX_STATUS_COPY_A_OK c = 1 ∧ e.cf F.STR_CTX_STATUS_COPY_B_OK c = 1 then e.wr (F.STR_CTX_STATUS_DEGRADED.un c) 0 else e

theorem Dev.firstHeard_spec (d : Dev) (c : Nat) :
    (d.firstHeard c).rd (F.STR_CTX_STATUS_COPY_A_OK.un c) = 1 ∧
      ColumnsBut [F.STR_CTX_STATUS_COPY_A_OK, F.STR_CTX_STATUS_DEGRADED] d (d.firstHeard c) ∧
      ((d.firstHeard c).ctx c).ringA = (d.ctx c).ringA := by
  unfold Dev.firstHeard
  extract_lets x e
  have hok : e.rd (F.STR_CTX_STATUS_COPY_A_OK.un c) = 1 := Dev.rd_wr_same _ _ _
  have hkept : ColumnsBut [F.STR_CTX_STATUS_COPY_A_OK, F.STR_CTX_STATUS_DEGRADED] d e :=
    ColumnsBut.wr (e := d.setCtx c _) (fun _ _ _ => rfl) (by simp) 1
  have hctx : e.ctx c = { x with heardA := some d.time.cycles } := Dev.ctx_setCtx _ _ _
  have hring : (e.ctx c).ringA = (d.ctx c).ringA := by rw [hctx]
  split
  · have hdegraded : ColumnsBut [F.STR_CTX_STATUS_DEGRADED] e (e.wr (F.STR_CTX_STATUS_DEGRADED.un c) 0) := ColumnsBut.refl.wr (by simp) 0
    exact ⟨(hdegraded.cf (by decide) (by decide) c).trans hok, hkept.wr (by simp) 0, hring⟩
  · exact ⟨hok, hkept, hring⟩

/-- The device with a context RUNNING, its return from LOST told (R203). -/
def Dev.nowRunning (d : Dev) (c : Nat) : Dev :=
  let e := if d.ctxState c = 1 ∨ d.ctxState c = 3 then d.wr (F.STR_CTX_STATUS_STATE.un c) 2 else d
  let told := if d.ctxState c = 3 then e.objEvent 6 c 0x4801 0 c else e
  told.islandHeard

theorem Dev.ctxValid_first (d : Dev) (c : Nat) : d.ctxValid c false = (d.firstHeard c).nowRunning c := rfl

theorem Dev.nowRunning_spec {d : Dev} {c : Nat} (hst : d.ctxState c = 1 ∨ d.ctxState c = 2 ∨ d.ctxState c = 3) :
    (d.nowRunning c).ctxState c = 2 ∧ ColumnsBut [F.STR_CTX_STATUS_STATE] d (d.nowRunning c) ∧ (d.nowRunning c).str = d.str := by
  unfold Dev.nowRunning
  extract_lets e told
  have hruns : e.ctxState c = 2 ∧ ColumnsBut [F.STR_CTX_STATUS_STATE] d e ∧ e.str = d.str := by
    simp only [e]
    split
    · exact ⟨Dev.rd_wr_same _ _ _, ColumnsBut.refl.wr (by simp) 2, rfl⟩
    · exact ⟨by omega, .refl, rfl⟩
  have htold : ColumnsBut [] e told ∧ told.str = e.str := by
    simp only [told]
    split
    · exact ⟨fun g hq _ => Dev.rd_objEvent _ _ _ _ _ _ _ g hq, Dev.objEvent_str _ _ _ _ _ _ _⟩
    · exact ⟨.refl, rfl⟩
  obtain ⟨hstate, hcols, hstr⟩ := hruns
  obtain ⟨hevent, hstr'⟩ := htold
  refine ⟨(hevent.islandHeard.cf (by decide) (by decide) c).trans hstate, hcols.trans hevent.islandHeard, ?_⟩
  rw [Dev.islandHeard_str, hstr', hstr]

/-- What the store of a packet shows: its samples, its timestamp, its count. -/
theorem Dev.stored_spec (d : Dev) (c k ts : Nat) (samples : List (List Int)) :
    ((d.stored c k ts samples).ctx c).ringA = ringWrite [] d.ringD k samples ∧
      (d.stored c k ts samples).rd (F.STR_CTX_TS_LAST_TS.un c) = ts % 2 ^ 32 ∧
      (d.stored c k ts samples).rd (copyCount false 0 c) = satAdd 32 (d.rd (copyCount false 0 c)) 1 ∧
      ColumnsBut [F.STR_CTX_TS_LAST_TS, F.STR_CTX_COUNT_A_COUNT.at [0]] d (d.stored c k ts samples) := by
  unfold Dev.stored
  generalize hfilled : d.setCtx c { d.ctx c with ringA := ringWrite [] d.ringD k samples } = filled
  have hregs : ColumnsBut [] d filled := fun g _ _ => Dev.rd_of_regs (by rw [← hfilled, Dev.setCtx_regs]) g
  have hshown : ColumnsBut [F.STR_CTX_TS_LAST_TS] d (filled.wr (F.STR_CTX_TS_LAST_TS.un c) ts) :=
    hregs.trans (ColumnsBut.refl.wr (by simp) ts)
  have hcounted : ColumnsBut [F.STR_CTX_COUNT_A_COUNT.at [0]] (filled.wr (F.STR_CTX_TS_LAST_TS.un c) ts)
      ((filled.wr (F.STR_CTX_TS_LAST_TS.un c) ts).tally (copyCount false 0 c)) := ColumnsBut.refl.tally (by simp [copyCount]) 1
  refine ⟨?_, (hcounted.cf (by decide) (by decide) c).trans (Dev.rd_wr_same _ _ _), ?_, hshown.trans hcounted⟩
  · have hctx : filled.ctx c = { d.ctx c with ringA := ringWrite [] d.ringD k samples } := by rw [← hfilled, Dev.ctx_setCtx]
    exact congrArg CtxSt.ringA hctx
  · rw [Dev.rd_tally_same]
    exact congrArg (satAdd 32 · 1) (hshown.cf (by decide) (by decide) c)

/-- What a packet that fits leaves: its samples in the ring, the context RUNNING and its copy heard, its timestamp, its count. -/
theorem Dev.mediaIn_fits_spec {d : Dev} {c m k : Nat} {rtp : List Byte} {ingress : Tai} (h : d.Fits c (Rtp.parse rtp) ingress m k)
    (hst : d.ctxState c = 1 ∨ d.ctxState c = 2 ∨ d.ctxState c = 3) :
    ((d.mediaIn c false rtp ingress).ctx c).ringA = ringWrite [] d.ringD k
        (payloadSamples (formatBytes (d.cf F.STR_CTX_CFG_FORMAT c)) (d.ctxCh c) m (Rtp.parse rtp).payload) ∧
      (d.mediaIn c false rtp ingress).ctxState c = 2 ∧ (d.mediaIn c false rtp ingress).rd (F.STR_CTX_STATUS_COPY_A_OK.un c) = 1 ∧
      (d.mediaIn c false rtp ingress).rd (F.STR_CTX_TS_LAST_TS.un c) = (Rtp.parse rtp).ts % 2 ^ 32 ∧
      (d.mediaIn c false rtp ingress).rd (copyCount false 0 c) = satAdd 32 (d.rd (copyCount false 0 c)) 1 := by
  obtain ⟨margin, hin⟩ := Dev.mediaIn_fits h
  rw [hin, Dev.ctxValid_first]
  obtain ⟨hjudged, -⟩ := d.judgedRtp_frame c (Rtp.parse rtp) margin
  obtain ⟨hring, hts, hcount, hstored⟩ := (d.judgedRtp c (Rtp.parse rtp) margin).stored_spec c k (Rtp.parse rtp).ts
    (payloadSamples (formatBytes (d.cf F.STR_CTX_CFG_FORMAT c)) (d.ctxCh c) m (Rtp.parse rtp).payload)
  generalize (d.judgedRtp c (Rtp.parse rtp) margin).stored c k _ _ = stored at *
  obtain ⟨hok, hheard, hring'⟩ := stored.firstHeard_spec c
  have hstate : (stored.firstHeard c).ctxState c = d.ctxState c := ((hjudged.trans hstored).trans hheard).cf (by decide) (by decide) c
  rw [← hstate] at hst
  obtain ⟨hruns, hrun, hstr⟩ := Dev.nowRunning_spec hst
  have hringD : (d.judgedRtp c (Rtp.parse rtp) margin).ringD = d.ringD := Dev.ringD_of_columns hjudged (by decide)
  have hafter := hheard.trans hrun
  refine ⟨?_, hruns, (hrun.cf (by decide) (by decide) c).trans hok, (hafter.cf (by decide) (by decide) c).trans hts, ?_⟩
  · rw [Dev.ctx_of_str hstr, hring', hring, hringD]
  · have hbefore := hjudged.cf (g := F.STR_CTX_COUNT_A_COUNT.at [0]) (by decide) (by decide) c
    exact (hafter.cf (by decide) (by decide) c).trans (hcount.trans (congrArg (satAdd 32 · 1) hbefore))

/-- Settles O25: a packet's way through the tests of R198, a launch at a packet's last index, and the timeouts of R203 and R205. -/
theorem streamContexts : Obligations.StreamContexts := by
  unfold Obligations.StreamContexts
  refine ⟨?_, ?_, ?_, ?_, ?_⟩
  · intro s c p vid flow rtp detected m k d r l f bytes hserves hfor
    have hexec := (execMediaPacketRx_one hserves hfor detected).trans (s.act_after _)
    refine ⟨fun hversion => ?_, fun hversion hpt hfilter hsome hmost hlength hframe hts hplace hlate hearly hempty => ?_⟩
    · rw [Dev.mediaIn_wrong_version hversion] at hexec
      obtain ⟨hseen, hcount⟩ := s.dev.rd_formatErr c
      exact ⟨_, hexec, hseen, Dev.copyEvent_str _ _ _ _ _ _, hcount⟩
    · have hfits : s.dev.Fits c r (s.dev.ingress p detected) m k :=
        ⟨hversion, hpt, hfilter, hsome, hmost, hlength, hframe, hplace, hlate, hearly, hempty⟩
      have hst := Dev.ctxState_of_mediaFor (x := (c.val, false)) (hfor ▸ List.mem_cons_self)
      obtain ⟨hring, hruns, hok, hlast, hcount⟩ := Dev.mediaIn_fits_spec hfits hst
      exact ⟨_, hexec, hring, hruns, hok, hlast.trans (Nat.mod_eq_of_lt hts), hcount⟩
  · intro s c top mac hb hst htop hfull hend hjump hpair hserves hone hmac
    obtain ⟨hnext, hmedia, hcount⟩ := s.dev.launched_spec c mac
    exact ⟨_, _, (execMediaPacketLaunch_complete hb hst htop hfull hend hjump hpair hserves hone hmac).trans (s.act_after _), hnext,
      hmedia, rfl, rfl, rfl, hcount⟩
  · intro s c hb hst ha hs
    exact ⟨_, (execStreamTimeout_silent hb hst ha hs).trans (s.act_after _), s.dev.ctxState_streamLost c,
      Dev.rd_sticky_un _ rfl rfl _ _, streamLost_onlyRegisters s c⟩
  · intro s c copyB hb hon hs
    obtain ⟨hok, hruns⟩ := s.dev.copyTimedOut_spec c copyB
    exact ⟨_, (execCopyTimeout_silent hb hon hs).trans (s.act_after _), copyTimedOut_onlyRegisters s c copyB, hok, hruns⟩
  · intro s c hb
    exact ⟨_, (execStreamHistoryClear_booted hb c).trans (s.act_after _), streamHistoryClear_onlyRegisters s c, Dev.rd_wr_same _ _ _,
      s.dev.rd_streamHistoryClear (by simp [ctxStickies]) c, s.dev.rd_streamHistoryClear (by simp [ctxStickies]) c⟩

end Sys2Proof.Machine

/-! PROOFS. The chapter on supervision and self-test: what the path pilot, the links and admission leave of a run of self-tests. -/

namespace Sys2Proof.Machine

open Sys2Proof.Claims

/-! ### What a run of self-tests stands on -/

/-- The clock, the mode machine, the units lost, and of the self-tests the one in progress, the Vigil and the results. -/
structure RunView where
  time : TimeSt
  mode : ModeSt
  lost : List (Nat × Nat)
  testing : Option Testing
  vigil : Option VigilSt
  results : Tbl TestResult

/-- What of a device a run of self-tests stands on. -/
def Dev.runView (d : Dev) : RunView := ⟨d.time, d.mode, d.cap.lost, d.sup.testing, d.sup.vigil, d.sup.results⟩

/-- A fold of steps that each keep a part of the device keeps it. -/
theorem Dev.foldl_keeps {α β : Type} (part : Dev → β) {step : Dev → α → Dev} (h : ∀ d a, part (step d a) = part d) (l : List α)
    (d : Dev) : part (l.foldl step d) = part d := by
  induction l generalizing d with
  | nil => rfl
  | cons a l ih => rw [List.foldl_cons, ih, h]

theorem Dev.irq_runView (d : Dev) (f : Fld) (unit : Nat) (more : List Byte) : (d.irq f unit more).runView = d.runView := by
  obtain ⟨r, x, h⟩ := d.irq_shape f unit more
  rw [h]
  rfl

theorem Dev.sticky_runView (d : Dev) (f : Fld) (unit : Nat) : (d.sticky f unit).runView = d.runView := by
  obtain ⟨r, x, h⟩ := d.sticky_shape f unit []
  rw [h]
  rfl

theorem Dev.enqueue_runView (d : Dev) (q : Nat) (item : List Byte) : (d.enqueue q item).runView = d.runView := by
  obtain ⟨r, x, h⟩ := d.enqueue_shape q item
  rw [h]
  rfl

theorem Dev.note_shape (d : Dev) (r : List Byte) : ∃ p, d.note r = { d with pair := p } := by
  unfold Dev.note
  split
  · exact ⟨_, rfl⟩
  · exact ⟨_, rfl⟩

theorem Dev.noteBudget_runView (d : Dev) (kind index : Nat) (c : WorkClass) (action : Nat) :
    (d.noteBudget kind index c action).runView = d.runView := by
  unfold Dev.noteBudget
  extract_lets code
  obtain ⟨p, h⟩ := d.note_shape ([5, byteOf kind] ++ toBE 2 index ++ [byteOf code, byteOf action])
  rw [h]
  rfl

/-- What separates `e` from `d` leaves what a run of self-tests stands on, and every register column but those of the fields named. -/
structure Dev.RunFrame (fs : List Fld) (d e : Dev) : Prop where
  run : e.runView = d.runView
  reads : ColumnsBut fs d e

/-- What leaves every field but those named leaves every column but theirs. -/
theorem Dev.ReadsBut.columns {fs : List Fld} {d e : Dev} (h : ReadsBut fs d e) : ColumnsBut fs d e := fun g hq hg =>
  h g hq fun hk => hg (by
    obtain ⟨f, hf, hfg⟩ := List.mem_map.1 hk
    exact List.mem_map.2 ⟨f, hf, congrArg (· % 33554432) hfg⟩)

namespace Dev.RunFrame

variable {fs gs : List Fld} {d e e' : Dev}

theorem refl : RunFrame fs d d := ⟨rfl, ColumnsBut.refl⟩

theorem trans (h : RunFrame fs d e) (h' : RunFrame fs e e') : RunFrame fs d e' :=
  ⟨h'.run.trans h.run, fun g hq hg => (h'.reads g hq hg).trans (h.reads g hq hg)⟩

theorem mono (h : RunFrame fs d e) (hs : fs ⊆ gs) : RunFrame gs d e :=
  ⟨h.run, fun g hq hg => h.reads g hq fun hk => hg (List.map_subset _ hs hk)⟩

/-- A change outside the registers and the run. -/
theorem alike (h : RunFrame fs d e) (hrun : e'.runView = e.runView) (hregs : e'.regs = e.regs) : RunFrame fs d e' :=
  ⟨hrun.trans h.run, fun g hq hg => (Dev.rd_of_regs hregs g).trans (h.reads g hq hg)⟩

theorem wr (h : RunFrame fs d e) {f : Fld} (hf : f.column ∈ fs.map Fld.column) (v : Nat) : RunFrame fs d (e.wr f v) :=
  ⟨h.run, h.reads.wr hf v⟩

/-- A write in the row of one unit. -/
theorem wrUn (h : RunFrame fs d e) {f : Fld} (hf : f.column ∈ fs.map Fld.column) (c v : Nat) : RunFrame fs d (e.wr (f.un c) v) :=
  h.wr (by rwa [Fld.column_un]) v

theorem wrRunUn (h : RunFrame fs d e) {f : Fld} (hf : f.column ∈ fs.map Fld.column) (c v : Nat) :
    RunFrame fs d (e.wrRun (f.un c) v) :=
  RunFrame.wrUn (e := e.wrB (f.un c) (e.rdB (f.un c))) ⟨h.run, h.reads⟩ hf c v

theorem tally (h : RunFrame fs d e) {f : Fld} (hf : f.column ∈ fs.map Fld.column) (n : Nat) : RunFrame fs d (e.tally f n) :=
  ⟨h.run, h.reads.tally hf n⟩

theorem irq (h : RunFrame fs d e) {f : Fld} (hf : f.column ∈ fs.map Fld.column) (unit : Nat) (more : List Byte) :
    RunFrame fs d (e.irq f unit more) :=
  ⟨(e.irq_runView f unit more).trans h.run, h.reads.step (ReadsBut.refl.irq List.mem_cons_self unit more) hf⟩

theorem enqueue (h : RunFrame fs d e) {q : Nat} (hq : q ≤ 31) (item : List Byte) : RunFrame fs d (e.enqueue q item) :=
  ⟨(e.enqueue_runView q item).trans h.run, fun g hg hf => (e.rd_enqueue q item g hq hg).trans (h.reads g hg hf)⟩

theorem foldl {α : Type} {l : List α} {step : Dev → α → Dev} (hstep : ∀ e, ∀ a ∈ l, RunFrame fs e (step e a)) (d : Dev) :
    RunFrame fs d (l.foldl step d) := by
  induction l generalizing d with
  | nil => exact refl
  | cons a l ih =>
    exact (hstep d a List.mem_cons_self).trans (ih (fun e b hb => hstep e b (List.mem_cons_of_mem a hb)) (step d a))

end Dev.RunFrame

/-! ### The correlators' schedule (R279) -/

/-- What the schedule writes: the paths' state and correlator, the time between visits, and what admission counts. -/
def scheduleFlds : List Fld :=
  [F.SUP_PATH_STATUS_STATE, F.SUP_PATH_STATUS_CORRELATOR, F.SUP_REVISIT_REVISIT, F.PWR_COUNT_COUNT.at [0], F.PWR_COUNT_COUNT.at [1],
    F.PWR_COUNT_COUNT.at [2]]

theorem Dev.allot_frame (d : Dev) (c : WorkClass) (cost : Nat) : RunFrame scheduleFlds d (d.allot c cost).2 := by
  unfold Dev.allot
  dsimp only
  split
  · exact (RunFrame.refl.tally (f := F.PWR_COUNT_COUNT.at [0]) (by decide) 1).alike rfl rfl
  · split
    · exact RunFrame.refl.tally (by decide) 1
    · exact RunFrame.refl.tally (by decide) 1

theorem Dev.corrAdmit_frame (d : Dev) (z : Nat) : RunFrame scheduleFlds d (d.corrAdmit z).2 := by
  unfold Dev.corrAdmit
  split
  · exact .refl
  · extract_lets a
    have ha : RunFrame scheduleFlds d a.2 := d.allot_frame _ _
    split
    · exact ha
    · exact ha.alike rfl rfl

theorem Dev.corrBegin_frame (d : Dev) (i z : Nat) : RunFrame scheduleFlds d (d.corrBegin i z) := by
  unfold Dev.corrBegin
  extract_lets search secs c visited src begun shown
  have hvisited : RunFrame scheduleFlds d visited := by
    dsimp only [visited]
    split
    · split
      · exact .refl
      · exact RunFrame.refl.wr (by decide) _
    · exact .refl
  have hbegun : RunFrame scheduleFlds d begun := hvisited.alike rfl rfl
  exact (hbegun.wrUn (by decide) z _).wrUn (by decide) z i

theorem Dev.corrTake_frame (d : Dev) (i : Nat) : RunFrame scheduleFlds d (d.corrTake i) := by
  unfold Dev.corrTake
  split
  · exact .refl
  · extract_lets pinned
    clear_value pinned
    split
    case h_1 z =>
      extract_lets a
      have ha : RunFrame scheduleFlds d a.2 := d.corrAdmit_frame z
      split
      · exact ha.trans (a.2.corrBegin_frame i z)
      · exact ha
    case h_2 =>
      split
      case h_1 => exact .refl
      case h_2 z _ =>
        extract_lets a src
        have ha : RunFrame scheduleFlds d a.2 := d.corrAdmit_frame z
        split
        · exact (ha.alike (e' := a.2.setSup { src with nextShared := z + 1 }) rfl rfl).trans (Dev.corrBegin_frame _ i z)
        · exact ha

theorem Dev.pinnedRoom_frame (d : Dev) : RunFrame scheduleFlds d d.pinnedRoom :=
  (RunFrame.foldl (fun _ z _ => RunFrame.refl.wrUn (f := F.SUP_PATH_STATUS_STATE) (by decide) z 1) d).alike rfl rfl

theorem Dev.schedule_frame (d : Dev) : RunFrame scheduleFlds d d.schedule := by
  unfold Dev.schedule
  extract_lets run keep freed src kept
  have hfreed : RunFrame scheduleFlds d freed := RunFrame.foldl (fun _ _ _ => RunFrame.refl.wrUn (by decide) _ _) d
  have hkept : RunFrame scheduleFlds d kept := hfreed.alike rfl rfl
  split
  · exact (hkept.trans kept.pinnedRoom_frame).trans (RunFrame.foldl (fun e i _ => e.corrTake_frame i) _)
  · exact hkept

/-! ### A link that goes down (R164) -/

theorem Dev.showTimeRole_runView (d : Dev) : d.showTimeRole.runView = d.runView := by
  unfold Dev.showTimeRole
  extract_lets m f r
  split
  · rfl
  · exact Dev.irq_runView _ _ _ _

theorem Dev.loseSlot_runView (d : Dev) (n : Nat) : (d.loseSlot n).runView = d.runView := by
  unfold Dev.loseSlot Dev.toLost
  extract_lets st
  split
  · exact Dev.sticky_runView _ _ _
  · rfl

theorem Dev.setPtpState_runView (d : Dev) (p v : Nat) : (d.setPtpState p v).runView = d.runView := by
  unfold Dev.setPtpState
  extract_lets old shown left filtered active
  split
  · rfl
  · have hleft : left.runView = d.runView := by
      dsimp only [left]
      split
      · exact Dev.loseSlot_runView _ _
      · rfl
    have hfiltered : filtered.runView = left.runView := by
      dsimp only [filtered]
      split <;> rfl
    have hactive : active.runView = filtered.runView := by
      dsimp only [active]
      split <;> rfl
    rw [Dev.showTimeRole_runView, ← hleft, ← hfiltered, ← hactive]
    exact Dev.sticky_runView _ _ _

/-- What a port's refresh writes, beside INSTANCE and CFG_CONFLICT. -/
def refreshFlds (p : Nat) : List Fld := F.TIM_PTP_STATUS_PORT_STATE.at [p] :: (enterFlds p ++ masterFlds p)

/-- A port enters a state other than UNCALIBRATED and SLAVE. -/
theorem Dev.setPtpState_frame (d : Dev) (p : Nat) {v : Nat} (h8 : v ≠ 8) (h9 : v ≠ 9) :
    RunFrame (refreshFlds p) d (d.setPtpState p v) := by
  refine ⟨d.setPtpState_runView p v, ReadsBut.columns ?_⟩
  by_cases h : d.ptpState p = v
  · rw [Dev.setPtpState, if_pos h]
    exact .refl
  · exact (ReadsBut.refl.wr List.mem_cons_self v).trans
      ((Dev.setPtpState_enters h h8 h9).2.mono fun _ hg => List.mem_cons_of_mem _ (List.mem_append_left _ hg))

/-- A port forgets its master and what it received. -/
theorem Dev.forgotten_frame (d : Dev) (p : Nat) : RunFrame (refreshFlds p) d ((d.resetPtp p).noMaster p) :=
  ⟨rfl, ReadsBut.columns ((Dev.noMaster_reads (d.resetPtp p) p).mono fun _ hg =>
    List.mem_cons_of_mem _ (List.mem_append_right _ hg))⟩

theorem Dev.ptpRefreshPort_frame (d : Dev) (p : Nat) : RunFrame (refreshFlds p) d (d.ptpRefreshPort p) := by
  unfold Dev.ptpRefreshPort
  split
  · split
    · exact .refl
    · exact (d.forgotten_frame p).trans (Dev.setPtpState_frame _ p (by decide) (by decide))
  · extract_lets initial
    have hinitial : RunFrame (refreshFlds p) d initial := by
      dsimp only [initial]
      split
      · exact d.setPtpState_frame p (by decide) (by decide)
      · exact .refl
    split
    · split
      · exact hinitial
      · exact (hinitial.trans (initial.forgotten_frame p)).trans (Dev.setPtpState_frame _ p (by decide) (by decide))
    · split
      · exact hinitial.trans (initial.setPtpState_frame p (by decide) (by decide))
      · split
        · exact hinitial.trans (initial.setPtpState_frame p (by decide) (by decide))
        · exact hinitial

/-- What the refresh of every port writes. -/
def allRefreshFlds : List Fld :=
  (List.range 4).flatMap fun p => F.TIM_PTP_STATUS_INSTANCE.at [p] :: F.TIM_PTP_STATUS_CFG_CONFLICT.at [p] :: refreshFlds p

theorem Dev.ptpRefresh_frame (d : Dev) : RunFrame allRefreshFlds d d.ptpRefresh := by
  refine RunFrame.foldl (fun e p hp => ?_) d
  have hsub : ∀ f ∈ F.TIM_PTP_STATUS_INSTANCE.at [p] :: F.TIM_PTP_STATUS_CFG_CONFLICT.at [p] :: refreshFlds p, f ∈ allRefreshFlds :=
    fun f hf => List.mem_flatMap.2 ⟨p, hp, hf⟩
  extract_lets refreshed first clash
  have hrefreshed : RunFrame allRefreshFlds e refreshed :=
    (e.ptpRefreshPort_frame p).mono fun f hf => hsub f (List.mem_cons_of_mem _ (List.mem_cons_of_mem _ hf))
  exact (hrefreshed.wr (List.mem_map_of_mem (hsub _ List.mem_cons_self)) _).wr
    (List.mem_map_of_mem (hsub _ (List.mem_cons_of_mem _ List.mem_cons_self))) _

/-- What follows the fall of a link, beside the port's own registers. -/
def linkLossFlds (p : Nat) : List Fld := lossFlds (6 + p) ++ allRefreshFlds

/-- The port's own registers once its link is down, and its counter and sticky bit. -/
def Dev.linkFell (d : Dev) (p : Nat) : Dev :=
  ((((d.wr (F.NET_STATUS_LINK.at [p]) 0).wr (F.NET_STATUS_PCS_LOCK.at [p]) 0).wr (F.NET_STATUS_AN_DONE.at [p]) 0).netCount p
    18).netSticky p F.NET_STICKY_LINK_CHANGE_SEEN

theorem Dev.linkDown_down {d : Dev} {p : Nat} (h : d.linkUp p = false) : d.linkDown p = d := by
  unfold Dev.linkDown
  rw [h]
  rfl

theorem Dev.linkDown_up {d : Dev} {p : Nat} (h : d.linkUp p = true) :
    d.linkDown p = (((d.linkFell p).esmcLevel p 0 none).loseSlot (6 + p)).ptpRefresh := by
  unfold Dev.linkDown
  rw [h]
  rfl

/-- The fall of a link is felt by its reference slot and by PTP. -/
theorem Dev.linkDown_frame {d : Dev} {p : Nat} (h : d.linkUp p = true) :
    RunFrame (linkLossFlds p) (d.linkFell p) (d.linkDown p) := by
  rw [Dev.linkDown_up h]
  have hslot : RunFrame (linkLossFlds p) (d.linkFell p) (((d.linkFell p).esmcLevel p 0 none).loseSlot (6 + p)) :=
    ⟨Dev.loseSlot_runView _ _, ReadsBut.columns ((Dev.loseSlot_reads ((d.linkFell p).esmcLevel p 0 none) _).mono
      (List.subset_append_left _ _))⟩
  exact hslot.trans ((Dev.ptpRefresh_frame _).mono (List.subset_append_right _ _))

theorem Dev.linkFell_runView (d : Dev) (p : Nat) : (d.linkFell p).runView = d.runView := by
  unfold Dev.linkFell Dev.netSticky Dev.netCount
  split
  · rfl
  · exact Dev.sticky_runView _ _ _

theorem Dev.linkDown_runView (d : Dev) (p : Nat) : (d.linkDown p).runView = d.runView := by
  cases h : d.linkUp p with
  | false => rw [Dev.linkDown_down h]
  | true => exact (Dev.linkDown_frame h).run.trans (d.linkFell_runView p)

theorem linkLossFlds_apart : ∀ p : Fin 4, (F.NET_STATUS_LINK.at [p]).inQue = false ∧
    (F.NET_STATUS_LINK.at [p]).column ∉ (linkLossFlds p).map Fld.column := by decide

theorem Dev.rd_linkFell (d : Dev) (p : Fin 4) : (d.linkFell p).rd (F.NET_STATUS_LINK.at [p]) = 0 := by
  have hown : ∀ q : Fin 4, (F.NET_STATUS_LINK.at [q]).inQue = false ∧
      (F.NET_STATUS_LINK.at [q]).key ∉ [F.NET_STATUS_PCS_LOCK.at [q], F.NET_STATUS_AN_DONE.at [q], F.NET_COUNT_COUNT.at [q, 18],
        F.NET_STICKY_LINK_CHANGE_SEEN.at [q]].map Fld.key := by decide
  have hreads : ReadsBut [F.NET_STATUS_PCS_LOCK.at [p], F.NET_STATUS_AN_DONE.at [p], F.NET_COUNT_COUNT.at [p, 18],
      F.NET_STICKY_LINK_CHANGE_SEEN.at [p]] (d.wr (F.NET_STATUS_LINK.at [p]) 0) (d.linkFell p) := by
    unfold Dev.linkFell Dev.netSticky
    rw [Dev.netCount_port, if_neg (by omega)]
    exact (((ReadsBut.refl.wr (by simp) 0).wr (by simp) 0).tally (by simp) 1).sticky (by simp) p
  obtain ⟨hq, hg⟩ := hown p
  rw [hreads _ hq hg, Dev.rd_wr_same]
  rfl

/-- A link that was told to go down is down. -/
theorem Dev.linkUp_linkDown (d : Dev) (p : Fin 4) : (d.linkDown p).linkUp p = false := by
  cases h : d.linkUp p with
  | false => rw [Dev.linkDown_down h, h]
  | true =>
    obtain ⟨hq, hg⟩ := linkLossFlds_apart p
    rw [Dev.linkUp, Dev.on_eq, (Dev.linkDown_frame h).reads _ hq hg, Dev.rd_linkFell]
    rfl

end Sys2Proof.Machine

/-! PROOFS. The chapter on supervision and self-test: results, the Vigil's run and named instances. -/

namespace Sys2Proof.Machine

open Sys2Proof.Claims

/-! ### Results (R284, R286, R287) -/

/-- A Vigil but for its counts of results. -/
def VigilSt.uncounted (v : VigilSt) : VigilSt := { v with counts := [] }

/-- A Vigil with one more result counted. -/
def VigilSt.counted (v : VigilSt) (r : TestResult) : VigilSt :=
  { v with counts := (List.range 5).map fun i => v.counts.getD i 0 + (if i = r.result then 1 else 0) }

/-- A result is recorded and counted; with it go the registers and queues that its item and its flag move. -/
theorem Dev.putResult_shape (d : Dev) (row : Nat) (x : TestResult) : ∃ r q n, d.putResult row x =
    { d with regs := r, ques := q, evSeq := n,
             sup := { d.sup with results := d.sup.results.put row x, vigil := d.sup.vigil.map (·.counted x) } } := by
  have hflag : ∀ e : Dev, ∃ r q n, (if x.result = 1 then e.irq F.SUP_IRQ_STATUS_ST_FAIL row
      else if x.result = 2 then e.irq F.SUP_IRQ_STATUS_ST_INCOMPLETE row else e) = { e with regs := r, ques := q, evSeq := n } := by
    intro e
    split
    · obtain ⟨r, q, h⟩ := e.irq_shape F.SUP_IRQ_STATUS_ST_FAIL row []
      exact ⟨r, q, _, h⟩
    · split
      · obtain ⟨r, q, h⟩ := e.irq_shape F.SUP_IRQ_STATUS_ST_INCOMPLETE row []
        exact ⟨r, q, _, h⟩
      · exact ⟨_, _, _, rfl⟩
  unfold Dev.putResult
  extract_lets t src listed posted src' counted
  obtain ⟨r, q, hposted⟩ : ∃ r q, posted = { listed with regs := r, ques := q } := listed.enqueue_shape 6 _
  have hcounted : counted = { d with regs := r, ques := q,
                                     sup := { d.sup with results := d.sup.results.put row x,
                                                         vigil := d.sup.vigil.map (·.counted x) } } := by
    dsimp only [counted, src']
    rw [hposted]
    dsimp only [listed, src]
    cases h : d.sup.vigil with
    | none => rfl
    | some v => rfl
  obtain ⟨r', q', n, h⟩ := hflag counted
  rw [h, hcounted]
  exact ⟨_, _, _, rfl⟩

/-- The clock, the mode machine, the units lost and the Vigil but for its counts: what a result leaves. -/
def Dev.vigilView (d : Dev) : TimeSt × ModeSt × List (Nat × Nat) × Option VigilSt :=
  (d.time, d.mode, d.cap.lost, d.sup.vigil.map (·.uncounted))

theorem Dev.vigilView_of_runView {d e : Dev} (h : e.runView = d.runView) : e.vigilView = d.vigilView := by
  injection h with htime hmode hlost _ hvigil
  simp only [Dev.vigilView, htime, hmode, hlost, hvigil]

theorem Dev.putResult_vigilView (d : Dev) (row : Nat) (x : TestResult) : (d.putResult row x).vigilView = d.vigilView := by
  obtain ⟨r, q, n, h⟩ := d.putResult_shape row x
  rw [h]
  simp only [Dev.vigilView, Option.map_map]
  rfl

@[simp] theorem Dev.putResult_testing (d : Dev) (row : Nat) (x : TestResult) : (d.putResult row x).sup.testing = d.sup.testing := by
  obtain ⟨r, q, n, h⟩ := d.putResult_shape row x
  rw [h]

theorem Dev.putResult_vigil (d : Dev) (row : Nat) (x : TestResult) :
    (d.putResult row x).sup.vigil = d.sup.vigil.map (·.counted x) := by
  obtain ⟨r, q, n, h⟩ := d.putResult_shape row x
  rw [h]

theorem Dev.putResult_find? (d : Dev) (row : Nat) (x : TestResult) : (d.putResult row x).sup.results.find? row = some x := by
  obtain ⟨r, q, n, h⟩ := d.putResult_shape row x
  rw [h]
  exact Tbl.find?_put_same _ _ _

/-- The mark of a block under test: registers, or a spare's use, never what is lost. -/
theorem Dev.testHold_shape (d : Dev) (row : Nat) (on : Bool) :
    ∃ r c, d.testHold row on = { d with regs := r, cap := c } ∧ c.lost = d.cap.lost := by
  unfold Dev.testHold
  extract_lets t
  split_ifs <;> exact ⟨_, _, rfl, rfl⟩

theorem Dev.testHold_runView (d : Dev) (row : Nat) (on : Bool) : (d.testHold row on).runView = d.runView := by
  obtain ⟨r, c, h, hlost⟩ := d.testHold_shape row on
  rw [h, Dev.runView, hlost]
  rfl

/-! ### A test that is cut (R285) -/

theorem Dev.cutTest_idle {d : Dev} (h : d.sup.testing = none) (result cause : Nat) : d.cutTest result cause = d := by
  unfold Dev.cutTest
  rw [h]

/-- The signature a cut test shows: a free value, another than the expected one. -/
def cutSig (free expect : Nat) : Nat := if free % 2 ^ 32 = expect then (free % 2 ^ 32 + 1) % 2 ^ 32 else free % 2 ^ 32

theorem cutSig_ne (free expect : Nat) : cutSig free expect ≠ expect := by
  unfold cutSig
  split <;> omega

/-- A device whose test is cut: the block restored, no test in progress. -/
def Dev.testEnded (d : Dev) (x : Testing) : Dev :=
  let e := (d.draw .selfTest).2.testHold x.row false
  { e with sup := { e.sup with testing := none } }

theorem Dev.testEnded_vigilView (d : Dev) (x : Testing) : (d.testEnded x).vigilView = d.vigilView := by
  have hhold : ((d.draw .selfTest).2.testHold x.row false).runView = d.runView := Dev.testHold_runView _ _ _
  show ((d.draw .selfTest).2.testHold x.row false).vigilView = d.vigilView
  exact Dev.vigilView_of_runView hhold

theorem Dev.cutTest_running {d : Dev} {x : Testing} (h : d.sup.testing = some x) (result cause : Nat) :
    d.cutTest result cause = (d.testEnded x).putResult x.row ⟨result, cause, cutSig (d.draw .selfTest).1 (d.testExpect x.row),
      d.testExpect x.row, (d.testEnded x).testCycles x, 0, (d.testEnded x).time.tai, (d.testEnded x).testRun⟩ := by
  unfold Dev.cutTest
  rw [h]
  rfl

/-- A cut leaves no test in progress. -/
theorem Dev.cutTest_testing (d : Dev) (result cause : Nat) : (d.cutTest result cause).sup.testing = none := by
  cases h : d.sup.testing with
  | none => rw [Dev.cutTest_idle h, h]
  | some x =>
    rw [Dev.cutTest_running h, Dev.putResult_testing]
    rfl

theorem Dev.cutTest_vigilView (d : Dev) (result cause : Nat) : (d.cutTest result cause).vigilView = d.vigilView := by
  cases h : d.sup.testing with
  | none => rw [Dev.cutTest_idle h]
  | some x =>
    rw [Dev.cutTest_running h, Dev.putResult_vigilView, Dev.testEnded_vigilView]

/-- The result of a cut test: its signature is not the expected one. -/
theorem Dev.cutTest_find? {d : Dev} {x : Testing} (h : d.sup.testing = some x) (result cause : Nat) :
    ∃ r, (d.cutTest result cause).sup.results.find? x.row = some r ∧ r.result = result ∧ r.cause = cause ∧ r.sig ≠ r.expect := by
  rw [Dev.cutTest_running h]
  exact ⟨_, Dev.putResult_find? _ _ _, rfl, rfl, cutSig_ne _ _⟩

/-! ### The run ends (R287, R289, R294) -/

/-- The worst result of a run, by its counts. -/
def VigilSt.worst (v : VigilSt) : Nat := ([1, 2, 3, 4].find? (fun r => decide (0 < v.counts.getD r 0))).getD 0

/-- A run that ends: its record, its item, its flag. -/
def Dev.runEnded (d : Dev) (v : VigilSt) : Dev :=
  let e := d.setSup { d.sup with vigil := none, lastEntry := v.entry, lastEnd := d.time.tai, lastCounts := v.counts, summary := v.worst }
  (e.q6 0 0 ⟨v.worst, 0, 0, 0, 0, 0, d.time.tai, e.sup.run⟩).irq F.SUP_IRQ_STATUS_VIGIL_END

theorem Dev.endVigil_none_running {d : Dev} {v : VigilSt} (h : d.sup.vigil = some v) :
    d.endVigil none true = (d.runEnded v).arises (d.runEnded v).mode.origin 0x10 := by
  unfold Dev.endVigil
  dsimp only
  rw [h]
  rfl

theorem Dev.runEnded_shape (d : Dev) (v : VigilSt) : ∃ r q n, d.runEnded v =
    { d with regs := r, ques := q, evSeq := n,
             sup := { d.sup with vigil := none, lastEntry := v.entry, lastEnd := d.time.tai, lastCounts := v.counts,
                                 summary := v.worst } } := by
  unfold Dev.runEnded
  extract_lets src e
  obtain ⟨r, q, hitem⟩ := e.enqueue_shape 6 _
  obtain ⟨r', q', hirq⟩ := (e.q6 0 0 ⟨v.worst, 0, 0, 0, 0, 0, d.time.tai, e.sup.run⟩).irq_shape F.SUP_IRQ_STATUS_VIGIL_END noUnit []
  rw [hirq, Dev.q6, hitem]
  exact ⟨_, _, _, rfl⟩

/-- A run that ends leaves VIGIL, with its entry and its end on record. -/
structure Dev.RunLeft (d : Dev) (v : VigilSt) (e : Dev) : Prop where
  vigil : e.sup.vigil = none
  testing : e.sup.testing = d.sup.testing
  results : e.sup.results = d.sup.results
  entry : e.sup.lastEntry = v.entry
  ended : e.sup.lastEnd = d.time.tai
  decided : d.mode.decided = none → e.mode.decided = some ⟨d.mode.origin, 0x10, 0⟩
  flag : e.rd F.SUP_IRQ_STATUS_VIGIL_END = 1

theorem Dev.endVigil_left {d : Dev} {v : VigilSt} (h : d.sup.vigil = some v) : RunLeft d v (d.endVigil none true) := by
  rw [Dev.endVigil_none_running h]
  obtain ⟨r, q, n, hended⟩ := d.runEnded_shape v
  have hsup (target : Mode) (rank : Nat) : ((d.runEnded v).arises target 0x10 0 rank).sup = (d.runEnded v).sup := by
    obtain ⟨m, p, harises⟩ := (d.runEnded v).arises_shape target 0x10 0 rank
    rw [harises]
  have hmode : (d.runEnded v).mode = d.mode := by rw [hended]
  have hflag : (d.runEnded v).rd F.SUP_IRQ_STATUS_VIGIL_END = 1 := by
    rw [Dev.runEnded, Dev.rd_irq _ _ _ _ _ (by decide), if_pos rfl]
    rfl
  refine ⟨?_, ?_, ?_, ?_, ?_, fun hd => ?_, ?_⟩
  · rw [hsup, hended]
  · rw [hsup, hended]
  · rw [hsup, hended]
  · rw [hsup, hended]
  · rw [hsup, hended]
  · rw [hmode]
    exact Dev.arises_decided (Dev.yields_of_undecided (hmode ▸ hd) _) _ _ _
  · rw [Dev.rd_of_regs (Dev.arises_regs _ _ _ _ _), hflag]

/-- A run ended by a cut of the test in progress. -/
theorem Dev.endVigil_cut (d : Dev) (result cause : Nat) (leave : Bool) :
    d.endVigil (some (result, cause)) leave = (d.cutTest result cause).endVigil none leave := rfl

/-- Whether a run is over or goes on, its results and the test in progress stay. -/
theorem Dev.vigilDone_keeps (d : Dev) : d.vigilDone.sup.results = d.sup.results ∧ d.vigilDone.sup.testing = d.sup.testing := by
  unfold Dev.vigilDone
  split
  case h_1 v hv =>
    split
    · exact ⟨(Dev.endVigil_left hv).results, (Dev.endVigil_left hv).testing⟩
    · exact ⟨rfl, rfl⟩
  case h_2 => exact ⟨rfl, rfl⟩

/-- A run with a test to come is not over. -/
theorem Dev.vigilDone_busy {d : Dev} {v : VigilSt} (h : d.sup.vigil = some v) (hv : v.todo ≠ []) : d.vigilDone = d := by
  unfold Dev.vigilDone
  rw [h]
  simp [hv]

/-! ### A test that is passed over (R289) -/

theorem Dev.skipTest_find? (d : Dev) (row result cause : Nat) :
    ∃ r, (d.skipTest row result cause).sup.results.find? row = some r ∧ r.result = result ∧ r.cause = cause :=
  ⟨_, d.putResult_find? row _, rfl, rfl⟩

theorem Dev.skipTest_vigilView (d : Dev) (row result cause : Nat) : (d.skipTest row result cause).vigilView = d.vigilView :=
  d.putResult_vigilView row _

theorem Dev.skipTest_testing (d : Dev) (row result cause : Nat) : (d.skipTest row result cause).sup.testing = d.sup.testing :=
  d.putResult_testing row _

theorem Dev.nextTodo_running {d : Dev} {v : VigilSt} (h : d.sup.vigil = some v) :
    d.nextTodo = d.setSup { d.sup with vigil := some { v with todo := v.todo.drop 1, waiting := none } } := by
  unfold Dev.nextTodo
  rw [h]

/-- The active tells its standby of a step that both units take in step (R295). -/
def Dev.told (d : Dev) (tells : Bool) (row action : Nat) : Dev := if tells then d.noteBudget 14 row .b action else d

theorem Dev.told_runView (d : Dev) (tells : Bool) (row action : Nat) : (d.told tells row action).runView = d.runView := by
  unfold Dev.told
  split
  · exact d.noteBudget_runView _ _ _ _
  · rfl

/-- The device once it has told of a test that is passed over, and the test is off the list. -/
def Dev.passing (d : Dev) (row : Nat) (started : Bool) : Dev :=
  (d.told (row = 75 || row = 76) row (if started then 0 else 4)).nextTodo

theorem Dev.passStep_eq (d : Dev) (row : Nat) (started : Bool) : d.passStep row started =
    ((d.passing row started).skipTest row (if started then 4 else 3) (if started then 7 else 6)).vigilDone :=
  rfl

/-- A test that is passed over has its result: skipped for its conditions, or for want of admission. -/
theorem Dev.passStep_find? (d : Dev) (row : Nat) (started : Bool) : ∃ r, (d.passStep row started).sup.results.find? row = some r ∧
    r.result = (if started then 4 else 3) ∧ r.cause = (if started then 7 else 6) := by
  rw [Dev.passStep_eq, (Dev.vigilDone_keeps _).1]
  exact Dev.skipTest_find? _ _ _ _

/-- The run goes on with what is left after the test that was passed over. -/
theorem Dev.passStep_vigil {d : Dev} {v : VigilSt} (h : d.sup.vigil = some v) {row next : Nat} {rest : List Nat}
    (hv : v.todo = row :: next :: rest) (started : Bool) :
    ∃ w, (d.passStep row started).sup.vigil = some w ∧ w.todo = next :: rest ∧ w.waiting = none := by
  obtain ⟨w, hw, htodo, hwaiting⟩ : ∃ w, ((d.passing row started).skipTest row (if started then 4 else 3)
      (if started then 7 else 6)).sup.vigil = some w ∧ w.todo = next :: rest ∧ w.waiting = none := by
    rw [Dev.skipTest, Dev.putResult_vigil, Dev.passing,
      Dev.nextTodo_running ((congrArg RunView.vigil (d.told_runView _ _ _)).trans h), hv]
    exact ⟨_, rfl, rfl, rfl⟩
  rw [Dev.passStep_eq, Dev.vigilDone_busy hw (by simp [htodo])]
  exact ⟨w, hw, htodo, hwaiting⟩

/-! ### A test starts (R289, R297) -/

theorem Dev.beginTest_runView (d : Dev) (row : Nat) (alone : Bool) :
    (d.beginTest row alone).runView = { d.runView with testing := some ⟨row, d.time.cycles, alone⟩ } := by
  have hhold := d.testHold_runView row true
  unfold Dev.beginTest
  extract_lets held src testing linked src' sweeping
  have htesting : testing.runView = { d.runView with testing := some ⟨row, d.time.cycles, alone⟩ } := by
    rw [← hhold]
    have htime : held.time = d.time := congrArg RunView.time hhold
    simp only [testing, src, Dev.runView, htime]
    rfl
  have hlinked : linked.runView = testing.runView := by
    dsimp only [linked]
    split
    · exact Dev.linkDown_runView _ _
    · rfl
  rw [← htesting, ← hlinked]
  split
  · exact (Dev.schedule_frame _).run
  · split
    · rfl
    · rfl

end Sys2Proof.Machine

/-! PROOFS. The chapter on supervision and self-test: the commands of the Vigil and of named instances. -/

namespace Sys2Proof.Machine

open Sys2Proof.Claims

/-- What a command that acts on the device leads to. -/
theorem State.eq_after_of_act {s t : State} {o : Host.Outcome State Fault Refusal} {f : Dev → Dev} (ht : o = .next t)
    (h : o = s.act f) : t = s.after (f s.dev) := by
  rw [h] at ht
  injection ht with ht
  exact ht.symm

/-! ### SELF_TEST_START (R289) -/

/-- The device once the run's next test has been admitted and starts. -/
def Dev.startsNext (d : Dev) (row : Nat) : Dev :=
  (((d.allot .b (d.cost 11 1)).2.told (row = 75) row 3).nextTodo).beginTest row false

/-- The device once the budget has put the run's next test off: it waits from the first time on. -/
def Dev.putsOff (d : Dev) (v : VigilSt) : Dev :=
  let e := (d.allot .b (d.cost 11 1)).2
  e.setSup { e.sup with vigil := some { v with waiting := some (v.waiting.getD d.time.cycles) } }

theorem Dev.startsNext_runView {d : Dev} {v : VigilSt} (hv : d.sup.vigil = some v) {row : Nat} {rest : List Nat}
    (htodo : v.todo = row :: rest) : (d.startsNext row).runView =
      { d.runView with testing := some ⟨row, d.time.cycles, false⟩, vigil := some { v with todo := rest, waiting := none } } := by
  have hadmitted : ((d.allot .b (d.cost 11 1)).2.told (row = 75) row 3).runView = d.runView :=
    (Dev.told_runView _ _ _ _).trans (d.allot_frame _ _).run
  have hnext : ((d.allot .b (d.cost 11 1)).2.told (row = 75) row 3).nextTodo.runView =
      { d.runView with vigil := some { v with todo := rest, waiting := none } } := by
    rw [Dev.nextTodo_running ((congrArg RunView.vigil hadmitted).trans hv), htodo, ← hadmitted]
    rfl
  have htime : ((d.allot .b (d.cost 11 1)).2.told (row = 75) row 3).nextTodo.time = d.time := congrArg RunView.time hnext
  rw [Dev.startsNext, Dev.beginTest_runView, hnext, htime]

section Start

variable {s : State} {v : VigilSt} {row : Nat} {rest : List Nat} (hm : s.dev.mode.mode = .vigil) (hv : s.dev.sup.vigil = some v)
  (htodo : v.todo = row :: rest) (ht : s.dev.sup.testing = none) (ha : s.dev.activeStep row = false)
include hm hv htodo ht ha

/-- A test whose conditions do not hold is passed over. -/
theorem execSelfTestStart_unfit (hmay : s.dev.mayTest row = false) :
    execSelfTestStart s = s.act fun d => d.passStep row false :=
  State.act_congr (by simp [hv, htodo, hm, ht, ha, hmay])

/-- On battery class B work is barred, and the test is passed over. -/
theorem execSelfTestStart_barred (hmay : s.dev.mayTest row = true) (hbar : s.dev.bBarred = true) :
    execSelfTestStart s = s.act fun d => d.passStep row true :=
  State.act_congr (by simp [hv, htodo, hm, ht, ha, hmay, hbar])

theorem execSelfTestStart_admitted (hmay : s.dev.mayTest row = true) (hbar : s.dev.bBarred = false)
    (hok : (s.dev.allot .b (s.dev.cost 11 1)).1 = true) : execSelfTestStart s = s.act fun d => d.startsNext row :=
  State.act_congr (by simp [hv, htodo, hm, ht, ha, hmay, hbar, hok, Dev.startsNext, Dev.told])

theorem execSelfTestStart_deferred (hmay : s.dev.mayTest row = true) (hbar : s.dev.bBarred = false)
    (hno : (s.dev.allot .b (s.dev.cost 11 1)).1 = false) : execSelfTestStart s = s.act fun d => d.putsOff v :=
  State.act_congr (by simp [hv, htodo, hm, ht, ha, hmay, hbar, hno, Dev.putsOff])

/-- The next test of the run starts, and leaves the list. -/
theorem selfTestStart_admitted (hmay : s.dev.mayTest row = true) (hbar : s.dev.bBarred = false)
    (hok : (s.dev.allot .b (s.dev.cost 11 1)).1 = true) :
    ∃ t, exec .selfTestStart s = .next t ∧ t.dev.sup.testing = some ⟨row, s.dev.time.cycles, false⟩ ∧
      t.dev.sup.vigil = some { v with todo := rest, waiting := none } := by
  have hrun := Dev.startsNext_runView hv htodo
  exact ⟨_, (execSelfTestStart_admitted hm hv htodo ht ha hmay hbar hok).trans (s.act_after _), congrArg RunView.testing hrun,
    congrArg RunView.vigil hrun⟩

end Start

/-! ### SELF_TEST_END (R284, R285) -/

/-- The device once a test has completed with the signature expected of it. -/
def Dev.passed (d : Dev) (x : Testing) (measured : BitVec 16) : Dev :=
  let e := d.testHold x.row false
  let f := e.setSup { e.sup with testing := none }
  f.putResult x.row ⟨0, 0, d.testExpect x.row, d.testExpect x.row, Config.selfTestCycles x.row (d.testParam x.row), measured.toNat,
    f.time.tai, f.testRun⟩

theorem execSelfTestEnd_passed {s : State} {x : Testing} {stream : List Byte} (measured : BitVec 16)
    (hx : s.dev.sup.testing = some x) (hrow : x.row < 75)
    (hsig : testSig stream (Config.selfTestCycles x.row (s.dev.testParam x.row)) true = s.dev.testExpect x.row) :
    execSelfTestEnd (.completed stream true measured true true) s = s.act fun d => (d.passed x measured).vigilDone := by
  have h75 : x.row ≠ 75 := by omega
  have h76 : x.row ≠ 76 := by omega
  refine State.act_congr ?_
  simp only [hx, h75, decide_false, Bool.false_and, Bool.false_eq_true, ↓reduceIte, Bool.not_true, h76, hsig, decide_true,
    Prod.mk.injEq, zero_ne_one, OfNat.zero_ne_ofNat, and_self, Bool.and_self, Bool.or_self, Dev.setSup_time, Dev.passed]
  split <;> rfl

/-- A passed test has its result, and none is in progress. -/
theorem Dev.passed_spec (d : Dev) (x : Testing) (measured : BitVec 16) :
    (d.passed x measured).vigilDone.sup.testing = none ∧ ∃ r, (d.passed x measured).vigilDone.sup.results.find? x.row = some r ∧
      r.result = 0 ∧ r.cause = 0 ∧ r.measured = measured.toNat ∧ r.tai = d.time.tai := by
  rw [(Dev.vigilDone_keeps _).1, (Dev.vigilDone_keeps _).2]
  have htime : (d.testHold x.row false).time = d.time := congrArg RunView.time (d.testHold_runView x.row false)
  exact ⟨Dev.putResult_testing _ _ _, _, Dev.putResult_find? _ _ _, rfl, rfl, rfl, congrArg TimeSt.tai htime⟩

theorem selfTestEnd_passed {s : State} {x : Testing} {stream : List Byte} (measured : BitVec 16)
    (hx : s.dev.sup.testing = some x) (hrow : x.row < 75)
    (hsig : testSig stream (Config.selfTestCycles x.row (s.dev.testParam x.row)) true = s.dev.testExpect x.row) :
    ∃ t r, exec (.selfTestEnd (.completed stream true measured true true)) s = .next t ∧ t.dev.sup.testing = none ∧
      t.dev.sup.results.find? x.row = some r ∧ r.result = 0 ∧ r.cause = 0 ∧ r.measured = measured.toNat ∧
      r.tai = s.dev.time.tai := by
  obtain ⟨htesting, r, hfind, hresult⟩ := s.dev.passed_spec x measured
  exact ⟨_, r, (execSelfTestEnd_passed measured hx hrow hsig).trans (s.act_after _), htesting, hfind, hresult⟩

theorem execSelfTestEnd_faulted {s : State} {x : Testing} (hx : s.dev.sup.testing = some x) :
    execSelfTestEnd .faulted s = s.act fun d => (d.cutTest 2 12).vigilDone :=
  State.act_congr (by simp [hx])

/-! ### VIGIL_ADMISSION_TIMEOUT (R289) -/

theorem execVigilAdmissionTimeout_waited {s : State} {v : VigilSt} {row since : Nat} {rest : List Nat}
    (hv : s.dev.sup.vigil = some v) (htodo : v.todo = row :: rest) (hw : v.waiting = some since)
    (hp : s.dev.past since 60000 = true) : execVigilAdmissionTimeout s = s.act fun d => d.passStep row true :=
  State.act_congr (by simp [hv, htodo, hw, hp])

/-! ### VIGIL_WINDOW_END and VIGIL_ABORT (R289, R294) -/

/-- A step that leaves VIGIL: no run and no test are left, the last run's entry and end are on record, and the way back is decided. -/
structure LeavesVigil (s t : State) (v : VigilSt) : Prop where
  vigil : t.dev.sup.vigil = none
  testing : t.dev.sup.testing = none
  entry : t.dev.sup.lastEntry = v.entry
  ended : t.dev.sup.lastEnd = s.dev.time.tai
  decided : decides t s.dev.mode.origin 0x10 0
  flag : t.dev.rd F.SUP_IRQ_STATUS_VIGIL_END = 1

/-- Whatever results came before it, the end of the run leaves VIGIL. -/
theorem leavesVigil_of_view {s : State} {v : VigilSt} {e : Dev} (hv : s.dev.sup.vigil = some v) (hd : s.dev.mode.decided = none)
    (hview : e.vigilView = s.dev.vigilView) (htesting : e.sup.testing = none) :
    LeavesVigil s (s.after (e.endVigil none true)) v := by
  simp only [Dev.vigilView, Prod.mk.injEq, hv, Option.map_some] at hview
  obtain ⟨htime, hmode, -, hvigil⟩ := hview
  obtain ⟨w, hw, hcounted⟩ := Option.map_eq_some_iff.1 hvigil
  have hentry : w.uncounted.entry = v.uncounted.entry := congrArg VigilSt.entry hcounted
  have hleft := Dev.endVigil_left hw
  exact ⟨hleft.vigil, hleft.testing.trans htesting, hleft.entry.trans hentry, hleft.ended.trans (congrArg TimeSt.tai htime),
    hmode ▸ hleft.decided (hmode ▸ hd), hleft.flag⟩

/-- The instances that the window's end cuts off or leaves out. -/
def Dev.windowCut (d : Dev) (v : VigilSt) : Dev := v.todo.foldl (fun e row => e.skipTest row 4 9) (d.cutTest 2 9)

theorem execVigilWindowEnd_over {s : State} {v : VigilSt} (hm : s.dev.mode.mode = .vigil) (hv : s.dev.sup.vigil = some v)
    (hp : s.dev.past v.began (v.plan.getD 1 240 * 60000) = true) :
    execVigilWindowEnd s = s.act fun d => (d.windowCut v).endVigil none true := by
  refine State.act_congr ?_
  dsimp only
  rw [hv]
  dsimp only
  rw [hm, hp, if_neg (by decide)]
  rfl

theorem vigilWindowEnd_over {s : State} {v : VigilSt} (hm : s.dev.mode.mode = .vigil) (hv : s.dev.sup.vigil = some v)
    (hp : s.dev.past v.began (v.plan.getD 1 240 * 60000) = true) (hd : s.dev.mode.decided = none) :
    ∃ t, exec .vigilWindowEnd s = .next t ∧ LeavesVigil s t v := by
  refine ⟨_, (execVigilWindowEnd_over hm hv hp).trans (s.act_after _), leavesVigil_of_view hv hd ?_ ?_⟩
  · exact (Dev.foldl_keeps Dev.vigilView (fun e row => e.skipTest_vigilView row 4 9) v.todo _).trans (s.dev.cutTest_vigilView 2 9)
  · exact (Dev.foldl_keeps (·.sup.testing) (fun e row => e.skipTest_testing row 4 9) v.todo _).trans (s.dev.cutTest_testing 2 9)

theorem execVigilAbort_running {s : State} (hb : s.dev.booted = true) (hm : s.dev.mode.mode = .vigil) :
    execVigilAbort s = s.act fun d => (d.cutTest 3 11).endVigil none true := by
  refine State.act_congr ?_
  rw [if_pos hb, Dev.vigilAbort, if_pos hm, Dev.endVigil_cut]

theorem vigilAbort_running {s : State} {v : VigilSt} (hb : s.dev.booted = true) (hm : s.dev.mode.mode = .vigil)
    (hv : s.dev.sup.vigil = some v) (hd : s.dev.mode.decided = none) :
    ∃ t, exec .vigilAbort s = .next t ∧ LeavesVigil s t v :=
  ⟨_, (execVigilAbort_running hb hm).trans (s.act_after _),
    leavesVigil_of_view hv hd (s.dev.cutTest_vigilView 3 11) (s.dev.cutTest_testing 3 11)⟩

/-! ### SELF_TEST_RUN (R297) -/

section Named

variable {s : State} {test inst : BitVec 8} {row : Nat} (hb : s.dev.booted = true) (hrow : testRow test.toNat inst.toNat = some row)
include hb hrow

theorem execSelfTestRun_elsewhere (hm : s.dev.mode.mode ≠ .maintenance) : execSelfTestRun test inst s = s.act id :=
  State.act_congr (by simp [hb, Dev.selfTestRun, hrow, hm])

theorem execSelfTestRun_starts (hm : s.dev.mode.mode = .maintenance) (ht : s.dev.sup.testing = none)
    (hmay : s.dev.mayTest row = true) : execSelfTestRun test inst s = s.act fun d => d.beginTest row true :=
  State.act_congr (by simp [hb, Dev.selfTestRun, hrow, hm, ht, hmay])

theorem execSelfTestRun_unfit (hm : s.dev.mode.mode = .maintenance) (ht : s.dev.sup.testing = none)
    (hmay : s.dev.mayTest row = false) : execSelfTestRun test inst s = s.act fun d => d.skipTest row 3 6 :=
  State.act_congr (by simp [hb, Dev.selfTestRun, hrow, hm, ht, hmay])

/-- A named test starts in MAINTENANCE, which it does not leave. -/
theorem selfTestRun_starts (hm : s.dev.mode.mode = .maintenance) (ht : s.dev.sup.testing = none)
    (hmay : s.dev.mayTest row = true) :
    ∃ t, exec (.selfTestRun test inst) s = .next t ∧ t.dev.sup.testing = some ⟨row, s.dev.time.cycles, true⟩ ∧
      t.dev.mode = s.dev.mode := by
  have hrun := s.dev.beginTest_runView row true
  exact ⟨_, (execSelfTestRun_starts hb hrow hm ht hmay).trans (s.act_after _), congrArg RunView.testing hrun,
    congrArg RunView.mode hrun⟩

end Named

/-- Settles O32: the next test starts with the rest of the list left, one that completed with its signature passes, one that waited
a minute is skipped; the window's end and an abort leave VIGIL; a named test starts. -/
theorem selfTestRunGoesOn : Obligations.SelfTestRunGoesOn := by
  unfold Obligations.SelfTestRunGoesOn
  refine ⟨?_, ?_, ?_, ?_, ?_, ?_⟩
  · intro s v row rest hm hv htodo ht ha hmay hbar hok
    exact selfTestStart_admitted hm hv htodo ht ha hmay hbar hok
  · intro s x stream measured hx hrow hsig
    exact selfTestEnd_passed measured hx hrow hsig
  · intro s v row since rest hv htodo hw hp hrest
    obtain ⟨next, later, rfl⟩ := List.exists_cons_of_ne_nil hrest
    obtain ⟨w, hvigil, hleft, hwaiting⟩ := Dev.passStep_vigil hv htodo true
    obtain ⟨r, hfind, hresult, hcause⟩ := s.dev.passStep_find? row true
    exact ⟨_, w, r, (execVigilAdmissionTimeout_waited hv htodo hw hp).trans (s.act_after _), hvigil, hleft, hwaiting, hfind, hresult,
      hcause⟩
  · intro s v hm hv hd hp
    obtain ⟨t, hexec, h⟩ := vigilWindowEnd_over hm hv hp hd
    exact ⟨t, hexec, h.vigil, h.testing, h.entry, h.ended, h.decided⟩
  · intro s v hb hm hv hd
    obtain ⟨t, hexec, h⟩ := vigilAbort_running hb hm hv hd
    exact ⟨t, hexec, h.vigil, h.testing, h.entry, h.ended, h.decided⟩
  · intro s test inst row hb hrow hm ht hmay
    exact selfTestRun_starts hb hrow hm ht hmay

/-- Settles O31: each end of a test and of the run, and the named test, by what its command makes of the run. -/
theorem vigilAndSelfTest : Obligations.VigilAndSelfTest := by
  unfold Obligations.VigilAndSelfTest
  refine ⟨?_, ?_, ?_, ?_, ?_, ?_, ?_⟩
  · intro s v row rest hm hv htodo ht ha
    obtain ⟨t, hexec⟩ : ∃ t, exec .selfTestStart s = .next t := ⟨_, rfl⟩
    refine ⟨t, hexec, fun hmay => ?_, fun hmay hbar hok => ?_, fun hmay hbar hno => ?_, fun hmay hbar => ?_⟩
    · rw [State.eq_after_of_act hexec (execSelfTestStart_unfit hm hv htodo ht ha hmay)]
      exact s.dev.passStep_find? row false
    · rw [State.eq_after_of_act hexec (execSelfTestStart_admitted hm hv htodo ht ha hmay hbar hok)]
      exact congrArg RunView.testing (Dev.startsNext_runView hv htodo)
    · rw [State.eq_after_of_act hexec (execSelfTestStart_deferred hm hv htodo ht ha hmay hbar hno)]
      exact ⟨(congrArg RunView.testing (s.dev.allot_frame _ _).run).trans ht, rfl⟩
    · rw [State.eq_after_of_act hexec (execSelfTestStart_barred hm hv htodo ht ha hmay hbar)]
      exact s.dev.passStep_find? row true
  · intro s x stream measured hx hrow hsig
    obtain ⟨t, r, hexec, htesting, hfind, hresult, hcause, hmeasured, -⟩ := selfTestEnd_passed measured hx hrow hsig
    exact ⟨t, r, hexec, htesting, hfind, hresult, hcause, hmeasured⟩
  · intro s x hx
    obtain ⟨hresults, htesting⟩ := (s.dev.cutTest 2 12).vigilDone_keeps
    obtain ⟨r, hfind, hresult, hcause, hsig⟩ := Dev.cutTest_find? hx 2 12
    exact ⟨_, r, (execSelfTestEnd_faulted hx).trans (s.act_after _), htesting.trans (s.dev.cutTest_testing 2 12),
      (congrArg (Tbl.find? · x.row) hresults).trans hfind, hresult, hcause, hsig⟩
  · intro s v row since rest hv htodo hw hp
    obtain ⟨r, hfind, hresult, hcause⟩ := s.dev.passStep_find? row true
    exact ⟨_, r, (execVigilAdmissionTimeout_waited hv htodo hw hp).trans (s.act_after _), hfind, hresult, hcause⟩
  · intro s v hm hv hp hd
    obtain ⟨t, hexec, h⟩ := vigilWindowEnd_over hm hv hp hd
    exact ⟨t, hexec, h.vigil, h.testing, h.decided, h.flag⟩
  · intro s v hb hm hv hd
    obtain ⟨t, hexec, h⟩ := vigilAbort_running hb hm hv hd
    exact ⟨t, hexec, h.vigil, h.testing, h.decided, h.flag⟩
  · intro s test inst row hb hrow
    obtain ⟨t, hexec⟩ : ∃ t, exec (.selfTestRun test inst) s = .next t := ⟨_, rfl⟩
    refine ⟨t, hexec, fun hm => ?_, fun hm ht hmay => ?_, fun hm ht hmay => ?_⟩
    · exact State.eq_after_of_act hexec (execSelfTestRun_elsewhere hb hrow hm)
    · rw [State.eq_after_of_act hexec (execSelfTestRun_starts hb hrow hm ht hmay)]
      exact congrArg RunView.testing (s.dev.beginTest_runView row true)
    · rw [State.eq_after_of_act hexec (execSelfTestRun_unfit hb hrow hm ht hmay)]
      exact s.dev.skipTest_find? row 3 6

end Sys2Proof.Machine

/-! PROOFS. The architecture chapter: a unit lost to a fault. -/

namespace Sys2Proof.Machine

open Sys2Proof.Claims

/-! ### Re-placing work leaves the record of what is lost (R33) -/

theorem Dev.irq_lost (d : Dev) (f : Fld) (unit : Nat) (more : List Byte) : (d.irq f unit more).cap.lost = d.cap.lost :=
  congrArg RunView.lost (d.irq_runView f unit more)

theorem Dev.note_cap (d : Dev) (r : List Byte) : (d.note r).cap = d.cap := by
  obtain ⟨p, h⟩ := d.note_shape r
  rw [h]

theorem Dev.mtxResult_cap (d : Dev) (key : Nat) (st : Status) : (d.mtxResult key st).cap = d.cap := by
  unfold Dev.mtxResult
  extract_lets src e
  split <;> rfl

theorem Dev.rowLacks_cap (d : Dev) (r : Nat) : (d.rowLacks r).cap = d.cap := by
  unfold Dev.rowLacks
  rw [Dev.irq_cap, Dev.mtxResult_cap]

theorem Dev.rowDrop_cap (d : Dev) (r : Nat) (lost : Bool) : (d.rowDrop r lost).cap = d.cap := by
  have hstop : (d.rowStop r 32).cap = d.cap := by
    unfold Dev.rowStop
    extract_lets src e
    split <;> rfl
  unfold Dev.rowDrop
  extract_lets stopped
  split
  · exact (Dev.rowLacks_cap _ r).trans hstop
  · exact hstop

theorem Dev.placeRows_cap (d : Dev) : d.placeRows.cap = d.cap := by
  unfold Dev.placeRows
  extract_lets cap total k alarmed dropped
  have halarmed : alarmed.cap = d.cap := by
    dsimp only [alarmed]
    split
    · exact Dev.irq_cap _ _ _ _
    · rfl
  have hdropped : dropped.cap = alarmed.cap := Dev.foldl_keeps Dev.cap (fun e r => e.rowDrop_cap r true) _ _
  rw [← halarmed, ← hdropped]
  refine Dev.foldl_keeps Dev.cap (fun e r => ?_) _ _
  split
  · rfl
  · split
    · exact Dev.note_cap _ _
    · rfl

theorem Dev.ctxDrop_cap (d : Dev) (c : Nat) (s : Status) : (d.ctxDrop c s).cap = d.cap := by
  unfold Dev.ctxDrop
  extract_lets x stopped told
  have hstopped : stopped.cap = d.cap := by
    dsimp only [stopped]
    split_ifs <;> rfl
  have htold : told.cap = stopped.cap := by
    dsimp only [told]
    split
    · exact Dev.irq_cap _ _ _ _
    · rfl
  exact htold.trans hstopped

theorem Dev.placeCtxs_cap (d : Dev) : d.placeCtxs.cap = d.cap := by
  unfold Dev.placeCtxs
  extract_lets total k alarmed dropped
  have halarmed : alarmed.cap = d.cap := by
    dsimp only [alarmed]
    split
    · exact Dev.irq_cap _ _ _ _
    · rfl
  have hdropped : dropped.cap = alarmed.cap := Dev.foldl_keeps Dev.cap (fun e c => e.ctxDrop_cap c .capacity) _ _
  rw [← halarmed, ← hdropped]
  refine Dev.foldl_keeps Dev.cap (fun e c => ?_) _ _
  split
  · rfl
  · split
    · exact Dev.note_cap _ _
    · rfl

theorem Dev.aptDrop_cap (d : Dev) (p : Nat) (s : Status) : (d.aptDrop p s).cap = d.cap := by
  unfold Dev.aptDrop
  extract_lets x stopped
  have hstopped : stopped.cap = d.cap := by
    dsimp only [stopped]
    split_ifs <;> rfl
  exact hstopped

theorem Dev.cutTest_lost (d : Dev) (result cause : Nat) : (d.cutTest result cause).cap.lost = d.cap.lost :=
  congrArg (·.2.2.1) (d.cutTest_vigilView result cause)

theorem Dev.releaseSpare_lost (d : Dev) (matrix : Bool) : (d.releaseSpare matrix).cap.lost = d.cap.lost := by
  unfold Dev.releaseSpare
  split
  · extract_lets id
    split
    · exact d.cutTest_lost _ _
    · rfl
  · rfl

theorem Dev.faultRow_lost (d : Dev) (row : Nat) : (d.faultRow row).cap.lost = d.cap.lost := by
  unfold Dev.faultRow
  split
  · split
    · exact d.cutTest_lost _ _
    · rfl
  · rfl

theorem Dev.loseMtx_lost (d : Dev) (n : Nat) : (d.loseMtx n).cap.lost = d.cap.lost := by
  unfold Dev.loseMtx
  extract_lets frame same src released freed src' spared
  have hspared : spared.cap.lost = d.cap.lost := by
    dsimp only [spared]
    split
    · rfl
    · split
      · exact d.releaseSpare_lost true
      · rfl
  rw [Dev.irq_lost, Dev.placeRows_cap, hspared]

theorem Dev.loseStr_lost (d : Dev) (n : Nat) : (d.loseStr n).cap.lost = d.cap.lost := by
  unfold Dev.loseStr
  extract_lets frame same src released freed src' spared
  have hspared : spared.cap.lost = d.cap.lost := by
    dsimp only [spared]
    split
    · rfl
    · split
      · exact d.releaseSpare_lost false
      · rfl
  rw [Dev.placeCtxs_cap, hspared]

/-! ### A unit lost (R33) -/

/-- The device once the test on a faulty unit's block has ended (R284). -/
def Dev.faulted (d : Dev) (u : Unit33) : Dev :=
  match u with
  | .matrixSlice n => d.faultRow (57 + n)
  | .streamSlice n => d.faultRow (66 + n)
  | .lane n => d.faultRow (30 + n)
  | .irmon => d.faultRow 34
  | .port n => d.faultRow (41 + n)
  | _ => d

/-- The device with a unit put on record as lost. -/
def Dev.withLost (d : Dev) (u : Unit33) : Dev := { d with cap := { d.cap with lost := d.cap.lost ++ [(u.kind, u.number)] } }

/-- The device once a unit's work has moved or stopped. -/
def Dev.emptied (d : Dev) (u : Unit33) : Dev :=
  match u with
  | .matrixSlice n => d.loseMtx n
  | .streamSlice n => d.loseStr n
  | .lane n => d.linkDown n
  | .port n => d.aptDrop n .capacity
  | .bank n => { d with sup := { d.sup with corrs := d.sup.corrs.filter (fun r => r.1 / 16 ≠ n.val) } }
  | .timeUnit _ => d
  | .irmon => d.wr F.PAIR_STATUS_IRMON_UP 0

/-- The device once a unit is out of service. -/
def Dev.without (d : Dev) (u : Unit33) : Dev := ((d.faulted u).withLost u).emptied u

theorem Dev.loseUnit_inService {d : Dev} {u : Unit33} (h : d.isLost u.kind u.number = false) : d.loseUnit u =
    Dev.capEvents { d.without u with cap := { (d.without u).cap with shed := (d.without u).shedCounts } } d u.kind u.number := by
  unfold Dev.loseUnit
  rw [h]
  cases u <;> rfl

theorem Dev.faulted_lost (d : Dev) (u : Unit33) : (d.faulted u).cap.lost = d.cap.lost := by
  cases u with
  | matrixSlice n => exact d.faultRow_lost _
  | streamSlice n => exact d.faultRow_lost _
  | lane n => exact d.faultRow_lost _
  | irmon => exact d.faultRow_lost _
  | port n => exact d.faultRow_lost _
  | bank n => rfl
  | timeUnit n => rfl

theorem Dev.emptied_lost (d : Dev) (u : Unit33) : (d.emptied u).cap.lost = d.cap.lost := by
  cases u with
  | matrixSlice n => exact d.loseMtx_lost n
  | streamSlice n => exact d.loseStr_lost n
  | lane n => exact congrArg RunView.lost (d.linkDown_runView n)
  | port n => exact congrArg CapSt.lost (d.aptDrop_cap n _)
  | bank n => rfl
  | timeUnit n => rfl
  | irmon => rfl

theorem Dev.without_lost (d : Dev) (u : Unit33) : (d.without u).cap.lost = d.cap.lost ++ [(u.kind, u.number)] := by
  rw [Dev.without, Dev.emptied_lost]
  exact congrArg (· ++ [(u.kind, u.number)]) (d.faulted_lost u)

/-- What follows a loss: the events of the counts, then the correlators' schedule. -/
def lossEventFlds : List Fld := F.GCTL_IRQ_STATUS_CAPACITY_CHANGE :: scheduleFlds

theorem Dev.capEvents_frame (d old : Dev) (kind unit : Nat) : RunFrame lossEventFlds d (d.capEvents old kind unit) := by
  refine RunFrame.foldl (fun e k _ => ?_) d
  split
  · exact .refl
  · exact RunFrame.refl.irq (by decide) _ _

theorem Dev.loseUnit_frame {d : Dev} {u : Unit33} (h : d.isLost u.kind u.number = false) :
    RunFrame lossEventFlds (d.without u) (d.loseUnit u).schedule := by
  rw [Dev.loseUnit_inService h]
  have hshed : RunFrame lossEventFlds (d.without u)
      { d.without u with cap := { (d.without u).cap with shed := (d.without u).shedCounts } } := RunFrame.refl.alike rfl rfl
  exact (hshed.trans (Dev.capEvents_frame _ d _ _)).trans ((Dev.schedule_frame _).mono (List.subset_cons_self _ _))

/-- A unit lost is on record; a lost lane's link and a lost Irmon link are down. -/
theorem Dev.loseUnit_spec {d : Dev} {u : Unit33} (h : d.isLost u.kind u.number = false) :
    (d.loseUnit u).schedule.isLost u.kind u.number = true ∧ (∀ n : Fin 4, u = .lane n → (d.loseUnit u).schedule.linkUp n = false) ∧
      (u = .irmon → (d.loseUnit u).schedule.rd F.PAIR_STATUS_IRMON_UP = 0) := by
  have hframe := Dev.loseUnit_frame h
  have hlink : ∀ n : Fin 4, (F.NET_STATUS_LINK.at [n]).inQue = false ∧
      (F.NET_STATUS_LINK.at [n]).column ∉ lossEventFlds.map Fld.column := by decide
  refine ⟨?_, fun n hu => ?_, fun hu => ?_⟩
  · have hlost : (d.loseUnit u).schedule.cap.lost = d.cap.lost ++ [(u.kind, u.number)] :=
      (congrArg RunView.lost hframe.run).trans (d.without_lost u)
    rw [Dev.isLost, hlost]
    simp
  · subst hu
    obtain ⟨hq, hg⟩ := hlink n
    exact (hframe.reads.on hq hg).trans (Dev.linkUp_linkDown _ n)
  · subst hu
    exact (hframe.reads _ (by decide) (by decide)).trans (Dev.rd_wr_same _ _ _)

theorem execUnitLostToFault_inService {s : State} (hb : s.dev.booted = true) (u : Unit33) :
    execUnitLostToFault u s = s.act fun d => (d.loseUnit u).schedule :=
  State.act_congr (if_pos hb)

end Sys2Proof.Machine

/-! PROOFS. The chapter on supervision and self-test: outcomes of the path pilot, and the units lost to faults. -/

namespace Sys2Proof.Machine

open Sys2Proof.Claims

/-! ### What an integration's end leaves (R277 to R281) -/

/-- An item of Q5 moves the queue and its level. -/
theorem Dev.q5_frame (d : Dev) (z corr outcome band flags state delay : Nat) (gain noise snr : Int) (m : Nat) :
    RunFrame [] d (d.q5 z corr outcome band flags state delay gain noise snr m) := by
  unfold Dev.q5
  exact RunFrame.refl.enqueue (by decide) _

/-- An alarm raised or cleared (R280). -/
def alarmFlds : List Fld :=
  [F.SUP_PATH_STATUS_ALARM, F.SUP_COUNT_COUNT.at [1], F.SUP_IRQ_STATUS_ALARM, F.SUP_IRQ_STATUS_ALARM_CLEAR]

theorem Dev.alarmStep_frame (d : Dev) (z outcome : Nat) : RunFrame alarmFlds d (d.alarmStep z outcome).1 := by
  have hset (x : PathSt) : RunFrame alarmFlds d (d.setPath z x) := RunFrame.refl.alike rfl rfl
  unfold Dev.alarmStep
  extract_lets x need alarm
  split
  · exact .refl
  · split
    · split
      · exact hset _
      · split
        · exact hset _
        · exact (((hset _).wrUn (by decide) z 1).tally (by decide) 1).irq (by decide) z []
    · split
      · exact .refl
      · split
        · exact hset _
        · exact ((hset _).wrUn (by decide) z 0).irq (by decide) z []

/-- The lag window of a path moves (R278). -/
def lagFlds : List Fld := [F.SUP_PATH_LAG_LAG_BASE, F.SUP_PATH_CFG_LAG_SEARCH]

theorem Dev.lagStep_frame (d : Dev) (z lagBase : Nat) (r : Measure) : RunFrame lagFlds d (d.lagStep z lagBase r) := by
  have hcentre : RunFrame lagFlds d (d.wrRun (F.SUP_PATH_LAG_LAG_BASE.un z) (r.lag - 192)) := RunFrame.refl.wrRunUn (by decide) z _
  unfold Dev.lagStep
  extract_lets search lag centre
  split
  · split
    · exact hcentre.wrRunUn (by decide) z 0
    · exact RunFrame.refl.wrRunUn (by decide) z _
  · split
    · exact hcentre
    · exact .refl

theorem Dev.corrDone_frame (d : Dev) (i : Nat) (x : Corr) : RunFrame scheduleFlds d (d.corrDone i x) := by
  unfold Dev.corrDone
  extract_lets shown src freed
  have hshown : RunFrame scheduleFlds d shown := RunFrame.refl.wrUn (by decide) x.path _
  exact (hshown.alike (e' := freed) rfl rfl).trans (freed.corrTake_frame i)

/-- The device with an outcome counted. -/
def Dev.outcomeCounted (d : Dev) (outcome : Nat) : Dev :=
  if outcome = 6 then (d.supCount 0).supCount 2 else if outcome = 7 then (d.supCount 0).supCount 3 else d.supCount 0

/-- The device with an outcome shown, and its measurement where there is one. -/
def Dev.outcomeShown (d : Dev) (z outcome : Nat) (r : Measure) : Dev :=
  if outcome = 7 then d.wr (F.SUP_PATH_STATUS_OUTCOME.un z) 7
  else
    let e := (d.wr (F.SUP_PATH_STATUS_OUTCOME.un z) outcome).wrBit (F.SUP_PATH_STATUS_ACCURATE.un z) r.accurate
    let e := e.wrBit (F.SUP_PATH_STATUS_POLARITY_INV.un z) (r.c < 0)
    let e := (e.wrS (F.SUP_PATH_GAIN_GAIN.un z) r.gain).wrS (F.SUP_PATH_GAIN_NOISE.un z) r.noise
    (e.wr (F.SUP_PATH_DELAY_DELAY.un z) r.delay).wr (F.SUP_PATH_SNR_SNR.un z) r.snr.toNat

/-- What an outcome leads to: the alarm machine, a learn, the lag window, the correlator's next path. -/
def Dev.outcomeTaken (d : Dev) (i : Nat) (x : Corr) (outcome : Nat) (r : Measure) : Dev :=
  let z := x.path
  let a := d.alarmStep z outcome
  let d := a.1.setPath z { a.1.path z with result := some d.time.tai }
  let flags := 8 * bit (r.accurate && outcome ≠ 7) + 4 * bit (r.c < 0 && outcome ≠ 7) + 2 * bit a.2.1 + bit a.2.2.1
  let d := d.q5 z i outcome 15 flags a.2.2.2 r.delay r.gain r.noise r.snr r.m
  let d := if d.zf F.SUP_PATH_STATUS_LEARN_PENDING z = 1 && r.accurate && outcome ≠ 7 then
      let d := d.wrRun (F.SUP_PATH_REF_GAIN_REF_GAIN.un z) (unsgn 16 r.gain)
      (d.wrRun (F.SUP_PATH_REF_DELAY_REF_DELAY.un z) r.delay).wr (F.SUP_PATH_STATUS_LEARN_PENDING.un z) 0
    else d
  let d := if outcome = 7 then d else d.lagStep z x.lagBase r
  d.corrDone i x

theorem Dev.corrOutcome_eq (d : Dev) (i : Nat) (x : Corr) (outcome : Nat) (r : Measure) :
    d.corrOutcome i x outcome r = ((d.outcomeCounted outcome).outcomeShown x.path outcome r).outcomeTaken i x outcome r := rfl

/-- What an outcome leads to writes. -/
def takenFlds : List Fld :=
  [F.SUP_PATH_REF_GAIN_REF_GAIN, F.SUP_PATH_REF_DELAY_REF_DELAY, F.SUP_PATH_STATUS_LEARN_PENDING] ++
    (alarmFlds ++ (lagFlds ++ scheduleFlds))

theorem takenFlds_contains : alarmFlds ⊆ takenFlds ∧ lagFlds ⊆ takenFlds ∧ scheduleFlds ⊆ takenFlds := by
  unfold takenFlds
  refine ⟨?_, ?_, ?_⟩ <;> intro f hf <;> simp [hf]

theorem Dev.outcomeTaken_frame (d : Dev) (i : Nat) (x : Corr) (outcome : Nat) (r : Measure) :
    RunFrame takenFlds d (d.outcomeTaken i x outcome r) := by
  obtain ⟨halarm, hlag, hschedule⟩ := takenFlds_contains
  unfold Dev.outcomeTaken
  extract_lets z a src noted flags posted gained learned moved
  have hnoted : RunFrame takenFlds d noted := ((d.alarmStep_frame z outcome).mono halarm).alike rfl rfl
  have hposted : RunFrame takenFlds d posted := hnoted.trans ((Dev.q5_frame _ _ _ _ _ _ _ _ _ _ _ _).mono (List.nil_subset _))
  have hlearned : RunFrame takenFlds d learned := by
    dsimp only [learned]
    split
    · exact ((hposted.wrRunUn (by decide) z _).wrRunUn (by decide) z _).wrUn (by decide) z 0
    · exact hposted
  have hmoved : RunFrame takenFlds d moved := by
    dsimp only [moved]
    split
    · exact hlearned
    · exact hlearned.trans ((learned.lagStep_frame z _ r).mono hlag)
  exact hmoved.trans ((moved.corrDone_frame i x).mono hschedule)

/-- What a measurement shows. -/
def measureFlds : List Fld :=
  [F.SUP_PATH_STATUS_ACCURATE, F.SUP_PATH_STATUS_POLARITY_INV, F.SUP_PATH_GAIN_GAIN, F.SUP_PATH_GAIN_NOISE, F.SUP_PATH_DELAY_DELAY,
    F.SUP_PATH_SNR_SNR]

theorem Dev.outcomeShown_frame (d : Dev) (z outcome : Nat) (r : Measure) :
    RunFrame measureFlds (d.wr (F.SUP_PATH_STATUS_OUTCOME.un z) outcome) (d.outcomeShown z outcome r) := by
  unfold Dev.outcomeShown
  split
  case isTrue h =>
    subst h
    exact .refl
  case isFalse =>
    exact (((((RunFrame.refl.wrUn (by decide) z _).wrUn (by decide) z _).wrUn (by decide) z _).wrUn (by decide) z _).wrUn (by decide) z
      _).wrUn (by decide) z _

/-- OUTCOME shows the outcome of an integration that has ended. -/
theorem Dev.zf_corrOutcome (d : Dev) (i : Nat) (x : Corr) {outcome : Nat} (h : outcome < 16) (r : Measure) :
    (d.corrOutcome i x outcome r).zf F.SUP_PATH_STATUS_OUTCOME x.path = outcome := by
  have hafter := ((d.outcomeCounted outcome).outcomeShown_frame x.path outcome r).reads.trans
    (Dev.outcomeTaken_frame _ i x outcome r).reads
  rw [Dev.corrOutcome_eq]
  exact (hafter.cf (by decide) (by decide) x.path).trans (Dev.rd_wr_fits _ h)

/-- Counters of the block that what follows the count of an outcome leaves. -/
theorem Dev.rd_corrOutcome_count (d : Dev) (i : Nat) (x : Corr) (outcome : Nat) (r : Measure) {k : Nat} (hk : k = 0 ∨ k = 3) :
    (d.corrOutcome i x outcome r).rd (F.SUP_COUNT_COUNT.at [k]) = (d.outcomeCounted outcome).rd (F.SUP_COUNT_COUNT.at [k]) := by
  have hshown : ColumnsBut (F.SUP_PATH_STATUS_OUTCOME :: measureFlds) (d.outcomeCounted outcome)
      ((d.outcomeCounted outcome).outcomeShown x.path outcome r) :=
    (ColumnsBut.refl.wr (fs := [F.SUP_PATH_STATUS_OUTCOME]) (by simp) outcome).trans (Dev.outcomeShown_frame _ _ _ _).reads
  have hafter := hshown.trans (Dev.outcomeTaken_frame _ i x outcome r).reads
  rw [Dev.corrOutcome_eq]
  rcases hk with rfl | rfl
  · exact hafter _ (by decide) (by decide)
  · exact hafter _ (by decide) (by decide)

theorem Dev.supCount_eq (d : Dev) (k : Nat) : d.supCount k = d.tally (F.SUP_COUNT_COUNT.at [k]) 1 := rfl

/-- Every integration that ends is counted. -/
theorem Dev.rd_outcomeCounted_all (d : Dev) (outcome : Nat) :
    (d.outcomeCounted outcome).rd (F.SUP_COUNT_COUNT.at [0]) = satAdd 32 (d.rd (F.SUP_COUNT_COUNT.at [0])) 1 := by
  unfold Dev.outcomeCounted
  split
  · rw [Dev.supCount_eq, Dev.rd_tally, if_neg (by decide), Dev.supCount_eq, Dev.rd_tally_same]
    rfl
  · split
    · rw [Dev.supCount_eq, Dev.rd_tally, if_neg (by decide), Dev.supCount_eq, Dev.rd_tally_same]
      rfl
    · rw [Dev.supCount_eq, Dev.rd_tally_same]
      rfl

/-- One without samples enough is counted in NO_QUIET. -/
theorem Dev.rd_outcomeCounted_noQuiet (d : Dev) :
    (d.outcomeCounted 7).rd (F.SUP_COUNT_COUNT.at [3]) = satAdd 32 (d.rd (F.SUP_COUNT_COUNT.at [3])) 1 := by
  have hall : (d.supCount 0).rd (F.SUP_COUNT_COUNT.at [3]) = d.rd (F.SUP_COUNT_COUNT.at [3]) := by
    rw [Dev.supCount_eq, Dev.rd_tally, if_neg (by decide)]
  show ((d.supCount 0).supCount 3).rd _ = _
  rw [Dev.supCount_eq, Dev.rd_tally_same, hall]
  rfl

theorem Dev.outcome_le (d : Dev) (z : Nat) (r : Measure) : d.outcome z r ≤ 6 := by
  unfold Dev.outcome
  extract_lets ref learned tol moved
  split_ifs <;> decide

/-! ### A band of a sweep (R293) -/

theorem Dev.drawIn_time (d : Dev) (site : Config.Site) (lo hi : Int) : (d.drawIn site lo hi).2.time = d.time := rfl

/-- A band but the last is followed by the next, from nothing. -/
theorem Dev.bandEnd_next (d : Dev) (i : Nat) (x : Corr) {band : Nat} (h : band < 8) : (d.bandEnd i x band).sup.corrs.find? i =
    some { x with band := some (band + 1), began := d.time.cycles, xs := [], block := [], adm := [] } := by
  unfold Dev.bandEnd
  extract_lets g n s l drawn ok z st posted src judged src'
  have hposted : posted.time = drawn.time := congrArg RunView.time (Dev.q5_frame _ _ _ _ _ _ _ _ _ _ _ _).run
  have hjudged : judged.time = posted.time := by
    dsimp only [judged]
    split <;> rfl
  have hdrawn : drawn.time = d.time := by simp only [drawn, l, s, n, g, Dev.drawIn_time]
  have htime : judged.time = d.time := (hjudged.trans hposted).trans hdrawn
  rw [if_neg (by omega), ← htime]
  exact Tbl.find?_put_same _ _ _

/-! ### The commands of the path pilot (R275 to R279, R293) -/

/-- What an integration has measured. -/
def Dev.measured (d : Dev) (x : Corr) : Measure :=
  x.measure (d.pilotSign x.path) (pilotAmplitude (d.rdS (F.SUP_PATH_LEVEL_PILOT_LEVEL.un x.path)))

section Pilot

variable {s : State} {i : Fin 128} {x : Corr} (hb : s.dev.booted = true) (hx : s.dev.sup.corrs.find? i = some x)
include hb hx

theorem execPilotIntegrationEnd_whole (hfull : x.want ≤ x.adm.length) (hband : x.band = none) : execPilotIntegrationEnd i s =
    s.act fun d => d.corrOutcome i x (d.outcome x.path (d.measured x)) (d.measured x) :=
  State.act_congr (by simp [hx, hband, hb, hfull, Dev.measured])

theorem execPilotIntegrationEnd_band {b : Nat} (hband : x.band = some b) (hp : s.dev.past x.began (1000 * s.dev.sweepS) = true) :
    execPilotIntegrationEnd i s = s.act fun d => d.bandEnd i x b :=
  State.act_congr (by simp [hx, hband, hb, hp])

theorem execPilotNoQuietTimeout_short (hshort : x.adm.length < x.want) (hband : x.band = none)
    (hp : s.dev.past x.began (10000 * s.dev.zf F.SUP_PATH_INT_INT_S x.path) = true) : execPilotNoQuietTimeout i s =
      s.act fun d => d.corrOutcome i x 7 ⟨x.adm.length, 0, 0, 0, 0, 0, 0, false, false⟩ :=
  State.act_congr (by simp [hx, hband, hb, hp, hshort])

end Pilot

theorem execPilotLearn_booted {s : State} (hb : s.dev.booted = true) (z : Fin 1536) : execPilotLearn z s = s.act fun d => d.pilotLearn z :=
  State.act_congr (if_pos hb)

/-- Settles O30: an outcome's place in the registers survives what the outcome leads to, and a loss what follows it. -/
theorem pilotOutcomesAndLostUnits : Obligations.PilotOutcomesAndLostUnits := by
  unfold Obligations.PilotOutcomesAndLostUnits
  refine ⟨?_, ?_, ?_, ?_, ?_⟩
  · intro s i x hb hx hfull hband
    have hlt : s.dev.outcome x.path (s.dev.measured x) < 16 := (s.dev.outcome_le _ _).trans_lt (by decide)
    have hshown := s.dev.zf_corrOutcome i x hlt (s.dev.measured x)
    have hcount := (s.dev.rd_corrOutcome_count i x (s.dev.outcome x.path (s.dev.measured x)) (s.dev.measured x) (.inl rfl)).trans
      (s.dev.rd_outcomeCounted_all _)
    exact ⟨_, (execPilotIntegrationEnd_whole hb hx hfull hband).trans (s.act_after _), (State.after_rd s _ _).trans hshown,
      (State.after_rd s _ _).trans hcount⟩
  · intro s i x b hb hx hband hlast hp
    exact ⟨_, _, (execPilotIntegrationEnd_band hb hx hband hp).trans (s.act_after _), s.dev.bandEnd_next i x hlast, rfl, rfl, rfl⟩
  · intro s i x hb hx hshort hband hp
    have hcount := (s.dev.rd_corrOutcome_count i x 7 ⟨x.adm.length, 0, 0, 0, 0, 0, 0, false, false⟩ (.inr rfl)).trans
      s.dev.rd_outcomeCounted_noQuiet
    exact ⟨_, (execPilotNoQuietTimeout_short hb hx hshort hband hp).trans (s.act_after _),
      (State.after_rd s _ _).trans (s.dev.zf_corrOutcome i x (by decide) _), (State.after_rd s _ _).trans hcount⟩
  · intro s z hb
    exact ⟨_, (execPilotLearn_booted hb z).trans (s.act_after _), Dev.rd_wr_same _ _ _, onlyRegisters_wr rfl _ _,
      (Dev.ReadsBut.refl.wr List.mem_cons_self 1).registersBut⟩
  · intro s u hb hlost
    exact ⟨_, (execUnitLostToFault_inService hb u).trans (s.act_after _), Dev.loseUnit_spec hlost⟩

end Sys2Proof.Machine

/-! PROOFS. The chapter on the redundant pair: digests, heartbeats and the signs of a lost active. -/

namespace Sys2Proof.Machine

open Sys2Proof.Claims

/-! ### A field read after a change of another -/

theorem Dev.rd_irq_other (d : Dev) {f g : Fld} (hq : g.inQue = false) (h : g.key ≠ f.key) (unit : Nat) (more : List Byte) :
    (d.irq f unit more).rd g = d.rd g := by
  rw [Dev.rd_irq _ _ _ _ _ hq, if_neg h]

theorem Dev.rd_irq_same (d : Dev) {f : Fld} (hq : f.inQue = false) (hw : f.w = 1) (unit : Nat) (more : List Byte) :
    (d.irq f unit more).rd f = 1 := by
  rw [Dev.rd_irq _ _ _ _ _ hq, if_pos rfl, hw]
  rfl

theorem Dev.rd_sticky_other (d : Dev) {f g : Fld} (hq : g.inQue = false) (h : g.key ≠ f.key) (unit : Nat) (more : List Byte) :
    (d.sticky f unit more).rd g = d.rd g := by
  rw [Dev.rd_sticky _ _ _ _ _ hq, if_neg h]

theorem Dev.rd_sticky_same (d : Dev) {f : Fld} (hq : f.inQue = false) (hw : f.w = 1) (unit : Nat) (more : List Byte) :
    (d.sticky f unit more).rd f = 1 := by
  rw [Dev.rd_sticky _ _ _ _ _ hq, if_pos rfl, hw]
  rfl

theorem Dev.rd_tally_other (d : Dev) {f g : Fld} (h : g.key ≠ f.key) (n : Nat) : (d.tally f n).rd g = d.rd g := by
  rw [Dev.rd_tally, if_neg h]

theorem Dev.rd_loseSlot_other (d : Dev) {n : Nat} {g : Fld} (hq : g.inQue = false) (h : g.key ∉ (lossFlds n).map Fld.key) :
    (d.loseSlot n).rd g = d.rd g :=
  d.loseSlot_reads n g hq h

@[simp] theorem Dev.rd_setPair (d : Dev) (x : PairSt) (g : Fld) : (d.setPair x).rd g = d.rd g := rfl

@[simp] theorem Dev.rd_setOdp (d : Dev) (x : OdpSt) (g : Fld) : (d.setOdp x).rd g = d.rd g := rfl

@[simp] theorem Dev.tally_mode (d : Dev) (f : Fld) (n : Nat) : (d.tally f n).mode = d.mode := rfl

@[simp] theorem Dev.tally_pair (d : Dev) (f : Fld) (n : Nat) : (d.tally f n).pair = d.pair := rfl

@[simp] theorem Dev.loseSlot_mode (d : Dev) (n : Nat) : (d.loseSlot n).mode = d.mode := congrArg RunView.mode (d.loseSlot_runView n)

@[simp] theorem Dev.islandHeard_mode (d : Dev) : d.islandHeard.mode = d.mode := by
  obtain ⟨i, hi⟩ := d.islandHeard_shape
  rw [hi]

@[simp] theorem Dev.islandHeard_regs (d : Dev) : d.islandHeard.regs = d.regs := by
  obtain ⟨i, hi⟩ := d.islandHeard_shape
  rw [hi]

/-- A cause that arises while no transition is decided is decided (R40). -/
theorem Dev.arises_of_undecided {d : Dev} (h : d.mode.decided = none) (target : Mode) (cause master : Nat) :
    (d.arises target cause master).mode.decided = some ⟨target, cause, master⟩ :=
  Dev.arises_decided (Dev.yields_of_undecided h _) target cause master

@[simp] theorem State.after_mode (s : State) (e : Dev) : (s.after e).dev.mode = e.mode := rfl

@[simp] theorem State.after_pair (s : State) (e : Dev) : (s.after e).dev.pair = e.pair := rfl

/-- A command on the device decides what the device it makes has decided. -/
theorem decides_after {s : State} {e : Dev} {target : Mode} {cause master : Nat} :
    decides (s.after e) target cause master ↔ e.mode.decided = some ⟨target, cause, master⟩ := Iff.rfl

/-! ### Digests (R309, R310) -/

/-- A millisecond for which the partner's record has not come is not compared. -/
theorem Dev.compareDigests_awaited {d : Dev} {m : Nat} (h : d.pair.theirs.find? m = none) : d.compareDigests m = d := by
  unfold Dev.compareDigests
  rw [h]
  split
  · next h' => cases h'
  · rfl

/-- A millisecond for which this unit has no record is not compared. -/
theorem Dev.compareDigests_unkept {d : Dev} {m : Nat} (h : d.pair.own.find? m = none) : d.compareDigests m = d := by
  unfold Dev.compareDigests
  rw [h]

/-- The device with the record of the millisecond just ended kept, and with what no later record covers forgotten. -/
def Dev.digestKept (d : Dev) : Dev :=
  let m := msOf d.time.tai - 1
  let lo := ceilDiv ((m + 1) * d.fs) 1000
  let dig : DigestSt := { audio := d.dig.audio.filter (fun a => decide (lo ≤ a.2.1)),
                          packets := d.dig.packets.filter (fun q => decide (m < q.1)) }
  let series := d.tim.series.filter (fun q => decide (m < msOf q.1))
  { d with dig := dig, tim := { d.tim with series := series }
           pair := { d.pair with own := d.pair.own.put m (d.digest m)
                                 imperfect := d.pair.imperfect.filter (fun i => decide (m ≤ i + 10000))
                                 accused := d.pair.accused.filter (fun i => decide (m ≤ i + 1000)) } }

theorem execDigestCompute_sends {s : State} (hb : s.dev.booted = true) (hp : s.dev.paired = true) (ha : s.dev.audioRuns = true)
    (hi : s.dev.irmonUp = true) (htheirs : s.dev.pair.theirs.find? (msOf s.dev.time.tai - 1) = none) :
    execDigestCompute s = s.act fun d => d.digestKept.emit (.irmon 2 (d.digest (msOf d.time.tai - 1))) := by
  have hsent : (if s.dev.digestKept.irmonUp then s.dev.digestKept.emit (.irmon 2 (s.dev.digest (msOf s.dev.time.tai - 1)))
      else s.dev.digestKept) = s.dev.digestKept.emit (.irmon 2 (s.dev.digest (msOf s.dev.time.tai - 1))) := if_pos hi
  have hdone := Dev.compareDigests_awaited
    (d := s.dev.digestKept.emit (.irmon 2 (s.dev.digest (msOf s.dev.time.tai - 1)))) htheirs
  exact State.act_congr ((if_neg (by simp [hb, hp, ha])).trans
    ((congrArg (fun e : Dev => e.compareDigests (msOf s.dev.time.tai - 1)) hsent).trans hdone))

/-- What the flags of the partner's record add: a millisecond that it was IMPERFECT in, or accused itself in. -/
def PairSt.flagged (x : PairSt) (m flags : Nat) : PairSt :=
  let x := if bitAt flags 0 && !x.imperfect.contains m then { x with imperfect := x.imperfect ++ [m] } else x
  if bitAt flags 1 && !x.accused.contains m then { x with accused := x.accused ++ [m] } else x

theorem PairSt.flagged_own (x : PairSt) (m flags : Nat) : (x.flagged m flags).own = x.own := by
  unfold PairSt.flagged
  dsimp only
  split <;> split <;> rfl

theorem PairSt.mem_flagged_imperfect (x : PairSt) (m : Nat) {flags : Nat} (h : bitAt flags 0 = true) :
    m ∈ (x.flagged m flags).imperfect := by
  have hlisted : m ∈ (if bitAt flags 0 && !x.imperfect.contains m then { x with imperfect := x.imperfect ++ [m] } else x).imperfect := by
    split
    · exact List.mem_append_right _ (List.mem_singleton_self m)
    · next hc => simpa [h] using hc
  unfold PairSt.flagged
  extract_lets y
  split
  · exact hlisted
  · exact hlisted

/-- The device with the partner's record of a millisecond kept. -/
def Dev.recordTaken (d : Dev) (record : List Byte) : Dev :=
  let m := beAt record 0 8
  d.irmonHeard.setPair { d.pair.flagged m (beAt record 24 1) with theirs := (d.pair.flagged m (beAt record 24 1)).theirs.put m record }

theorem execDigestRx_intact {s : State} {record : List Byte} (hb : s.dev.booted = true) (hp : s.dev.paired = true)
    (hi : s.dev.irmonUp = true) (hlen : record.length = 32) (hcrc : beAt record 28 4 = crc32c (record.take 28))
    (hown : s.dev.pair.own.find? (beAt record 0 8) = none) :
    execDigestRx record s = s.act fun d => d.recordTaken record := by
  have hkept : (s.dev.recordTaken record).pair.own = s.dev.pair.own := PairSt.flagged_own _ _ _
  refine State.act_congr ?_
  dsimp only
  rw [if_neg (by simp [hb, hp, hi]), if_neg (by simp [hlen, hcrc])]
  exact Dev.compareDigests_unkept (d := s.dev.recordTaken record) (by rw [hkept, hown])

/-- The device with a mismatch of millisecond m noted, one more of its run. -/
def Dev.mismatched (d : Dev) (m mask : Nat) : Dev :=
  let d := (d.tally (F.PAIR_COUNT_COUNT.at [2])).wr F.PAIR_STATUS_EXCUSED 0
  let d := ((d.wr F.PAIR_MM_MS_MS m).wr F.PAIR_MM_MASK_MASK mask).count F.PAIR_STATUS_MISMATCH_RUN
  let d := (d.sticky F.PAIR_STICKY_MISMATCH_SEEN noUnit).irq F.PAIR_IRQ_STATUS_MISMATCH
  d.setPair { d.pair with good := 0, runStart := some (d.pair.runStart.getD m) }

/-- What a mismatch shows: its words, the run so far, its count and its sticky. -/
theorem Dev.rd_mismatched (d : Dev) (m mask : Nat) :
    (d.mismatched m mask).rd F.PAIR_STICKY_MISMATCH_SEEN = 1 ∧ (d.mismatched m mask).rd F.PAIR_MM_MASK_MASK = mask % 16 ∧
      (d.mismatched m mask).rd F.PAIR_STATUS_MISMATCH_RUN = satAdd F.PAIR_STATUS_MISMATCH_RUN.w (d.rd F.PAIR_STATUS_MISMATCH_RUN) 1 ∧
      (d.mismatched m mask).rd (F.PAIR_COUNT_COUNT.at [2]) = satAdd 32 (d.rd (F.PAIR_COUNT_COUNT.at [2])) 1 := by
  unfold Dev.mismatched
  refine ⟨?_, ?_, ?_, ?_⟩
  · simp (disch := decide) only [Dev.rd_setPair, Dev.rd_irq_other, Dev.rd_sticky_same]
  · simp (disch := decide) only [Dev.rd_setPair, Dev.rd_irq_other, Dev.rd_sticky_other, Dev.count, Dev.rd_wr_other, Dev.rd_wr_same]
    rfl
  · simp (disch := decide) only [Dev.rd_setPair, Dev.rd_irq_other, Dev.rd_sticky_other, Dev.rd_count_same, Dev.rd_wr_other,
      Dev.rd_tally_other]
  · simp (disch := decide) only [Dev.rd_setPair, Dev.rd_irq_other, Dev.rd_sticky_other, Dev.count, Dev.rd_wr_other, Dev.rd_tally_same]
    rfl

/-- The first mismatch of a run, outside RESYNC and not excused, is noted and decides nothing yet. -/
theorem Dev.judgeDigest_first {d : Dev} {m mask : Nat} (hp : d.paired = true) (hm : d.mode.mode ≠ .resync) (hmask : mask ≠ 0)
    (he : d.excused m = false) (hrun : d.rd F.PAIR_STATUS_MISMATCH_RUN = 0) : d.judgeDigest m mask = d.mismatched m mask := by
  have hone : ¬ 3 ≤ (d.mismatched m mask).rd F.PAIR_STATUS_MISMATCH_RUN := by
    rw [(d.rd_mismatched m mask).2.2.1, hrun]
    decide
  unfold Dev.judgeDigest
  dsimp only
  rw [if_neg (by simp [hp, hm]), if_neg hmask, if_neg (by simp [he])]
  exact if_neg hone

/-- A table whose keys all lie above a key has no row at it. -/
theorem Tbl.find?_filter_above {α : Type} (t : Tbl α) (m : Nat) : Tbl.find? (t.filter (fun r => decide (m < r.1))) m = none := by
  induction t with
  | nil => rfl
  | cons r t ih =>
    by_cases h : m < r.1
    · rw [List.filter_cons_of_pos (by simpa using h), Tbl.find?, if_neg h.ne, if_pos h]
    · rw [List.filter_cons_of_neg (by simpa using h), ih]

/-- The device without the records of milliseconds up to m. -/
def Dev.digestsPast (d : Dev) (m : Nat) : Dev := d.setPair { d.pair with own := d.pair.own.filter (fun r => decide (m < r.1)) }

theorem Dev.digestsPast_own (d : Dev) (m : Nat) : (d.digestsPast m).pair.own.find? m = none := Tbl.find?_filter_above d.pair.own m

@[simp] theorem Dev.rd_digestsPast (d : Dev) (m : Nat) (g : Fld) : (d.digestsPast m).rd g = d.rd g := rfl

theorem execDigestMissing_first {s : State} {ms : BitVec 64} {r : List Byte} (hb : s.dev.booted = true) (hp : s.dev.paired = true)
    (hm : s.dev.mode.mode ≠ .resync) (hown : s.dev.pair.own.find? ms.toNat = some r)
    (htheirs : s.dev.pair.theirs.find? ms.toNat = none) (hdue : ms.toNat + 2 ≤ msOf s.dev.time.tai)
    (he : s.dev.excused ms.toNat = false) (hrun : s.dev.rd F.PAIR_STATUS_MISMATCH_RUN = 0) :
    execDigestMissing ms s = s.act fun d => (d.mismatched ms.toNat 15).digestsPast ms.toNat := by
  refine State.act_congr ?_
  dsimp only
  rw [if_neg (by simp [hb, hp, hown, htheirs, hdue]), Dev.judgeDigest_first hp hm (by decide) he hrun]
  rfl

/-! ### Heartbeats (R314) -/

/-- One heartbeat leaves on a port, and the next takes the next number. -/
def Dev.beat (d : Dev) (body : List Byte) (p : Nat) : Dev :=
  (d.send p clsOdp (.datagram (portOf p) [] (sealedDatagram 0x10 d.pairKey d.bootCount d.pair.hbSeq body))).setPair
    { d.pair with hbSeq := d.pair.hbSeq + 1 }

/-- What a heartbeat carries. -/
def Dev.beatBody (d : Dev) : List Byte :=
  [byteOf (d.rd F.GCTL_BOOT_STATUS_PAIR_SIDE), byteOf (modeCode d.mode.mode)] ++ toBE 6 (grid48 d.time.tai) ++
    toBE 8 d.odp.journal.head ++ toBE 4 d.boot.version ++ toBE 4 0

/-- The ports that carry heartbeats: those in service with LINK. -/
def Dev.beatPorts (d : Dev) : List Nat := (List.range 4).filter (fun p => d.inServicePort p && d.linkUp p)

theorem execHeartbeatTx_paired {s : State} (hb : s.dev.booted = true) (hp : s.dev.paired = true) :
    execHeartbeatTx s = s.act fun d => d.beatPorts.foldl (fun e p => e.beat d.beatBody p) d := by
  refine State.act_congr ?_
  dsimp only
  rw [if_neg (by simp [hb, hp])]
  rfl

/-- The counters that heartbeats move. -/
def beatFlds : List Fld := (List.range 4).map fun p => F.NET_COUNT_COUNT.at [p, 14]

theorem beatFlds_apart : ∀ g ∈ [F.NET_BYPASS_STATUS_A_SETTLING, F.NET_BYPASS_STATUS_B_SETTLING],
    g.inQue = false ∧ g.key ∉ beatFlds.map Fld.key := by decide

/-- After `n` heartbeats, each of which left at once: the transmitters are as free as they were. -/
structure Dev.Beaten (d e : Dev) (n : Nat) : Prop where
  seq : e.pair.hbSeq = d.pair.hbSeq + n
  sent : e.out.length = d.out.length + n
  reads : ReadsBut beatFlds d e
  net : e.net = d.net
  time : e.time = d.time

namespace Dev.Beaten

variable {d e : Dev} {n : Nat}

theorem refl : Beaten d d 0 := ⟨rfl, rfl, .refl, rfl, rfl⟩

theorem txFree (h : Beaten d e n) (p cls : Nat) : e.txFree p cls = d.txFree p cls := by
  have hon (g : Fld) (hg : g ∈ [F.NET_BYPASS_STATUS_A_SETTLING, F.NET_BYPASS_STATUS_B_SETTLING]) : e.on g = d.on g := by
    rw [Dev.on_eq, Dev.on_eq, h.reads g (beatFlds_apart g hg).1 (beatFlds_apart g hg).2]
  have ha := hon _ (.head _)
  have hb := hon _ (.tail _ (.head _))
  simp only [Dev.txFree, Dev.paused, Dev.portSettles, Dev.settling, Dev.port, h.net, h.time, ha, hb]

theorem beat (h : Beaten d e n) {p : Nat} (hp : p < 4) (hfree : d.txFree p 4 = true) (body : List Byte) :
    Beaten d (e.beat body p) (n + 1) := by
  let q : Fin 4 := ⟨p, hp⟩
  have hf : e.txFree p clsOdp = true := (h.txFree p 4).trans hfree
  obtain ⟨hout, hnet⟩ := (e.send_leaves p clsOdp
    (.datagram (portOf p) [] (sealedDatagram 0x10 e.pairKey e.bootCount e.pair.hbSeq body))).1 hf
  have hport : [F.NET_COUNT_COUNT.at [q.val, 14]] ⊆ beatFlds := by
    rw [List.cons_subset]
    exact ⟨List.mem_map.2 ⟨p, List.mem_range.2 hp, rfl⟩, List.nil_subset _⟩
  refine ⟨?_, ?_, ?_, hnet.trans h.net, (e.send_time p _ _).trans h.time⟩
  · exact (congrArg (· + 1) h.seq).trans (Nat.add_assoc _ _ _)
  · refine (congrArg List.length hout).trans ?_
    rw [List.length_append, h.sent]
    rfl
  · exact h.reads.trans (((ReadsBut.refl (d := e)).send (p := q) clsOdp _).mono hport)

theorem foldl (h : Beaten d e n) (hfree : ∀ p : Fin 4, d.txFree p 4 = true) (body : List Byte) {l : List Nat} (hl : ∀ p ∈ l, p < 4) :
    Beaten d (l.foldl (fun e p => e.beat body p) e) (n + l.length) := by
  induction l generalizing e n with
  | nil => exact h
  | cons p l ih =>
    have hp : p < 4 := hl p List.mem_cons_self
    have hrest := ih (h.beat hp (hfree ⟨p, hp⟩) body) fun q hq => hl q (List.mem_cons_of_mem p hq)
    rwa [Nat.add_assoc, Nat.add_comm 1] at hrest

end Dev.Beaten

theorem Dev.beatPorts_lt (d : Dev) : ∀ p ∈ d.beatPorts, p < 4 := fun _ hp => List.mem_range.1 (List.mem_of_mem_filter hp)

/-- The journal goes out in frames, and nothing else changes. -/
theorem Dev.sendJournal_shape (d : Dev) (head : Nat) : ∃ u, d.sendJournal head = { d with out := u } := by
  have hfold : ∀ (l : List Entry) (e : Dev), ∃ u,
      l.foldl (fun d e => d.emit (.irmon 4 (e.command (d.indexAt d.time.tai + 1)).bytes)) e = { e with out := u } := by
    intro l
    induction l with
    | nil => exact fun e => ⟨_, rfl⟩
    | cons x l ih => exact fun e => ih _
  unfold Dev.sendJournal
  dsimp only
  split
  · exact ⟨_, rfl⟩
  · exact hfold _ d

/-- The device with the number of a sender's heartbeat noted, the heartbeat counted and shown as heard. -/
def Dev.beatNoted (d : Dev) (source : List Byte) (g : Dgram) : Dev :=
  let d := d.setOdp { d.odp with peerSeq := d.odp.peerSeq.put (2 ^ 128 + ofBE (slice source 0 16)) g.seq }
  let d := (d.tally (F.PAIR_COUNT_COUNT.at [8])).islandHeard
  ((d.wr F.PAIR_STATUS_HB_HEARD 1).wr F.PAIR_STATUS_SIGN_HB 0).wr F.PAIR_PARTNER_VER_VER (beAt g.body 16 4)

/-- The active answers a partner that enters RESYNC with its journal (R317). -/
def Dev.journalAsked (d : Dev) (g : Dgram) : Dev :=
  if d.roleMode = .active && d.irmonUp && beAt g.body 1 1 = modeCode .resync && d.rd F.PAIR_PARTNER_MODE ≠ modeCode .resync then
    d.sendJournal (beAt g.body 8 8) else d

/-- The partner's mode and journal head are those of its heartbeat. -/
def Dev.partnerShown (d : Dev) (g : Dgram) : Dev :=
  (d.wr F.PAIR_PARTNER_MODE (beAt g.body 1 1)).setPair { d.pair with head := beAt g.body 8 8 }

theorem Dev.journalAsked_shape (d : Dev) (g : Dgram) : ∃ u, d.journalAsked g = { d with out := u } := by
  unfold Dev.journalAsked
  split
  · exact d.sendJournal_shape _
  · exact ⟨_, rfl⟩

@[simp] theorem Dev.journalAsked_mode (d : Dev) (g : Dgram) : (d.journalAsked g).mode = d.mode := by
  obtain ⟨u, hu⟩ := d.journalAsked_shape g
  rw [hu]

@[simp] theorem Dev.rd_journalAsked (d : Dev) (g : Dgram) (f : Fld) : (d.journalAsked g).rd f = d.rd f := by
  obtain ⟨u, hu⟩ := d.journalAsked_shape g
  rw [hu]
  rfl

theorem execHeartbeatRx_authentic {s : State} {p : Fin 4} {source datagram : List Byte} {g : Dgram}
    (hg : Dgram.parse datagram = some g) (hp : s.dev.paired = true) (hs : s.dev.inServicePort p = true) (hk : g.kind = 0x10)
    (hmac : hmac16 s.dev.pairKey g.signed = g.tag) (hlen : g.body.length = 24)
    (hnew : s.dev.odp.peerSeq.find? (2 ^ 128 + ofBE (slice source 0 16)) = none) (hm : s.dev.mode.mode ≠ .active) :
    execHeartbeatRx p source datagram s = s.act fun d => ((d.beatNoted source g).journalAsked g).partnerShown g := by
  have hmode : (((s.dev.beatNoted source g).journalAsked g).partnerShown g).mode = s.dev.mode := by
    simp [Dev.partnerShown, Dev.beatNoted]
  refine State.act_congr ?_
  dsimp only
  rw [hg]
  dsimp only
  rw [if_neg (by simp [hp, hs, hk]), hnew, if_neg (by simp [hmac, hlen])]
  exact if_neg (by
    show ¬ (decide ((((s.dev.beatNoted source g).journalAsked g).partnerShown g).mode.mode = .active) && _) = true
    simp [hmode, hm])

/-- What an authentic heartbeat shows. -/
theorem Dev.rd_partnerShown (d : Dev) (source : List Byte) (g : Dgram) :
    let e := ((d.beatNoted source g).journalAsked g).partnerShown g
    e.rd F.PAIR_STATUS_HB_HEARD = 1 ∧ e.rd F.PAIR_STATUS_SIGN_HB = 0 ∧ e.rd F.PAIR_PARTNER_MODE = beAt g.body 1 1 % 16 ∧
      e.rd (F.PAIR_COUNT_COUNT.at [8]) = satAdd 32 (d.rd (F.PAIR_COUNT_COUNT.at [8])) 1 := by
  have hheard (e : Dev) (f : Fld) : e.islandHeard.rd f = e.rd f := Dev.rd_of_regs e.islandHeard_regs f
  unfold Dev.partnerShown
  refine ⟨?_, ?_, ?_, ?_⟩
  · simp (disch := decide) only [Dev.rd_setPair, Dev.rd_wr_other, Dev.rd_journalAsked, Dev.beatNoted, Dev.rd_wr_same]
    rfl
  · simp (disch := decide) only [Dev.rd_setPair, Dev.rd_wr_other, Dev.rd_journalAsked, Dev.beatNoted, Dev.rd_wr_same]
    rfl
  · rw [Dev.rd_setPair, Dev.rd_wr_same]
    rfl
  · simp (disch := decide) only [Dev.rd_setPair, Dev.rd_wr_other, Dev.rd_journalAsked, Dev.beatNoted, hheard, Dev.rd_tally_same, Dev.rd_setOdp]
    rfl

/-! ### Signs (R314, R315) -/

/-- The CLAIM sign stands. -/
def Dev.claimSigned (d : Dev) : Dev := ((d.claimReads false).wr F.PAIR_STATUS_SIGN_CLAIM 1).irq F.PAIR_IRQ_STATUS_SIGN

theorem execClaimSign_watching {s : State} (hb : s.dev.booted = true) (hw : s.dev.watches = true) :
    execClaimSign s = s.act Dev.claimSigned := by
  refine State.act_congr ?_
  dsimp only
  rw [if_neg (by simp [hb, hw])]
  rfl

theorem Dev.rd_claimSigned (d : Dev) :
    d.claimSigned.rd F.PAIR_STATUS_SIGN_CLAIM = 1 ∧ d.claimSigned.rd F.PAIR_IRQ_STATUS_SIGN = 1 := by
  unfold Dev.claimSigned
  constructor
  · simp (disch := decide) only [Dev.rd_irq_other, Dev.rd_wr_same]
    rfl
  · simp (disch := decide) only [Dev.rd_irq_same]

theorem Dev.claimSigned_mode (d : Dev) : d.claimSigned.mode = d.mode := by simp [Dev.claimSigned, Dev.claimReads]

/-- The Irmon lane is silent: slot 14 is lost with it. -/
def Dev.irmonLost (d : Dev) : Dev :=
  let d := (d.wr F.PAIR_STATUS_IRMON_UP 0).sticky F.PAIR_STICKY_IRMON_LOSS_SEEN noUnit
  (d.setSlot 14 { d.slot 14 with advRank := 255 }).loseSlot 14

/-- The IRMON sign stands. -/
def Dev.irmonSigned (d : Dev) : Dev := (d.irmonLost.wr F.PAIR_STATUS_SIGN_IRMON 1).irq F.PAIR_IRQ_STATUS_SIGN

/-- What follows from the IRMON sign where it is the only one (R315). -/
def Dev.irmonAlone (d : Dev) : Dev :=
  if d.signs ≠ 1 then d
  else if d.mode.mode = .marionette then d.arises .estranged 0x0D
  else if d.mode.mode = .resync then d.setPair { d.pair with halted := true }
  else d

theorem Dev.irmonLost_mode (d : Dev) : d.irmonLost.mode = d.mode := by simp [Dev.irmonLost]

theorem Dev.irmonSigned_mode (d : Dev) : d.irmonSigned.mode = d.mode := by simp [Dev.irmonSigned, Dev.irmonLost_mode]

theorem Dev.rd_irmonLost (d : Dev) {g : Fld} (hq : g.inQue = false)
    (hg : g.key ∉ (F.PAIR_STATUS_IRMON_UP :: F.PAIR_STICKY_IRMON_LOSS_SEEN :: lossFlds 14).map Fld.key) :
    d.irmonLost.rd g = d.rd g := by
  simp only [List.map_cons, List.mem_cons, not_or] at hg
  obtain ⟨hup, hseen, hslot⟩ := hg
  unfold Dev.irmonLost
  dsimp only
  rw [Dev.rd_loseSlot_other _ hq hslot, Dev.rd_setSlot, Dev.rd_sticky_other _ hq hseen, Dev.rd_wr_other _ _ hup]

theorem Dev.rd_irmonLost_shown (d : Dev) :
    d.irmonLost.rd F.PAIR_STATUS_IRMON_UP = 0 ∧ d.irmonLost.rd F.PAIR_STICKY_IRMON_LOSS_SEEN = 1 := by
  unfold Dev.irmonLost
  constructor
  · simp (disch := decide) only [Dev.rd_loseSlot_other, Dev.rd_setSlot, Dev.rd_sticky_other, Dev.rd_wr_same]
    rfl
  · simp (disch := decide) only [Dev.rd_loseSlot_other, Dev.rd_setSlot, Dev.rd_sticky_same]

theorem Dev.irmonAlone_regs (d : Dev) : d.irmonAlone.regs = d.regs := by
  unfold Dev.irmonAlone
  split
  · rfl
  · split
    · exact Dev.arises_regs _ _ _ _ _
    · split <;> rfl

/-- Whether the unit watches rests on its mode and PAIR_CFG EN. -/
theorem Dev.watches_irmonLost (d : Dev) : d.irmonLost.watches = d.watches := by
  have hen : d.irmonLost.paired = d.paired := by
    rw [Dev.paired, Dev.paired, Dev.on_eq, Dev.on_eq, Dev.rd_irmonLost d (by decide) (by decide)]
  rw [Dev.watches, Dev.watches, hen]
  simp only [Dev.standby, Dev.roleMode, Dev.irmonLost_mode]

theorem execIrmonSign_paired {s : State} (hb : s.dev.booted = true) (hp : s.dev.paired = true) :
    execIrmonSign s = s.act fun d => if d.watches then d.irmonSigned.irmonAlone else d.irmonLost := by
  have hwatches := s.dev.watches_irmonLost
  refine State.act_congr ((if_neg (by simp [hb, hp])).trans ?_)
  unfold Dev.irmonSigned Dev.irmonAlone
  unfold Dev.irmonLost at hwatches ⊢
  dsimp only at hwatches ⊢
  rw [hwatches]
  cases s.dev.watches with
  | true => rfl
  | false => rfl

theorem execIrmonSign_watching {s : State} (hb : s.dev.booted = true) (hp : s.dev.paired = true) (hw : s.dev.watches = true) :
    execIrmonSign s = s.act fun d => d.irmonSigned.irmonAlone :=
  (execIrmonSign_paired hb hp).trans (State.act_congr (if_pos hw))

theorem execIrmonSign_unwatching {s : State} (hb : s.dev.booted = true) (hp : s.dev.paired = true) (hw : s.dev.watches = false) :
    execIrmonSign s = s.act Dev.irmonLost :=
  (execIrmonSign_paired hb hp).trans (State.act_congr (if_neg (by simp [hw])))

theorem Dev.rd_irmonSigned (d : Dev) {g : Fld} (hq : g.inQue = false) (hs : g.key ≠ F.PAIR_STATUS_SIGN_IRMON.key)
    (hi : g.key ≠ F.PAIR_IRQ_STATUS_SIGN.key) : d.irmonSigned.rd g = d.irmonLost.rd g := by
  rw [Dev.irmonSigned, Dev.rd_irq_other _ hq hi, Dev.rd_wr_other _ _ hs]

theorem Dev.rd_irmonSigned_sign (d : Dev) : d.irmonSigned.rd F.PAIR_STATUS_SIGN_IRMON = 1 := by
  rw [Dev.irmonSigned, Dev.rd_irq_other _ (by decide) (by decide), Dev.rd_wr_same]
  rfl

/-- Where neither of the other signs stands, IRMON is the only one. -/
theorem Dev.signs_irmonSigned {d : Dev} (hc : d.rd F.PAIR_STATUS_SIGN_CLAIM = 0) (hh : d.rd F.PAIR_STATUS_SIGN_HB = 0) :
    d.irmonSigned.signs = 1 := by
  rw [Dev.signs, Dev.rd_irmonSigned_sign, Dev.rd_irmonSigned d (by decide) (by decide) (by decide),
    Dev.rd_irmonSigned d (by decide) (by decide) (by decide), Dev.rd_irmonLost d (by decide) (by decide),
    Dev.rd_irmonLost d (by decide) (by decide), hc, hh]

/-- Alone, the sign takes a unit from MARIONETTE to ESTRANGED. -/
theorem Dev.irmonAlone_decides {d : Dev} (hs : d.signs = 1) (hm : d.mode.mode = .marionette) (hd : d.mode.decided = none) :
    d.irmonAlone.mode.decided = some ⟨.estranged, 0x0D, 0⟩ := by
  unfold Dev.irmonAlone
  rw [if_neg (by simp [hs]), if_pos hm]
  exact Dev.arises_of_undecided hd _ _ _

/-- The partner's heartbeats have stopped. -/
def Dev.beatsLost (d : Dev) : Dev :=
  ((d.wr F.PAIR_STATUS_HB_HEARD 0).sticky F.PAIR_STICKY_HB_LOSS_SEEN noUnit).wr F.PAIR_PARTNER_MODE 0xF

theorem Dev.beatsLost_reads (d : Dev) :
    ReadsBut [F.PAIR_STATUS_HB_HEARD, F.PAIR_STICKY_HB_LOSS_SEEN, F.PAIR_PARTNER_MODE] d d.beatsLost :=
  ((ReadsBut.refl.wr (.head _) 0).sticky (.tail _ (.head _)) noUnit).wr (.tail _ (.tail _ (.head _))) 0xF

/-- The heartbeat sign stands. -/
def Dev.beatSigned (d : Dev) : Dev := (d.beatsLost.wr F.PAIR_STATUS_SIGN_HB 1).irq F.PAIR_IRQ_STATUS_SIGN

theorem beatsLost_apart : ∀ p : Fin 4, ∀ g ∈ [F.NET_STATUS_LINK.at [p], F.PAIR_CFG_EN], g.inQue = false ∧
    g.key ∉ [F.PAIR_STATUS_HB_HEARD, F.PAIR_STICKY_HB_LOSS_SEEN, F.PAIR_PARTNER_MODE].map Fld.key := by decide

/-- Whether the sign counts is judged alike before and after the loss. -/
theorem Dev.beatsLost_judged (d : Dev) : (d.beatsLost.watches && (List.range 4).any d.beatsLost.linkUp) =
    (d.watches && (List.range 4).any d.linkUp) := by
  have hon (p : Fin 4) (g : Fld) (hg : g ∈ [F.NET_STATUS_LINK.at [p], F.PAIR_CFG_EN]) : d.beatsLost.on g = d.on g := by
    rw [Dev.on_eq, Dev.on_eq, d.beatsLost_reads g (beatsLost_apart p g hg).1 (beatsLost_apart p g hg).2]
  have hmode : d.beatsLost.mode = d.mode := by simp [Dev.beatsLost]
  have hlink : (List.range 4).any d.beatsLost.linkUp = (List.range 4).any d.linkUp := by
    rw [Bool.eq_iff_iff, List.any_eq_true, List.any_eq_true]
    refine exists_congr fun p => and_congr_right fun hp => ?_
    rw [Dev.linkUp, Dev.linkUp, hon ⟨p, List.mem_range.1 hp⟩ _ (.head _)]
  rw [hlink, Dev.watches, Dev.watches, Dev.paired, Dev.paired, hon 0 _ (.tail _ (.head _))]
  simp only [Dev.standby, Dev.roleMode, hmode]

theorem execHeartbeatSign_paired {s : State} (hb : s.dev.booted = true) (hp : s.dev.paired = true) :
    execHeartbeatSign s = s.act fun d => if d.watches && (List.range 4).any d.linkUp then d.beatSigned else d.beatsLost := by
  refine State.act_congr ((if_neg (by simp [hb, hp])).trans ?_)
  show (if s.dev.beatsLost.watches && (List.range 4).any s.dev.beatsLost.linkUp then s.dev.beatSigned else s.dev.beatsLost) = _
  rw [Dev.beatsLost_judged]

theorem execHeartbeatSign_counts {s : State} (hb : s.dev.booted = true) (hp : s.dev.paired = true)
    (hs : (s.dev.watches && (List.range 4).any s.dev.linkUp) = true) : execHeartbeatSign s = s.act Dev.beatSigned :=
  (execHeartbeatSign_paired hb hp).trans (State.act_congr (if_pos hs))

theorem execHeartbeatSign_passes {s : State} (hb : s.dev.booted = true) (hp : s.dev.paired = true)
    (hs : (s.dev.watches && (List.range 4).any s.dev.linkUp) = false) : execHeartbeatSign s = s.act Dev.beatsLost :=
  (execHeartbeatSign_paired hb hp).trans (State.act_congr (if_neg (by simp [hs])))

theorem Dev.rd_beatsLost (d : Dev) : d.beatsLost.rd F.PAIR_STATUS_HB_HEARD = 0 ∧ d.beatsLost.rd F.PAIR_PARTNER_MODE = 0xF ∧
    d.beatsLost.rd F.PAIR_STICKY_HB_LOSS_SEEN = 1 := by
  unfold Dev.beatsLost
  refine ⟨?_, ?_, ?_⟩
  · simp (disch := decide) only [Dev.rd_wr_other, Dev.rd_sticky_other, Dev.rd_wr_same]
    rfl
  · rw [Dev.rd_wr_same]
    rfl
  · simp (disch := decide) only [Dev.rd_wr_other, Dev.rd_sticky_same]

theorem Dev.rd_beatSigned (d : Dev) {g : Fld} (hq : g.inQue = false) (hs : g.key ≠ F.PAIR_STATUS_SIGN_HB.key)
    (hi : g.key ≠ F.PAIR_IRQ_STATUS_SIGN.key) : d.beatSigned.rd g = d.beatsLost.rd g := by
  rw [Dev.beatSigned, Dev.rd_irq_other _ hq hi, Dev.rd_wr_other _ _ hs]

theorem Dev.rd_beatSigned_sign (d : Dev) : d.beatSigned.rd F.PAIR_STATUS_SIGN_HB = 1 := by
  rw [Dev.beatSigned, Dev.rd_irq_other _ (by decide) (by decide), Dev.rd_wr_same]
  rfl

/-- Settles O36: each command acts by the device it makes, whose fields are read one write at a time. -/
theorem pairDigestsAndSigns : Obligations.PairDigestsAndSigns := by
  unfold Obligations.PairDigestsAndSigns
  refine ⟨?_, ?_, ?_, ?_, ?_, ?_, ?_, ?_⟩
  · intro s hb hp ha hi htheirs
    exact ⟨_, (execDigestCompute_sends hb hp ha hi htheirs).trans (s.act_after _), Tbl.find?_put_same _ _ _, rfl, rfl⟩
  · intro s record hb hp hi hlen hcrc hown
    exact ⟨_, (execDigestRx_intact hb hp hi hlen hcrc hown).trans (s.act_after _), Tbl.find?_put_same _ _ _,
      PairSt.mem_flagged_imperfect _ _⟩
  · intro s ms r hb hp hm hown htheirs hdue he hrun
    obtain ⟨hseen, hmask, hruns, hcount⟩ := s.dev.rd_mismatched ms.toNat 15
    refine ⟨_, (execDigestMissing_first hb hp hm hown htheirs hdue he hrun).trans (s.act_after _), ?_⟩
    simp only [State.after_rd, State.after_pair, Dev.rd_digestsPast, Dev.digestsPast_own]
    rw [hrun] at hruns
    exact ⟨trivial, hseen, hmask, hruns, hcount⟩
  · intro s hb hp hfree n
    have hbeaten := (Dev.Beaten.refl (d := s.dev)).foldl hfree s.dev.beatBody s.dev.beatPorts_lt
    rw [Nat.zero_add] at hbeaten
    exact ⟨_, (execHeartbeatTx_paired hb hp).trans (s.act_after _), hbeaten.seq, hbeaten.sent, hbeaten.reads.registersBut⟩
  · intro s p source datagram g hg hp hs hk hmac hlen hnew hm
    obtain ⟨hheard, hsign, hmode, hcount⟩ := s.dev.rd_partnerShown source g
    exact ⟨_, (execHeartbeatRx_authentic hg hp hs hk hmac hlen hnew hm).trans (s.act_after _), hheard, hsign, hmode, rfl, hcount⟩
  · intro s hb hw
    obtain ⟨hsign, hirq⟩ := s.dev.rd_claimSigned
    exact ⟨_, (execClaimSign_watching hb hw).trans (s.act_after _), hsign, hirq, s.dev.claimSigned_mode⟩
  · intro s hb hp
    obtain ⟨hup, hseen⟩ := s.dev.rd_irmonLost_shown
    cases hw : s.dev.watches with
    | false =>
      refine ⟨_, (execIrmonSign_unwatching hb hp hw).trans (s.act_after _), ?_⟩
      simp only [State.after_rd]
      exact ⟨hup, hseen, nofun, nofun⟩
    | true =>
      have hrd (g : Fld) : s.dev.irmonSigned.irmonAlone.rd g = s.dev.irmonSigned.rd g := Dev.rd_of_regs (Dev.irmonAlone_regs _) g
      refine ⟨_, (execIrmonSign_watching hb hp hw).trans (s.act_after _), ?_⟩
      simp (disch := decide) only [State.after_rd, decides_after, hrd, Dev.rd_irmonSigned, Dev.rd_irmonSigned_sign]
      have hmode := s.dev.irmonSigned_mode
      exact ⟨hup, hseen, fun _ => trivial, fun _ hm hd hc hh =>
        Dev.irmonAlone_decides (Dev.signs_irmonSigned hc hh) (by rw [hmode, hm]) (by rw [hmode, hd])⟩
  · intro s hb hp
    obtain ⟨hheard, hmode, hseen⟩ := s.dev.rd_beatsLost
    cases hs : s.dev.watches && (List.range 4).any s.dev.linkUp with
    | false =>
      refine ⟨_, (execHeartbeatSign_passes hb hp hs).trans (s.act_after _), hheard, hmode, hseen, fun hw hl => ?_⟩
      rw [hw, hl] at hs
      cases hs
    | true =>
      refine ⟨_, (execHeartbeatSign_counts hb hp hs).trans (s.act_after _), ?_⟩
      simp (disch := decide) only [State.after_rd, Dev.rd_beatSigned, Dev.rd_beatSigned_sign]
      exact ⟨hheard, hmode, hseen, fun _ _ => trivial⟩

end Sys2Proof.Machine

/-! PROOFS. The chapter on the redundant pair: how the roles of a pair change. -/

namespace Sys2Proof.Machine

open Sys2Proof.Claims

/-! ### A mode change, part by part (R41, R42) -/

/-- The tests end and the transition is recorded. -/
def Dev.modeRecorded (d0 : Dev) (target : Mode) (cause master : Nat) : Dev :=
  let old := d0.mode.mode
  let d := d0.leaveTests target
  let d := if (old = .commission || old = .maintenance) && (target = .solo || target = .active || target = .resync) then
      d.layOut.capEvents d 8 noUnit else d
  d.recordTransition target cause master

/-- The mode of entry that LANTERN and VIGIL keep. -/
def Dev.withOrigin (d : Dev) (m : Mode) : Dev := { d with mode := { d.mode with origin := m } }

/-- The mode of entry is kept, and the watch for the island starts. -/
def Dev.modeEntered (d d0 : Dev) (target : Mode) : Dev :=
  let d := if target = .lantern || target = .vigil then d.withOrigin d0.roleMode else d
  let d := if d0.mode.mode = .bootstrap then (d.flag F.GCTL_IRQ_STATUS_BOOT_DONE).islandAfresh else d
  if target.netServes && !d0.mode.mode.netServes then d.islandAfresh else d

/-- The gain of the outputs. -/
def Dev.withOutGain (d : Dev) (gain : Nat) : Dev := { d with mtx := { d.mtx with outGain := gain } }

/-- SAFE_HOLD fades what the device drove and ends what its contexts send (R59). -/
def Dev.audioHeld (d d0 : Dev) : Dev :=
  let d := d.withOutGain (if d0.drives then d.mtx.outGain else 0)
  ((List.range 256).filter (fun c => d.ctxTx c && d.ctxRuns c)).foldl (fun d c => d.ctxEnd c) d

/-- Audio and the clock outputs follow the new mode. -/
def Dev.audioFollows (d d0 : Dev) (target : Mode) : Dev :=
  let d := if target = .safeHold then d.audioHeld d0 else d
  let d := if !d0.audioRuns && d.audioRuns then d.audioStart else if d0.audioRuns && !d.audioRuns then d.audioStop else d
  let d := if d0.audioRuns && (d0.mode.mode = .resync || d0.mode.mode = .estranged) && target = .active then d.withOutGain 0 else d
  d.schedule.clkService d0.outService

/-- The claim that the unit holds on, and the token frames of one that follows. -/
def Dev.withClaim (d : Dev) (claims : Bool) : Dev :=
  { d with pair := { d.pair with claiming := claims, frames := if d.follows then d.pair.frames else [] } }

/-- Whether the role was taken over from standby. -/
def Dev.withTookOver (d : Dev) (tookOver : Bool) : Dev := { d with ref := { d.ref with tookOver := tookOver } }

/-- The unit's part in the pair follows the new mode. -/
def Dev.pairFollows (d d0 : Dev) (target : Mode) (cause : Nat) (keepClaim : Bool) : Dev :=
  let nowActive := d.roleMode = .active
  let d := d.wr F.PAIR_STATUS_ROLE d.pairRole
  let d := if d0.mode.mode = .resync then ((d.wr F.PAIR_STATUS_RESYNC_STEP 0).wr F.PAIR_STATUS_RESYNC_BLOCKED 0) else d
  let d := d.withClaim (nowActive || (keepClaim && d.pair.claiming))
  let d := if d.standby then d else d.clearSigns
  let d := if d0.roleMode = .active && !nowActive then d.lapseSessions else d
  let d := if target = .resync then d.startResync else d
  let d := d.withTookOver (decide (target = Mode.active) && d0.standby)
  if nowActive then d.note [8, byteOf (modeCode target), byteOf cause] else d

/-- LANTERN asked for while the island stands clear (R55). -/
def Dev.lanternAsked (d : Dev) : Dev :=
  { d with island := { d.island with clearAt := if d.island.islanded then none else some d.time.cycles } }

/-- LANTERN is left: its waiting plays and its triggers' voices go. -/
def Dev.lanternLeft (d : Dev) : Dev :=
  let d := d.setLib { d.lib with waiting := [] }
  { d with island := { d.island with byRequest := false }, contacts := d.contacts.map (fun c => (c.1, { c.2 with voice := none })) }

/-- SAFE_HOLD is entered: since when its cause is clear, and whether its restarts are spent (R59). -/
def Dev.holdEntered (d : Dev) (cause : Nat) : Dev :=
  { d with mode := { d.mode with clearSince := d.clearOnEntry cause, spent := decide (3 ≤ d.recentRestarts.length) } }

/-- MAINTENANCE is entered by request: the restarts count anew. -/
def Dev.restartsCleared (d : Dev) : Dev := { d with mode := { d.mode with restarts := [], spent := false } }

/-- What the new mode brings of its own. -/
def Dev.modeArranged (d : Dev) (old target : Mode) (cause : Nat) : Dev :=
  let d := if target = .vigil then d.startVigil else d
  let d := if target = .lantern && cause = 0x02 then d.lanternAsked else d
  let d := if old = .lantern then d.lanternLeft else d
  let d := if target = .commission || target = .maintenance || target = .safeHold then d.almHoldAll else d
  let d := if target = .safeHold then d.holdEntered cause else d
  if target = .maintenance && cause = 0x02 then d.restartsCleared else d

/-- The pins, the relays and the PTP ports follow the new mode. -/
def Dev.modeServed (d : Dev) : Dev := { d with pins := { d.pins with rstOut := true } }.bypass.ptpServe

theorem Dev.changeMode_eq (d : Dev) (target : Mode) (cause master : Nat) (keepClaim : Bool) :
    d.changeMode target cause master keepClaim =
      (((((d.modeRecorded target cause master).modeEntered d target).audioFollows d target).pairFollows d target cause
        keepClaim).modeArranged d.mode.mode target cause).modeServed.judgeHeld.lanternCheck := rfl

theorem Dev.mode_ite {p : Prop} [Decidable p] {a b c : Dev} (ha : a.mode = c.mode) (hb : b.mode = c.mode) :
    (if p then a else b).mode = c.mode := by
  split
  · exact ha
  · exact hb

theorem Dev.mode_of_runView {d e : Dev} (h : e.runView = d.runView) : e.mode = d.mode := congrArg RunView.mode h

theorem Dev.cutTest_mode (d : Dev) (result cause : Nat) : (d.cutTest result cause).mode = d.mode :=
  congrArg (fun v => v.2.1) (d.cutTest_vigilView result cause)

theorem Dev.endVigil_none_idle {d : Dev} (h : d.sup.vigil = none) (leave : Bool) : d.endVigil none leave = d := by
  unfold Dev.endVigil
  dsimp only
  rw [h]

theorem Dev.endVigil_none_stays {d : Dev} {v : VigilSt} (h : d.sup.vigil = some v) : d.endVigil none false = d.runEnded v := by
  unfold Dev.endVigil
  dsimp only
  rw [h]
  rfl

/-- A run that ends without leaving VIGIL by it keeps the mode. -/
theorem Dev.endVigil_mode (d : Dev) (result : Option (Nat × Nat)) : (d.endVigil result false).mode = d.mode := by
  have hnone (e : Dev) : (e.endVigil none false).mode = e.mode := by
    cases hv : e.sup.vigil with
    | none => exact congrArg Dev.mode (Dev.endVigil_none_idle hv false)
    | some v =>
      obtain ⟨_, _, _, hended⟩ := e.runEnded_shape v
      rw [Dev.endVigil_none_stays hv, hended]
  cases result with
  | none => exact hnone d
  | some x => exact (hnone _).trans (d.cutTest_mode x.1 x.2)

theorem Dev.leaveTests_mode (d : Dev) (target : Mode) : (d.leaveTests target).mode = d.mode := by
  unfold Dev.leaveTests
  extract_lets _ _ e
  have he : e.mode = d.mode := Dev.mode_ite (d.cutTest_mode 2 12) rfl
  refine Eq.trans ?_ he
  split
  · split
    · exact e.endVigil_mode _
    · exact e.endVigil_mode _
    · exact e.endVigil_mode _
    · rfl
  · exact Dev.mode_ite (e.cutTest_mode 3 4) rfl

theorem Dev.closeSession_mode (d : Dev) (id : Nat) : (d.closeSession id).mode = d.mode := by
  unfold Dev.closeSession
  split
  · rfl
  · exact Dev.journal_mode _ _ _ _ _ _ _ _ _ _

theorem Dev.lapseSessions_mode (d : Dev) : d.lapseSessions.mode = d.mode :=
  Dev.foldl_keeps Dev.mode (fun e (x : Session) => e.closeSession_mode x.id) _ d

theorem Dev.note_mode (d : Dev) (r : List Byte) : (d.note r).mode = d.mode := by
  obtain ⟨p, hp⟩ := d.note_shape r
  rw [hp]

theorem Dev.setPtpState_mode (d : Dev) (p v : Nat) : (d.setPtpState p v).mode = d.mode :=
  Dev.mode_of_runView (d.setPtpState_runView p v)

theorem Dev.bmcaPort_mode (d : Dev) (p : Nat) : (d.bmcaPort p).mode = d.mode := by
  unfold Dev.bmcaPort
  extract_lets st
  refine Dev.mode_ite rfl ?_
  split
  · next m _ =>
    have hmode : (d.takeMaster p m).mode = d.mode := rfl
    exact Dev.mode_ite hmode (Dev.mode_ite hmode ((Dev.setPtpState_mode _ _ _).trans hmode))
  · exact Dev.setPtpState_mode _ _ _
  · exact Dev.mode_ite rfl (Dev.setPtpState_mode _ _ _)
  · exact Dev.mode_ite rfl (Dev.setPtpState_mode _ _ _)

theorem Dev.ptpServe_mode (d : Dev) : d.ptpServe.mode = d.mode := by
  have hrefresh : d.ptpRefresh.mode = d.mode := Dev.mode_of_runView d.ptpRefresh_frame.run
  exact Dev.mode_ite ((Dev.foldl_keeps Dev.mode Dev.bmcaPort_mode _ _).trans hrefresh) hrefresh

theorem Dev.bypass_mode (d : Dev) : d.bypass.mode = d.mode := by
  unfold Dev.bypass
  extract_lets one
  have hone (e : Dev) (r : Nat) (force on settle : Fld) : (one e r force on settle).mode = e.mode := by
    unfold one
    dsimp only
    split <;> rfl
  rw [hone, hone]

theorem Dev.schedule_mode (d : Dev) : d.schedule.mode = d.mode := Dev.mode_of_runView d.schedule_frame.run

/-- What of a mode's state a transition shows: the mode, the one before it and the cause. -/
def ModeSt.shown (m : ModeSt) : Mode × Mode × Nat := (m.mode, m.prev, m.cause)

theorem Dev.unseat_shown (d : Dev) : d.unseat.mode.shown = d.mode.shown := by
  unfold Dev.unseat
  split
  · rfl
  · extract_lets _ e
    have he : e.mode.shown = d.mode.shown := by
      unfold e
      split <;> rfl
    split <;> exact he

/-- A decision changes nothing that the last transition shows. -/
theorem Dev.arises_shown (d : Dev) (target : Mode) (cause master rank : Nat) :
    (d.arises target cause master rank).mode.shown = d.mode.shown := by
  unfold Dev.arises
  split
  · exact d.unseat_shown
  · rfl

theorem Dev.judgeHeld_shown (d : Dev) : d.judgeHeld.mode.shown = d.mode.shown := by
  unfold Dev.judgeHeld
  split
  · rfl
  · split <;> rfl

theorem Dev.lanternCheck_shown (d : Dev) : d.lanternCheck.mode.shown = d.mode.shown := by
  unfold Dev.lanternCheck
  split
  · exact d.arises_shown _ _ _ _
  · rfl

/-! ### A change of role (R41) -/

/-- The two modes that a change of role leads to. -/
def Mode.isRole (m : Mode) : Prop := m = .active ∨ m = .marionette

theorem Dev.outService_of_role {d : Dev} (h : d.mode.mode.isRole) : d.outService = true := by
  rcases h with h | h <;> simp [Dev.outService, Dev.serving, Dev.standby, Dev.roleMode, h, Mode.svc, Mode.stby]

/-- Audio runs in every mode that the outputs run in. -/
theorem Dev.audioRuns_of_outService {d : Dev} (h : d.outService = true) : d.audioRuns = true := by
  simp only [Dev.outService, Bool.or_eq_true] at h
  simp only [Dev.audioRuns, Dev.drives, Bool.or_eq_true]
  exact h.imp_left Or.inl

section RoleChange

variable {d0 : Dev} {target : Mode}

theorem Dev.modeRecorded_mode (hservice : d0.outService = true) (cause master : Nat) :
    (d0.modeRecorded target cause master).mode.shown = (target, d0.mode.mode, cause) := by
  have hold : ¬ ((d0.mode.mode = .commission || d0.mode.mode = .maintenance) &&
      (target = .solo || target = .active || target = .resync)) = true := by
    intro h
    simp only [Bool.and_eq_true, Bool.or_eq_true, decide_eq_true_eq] at h
    obtain ⟨hm | hm, _⟩ := h <;> simp [Dev.outService, Dev.serving, Dev.standby, hm, Mode.svc, Mode.stby] at hservice
  unfold Dev.modeRecorded
  dsimp only
  rw [if_neg hold, Dev.recordTransition_mode, Dev.leaveTests_mode]
  rfl

theorem Dev.modeEntered_mode (ht : target.isRole) (d : Dev) : (d.modeEntered d0 target).mode = d.mode := by
  unfold Dev.modeEntered
  extract_lets e f
  have he : e.mode = d.mode := by
    refine congrArg Dev.mode (if_neg ?_)
    rcases ht with rfl | rfl <;> decide
  have hf : f.mode = e.mode := Dev.mode_ite rfl rfl
  exact Eq.trans (Dev.mode_ite rfl rfl) (hf.trans he)

/-- Between two modes in which the outputs run, audio runs on. -/
theorem Dev.audioFollows_mode (ht : target.isRole) {d : Dev} (hservice : d0.outService = true) (hd : d.mode.mode.isRole) :
    (d.audioFollows d0 target).mode = d.mode := by
  have hruns := Dev.audioRuns_of_outService hservice
  have hrunsOn := Dev.audioRuns_of_outService (Dev.outService_of_role hd)
  unfold Dev.audioFollows
  extract_lets e f g
  have he : e = d := by
    refine if_neg ?_
    rcases ht with rfl | rfl <;> decide
  have hf : f = d := by
    unfold f
    rw [he, if_neg (by simp [hruns]), if_neg (by simp [hrunsOn])]
  have hg : g.mode = d.mode := by
    unfold g
    rw [hf]
    exact Dev.mode_ite rfl rfl
  have hscheduled : g.schedule.mode = d.mode := g.schedule_mode.trans hg
  have hout : g.schedule.outService = true := Dev.outService_of_role (by rw [hscheduled]; exact hd)
  rw [Dev.clkService, if_pos (by simp [hservice, hout]), hscheduled]

theorem Dev.pairFollows_mode (d : Dev) (cause : Nat) (keepClaim : Bool) : (d.pairFollows d0 target cause keepClaim).mode = d.mode := by
  unfold Dev.pairFollows
  extract_lets nowActive d1 d2 d3 d4 d5 d6 d7
  have h2 : d2.mode = d.mode := Dev.mode_ite rfl rfl
  have h4 : d4.mode = d3.mode := Dev.mode_ite rfl rfl
  have h5 : d5.mode = d4.mode := Dev.mode_ite d4.lapseSessions_mode rfl
  have h6 : d6.mode = d5.mode := Dev.mode_ite rfl rfl
  have h7 : (if nowActive then d7.note [8, byteOf (modeCode target), byteOf cause] else d7).mode = d7.mode :=
    Dev.mode_ite (d7.note_mode _) rfl
  exact h7.trans (h6.trans (h5.trans (h4.trans h2)))

theorem Dev.modeArranged_mode (ht : target.isRole) (d : Dev) (old : Mode) (cause : Nat) :
    (d.modeArranged old target cause).mode = d.mode := by
  unfold Dev.modeArranged
  extract_lets d1 d2 d3 d4 d5
  have h1 : d1.mode = d.mode := Dev.mode_ite rfl rfl
  have h2 : d2.mode = d1.mode := Dev.mode_ite rfl rfl
  have h3 : d3.mode = d2.mode := Dev.mode_ite rfl rfl
  have h4 : d4 = d3 := by
    refine if_neg ?_
    rcases ht with rfl | rfl <;> decide
  have h5 : d5 = d4 := by
    refine if_neg ?_
    rcases ht with rfl | rfl <;> decide
  have h6 : ¬ (target = .maintenance && cause = 0x02) = true := by
    rcases ht with rfl | rfl <;> simp
  rw [if_neg h6, h5, h4, h3, h2, h1]

theorem Dev.modeServed_mode (d : Dev) : d.modeServed.mode = d.mode := (Dev.ptpServe_mode _).trans (Dev.bypass_mode _)

/-- A unit in service that takes or leaves the active role shows its new mode, the one it left and the cause. -/
theorem Dev.changeMode_shown (ht : target.isRole) (hservice : d0.outService = true) (cause master : Nat) (keepClaim : Bool) :
    (d0.changeMode target cause master keepClaim).mode.shown = (target, d0.mode.mode, cause) := by
  have hrecorded := Dev.modeRecorded_mode (target := target) hservice cause master
  have hentered := (d0.modeRecorded target cause master).modeEntered_mode (d0 := d0) ht
  have hmode : ((d0.modeRecorded target cause master).modeEntered d0 target).mode.mode = target :=
    (congrArg ModeSt.mode hentered).trans (congrArg (fun v => v.1) hrecorded)
  rw [Dev.changeMode_eq, Dev.lanternCheck_shown, Dev.judgeHeld_shown, Dev.modeServed_mode, Dev.modeArranged_mode ht,
    Dev.pairFollows_mode, Dev.audioFollows_mode ht hservice (by rw [hmode]; exact ht), hentered, hrecorded]

end RoleChange

/-- Whether the outputs run rests on the mode. -/
theorem Dev.outService_of_mode {d e : Dev} (h : e.mode = d.mode) : e.outService = d.outService := by
  simp only [Dev.outService, Dev.serving, Dev.standby, Dev.roleMode, h]

theorem Dev.announceService_keeps (d : Dev) :
    d.announceService.mode = d.mode ∧ d.announceService.regs = d.regs := by
  have hqueued (e : Dev) (b : List Byte) (p : Nat) (c : Prop) [Decidable c] :
      ((if c then e else e.queueTx p 3 b).mode, (if c then e else e.queueTx p 3 b).regs) = (e.mode, e.regs) := by
    split <;> rfl
  have hkeeps : (d.announceService.mode, d.announceService.regs) = (d.mode, d.regs) := by
    refine Dev.foldl_keeps (fun e => (e.mode, e.regs)) (fun e p => ?_) _ d
    dsimp only
    split
    · rfl
    · exact (hqueued _ _ p _).trans (hqueued e _ p _)
  exact Prod.mk.inj hkeeps

@[simp] theorem Dev.announceService_mode (d : Dev) : d.announceService.mode = d.mode := d.announceService_keeps.1

@[simp] theorem Dev.rd_announceService (d : Dev) (g : Fld) : d.announceService.rd g = d.rd g :=
  Dev.rd_of_regs d.announceService_keeps.2 g

/-! ### Take-over (R316) -/

theorem State.actBox_up (s : State) (f : Dev → Dev) : (s.actBox fun b => b.up f) = s.act f := rfl

/-- No command is held: the unit just decides for itself. -/
theorem Box.followAll_none {b : Box} (h : b.dev.pair.commands = []) :
    b.followAll = b.up fun d => d.setPair { d.pair with commands := [] } := by
  unfold Box.followAll
  rw [h]
  rfl

/-- The standby is on its own: no command is held, slot 14 is LOST and the partner's mode unknown. -/
def Dev.leftAlone (d : Dev) : Dev :=
  let d := d.setPair { d.pair with commands := [] }
  ((d.setSlot 14 { d.slot 14 with advRank := 255 }).loseSlot 14).wr F.PAIR_PARTNER_MODE 0xF

/-- The take-over is counted and announced. -/
def Dev.takeOverShown (d : Dev) : Dev :=
  (((d.tally (F.PAIR_COUNT_COUNT.at [4])).sticky F.PAIR_STICKY_TAKEOVER_SEEN noUnit).irq F.PAIR_IRQ_STATUS_TAKEOVER).announceService

theorem Box.up_up (b : Box) (f g : Dev → Dev) : (b.up f).up g = b.up fun d => g (f d) := rfl

theorem Box.up_congr {b : Box} {f g : Dev → Dev} (h : f b.dev = g b.dev) : b.up f = b.up g := by
  unfold Box.up
  rw [h]

theorem execTakeOver_signed {s : State} (hb : s.dev.booted = true) (hw : s.dev.watches = true) (hs : 2 ≤ s.dev.signs)
    (hbound : s.dev.bound = false) (hc : s.dev.pair.commands = []) :
    execTakeOver s = s.act fun d => (d.leftAlone.changeMode .active 0x0C).takeOverShown := by
  rw [← State.actBox_up]
  refine State.actBox_congr ((if_neg (by simp [boxOf, hb, hw, hbound, Nat.lt_of_succ_le hs])).trans ?_)
  rw [Box.followAll_none hc, Box.up_up]
  refine Box.up_congr ?_
  unfold Dev.takeOverShown Dev.leftAlone
  rfl

theorem Dev.leftAlone_mode (d : Dev) : d.leftAlone.mode = d.mode := by simp [Dev.leftAlone]

theorem Dev.takeOverShown_mode (d : Dev) : d.takeOverShown.mode = d.mode := by simp [Dev.takeOverShown]

theorem Dev.rd_takeOverShown (d : Dev) : d.takeOverShown.rd F.PAIR_STICKY_TAKEOVER_SEEN = 1 := by
  unfold Dev.takeOverShown
  simp (disch := decide) only [Dev.rd_announceService, Dev.rd_irq_other, Dev.rd_sticky_same]

/-- The take-over makes the unit ACTIVE. -/
theorem Dev.takeOver_shown {d : Dev} (h : d.watches = true) :
    (d.leftAlone.changeMode .active 0x0C).takeOverShown.mode.shown = (.active, d.mode.mode, 0x0C) := by
  simp only [Dev.watches, Bool.and_eq_true] at h
  obtain ⟨_, hstandby⟩ := h
  have hservice : d.leftAlone.outService = true := by
    rw [Dev.outService_of_mode d.leftAlone_mode, Dev.outService, hstandby, Bool.or_true]
  rw [Dev.takeOverShown_mode, Dev.changeMode_shown (.inl rfl) hservice, Dev.leftAlone_mode]

/-! ### Handover (R41, R321) -/

theorem Dev.handed_mode (d : Dev) : d.handed.mode = d.mode := by simp [Dev.handed]

theorem Dev.rd_handed (d : Dev) : d.handed.rd F.PAIR_STICKY_HANDOVER_SEEN = 1 := by
  unfold Dev.handed
  simp (disch := decide) only [Dev.rd_irq_other, Dev.rd_sticky_same]

/-- In ACTIVE and MARIONETTE a change of role is a change of mode. -/
theorem Dev.changeRole_mode {d : Dev} (h : d.mode.mode.isRole) (active : Bool) (cause : Nat) :
    (d.changeRole active cause).mode.mode = if active then .active else .marionette := by
  have htarget : (if active then .active else .marionette : Mode).isRole := by
    cases active
    · exact .inr rfl
    · exact .inl rfl
  have hchange : d.changeRole active cause = d.changeMode (if active then .active else .marionette) cause 0 true := by
    refine if_neg ?_
    rcases h with h | h <;> simp [h]
  rw [hchange]
  exact congrArg (fun v => v.1) (Dev.changeMode_shown htarget (Dev.outService_of_role h) cause 0 true)

theorem Dev.giveRole_shows {d : Dev} (h : d.mode.mode = .active) (flags : Nat) :
    (d.giveRole flags).mode.mode = .marionette ∧ (d.giveRole flags).rd F.PAIR_PARTNER_MODE = 4 ∧
      (d.giveRole flags).rd F.PAIR_STICKY_HANDOVER_SEEN = 1 := by
  unfold Dev.giveRole
  extract_lets drill _ giving changed shown
  have hmode : giving.mode.mode.isRole := .inl h
  have hchanged : changed.mode.mode = .marionette :=
    (congrArg ModeSt.mode (Dev.handed_mode _)).trans (Dev.changeRole_mode hmode false _)
  simp (disch := decide) only [shown, Dev.setPair_mode, Dev.wr_mode, Dev.rd_setPair, Dev.rd_wr_other, Dev.rd_wr_same]
  exact ⟨hchanged, rfl, Dev.rd_handed _⟩

theorem Dev.drillTaken_mode (d : Dev) : d.drillTaken.mode = d.mode := by
  unfold Dev.drillTaken
  split <;> rfl

theorem Dev.takeRole_shows {d : Dev} (h : d.mode.mode = .marionette) (flags : Nat) :
    (d.takeRole flags).mode.mode = .active ∧ (d.takeRole flags).rd F.PAIR_PARTNER_MODE = 5 ∧
      (d.takeRole flags).rd F.PAIR_STICKY_HANDOVER_SEEN = 1 := by
  unfold Dev.takeRole
  extract_lets back told _ taking changed shown _ taken
  have htold : told.mode = d.mode := Dev.mode_ite d.drillTaken_mode rfl
  have hmode : taking.mode.mode.isRole := .inr ((congrArg ModeSt.mode htold).trans h)
  have hchanged : changed.mode.mode = .active :=
    (congrArg ModeSt.mode (Dev.handed_mode _)).trans (Dev.changeRole_mode hmode true _)
  have htaken : taken.mode.mode = .active ∧ taken.rd F.PAIR_PARTNER_MODE = 5 ∧ taken.rd F.PAIR_STICKY_HANDOVER_SEEN = 1 := by
    simp (disch := decide) only [taken, shown, Dev.setPair_mode, Dev.wr_mode, Dev.rd_setPair, Dev.rd_wr_other, Dev.rd_wr_same]
    exact ⟨hchanged, rfl, Dev.rd_handed _⟩
  split
  · exact htaken
  · simp only [Dev.announceService_mode, Dev.rd_announceService]
    exact htaken

theorem execPlannedHandover_gives {s : State} (hb : s.dev.booted = true) (hp : s.dev.paired = true) (hbound : s.dev.bound = false)
    (hm : s.dev.mode.mode = .active) (hf : roleFlags s.dev.pair.sent ≠ 0) (claimLow : Bool) :
    execPlannedHandover claimLow s = s.act fun d => d.giveRole d.pair.sent := by
  have hrole : s.dev.roleMode = .active := by rw [Dev.roleMode, hm]
  rw [← State.actBox_up]
  refine State.actBox_congr ((if_neg (by simp [boxOf, hb, hp, hbound])).trans ?_)
  refine (if_pos hrole).trans ((if_neg hf).trans ?_)
  exact Box.up_congr rfl

/-- The standby decides for itself, with ROLE_CLAIM_N read. -/
def Dev.ownDecides (d : Dev) (claimLow : Bool) : Dev := (d.setPair { d.pair with commands := [] }).claimReads claimLow

theorem Dev.ownDecides_mode (d : Dev) (claimLow : Bool) : (d.ownDecides claimLow).mode = d.mode := by
  cases claimLow <;> rfl

theorem execPlannedHandover_takes {s : State} (hb : s.dev.booted = true) (hp : s.dev.paired = true) (hbound : s.dev.bound = false)
    (hm : s.dev.mode.mode = .marionette) (hf : roleFlags s.dev.pair.inFlags ≠ 0) (hc : s.dev.pair.commands = [])
    (claimLow : Bool) :
    execPlannedHandover claimLow s = s.act fun d => (d.ownDecides claimLow).takeRole d.pair.inFlags := by
  have hrole : s.dev.roleMode = .marionette := by rw [Dev.roleMode, hm]
  rw [← State.actBox_up]
  refine State.actBox_congr ((if_neg (by simp [boxOf, hb, hp, hbound])).trans ?_)
  refine (if_neg (by simp [boxOf, hrole])).trans ((if_pos (by simp [boxOf, hrole, hf])).trans ?_)
  rw [Box.followAll_none hc, Box.up_up]
  exact Box.up_congr rfl

/-! ### Flags of the next token (R305, R311) -/

/-- A bit just set is set. -/
theorem bitAt_setBit (v i : Nat) : bitAt (setBit v i true) i = true := by
  cases h : bitAt v i with
  | false =>
    have hadded : (v + 2 ^ i) / 2 ^ i = v / 2 ^ i + 1 := Nat.add_div_right v (Nat.two_pow_pos i)
    simp only [bitAt, beq_eq_false_iff_ne] at h
    simp only [setBit, bitAt, bit, beq_iff_eq, beq_eq_false_iff_ne.2 h, Bool.false_eq_true, if_true, if_false, Nat.zero_mul,
      Nat.sub_zero, Nat.one_mul, hadded]
    omega
  | true =>
    have hle : 2 ^ i ≤ v := by
      by_contra hlt
      rw [bitAt, Nat.div_eq_of_lt (Nat.lt_of_not_le hlt)] at h
      cases h
    rw [setBit, h, Nat.sub_add_cancel (by simpa [bit] using hle), h]

/-- A device is another but for its mode machine and, of the pair, the flags of the next token and the MAINTENANCE that waits. -/
def Dev.OnlyDecides (d e : Dev) : Prop :=
  ∃ m f x, e = { d with mode := m, pair := { d.pair with flags := f, thenMaintenance := x } }

namespace Dev.OnlyDecides

variable {d e : Dev}

theorem refl : OnlyDecides d d := ⟨_, _, _, rfl⟩

theorem regs (h : OnlyDecides d e) : e.regs = d.regs := by
  obtain ⟨_, _, _, rfl⟩ := h
  rfl

theorem pins (h : OnlyDecides d e) : e.pins = d.pins := by
  obtain ⟨_, _, _, rfl⟩ := h
  rfl

theorem accused (h : OnlyDecides d e) : e.pair.accused = d.pair.accused := by
  obtain ⟨_, _, _, rfl⟩ := h
  rfl

theorem halted (h : OnlyDecides d e) : e.pair.halted = d.pair.halted := by
  obtain ⟨_, _, _, rfl⟩ := h
  rfl

theorem claiming (h : OnlyDecides d e) : e.pair.claiming = d.pair.claiming := by
  obtain ⟨_, _, _, rfl⟩ := h
  rfl

end Dev.OnlyDecides

theorem Dev.arises_onlyDecides (d : Dev) (target : Mode) (cause master rank : Nat) :
    d.OnlyDecides (d.arises target cause master rank) := by
  unfold Dev.arises
  split
  · unfold Dev.unseat
    split
    · exact ⟨_, _, _, rfl⟩
    · dsimp only
      split <;> split <;> exact ⟨_, _, _, rfl⟩
  · exact ⟨_, _, _, rfl⟩

/-- What the active shows once it has asked for a handover (R305, R311). -/
theorem Dev.handOver_shows {d : Dev} (h : d.mode.decided = none) (flagBit cause master : Nat) (maintenance : Bool) :
    (d.handOver flagBit cause master maintenance).mode.decided = some ⟨.marionette, cause, master⟩ ∧
      bitAt (d.handOver flagBit cause master maintenance).pair.flags flagBit = true :=
  ⟨Dev.arises_of_undecided h _ _ _, bitAt_setBit _ _⟩

theorem Dev.handOver_onlyDecides (d : Dev) (flagBit cause master : Nat) (maintenance : Bool) :
    d.OnlyDecides (d.handOver flagBit cause master maintenance) := by
  obtain ⟨m, f, x, harises⟩ := d.arises_onlyDecides .marionette cause master (causeRank .marionette cause)
  exact ⟨m, setBit f flagBit true, _, by rw [Dev.handOver, harises]; rfl⟩

/-! ### A self-accusation (R311, R313) -/

/-- The self-accusation is noted. -/
def Dev.selfAccused (d : Dev) : Dev :=
  let d := d.sticky F.PAIR_STICKY_ACCUSE_SEEN noUnit
  d.setPair { d.pair with accused := d.pair.accused ++ [msOf d.time.tai] }

/-- An active with its partner in MARIONETTE may abdicate. -/
def Dev.mayAbdicate (d : Dev) : Bool := d.booted && d.roleMode = .active && d.partnerMarionette && d.irmonUp && d.yields 3

/-- What follows from a self-accusation. -/
def Dev.accusationActs (d : Dev) : Dev := if d.mayAbdicate then d.handOver 1 0x07 0 false else d.safeHoldCause 0x07

theorem execSelfAccusation_alive {s : State} (h : s.dev.alive = true) :
    execSelfAccusation s = s.act fun d => d.selfAccused.accusationActs :=
  State.act_congr ((if_neg (by simp [h])).trans rfl)

theorem Dev.rd_selfAccused (d : Dev) : d.selfAccused.rd F.PAIR_STICKY_ACCUSE_SEEN = 1 := by
  unfold Dev.selfAccused
  simp (disch := decide) only [Dev.rd_setPair, Dev.rd_sticky_same]

theorem Dev.selfAccused_mode (d : Dev) : d.selfAccused.mode = d.mode := by simp [Dev.selfAccused]

theorem Dev.mem_selfAccused (d : Dev) : msOf d.time.tai ∈ d.selfAccused.pair.accused := by
  have htime : (d.sticky F.PAIR_STICKY_ACCUSE_SEEN noUnit).time = d.time := Dev.sticky_time _ _ _ _
  unfold Dev.selfAccused
  rw [← htime]
  exact List.mem_append_right _ (List.mem_singleton_self _)

theorem Dev.safeHoldCause_onlyDecides (d : Dev) (cause : Nat) : d.OnlyDecides (d.safeHoldCause cause) := by
  have hheld : d.OnlyDecides (d.holdCause cause) := by
    unfold Dev.holdCause
    split <;> exact ⟨_, _, _, rfl⟩
  unfold Dev.safeHoldCause
  split
  · exact .refl
  · exact .refl
  · exact hheld
  · split
    · exact d.arises_onlyDecides _ _ _ _
    · exact hheld

theorem Dev.accusationActs_onlyDecides (d : Dev) : d.OnlyDecides d.accusationActs := by
  unfold Dev.accusationActs
  split
  · exact d.handOver_onlyDecides _ _ _ _
  · exact d.safeHoldCause_onlyDecides _

theorem Dev.selfAccused_mayAbdicate {d : Dev} (hb : d.booted = true) (hr : d.roleMode = .active) (hp : d.partnerMarionette = true)
    (hi : d.irmonUp = true) (hd : d.mode.decided = none) : d.selfAccused.mayAbdicate = true := by
  have hmode := d.selfAccused_mode
  have hrd (g : Fld) (hq : g.inQue = false) (hg : g.key ≠ F.PAIR_STICKY_ACCUSE_SEEN.key) : d.selfAccused.rd g = d.rd g := by
    rw [Dev.selfAccused, Dev.rd_setPair, Dev.rd_sticky_other _ hq hg]
  have hpins : d.selfAccused.pins = d.pins := Dev.sticky_pins _ _ _ _
  have hcap : d.selfAccused.cap = d.cap := Dev.sticky_cap _ _ _ _
  have hbooted : d.selfAccused.booted = true := by rw [← hb, Dev.booted, Dev.booted, Dev.alive, Dev.alive, hmode, hpins]
  have hrole : d.selfAccused.roleMode = .active := by rw [← hr, Dev.roleMode, Dev.roleMode, hmode]
  have hpartner : d.selfAccused.partnerMarionette = true := by
    rw [← hp, Dev.partnerMarionette, Dev.partnerMarionette, Dev.paired, Dev.paired, Dev.on_eq, Dev.on_eq,
      hrd _ (by decide) (by decide), hrd _ (by decide) (by decide)]
  have hirmon : d.selfAccused.irmonUp = true := by rw [← hi, Dev.irmonUp, Dev.irmonUp, Dev.isLost, Dev.isLost, hcap]
  have hyields : d.selfAccused.yields 3 = true := Dev.yields_of_undecided (by rw [hmode, hd]) 3
  simp [Dev.mayAbdicate, hbooted, hrole, hpartner, hirmon, hyields]

/-- An active that may abdicate hands over with the flag ABDICATE. -/
theorem Dev.accusationActs_abdicates {d : Dev} (h : d.mayAbdicate = true) (hd : d.mode.decided = none) :
    d.accusationActs.mode.decided = some ⟨.marionette, 0x07, 0⟩ ∧ bitAt d.accusationActs.pair.flags 1 = true := by
  rw [Dev.accusationActs, if_pos h]
  exact Dev.handOver_shows hd _ _ _ _

/-- A unit in SOLO that accuses itself decides SAFE_HOLD. -/
theorem Dev.accusationActs_solo {d : Dev} (h : d.mode.mode = .solo) (hd : d.mode.decided = none) :
    d.accusationActs.mode.decided = some ⟨.safeHold, 0x07, 0⟩ := by
  have hrole : d.roleMode = .solo := by rw [Dev.roleMode, h]
  rw [Dev.accusationActs, if_neg (by simp [Dev.mayAbdicate, hrole]),
    Dev.safeHoldCause_running (by simp [h]) (by simp [h]) (by simp [h]) hd]
  exact Dev.arises_of_undecided hd _ _ _

/-! ### The link returns, and RESYNC (R317, R318) -/

/-- Irmon is heard again, and RESYNC is halted no more. -/
def Dev.irmonReturned (d : Dev) : Dev := d.irmonHeard.setPair { d.irmonHeard.pair with halted := false }

/-- An ESTRANGED unit enters RESYNC. -/
def Dev.resyncAsked (d : Dev) : Dev := if d.mode.mode = .estranged then d.arises .resync 0x0D else d

theorem execIrmonLinkUp_paired {s : State} (hb : s.dev.booted = true) (hp : s.dev.paired = true) (hi : s.dev.irmonUp = true) :
    execIrmonLinkUp s = s.act fun d => d.irmonReturned.resyncAsked :=
  State.act_congr ((if_neg (by simp [hb, hp, hi])).trans rfl)

theorem Dev.resyncAsked_onlyDecides (d : Dev) : d.OnlyDecides d.resyncAsked := by
  unfold Dev.resyncAsked
  split
  · exact d.arises_onlyDecides _ _ _ _
  · exact .refl

theorem Dev.resyncAsked_estranged {d : Dev} (hm : d.mode.mode = .estranged) (hd : d.mode.decided = none) :
    d.resyncAsked.mode.decided = some ⟨.resync, 0x0D, 0⟩ := by
  rw [Dev.resyncAsked, if_pos hm]
  exact Dev.arises_of_undecided hd _ _ _

theorem Dev.rd_irmonReturned (d : Dev) :
    d.irmonReturned.rd F.PAIR_STATUS_IRMON_UP = 1 ∧ d.irmonReturned.rd F.PAIR_STATUS_SIGN_IRMON = 0 := by
  unfold Dev.irmonReturned Dev.irmonHeard
  constructor
  · simp (disch := decide) only [Dev.rd_setPair, Dev.rd_wr_other, Dev.rd_wr_same]
    rfl
  · rw [Dev.rd_setPair, Dev.rd_wr_same]
    rfl

/-- The partner is a match for RESYNC (R317, step 1). -/
def Dev.matchesPartner (d : Dev) (f : PairFacts) : Bool :=
  f.version.toNat = d.boot.version && f.rate96 == d.is96 && f.library.toNat = d.boot.library &&
    f.recorder.toNat = d.boot.recorder && f.fitted.toNat = d.boot.fitted

theorem Dev.matchesPartner_version {d : Dev} {f : PairFacts} (h : d.matchesPartner f = true) : f.version.toNat = d.boot.version := by
  simp only [Dev.matchesPartner, Bool.and_eq_true, decide_eq_true_eq] at h
  obtain ⟨⟨⟨⟨hversion, _⟩, _⟩, _⟩, _⟩ := h
  exact hversion

/-- The first step of RESYNC ends. -/
def Dev.partnerMatched (d : Dev) : Dev := (d.wr F.PAIR_STATUS_RESYNC_BLOCKED 0).wr F.PAIR_STATUS_RESYNC_STEP 2

section Check

variable {s : State} {f : PairFacts} (hb : s.dev.booted = true) (hm : s.dev.mode.mode = .resync) (hh : s.dev.pair.halted = false)
  (hs : s.dev.rd F.PAIR_STATUS_RESYNC_STEP = 1)

include hb hm hh hs

theorem execResyncCheck_matches (h : s.dev.matchesPartner f = true) : execResyncCheck f s = s.act Dev.partnerMatched :=
  State.act_congr ((if_neg (by simp [hb, hm, hh, hs])).trans (if_pos h))

theorem execResyncCheck_differs (h : s.dev.matchesPartner f = false) :
    execResyncCheck f s = s.act fun d => d.wr F.PAIR_STATUS_RESYNC_BLOCKED 1 :=
  State.act_congr ((if_neg (by simp [hb, hm, hh, hs])).trans (if_neg (ne_true_of_eq_false h)))

end Check

theorem Dev.rd_partnerMatched (d : Dev) :
    d.partnerMatched.rd F.PAIR_STATUS_RESYNC_STEP = 2 ∧ d.partnerMatched.rd F.PAIR_STATUS_RESYNC_BLOCKED = 0 := by
  unfold Dev.partnerMatched
  constructor
  · rw [Dev.rd_wr_same]
    rfl
  · simp (disch := decide) only [Dev.rd_wr_other, Dev.rd_wr_same]
    rfl

/-- RESYNC starts again from its second step at the latest, and the restart is counted. -/
def Dev.resyncRestarted (d : Dev) : Dev :=
  let d := d.setPair { d.pair with resyncFrom := d.time.cycles, named := none, good := 0 }
  (d.wr F.PAIR_STATUS_RESYNC_STEP (min 2 (d.rd F.PAIR_STATUS_RESYNC_STEP))).tally (F.PAIR_COUNT_COUNT.at [6])

theorem execResyncTimeout_past {s : State} (hb : s.dev.booted = true) (hm : s.dev.mode.mode = .resync)
    (hp : s.dev.past s.dev.pair.resyncFrom (1000 * s.dev.rd F.PAIR_RESYNC_LIMIT_LIMIT) = true) :
    execResyncTimeout s = s.act Dev.resyncRestarted :=
  State.act_congr ((if_neg (by simp [hb, hm, hp])).trans rfl)

theorem Dev.rd_resyncRestarted (d : Dev) :
    d.resyncRestarted.rd F.PAIR_STATUS_RESYNC_STEP = min 2 (d.rd F.PAIR_STATUS_RESYNC_STEP) ∧
      d.resyncRestarted.rd (F.PAIR_COUNT_COUNT.at [6]) = satAdd 32 (d.rd (F.PAIR_COUNT_COUNT.at [6])) 1 := by
  unfold Dev.resyncRestarted
  constructor
  · simp (disch := decide) only [Dev.rd_tally_other, Dev.rd_wr_same, Dev.rd_setPair]
    exact Nat.mod_eq_of_lt ((Nat.min_le_left _ _).trans_lt (by decide))
  · simp (disch := decide) only [Dev.rd_tally_same, Dev.rd_wr_other, Dev.rd_setPair]
    rfl

/-! ### The drill (R321), the claim's release (R313) and a passed request (R41) -/

/-- A drill starts: it asks for its flag. -/
def Dev.drillStarts (d : Dev) : Dev :=
  let d := d.setSup { d.sup with testing := some ⟨76, d.time.cycles, true⟩ }
  d.setPair { d.pair with drill := 1, flags := setBit d.pair.flags 2 true }

theorem Dev.beginTest_drill (d : Dev) : d.beginTest 76 true = d.drillStarts := rfl

theorem execMarionetteDrill_starts {s : State} (hb : s.dev.booted = true) (ht : s.dev.sup.testing = none)
    (hr : s.dev.roleMode = .active) (hm : s.dev.mayTest 76 = true) : execMarionetteDrill s = s.act Dev.drillStarts := by
  refine State.act_congr ((if_pos hb).trans ?_)
  rw [Dev.pairDrill, if_neg (by simp [ht]), if_neg (by simp [hr, hm])]
  exact s.dev.beginTest_drill

theorem execMarionetteDrill_skips {s : State} (hb : s.dev.booted = true) (ht : s.dev.sup.testing = none)
    (hm : s.dev.mayTest 76 = false) : execMarionetteDrill s = s.act fun d => d.skipTest 76 3 6 := by
  refine State.act_congr ((if_pos hb).trans ?_)
  rw [Dev.pairDrill, if_neg (by simp [ht]), if_pos (by simp [hm])]

/-- The claim is released. -/
def Dev.claimReleased (d : Dev) : Dev :=
  (d.setPair { d.pair with claiming := false, abdicates := false, thenMaintenance := none }).claimReads true

/-- A MAINTENANCE that waits for the release is entered. -/
def Dev.maintenanceEntered (d : Dev) (waiting : Option Nat) : Dev :=
  match waiting with
  | some m => d.arises .maintenance 0x02 m
  | none => d

theorem execRoleClaimRelease_marionette {s : State} (hb : s.dev.booted = true) (hc : s.dev.pair.claiming = true)
    (hr : s.dev.roleMode = .marionette) (ha : s.dev.pair.abdicates = false) :
    execRoleClaimRelease s = s.act fun d => d.claimReleased.maintenanceEntered d.pair.thenMaintenance :=
  State.act_congr ((if_neg (by simp [hb, hc, hr])).trans (if_neg (by simp [ha])))

theorem Dev.maintenanceEntered_onlyDecides (d : Dev) (waiting : Option Nat) : d.OnlyDecides (d.maintenanceEntered waiting) := by
  cases waiting with
  | none => exact .refl
  | some m => exact d.arises_onlyDecides _ _ _ _

theorem Dev.maintenanceEntered_decides {d : Dev} (h : d.mode.decided = none) (master : Nat) :
    (d.maintenanceEntered (some master)).mode.decided = some ⟨.maintenance, 0x02, master⟩ :=
  Dev.arises_of_undecided h _ _ _

theorem Dev.claimReleased_reads (d : Dev) : ReadsBut [F.PAIR_STATUS_SIGN_CLAIM] d d.claimReleased :=
  fun g hq hg => (ReadsBut.refl (d := d)).wr (.head _) 0 g hq hg

theorem execPassedActiveRequest_active {s : State} (hb : s.dev.booted = true) (hi : s.dev.irmonUp = true)
    (hm : s.dev.mode.mode = .active) (hp : s.dev.partnerMarionette = true) (hd : s.dev.mode.decided = none) :
    execPassedActiveRequest s = s.act fun d => d.handOver 0 0x14 0 false :=
  State.act_congr (if_pos (by simp [hb, hi, hm, hp, Dev.yields_of_undecided hd]))

/-- Settles O37: each command acts by the device it makes; a change of role shows what its mode change shows. -/
theorem pairRolesChange : Obligations.PairRolesChange := by
  unfold Obligations.PairRolesChange
  refine ⟨?_, ?_, ?_, ?_, ?_, ?_, ?_, ?_, ?_⟩
  · intro s hb hw hs hbound hc
    have hshown := Dev.takeOver_shown hw
    simp only [ModeSt.shown, Prod.mk.injEq] at hshown
    obtain ⟨hmode, hprev, hcause⟩ := hshown
    refine ⟨_, (execTakeOver_signed hb hw hs hbound hc).trans (s.act_after _), ?_⟩
    simp only [State.after_rd, State.after_mode]
    exact ⟨hmode, hcause, hprev, Dev.rd_takeOverShown _⟩
  · intro s claimLow hb hp hbound
    refine ⟨fun hm hf => ?_, fun hm hf hc => ?_⟩
    · refine ⟨_, (execPlannedHandover_gives hb hp hbound hm hf claimLow).trans (s.act_after _), ?_⟩
      simp only [State.after_rd, State.after_mode]
      exact Dev.giveRole_shows hm _
    · have howns : (s.dev.ownDecides claimLow).mode.mode = .marionette := by rw [Dev.ownDecides_mode, hm]
      refine ⟨_, (execPlannedHandover_takes hb hp hbound hm hf hc claimLow).trans (s.act_after _), ?_⟩
      simp only [State.after_rd, State.after_mode]
      exact Dev.takeRole_shows howns _
  · intro s ha hd
    have hmode := s.dev.selfAccused_mode
    have hdecided : s.dev.selfAccused.mode.decided = none := by rw [hmode, hd]
    have hacts := s.dev.selfAccused.accusationActs_onlyDecides
    refine ⟨_, (execSelfAccusation_alive ha).trans (s.act_after _), ?_⟩
    simp only [State.after_rd, State.after_pair, decides_after, Dev.rd_of_regs hacts.regs, hacts.accused]
    exact ⟨s.dev.rd_selfAccused, s.dev.mem_selfAccused,
      fun hb hr hp hi => Dev.accusationActs_abdicates (Dev.selfAccused_mayAbdicate hb hr hp hi hd) hdecided,
      fun hm => Dev.accusationActs_solo (by rw [hmode, hm]) hdecided⟩
  · intro s hb hp hi
    obtain ⟨hup, hsign⟩ := s.dev.rd_irmonReturned
    have hasked := s.dev.irmonReturned.resyncAsked_onlyDecides
    refine ⟨_, (execIrmonLinkUp_paired hb hp hi).trans (s.act_after _), ?_⟩
    simp only [State.after_rd, State.after_pair, decides_after, Dev.rd_of_regs hasked.regs, hasked.halted]
    exact ⟨hup, hsign, rfl, fun hm hd => Dev.resyncAsked_estranged hm hd⟩
  · intro s f hb hm hh hs
    cases hmatch : s.dev.matchesPartner f with
    | true =>
      exact ⟨_, (execResyncCheck_matches hb hm hh hs hmatch).trans (s.act_after _), onlyRegisters_wr (onlyRegisters_wr rfl _ _) _ _,
        fun _ _ _ _ _ => s.dev.rd_partnerMatched, fun h => absurd (Dev.matchesPartner_version hmatch) h⟩
    | false =>
      refine ⟨_, (execResyncCheck_differs hb hm hh hs hmatch).trans (s.act_after _), onlyRegisters_wr rfl _ _,
        fun hv hr hl hrec hf => ?_, fun _ => ?_⟩
      · simp [Dev.matchesPartner, hv, hr, hl, hrec, hf] at hmatch
      · simp (disch := decide) only [State.after_rd, Dev.rd_wr_other, Dev.rd_wr_same]
        exact ⟨hs, rfl⟩
  · intro s hb hm hp
    obtain ⟨hstep, hcount⟩ := s.dev.rd_resyncRestarted
    exact ⟨_, (execResyncTimeout_past hb hm hp).trans (s.act_after _), rfl, rfl, hstep, hcount⟩
  · intro s hb ht hr
    cases hm : s.dev.mayTest 76 with
    | true =>
      exact ⟨_, (execMarionetteDrill_starts hb ht hr hm).trans (s.act_after _),
        fun _ => ⟨rfl, bitAt_setBit _ _, rfl⟩, nofun⟩
    | false =>
      exact ⟨_, (execMarionetteDrill_skips hb ht hm).trans (s.act_after _), nofun, fun _ => Dev.skipTest_find? _ _ _ _⟩
  · intro s hb hc hr ha
    have hentered := s.dev.claimReleased.maintenanceEntered_onlyDecides s.dev.pair.thenMaintenance
    refine ⟨_, (execRoleClaimRelease_marionette hb hc hr ha).trans (s.act_after _), ?_⟩
    simp only [State.after_rd, State.after_pair, decides_after, Dev.rd_of_regs hentered.regs, hentered.claiming]
    refine ⟨rfl, congrArg PinSt.partnerClaims hentered.pins, Dev.rd_wr_same _ _ _, ?_, fun master hthen hd => ?_⟩
    · exact Dev.ReadsBut.registersBut fun g hq hg =>
        (Dev.rd_of_regs hentered.regs g).trans (s.dev.claimReleased_reads g hq hg)
    · rw [hthen]
      exact Dev.maintenanceEntered_decides (d := s.dev.claimReleased) hd master
  · intro s hb hi hm hp hd
    obtain ⟨hdecided, hflag⟩ := Dev.handOver_shows hd 0 0x14 0 false
    exact ⟨_, (execPassedActiveRequest_active hb hi hm hp hd).trans (s.act_after _), hdecided, hflag,
      (s.dev.handOver_onlyDecides 0 0x14 0 false).regs⟩

end Sys2Proof.Machine

/-! PROOFS. Every command and the front of the queue; the addresses of shared pages (chapter 16), an abandoned host access, and the test access port
(chapter 18). -/

namespace Sys2Proof.Machine

open Sys2Proof.Claims

/-! ### The queue of waiting commands -/

/-- Each kind of effect answers a next state and leaves the queue of waiting commands. -/
theorem Effect.next_pending {s : State} {o : Host.Outcome State Fault Refusal} (h : Effect s o) : ∃ t, o = .next t ∧ t.pending = s.pending := by
  cases h <;> exact ⟨_, rfl, rfl⟩

/-- Settles O50: a command is one of the kinds of effect, and each of them completes. -/
theorem everyCommandCompletes : Obligations.EveryCommandCompletes := fun c s => (exec_effect c s).next_pending

/-- Settles O45. -/
theorem stepRunsTheFrontCommand : Obligations.StepRunsTheFrontCommand := fun _ _ _ h => step_of_pending_cons h

/-! ### Shared pages (R388, R389) -/

/-- Clearing the highest bit of an offset makes it no larger. -/
theorem clearTop_le (n x : Nat) : clearTop n x ≤ x := by
  induction n with
  | zero => exact le_rfl
  | succ n ih =>
    unfold clearTop
    split
    · exact Nat.sub_le _ _
    · exact ih

/-- Below 0x400 the fold of every NET window but NET1's is that of NET0's: it stays in the bypass page. -/
theorem foldOff_bypass {win : Nat} (hw : win ≠ 1) (n : Nat) {off : Nat} (h : off < 0x400) : foldOff 5 win n off = foldOff 5 0 n off := by
  have hpage : pageBase 5 win off = pageBase 5 0 off := by simp [pageBase, h, hw]
  induction n generalizing off with
  | zero => simp only [foldOff, hpage]
  | succ n ih =>
    have hlow : clearTop 14 off < 0x400 := (clearTop_le 14 off).trans_lt h
    have hstay : ¬ (5 = 7 ∧ 0x700 ≤ off ∧ off < 0x780) := by omega
    simp only [foldOff, hpage, if_neg hstay, ih hlow (by simp [pageBase, hlow, hw])]

/-- Below 0x400 the fold of a NET window ends in its shared page: the MGT page in NET1's window, the bypass page in the others. -/
theorem foldOff_shared (win n : Nat) {off : Nat} (h : off < 0x400) :
    ∃ x < 0x400, foldOff 5 win n off = (if win = 1 then 0x4000 else 0) + x := by
  have hpage : ∀ o < 0x400, pageBase 5 win o = if win = 1 then 0x4000 else 0 := fun o ho => by simp [pageBase, ho]
  induction n generalizing off with
  | zero => exact ⟨off, h, by simp only [foldOff, hpage off h]⟩
  | succ n ih =>
    unfold foldOff
    split
    · exact ⟨off, h, by rw [hpage off h]⟩
    · rw [if_neg (by omega)]
      exact ih ((clearTop_le 14 off).trans_lt h)

/-- In the block page the fold of every APT window is that of APT0's. -/
theorem foldOff_aptBlock (win n : Nat) {off : Nat} (h : 0x700 ≤ off ∧ off < 0x780) : foldOff 7 win (n + 1) off = foldOff 7 0 (n + 1) off := by
  have hpage : ∀ w, pageBase 7 w off = 0 := fun w => by simp [pageBase, h]
  simp only [foldOff, hpage, h, and_self, if_true]

/-- An address of a NET window leads to the fold of its offset (R387). -/
theorem decodeAddr_net (n : Fin 4) (k : Fin 256) :
    decodeAddr (0x50000 + n.val * 0x4000 + 4 * k.val) = (5, foldOff 5 n.val 15 (4 * k.val)) := by
  have hblk : (0x50000 + n.val * 0x4000 + 4 * k.val) / 65536 % 16 = 5 := by omega
  have hwin : (0x50000 + n.val * 0x4000 + 4 * k.val) / 0x4000 % 4 = n.val := by omega
  have hlow : ((0x50000 + n.val * 0x4000 + 4 * k.val) % 65536).land (offsetMask 5) / 4 * 4 = 4 * k.val := by
    have hmask := Nat.and_two_pow_sub_one_eq_mod ((0x50000 + n.val * 0x4000 + 4 * k.val) % 65536) 14
    change ((0x50000 + n.val * 0x4000 + 4 * k.val) % 65536 &&& 2 ^ 14 - 1) / 4 * 4 = _
    rw [hmask]
    omega
  unfold decodeAddr
  simp only [hblk, hwin, hlow, if_true]

/-- An address of an APT window's block page leads to the fold of its offset (R387). -/
theorem decodeAddr_aptBlock (n : Fin 16) (k : Fin 32) :
    decodeAddr (0x70000 + n.val * 0x800 + 0x700 + 4 * k.val) = (7, foldOff 7 n.val 15 (0x700 + 4 * k.val)) := by
  have hblk : (0x70000 + n.val * 0x800 + 0x700 + 4 * k.val) / 65536 % 16 = 7 := by omega
  have hwin : (0x70000 + n.val * 0x800 + 0x700 + 4 * k.val) / 0x800 % 16 = n.val := by omega
  have hlow : ((0x70000 + n.val * 0x800 + 0x700 + 4 * k.val) % 65536).land (offsetMask 7) / 4 * 4 = 0x700 + 4 * k.val := by
    have hmask := Nat.and_two_pow_sub_one_eq_mod ((0x70000 + n.val * 0x800 + 0x700 + 4 * k.val) % 65536) 11
    change ((0x70000 + n.val * 0x800 + 0x700 + 4 * k.val) % 65536 &&& 2 ^ 11 - 1) / 4 * 4 = _
    rw [hmask]
    omega
  unfold decodeAddr
  simp only [hblk, hwin, hlow, if_neg (show ¬ 7 = 5 by decide), if_true]

/-- Settles O60: the fold of an offset below 0x400 of a NET window stays in its shared page, and that of a block-page offset leaves the APT window
for APT0's at its first step. -/
theorem sharedPagesAreReachedFromEveryWindow : Obligations.SharedPagesAreReachedFromEveryWindow := by
  unfold Obligations.SharedPagesAreReachedFromEveryWindow
  have hnet0 : ∀ k : Fin 256, decodeAddr (0x50000 + 4 * k.val) = (5, foldOff 5 0 15 (4 * k.val)) := decodeAddr_net 0
  have hnet1 : ∀ k : Fin 256, decodeAddr (0x54000 + 4 * k.val) = (5, foldOff 5 1 15 (4 * k.val)) := decodeAddr_net 1
  have hapt0 : ∀ k : Fin 32, decodeAddr (0x70700 + 4 * k.val) = (7, foldOff 7 0 15 (0x700 + 4 * k.val)) := decodeAddr_aptBlock 0
  refine ⟨fun n k hn => ?_, fun k => ?_, fun k => ?_, fun n k => ?_⟩
  · rw [decodeAddr_net, hnet0, foldOff_bypass (by omega) 15 (by omega)]
  · obtain ⟨x, hx, hfold⟩ := foldOff_shared 0 15 (show 4 * k.val < 0x400 by omega)
    rw [hnet0, hfold]
    exact ⟨rfl, by simpa using hx⟩
  · obtain ⟨x, hx, hfold⟩ := foldOff_shared 1 15 (show 4 * k.val < 0x400 by omega)
    rw [hnet1, hfold]
    exact ⟨rfl, by simp, by simpa using Nat.add_lt_add_left hx 0x4000⟩
  · rw [decodeAddr_aptBlock, hapt0, foldOff_aptBlock n.val 14 (by omega)]
    exact ⟨rfl, rfl⟩

/-! ### An abandoned access (R385) -/

/-- Where no push waits, an abandoned access sets its outcome and counts. -/
theorem execAbandoned_idle {s : State} (ha : s.dev.alive = true) (hr : s.dev.pins.hostRole = true) (ht : s.dev.pins.testEn = false)
    (hs : s.dev.host.stalled = []) :
    execAbandoned s = s.act fun d => { d with host := { d.host with outcome := 4 } }.count F.GCTL_HOST_ERR_ABANDONED :=
  State.act_congr (by simp [ha, hr, ht, hs, Dev.hostOutcome])

/-- Settles O59. -/
theorem abandonedAccessHasNoEffect : Obligations.AbandonedAccessHasNoEffect := by
  intro s ha hr ht hs
  have hexec : exec .abandoned s = _ := execAbandoned_idle ha hr ht hs
  refine ⟨_, hexec.trans (State.act_after _ _), rfl, ?_, fun g hg => ?_, rfl, rfl⟩
  · rw [State.after_rd, Dev.rd_count_same]
    rfl
  · rw [State.after_rd, Dev.rd_count, if_neg hg]
    rfl

/-! ### The test access port (R425) -/

/-- With the supplies in range the TAP does what its instruction says. -/
theorem State.act_tap {s : State} (hs : s.dev.pins.supplies = true) (f : Dev → Dev) : (s.act fun d => d.tap f) = .next (s.after (f s.dev)) :=
  (State.act_congr (if_pos hs)).trans (s.act_after f)

/-- Bit `i` of the shifted IDCODE is bit `i` of its value. -/
theorem getD_map_bitAt (v : Nat) {n i : Nat} (h : i < n) : ((List.range n).map (bitAt v)).getD i false = bitAt v i := by
  simp [List.getD_eq_getElem?_getD, h]

/-- Settles O44: each register shifts what it holds; only the boundary scan under EXTEST drives, and only in RESET. -/
theorem testAccessPort : Obligations.TestAccessPort := by
  unfold Obligations.TestAccessPort
  refine ⟨fun s tdi hs => ?_, fun s hs => ?_, fun s balls tdi hs => ?_, fun s balls tdi hs => ?_⟩
  · exact ⟨_, State.act_tap hs _, rfl, rfl, rfl⟩
  · exact ⟨_, (List.range 32).map (bitAt 0x14840E6B), State.act_tap hs _, rfl, by simp,
      fun i => getD_map_bitAt _ i.isLt, rfl⟩
  · exact ⟨_, State.act_tap hs _, rfl, rfl, rfl, rfl⟩
  · exact ⟨_, State.act_tap hs _, rfl, rfl, rfl⟩

end Sys2Proof.Machine

/-! PROOFS. The power and heat budget (chapter 13): a cap wider than its register, and a row that was shed twice. -/

namespace Sys2Proof.Machine

open Sys2Proof.Claims

/-! ### THERM_CAP above the target (R331) -/

/-- The device, its second begun, with THERM_CAP moved to a new value, the step counted and a change of THERM_LIMIT posted. -/
def Dev.thermCapMoved (d : Dev) (new : Nat) : Dev :=
  (((d.setPwr { d.pwr with thermAt := d.pwr.ticks }).wr F.PWR_CAP_NOW_THERM_CAP new).pwrCount 5).thermEvent
    (d.setPwr { d.pwr with thermAt := d.pwr.ticks }).thermLimit

/-- What THERM_CAP falls to while the junction is above its target. -/
def Dev.thermCapFall (d : Dev) : Nat :=
  let now := min (d.rd F.PWR_CAP_NOW_THERM_CAP) (d.rd F.PWR_LIMITS_POWER_CAP)
  max (now - d.rd F.PWR_THERM_THERM_STEP) (min now d.safePower)

theorem execThermCapUpdate_falls {s : State} (ha : s.dev.alive = true) (hsec : s.dev.pwr.thermAt + 1000 ≤ s.dev.pwr.ticks)
    (hhot : 10 * (s.dev.rd F.PWR_THERM_TJ_TARGET : Int) < s.dev.rdS F.PWR_MEAS_TJ)
    (hmoves : s.dev.thermCapFall ≠ s.dev.rd F.PWR_CAP_NOW_THERM_CAP) :
    execThermCapUpdate s = s.act fun d => d.thermCapMoved d.thermCapFall := by
  refine State.act_congr ((if_neg (by simp [ha, hsec])).trans ?_)
  extract_lets src d tj target cur top step was new
  have hnew : new = s.dev.thermCapFall := if_pos hhot
  rw [hnew]
  exact if_neg hmoves

/-- THERM_CAP takes the new value within its 16 bits. -/
theorem Dev.rd_thermCapMoved (d : Dev) (new : Nat) : (d.thermCapMoved new).rd F.PWR_CAP_NOW_THERM_CAP = new % 2 ^ 16 := by
  have hcounted (e : Dev) : ((e.wr F.PWR_CAP_NOW_THERM_CAP new).pwrCount 5).rd F.PWR_CAP_NOW_THERM_CAP = new % 2 ^ 16 :=
    (Dev.rd_tally_other _ (by decide) 1).trans (e.rd_wr_same F.PWR_CAP_NOW_THERM_CAP new)
  unfold Dev.thermCapMoved Dev.thermEvent
  split
  · exact hcounted _
  · exact (Dev.rd_irq_other _ (by decide) (by decide) _ _).trans (hcounted _)

/-- A device in SOLO whose register file holds 70 000 for THERM_CAP and for POWER_CAP, fields of 16 bits, with the junction 0.1 °C above its
target. Every write of a field is cut to its width, so no run comes here; the statement takes every state. -/
def wideCaps : State :=
  { dev := { pins := { rstN := true }, mode := { mode := .solo }, pwr := { ticks := 1000 }
             regs := { live := [(F.PWR_MEAS_TJ.key, 1001), (F.PWR_CAP_NOW_THERM_CAP.key, 70000), (F.PWR_LIMITS_POWER_CAP.key, 70000)] } } }

/-- Refutes O58 in its first clause: where THERM_CAP and POWER_CAP hold more than the field's 16 bits, the cap less one step is stored cut to
those bits, and not as that value itself. -/
theorem not_thermCapFollowsTheJunction : ¬ Obligations.ThermCapFollowsTheJunction := by
  unfold Obligations.ThermCapFollowsTheJunction
  rintro ⟨h, -⟩
  have ha : wideCaps.dev.alive = true := by decide
  have hsec : wideCaps.dev.pwr.thermAt + 1000 ≤ wideCaps.dev.pwr.ticks := by decide
  have hhot : 10 * (wideCaps.dev.rd F.PWR_THERM_TJ_TARGET : Int) < wideCaps.dev.rdS F.PWR_MEAS_TJ := by decide
  have hfall : wideCaps.dev.thermCapFall = 69750 := by decide
  have hcur : wideCaps.dev.rd F.PWR_CAP_NOW_THERM_CAP = 70000 := by decide
  obtain ⟨t, ht, hfell, -⟩ := h wideCaps ha hsec
  have hrun := (execThermCapUpdate_falls ha hsec hhot (by rw [hfall, hcur]; decide)).trans (wideCaps.act_after _)
  obtain rfl : wideCaps.after (wideCaps.dev.thermCapMoved wideCaps.dev.thermCapFall) = t := Host.Outcome.next.inj (hrun.symm.trans ht)
  have hcut : wideCaps.dev.thermCapFall % 2 ^ 16 = wideCaps.dev.thermCapFall :=
    (Dev.rd_thermCapMoved _ _).symm.trans (hfell hhot)
  rw [hfall] at hcut
  exact absurd hcut (by decide)

/-! ### A row restored (R336) -/

theorem Dev.mtxResult_pwr (d : Dev) (key : Nat) (st : Status) : (d.mtxResult key st).pwr = d.pwr := by
  unfold Dev.mtxResult
  extract_lets src e
  split
  · rfl
  · rfl

theorem Dev.rowLacks_pwr (d : Dev) (r : Nat) : (d.rowLacks r).pwr = d.pwr := by
  unfold Dev.rowLacks
  rw [Dev.irq_pwr, Dev.mtxResult_pwr]

/-- A row that starts is no longer shed, whether it finds a position or not. -/
theorem Dev.rowStart_shed (d : Dev) (r : Nat) : (d.rowStart r).1.pwr.shed = d.pwr.shed.erase (.row r) := by
  unfold Dev.rowStart
  extract_lets src src' e go
  have hgo (x : Dev) : (go x).pwr = x.pwr := rfl
  have he : e.pwr.shed = d.pwr.shed.erase (.row r) := rfl
  split
  · rw [hgo, he]
  · split
    · dsimp only
      split
      · exact he
      · exact he
    · rw [Dev.rowLacks_pwr, he]

theorem Dev.recount_pwr (d : Dev) : d.recount.pwr = d.pwr := by
  refine Dev.foldl_keeps Dev.pwr (fun a k => ?_) _ _
  split
  · rfl
  · exact Dev.irq_pwr _ _ _ _

theorem Dev.noteBudget_pwr (d : Dev) (kind index : Nat) (c : WorkClass) (action : Nat) : (d.noteBudget kind index c action).pwr = d.pwr := by
  unfold Dev.noteBudget
  extract_lets code
  obtain ⟨p, h⟩ := d.note_shape ([5, byteOf kind] ++ toBE 2 index ++ [byteOf code, byteOf action])
  rw [h]

/-- The decision's record, its counter, its event and the counts leave the list of what is shed. -/
theorem Dev.restored_pwr (d : Dev) (u : ShedUnit) :
    ((((d.noteBudget u.key.1 u.key.2 u.workClass 2).pwrCount 4).irq F.PWR_IRQ_STATUS_RESTORE u.key.2
      [byteOf u.step, byteOf u.key.1]).recount).pwr = d.pwr := by
  rw [Dev.recount_pwr, Dev.irq_pwr]
  exact Dev.noteBudget_pwr d _ _ _ _

/-- A row restored leaves the list of what is shed twice: as the unit restored, and as the row that starts. -/
theorem Dev.restoreOne_row_shed (d : Dev) (r : Nat) : (d.restoreOne (.row r)).pwr.shed = (d.pwr.shed.erase (.row r)).erase (.row r) := by
  unfold Dev.restoreOne
  extract_lets e a b c
  exact (congrArg PwrSt.shed (Dev.restored_pwr _ _)).trans (Dev.rowStart_shed _ r)

theorem execBudgetRestore_due {s : State} {since : Nat} {u : ShedUnit} (hb : s.dev.booted = true) (hf : s.dev.follows = false)
    (hlow : s.dev.pwr.low = some since) (hu : s.dev.nextRestore = some u)
    (hhold : since + s.dev.rd F.PWR_RESTORE_RESTORE_HOLD ≤ s.dev.pwr.ticks) (hpace : s.dev.pwr.restored + 100 ≤ s.dev.pwr.ticks)
    (hfits : (s.dev.restoreCost u : Int) ≤ s.dev.headroom) : execBudgetRestore s = s.act fun d => d.restoreOne u :=
  State.act_congr (by simp [hb, hf, hlow, hu, hhold, hpace, hfits])

/-- A device in SOLO with room in its budget for a second, whose list of what is shed names row 0 twice. -/
def rowShedTwice : State :=
  { dev := { pins := { rstN := true }, mode := { mode := .solo }, pwr := { ticks := 1000, low := some 0, shed := [.row 0, .row 0] } } }

/-- Refutes O33 in its third clause: where the list of what is shed names a row twice, restoring the row takes both entries from it, and not
the one restored alone. -/
theorem not_budgetScheduler : ¬ Obligations.BudgetScheduler := by
  unfold Obligations.BudgetScheduler
  rintro ⟨-, -, h, -⟩
  have hb : rowShedTwice.dev.booted = true := by decide
  have hf : rowShedTwice.dev.follows = false := by decide
  have hu : rowShedTwice.dev.nextRestore = some (.row 0) := by decide
  have hhold : 0 + rowShedTwice.dev.rd F.PWR_RESTORE_RESTORE_HOLD ≤ rowShedTwice.dev.pwr.ticks := by decide
  have hpace : rowShedTwice.dev.pwr.restored + 100 ≤ rowShedTwice.dev.pwr.ticks := by decide
  have hfits : (rowShedTwice.dev.restoreCost (.row 0) : Int) ≤ rowShedTwice.dev.headroom := by decide
  obtain ⟨t, ht, hshed, -⟩ := h rowShedTwice 0 (.row 0) hb hf rfl hu hhold hpace hfits
  have hrun := (execBudgetRestore_due hb hf rfl hu hhold hpace hfits).trans (rowShedTwice.act_after _)
  obtain rfl : rowShedTwice.after (rowShedTwice.dev.restoreOne (.row 0)) = t := Host.Outcome.next.inj (hrun.symm.trans ht)
  have htwice : (rowShedTwice.dev.pwr.shed.erase (.row 0)).erase (.row 0) = rowShedTwice.dev.pwr.shed.erase (.row 0) :=
    (Dev.restoreOne_row_shed _ 0).symm.trans hshed
  exact absurd htwice (by decide)

end Sys2Proof.Machine

/-! PROOFS. The dictionary protocol and the journal (chapter 14): the journal's progress under back-pressure. -/

namespace Sys2Proof.Machine

open Sys2Proof.Claims

/-! ### Back-pressure (R404) and the journal's progress (R407) -/

/-- Under back-pressure a queue whose producer holds an item loses the item offered. -/
theorem Dev.enqueue_held {d : Dev} {q : Nat} (item : List Byte) (hp : d.rd (F.QUE_CFG_POLICY.at [q]) ≠ 0) (hh : (d.que q).held.isSome = true) :
    d.enqueue q item = d.count (F.QUE_LOSS_LOSS.at [q]) := by
  unfold Dev.enqueue
  exact if_pos (by simp [hp, hh])

theorem Dev.q7_held {d : Dev} (kind : Nat) (hp : d.rd (F.QUE_CFG_POLICY.at [7]) ≠ 0) (hh : (d.que 7).held.isSome = true) :
    d.q7 kind = d.count (F.QUE_LOSS_LOSS.at [7]) :=
  Dev.enqueue_held _ hp hh

/-- The device with the entries made in a second noted as its rate. -/
def Dev.rateNoted (d : Dev) : Dev := d.setJournal { d.odp.journal with rate := d.odp.journal.madeThisSecond, madeThisSecond := 0 }

theorem execJournalProgress_made {s : State} (ha : s.dev.alive = true) (hn : s.dev.odp.journal.madeThisSecond ≠ 0) :
    execJournalProgress s = s.act fun d => d.rateNoted.q7 0 :=
  State.act_congr ((if_pos ha).trans (if_neg hn))

/-- A device in SOLO that journalled one entry this second, its Q7 under back-pressure with one item held and, since the host emptied the
queue, none listed. -/
def heldAtQ7 : State :=
  { dev := { pins := { rstN := true }, mode := { mode := .solo }, odp := { journal := { madeThisSecond := 1 } }, ques := [(7, { held := some [] })]
             regs := { live := [((F.QUE_CFG_POLICY.at [7]).key, 1)] } } }

/-- Refutes O40 in its seventh clause: where Q7 has room but its producer still holds an item under back-pressure, the second's item is lost
and the queue does not grow. -/
theorem not_operationsJournalAndMailbox : ¬ Obligations.OperationsJournalAndMailbox := by
  unfold Obligations.OperationsJournalAndMailbox
  rintro ⟨-, -, -, -, -, -, h, -⟩
  have ha : heldAtQ7.dev.alive = true := by decide
  have hn : heldAtQ7.dev.odp.journal.madeThisSecond ≠ 0 := by decide
  obtain ⟨t, ht, -, -, hgrows⟩ := h heldAtQ7 ha
  have hrun := (execJournalProgress_made ha hn).trans (heldAtQ7.act_after _)
  obtain rfl : heldAtQ7.after (heldAtQ7.dev.rateNoted.q7 0) = t := Host.Outcome.next.inj (hrun.symm.trans ht)
  have hlost : heldAtQ7.dev.rateNoted.q7 0 = heldAtQ7.dev.rateNoted.count (F.QUE_LOSS_LOSS.at [7]) :=
    Dev.q7_held 0 (by decide) (by decide)
  have hone : ((heldAtQ7.dev.rateNoted.q7 0).que 7).items.length = (heldAtQ7.dev.que 7).items.length + 1 := hgrows hn (by decide)
  rw [hlost] at hone
  exact absurd hone (by decide)

end Sys2Proof.Machine

/-! PROOFS. The host port's queues (chapter 16): the ports and flushes in the register map, and what a pop, a push, a flush, the room for a
waiting push and a held item leave in their queue. -/

namespace Sys2Proof.Machine

open Sys2Proof.Claims

/-! ### A queue after an operation on it -/

@[simp] theorem Dev.que_setQue_same (d : Dev) (q : Nat) (x : Queue) : (d.setQue q x).que q = x := by
  unfold Dev.que
  rw [Dev.setQue_ques, Tbl.get_put_same]

@[simp] theorem Dev.que_peak (d : Dev) (q r : Nat) : (d.peak q).que r = d.que r := by
  unfold Dev.peak
  extract_lets n
  split
  · rfl
  · rfl

/-- A queue with room and no item held back takes the item offered at its end. -/
theorem Dev.que_enqueue_room {d : Dev} {q : Nat} (item : List Byte) (hroom : (d.que q).items.length < queueCap q) (hheld : (d.que q).held = none) :
    (d.enqueue q item).que q = { d.que q with items := (d.que q).items ++ [item] } := by
  unfold Dev.enqueue
  dsimp only
  rw [if_neg (by simp [hheld]), if_pos hroom, Dev.que_peak, Dev.que_setQue_same]

/-- A receive queue with room takes an item as any queue does: no frame's buffers return. -/
theorem Dev.enqueueRx_room {d : Dev} {p : Nat} (item : List Byte) (hroom : (d.que (8 + p)).items.length < queueCap (8 + p))
    (hheld : (d.que (8 + p)).held = none) : d.enqueueRx p item = d.enqueue (8 + p) item := by
  unfold Dev.enqueueRx
  simp [hheld, hroom]

/-! ### Pops (R402) -/

/-- With nothing latched, the next item's first word is read and the rest of the item latched. -/
theorem Dev.popWord_item {d : Dev} {q : Nat} (hq : q ≠ 0) (hl : (d.que q).latch = []) (hi : (d.que q).idle = 0) {item : List Byte}
    {rest : List (List Byte)} (hitems : (d.que q).items = item :: rest) :
    d.popWord q = (leAt item 0 4, d.setQue q { d.que q with items := rest, latch := item.drop 4 }) := by
  simp [Dev.popWord, hq, hl, hi, hitems, takeWord]

/-- An empty queue answers all ones. -/
theorem Dev.popWord_empty {d : Dev} {q : Nat} (hq : q ≠ 0) (hl : (d.que q).latch = []) (hi : (d.que q).idle = 0) (hitems : (d.que q).items = []) :
    d.popWord q = (0xFFFFFFFF, d.setQue q { d.que q with idle := itemSize q / 4 - 1 }) := by
  simp [Dev.popWord, hq, hl, hi, hitems]

/-! ### Pushes (R403) -/

/-- The first word of an item waits in Q0 for the second. -/
theorem Dev.pushWords_first {d : Dev} {w : Nat} (hroom : (d.que 0).items.length < queueCap 0) (hp : (d.que 0).part = []) :
    d.pushWords [w] =
      { d.setQue 0 { d.que 0 with part := toLE 4 w } with host := { d.host with stalled := [] } } := by
  simp [Dev.pushWords, hp, Nat.not_le.2 hroom]

/-- The second word completes the item. -/
theorem Dev.que_pushWords_second {d : Dev} {w : Nat} (hroom : (d.que 0).items.length < queueCap 0) (hp : (d.que 0).part ≠ []) :
    (d.pushWords [w]).que 0 = { d.que 0 with items := (d.que 0).items ++ [(d.que 0).part ++ toLE 4 w], part := [] } := by
  have hpart : (d.que 0).part.isEmpty = false := List.isEmpty_eq_false_iff.2 hp
  unfold Dev.pushWords
  simp only [hpart, Nat.not_le.2 hroom, decide_false, Bool.false_and, Bool.false_eq_true, if_false]
  exact (Dev.que_peak _ 0 0).trans (Dev.que_setQue_same _ 0 _)

/-! ### Queue registers in the host map (R387, R410) -/

/-- The registers of the queue ports. -/
def quePortReg : Reg := ⟨13, 0x110, [(32, 0x20)], 1, [F.QUE_PORT_PORT]⟩

/-- The registers of the flushes. -/
def queFlushReg : Reg := ⟨13, 0x118, [(32, 0x20)], 1, [F.QUE_FLUSH_FLUSH]⟩

theorem findReg_quePort : ∀ q : Fin 32, findReg 13 (0x110 + q.val * 0x20) = some (quePortReg, [q.val]) := by decide

theorem findReg_queFlush : ∀ q : Fin 32, findReg 13 (0x118 + q.val * 0x20) = some (queFlushReg, [q.val]) := by decide

/-- An address of block QUE that names a register leads to it. -/
theorem decodeAddr_que {off : Nat} (hoff : off < 0x1000) (h4 : off % 4 = 0) (hreg : (findReg 13 off).isSome = true) :
    decodeAddr (0xD0000 + off) = (13, off) := by
  have hblk : (0xD0000 + off) / 65536 % 16 = 13 := by omega
  have hlow : ((0xD0000 + off) % 65536).land (offsetMask 13) / 4 * 4 = off := by
    have hmask := Nat.and_two_pow_sub_one_eq_mod ((0xD0000 + off) % 65536) 12
    change ((0xD0000 + off) % 65536 &&& 2 ^ 12 - 1) / 4 * 4 = _
    rw [hmask]
    omega
  have hpage : pageBase 13 0 off + off = off := by simp [pageBase]
  unfold decodeAddr
  simp only [hblk, hlow]
  unfold foldOff
  simp [hpage, hreg]

theorem decodeAddr_quePort (q : Fin 32) : decodeAddr (0xD0110 + q.val * 0x20) = (13, 0x110 + q.val * 0x20) := by
  have h := decodeAddr_que (off := 0x110 + q.val * 0x20) (by omega) (by omega) (by rw [findReg_quePort]; rfl)
  rwa [← Nat.add_assoc] at h

theorem decodeAddr_queFlush (q : Fin 32) : decodeAddr (0xD0118 + q.val * 0x20) = (13, 0x118 + q.val * 0x20) := by
  have h := decodeAddr_que (off := 0x118 + q.val * 0x20) (by omega) (by omega) (by rw [findReg_queFlush]; rfl)
  rwa [← Nat.add_assoc] at h

/-- An address below 2²³ names a word and no single bit (R390). -/
theorem bitAt_wordAddr {addr : Nat} (h : addr < 2 ^ 23) : bitAt addr 23 = false := by
  unfold bitAt
  rw [Nat.div_eq_of_lt h]
  rfl

theorem portQueue_port (q : Fin 32) : portQueue 13 (0x110 + q.val * 0x20) = some q.val := by
  have hmod : (0x110 + q.val * 0x20) % 0x20 = 0x10 := by omega
  simp [portQueue, hmod, ixOf, show 0x100 ≤ 0x110 + q.val * 0x20 by omega]

theorem portQueue_flush (q : Fin 32) : portQueue 13 (0x118 + q.val * 0x20) = none := by
  have hmod : (0x118 + q.val * 0x20) % 0x20 = 0x18 := by omega
  simp [portQueue, hmod]

/-! ### Frames of one word (R381) -/

/-- A frame that reads one word drives what the word's read returns and leaves the device as that read does. -/
theorem State.hostReads_one {s : State} (hp : s.dev.hostPort = true) (hf : s.dev.isFrozen 1 = false) (he : s.dev.hostEarly = false) {addr v : Nat}
    {d : Dev} (hread : s.dev.readWord s.mem true addr = (v, d)) :
    s.hostReads addr 1 = .next (s.after ((d.hostOutcome 0).emit (.hostWords [BitVec.ofNat 32 v]))) := by
  have hmem : s.dev.readWord (boxOf s).mem true addr = (v, d) := hread
  have hword : (boxOf s).hostRead addr = ((boxOf s).up fun _ => d.hostOutcome 0, BitVec.ofNat 32 v) := by
    unfold Box.hostRead
    simp [boxOf_dev, hf, he, hmem]
  refine (State.actBox_congr (g := fun b => b.up fun _ => (d.hostOutcome 0).emit (.hostWords [BitVec.ofNat 32 v])) ?_).trans rfl
  simp only [Box.readBurst, hword, boxOf_dev, hp, Bool.not_true, Bool.false_eq_true, if_false]
  rfl

/-- A frame that writes one word leaves what the word's write does. -/
theorem State.hostWrites_one {s : State} (hp : s.dev.hostPort = true) {addr : Nat} {data : Word} {f : Dev → Dev}
    (hwrite : (boxOf s).hostWrite addr data.toNat = (boxOf s).up f) : s.hostWrites addr [data] = .next (s.after (f s.dev)) :=
  (State.actBox_congr (g := fun b => b.up f) ((if_pos hp).trans hwrite)).trans rfl

/-- Outside SAFE_HOLD's and the locks' bars, a word performed has outcome 0. -/
theorem Box.hostWrite_ok {b c : Box} {addr data : Nat} (hf : b.dev.isFrozen 1 = false) (he : b.dev.hostEarly = false)
    (hhold : holdReg (reaches addr) = true) (hlock : bitAt (b.dev.rd F.LKF_LOCK_LOCK) 10 = false ∨ openReg (reaches addr) = true)
    (hwrite : b.writeWord { asker := hostAsker, raw := false } addr data = (c, .ok)) : b.hostWrite addr data = c.up (·.hostOutcome 0) := by
  unfold Box.hostWrite
  rcases hlock with hl | hl <;> simp [hf, he, hhold, hl, hwrite]

/-! ### The commands -/

/-- A pop of a queue reads a word of its port. -/
theorem execQueuePop_word {s : State} (hp : s.dev.hostPort = true) (hf : s.dev.isFrozen 1 = false) (he : s.dev.hostEarly = false) (q : Fin 32) :
    execQueuePop q s = .next (s.after (((s.dev.popWord q).2.hostOutcome 0).emit (.hostWords [BitVec.ofNat 32 (s.dev.popWord q).1]))) := by
  refine State.hostReads_one hp hf he ?_
  unfold Dev.readWord Dev.readReg
  rw [bitAt_wordAddr (by omega), if_neg Bool.false_ne_true, decodeAddr_quePort]
  dsimp only
  rw [portQueue_port]

theorem reaches_que {addr off : Nat} (ha : addr < 2 ^ 23) (h : decodeAddr addr = (13, off)) : reaches addr = (13, off) := by
  unfold reaches
  rw [bitAt_wordAddr ha, if_neg Bool.false_ne_true, h]

/-- A push of the host enters its word in Q0. -/
theorem execQueuePush_word {s : State} (hp : s.dev.hostPort = true) (hf : s.dev.isFrozen 1 = false) (he : s.dev.hostEarly = false) (data : Word) :
    execQueuePush data s = .next (s.after ((s.dev.pushWords [data.toNat]).hostOutcome 0)) := by
  have hnone : s.dev.host.stalled = [] := by
    simp only [Dev.hostPort, Bool.and_eq_true, List.isEmpty_iff] at hp
    exact hp.2
  have haddr : decodeAddr 0xD0110 = (13, 0x110) := decodeAddr_quePort 0
  have hreach : reaches 0xD0110 = (13, 0x110) := reaches_que (by decide) haddr
  refine State.hostWrites_one (f := fun d => (d.pushWords [data.toNat]).hostOutcome 0) hp ?_
  refine Box.hostWrite_ok (c := (boxOf s).up (·.pushWords [data.toNat])) hf he (by rw [hreach]; rfl) (.inr (by rw [hreach]; rfl)) ?_
  unfold Box.writeWord Box.writeReg
  rw [bitAt_wordAddr (by decide), if_neg Bool.false_ne_true, haddr]
  dsimp only
  rw [show findReg 13 0x110 = _ from findReg_quePort 0]
  dsimp only
  rw [show portQueue 13 0x110 = _ from portQueue_port 0, Option.isSome_some, if_pos rfl]
  simp [Box.regAct, quePortReg, boxOf, Box.up, hnone]

/-- The flush field of a queue. -/
def flushFld (q : Fin 32) : Fld := F.QUE_FLUSH_FLUSH.at [q.val]

/-- No field of block QUE needs SAFETY for its row (R247, R251, R274). -/
theorem View.regNeedsSafety_que (v : View) {fs : List (Fld × Nat)} (h : ∀ x ∈ fs, x.1.blk = 13) : v.regNeedsSafety fs = false := by
  unfold View.regNeedsSafety
  refine List.any_eq_false.2 fun x hx => ?_
  split
  · simp [h x hx]
  · exact Bool.false_ne_true

/-- A flush is refused by no right, lock or mode of its own: FLUSH stores nothing, and its bit empties the queue. -/
theorem Box.writeReg_flush (b : Box) {w : Writer} (hw : w.raw = false) (q : Fin 32) :
    b.writeReg w 13 (0x118 + q.val * 0x20) 1 none = (b.up (·.flushQueue q), .ok) := by
  have hfld : ∀ p : Fld × Nat → Bool, ∀ x ∈ [(flushFld q, 1)].filter p, x.1 = flushFld q := fun p x hx => by
    rw [List.mem_singleton.1 (List.mem_filter.1 hx).1]
  have hsafety : ∀ p : Fld × Nat → Bool, ([(flushFld q, 1)].filter p).any (fun x => x.1.sa) = false := fun p =>
    List.any_eq_false.2 fun x hx => by rw [hfld p x hx]; exact Bool.false_ne_true
  have hneeds : ∀ (v : View) (p : Fld × Nat → Bool), v.regNeedsSafety ([(flushFld q, 1)].filter p) = false :=
    fun v p => v.regNeedsSafety_que fun x hx => by rw [hfld p x hx]; rfl
  have hstores : ∀ (p : Fld × Nat → Bool) (d : Dev), ([(flushFld q, 1)].filter p).foldl (fun d x => d.setField x.1 x.2) d = d := fun p d => by
    rw [List.filter_singleton]
    cases p (flushFld q, 1)
    · rfl
    · rfl
  have hfields : (b.dev.regFields queFlushReg [q.val] (0x118 + q.val * 0x20)).filter (fun f => true && (decide (f.acc = .b) ||
      decide (f.acc = .i) || decide (f.acc = .s) || decide (f.acc = .w))) = [flushFld q] := rfl
  have hvals : [flushFld q].map (fun f => (f, fieldAt 1 f.lo f.w)) = [(flushFld q, 1)] :=
    congrArg (fun v => [(flushFld q, v)]) (show fieldAt 1 0 1 = 1 by decide)
  unfold Box.writeReg
  rw [findReg_queFlush]
  dsimp only
  rw [hfields, hvals, hw, hsafety, hneeds, portQueue_flush]
  simp only [hstores]
  rfl

theorem execQueueFlush_word {s : State} (hp : s.dev.hostPort = true) (hf : s.dev.isFrozen 1 = false) (he : s.dev.hostEarly = false)
    (hl : bitAt (s.dev.rd F.LKF_LOCK_LOCK) 10 = false) (q : Fin 32) :
    execQueueFlush q s = .next (s.after ((s.dev.flushQueue q).hostOutcome 0)) := by
  have haddr := decodeAddr_queFlush q
  have hlow : 0xD0118 + q.val * 0x20 < 2 ^ 23 := by omega
  refine State.hostWrites_one (f := fun d => (d.flushQueue q).hostOutcome 0) hp ?_
  refine Box.hostWrite_ok (c := (boxOf s).up (·.flushQueue q)) hf he (by rw [reaches_que hlow haddr]; rfl) (.inl hl) ?_
  unfold Box.writeWord
  rw [bitAt_wordAddr hlow, if_neg Bool.false_ne_true, haddr]
  exact Box.writeReg_flush _ rfl q

theorem Dev.que_flushQueue (d : Dev) (q : Nat) : (d.flushQueue q).que q = { d.que q with items := [], latch := [], idle := 0 } :=
  Dev.que_setQue_same _ _ _

theorem execQueueRoom_waits {s : State} (ha : s.dev.alive = true) {w : Nat} (hw : s.dev.host.stalled = [w]) :
    execQueueRoom s = s.act fun d => d.pushWords [w] :=
  State.act_congr (by simp [ha, hw])

/-- The held item enters a queue that has room. -/
theorem execQueueItemOffer_room {s : State} {q : Fin 32} {item : List Byte} (ha : s.dev.alive = true) (hh : (s.dev.que q).held = some item)
    (hroom : (s.dev.que q).items.length < queueCap q) :
    ∃ t, execQueueItemOffer q s = .next t ∧ t.dev.que q = { s.dev.que q with held := none, items := (s.dev.que q).items ++ [item] } := by
  have hfreed : (s.dev.setQue q { s.dev.que q with held := none }).que q = { s.dev.que q with held := none } := Dev.que_setQue_same _ _ _
  have henters : (if 8 ≤ q.val ∧ q.val ≤ 12 then (s.dev.setQue q { s.dev.que q with held := none }).enqueueRx (q - 8) item
      else (s.dev.setQue q { s.dev.que q with held := none }).enqueue q item) = (s.dev.setQue q { s.dev.que q with held := none }).enqueue q item := by
    split
    · next hrx =>
      have hq : 8 + (q.val - 8) = q.val := by omega
      rw [Dev.enqueueRx_room item (by rw [hq, hfreed]; exact hroom) (by rw [hq, hfreed]), hq]
    · rfl
  have hque := Dev.que_enqueue_room (d := s.dev.setQue q { s.dev.que q with held := none }) (q := q) item (by rw [hfreed]; exact hroom)
    (by rw [hfreed])
  rw [hfreed] at hque
  refine ⟨_, State.act_after _ _, ?_⟩
  simp only [hh, ha, Bool.not_true, Bool.false_eq_true, if_false]
  change Dev.que (ite _ _ _) q = _
  rw [henters]
  split
  · exact hque
  · exact hque

/-- Settles O43: each command reads or writes one word of its queue's registers, or moves the items that wait. -/
theorem hostQueues : Obligations.HostQueues := by
  unfold Obligations.HostQueues
  refine ⟨fun s q hq hp hf he hl hi => ?_, fun s data hp hf he hroom => ?_, fun s q hp hf he hl => ?_, fun s w ha hw hroom hpart => ?_,
    fun s q item ha hh hroom => ?_⟩
  · have hq0 : q.val ≠ 0 := fun h => hq (Fin.ext h)
    refine ⟨_, execQueuePop_word hp hf he q, fun item rest hitems => ?_, fun hitems => ?_⟩
    · rw [Dev.popWord_item hq0 hl hi hitems]
      exact ⟨rfl, congrArg Queue.items (Dev.que_setQue_same _ _ _), congrArg Queue.latch (Dev.que_setQue_same _ _ _)⟩
    · rw [Dev.popWord_empty hq0 hl hi hitems]
      exact ⟨rfl, (congrArg Queue.items (Dev.que_setQue_same _ _ _)).trans hitems⟩
  · refine ⟨_, execQueuePush_word hp hf he data, fun hpart => ?_, fun hpart => ?_⟩
    · have hque := s.dev.que_setQue_same 0 { s.dev.que 0 with part := toLE 4 data.toNat }
      have hitems := congrArg Queue.items hque
      rw [Dev.pushWords_first hroom hpart]
      exact ⟨congrArg Queue.part hque, hitems⟩
    · have hque := Dev.que_pushWords_second (w := data.toNat) hroom hpart
      exact ⟨congrArg Queue.part hque, congrArg Queue.items hque⟩
  · have hque := s.dev.que_flushQueue q
    exact ⟨_, execQueueFlush_word hp hf he hl q, congrArg Queue.items hque, congrArg Queue.latch hque⟩
  · refine ⟨_, (execQueueRoom_waits ha hw).trans (s.act_after _), ?_⟩
    rw [Dev.pushWords_first hroom hpart]
    exact ⟨rfl, congrArg Queue.part (s.dev.que_setQue_same 0 { s.dev.que 0 with part := toLE 4 w })⟩
  · obtain ⟨t, ht, hque⟩ := execQueueItemOffer_room ha hh hroom
    exact ⟨t, ht, congrArg Queue.held hque, congrArg Queue.items hque⟩

end Sys2Proof.Machine

/-! PROOFS. The dictionary protocol (chapter 14): what opens a session, keeps it alive and closes it. -/

namespace Sys2Proof.Machine

open Sys2Proof.Claims

/-! ### The dictionary's state after a frame sent (R179, R367) -/

/-- Sending leaves of the dictionary's state all but the counters beside the registers. -/
theorem Dev.send_odp (d : Dev) (p cls : Nat) (o : Out) : ∃ c, (d.send p cls o).odp = { d.odp with counts := c } := by
  unfold Dev.send
  split
  · unfold Dev.netCount
    split
    · exact ⟨_, rfl⟩
    · exact ⟨_, rfl⟩
  · exact ⟨_, rfl⟩

/-- The bits of the relays that stop a port's transmitter (R184). -/
def settlingFlds : List Fld := [F.NET_BYPASS_STATUS_A_SETTLING, F.NET_BYPASS_STATUS_B_SETTLING]

/-- What is sent from a device whose transmitter is that of the device before. -/
theorem sends_of_transmitter {s : State} {d : Dev} (htime : d.time = s.dev.time) (hnet : d.net = s.dev.net) (hout : d.out = s.dev.out)
    (hsettling : ∀ g ∈ settlingFlds, d.rd g = s.dev.rd g) (p cls : Nat) (o : Out) : sends s.dev (s.after (d.send p cls o)) p cls o := by
  have ha : d.on F.NET_BYPASS_STATUS_A_SETTLING = s.dev.on F.NET_BYPASS_STATUS_A_SETTLING := congrArg (· == 1) (hsettling _ (.head _))
  have hb : d.on F.NET_BYPASS_STATUS_B_SETTLING = s.dev.on F.NET_BYPASS_STATUS_B_SETTLING := congrArg (· == 1) (hsettling _ (.tail _ (.head _)))
  have hfree : d.txFree p cls = s.dev.txFree p cls := by
    simp only [Dev.txFree, Dev.paused, Dev.portSettles, Dev.settling, Dev.port, htime, hnet, ha, hb]
  obtain ⟨hleft, hwaits⟩ := d.send_leaves p cls o
  rw [hfree, hout] at hleft hwaits
  have hport : d.port p = s.dev.port p := congrArg (fun n : NetSt => n.ports.get {} p) hnet
  rw [hport] at hwaits
  exact ⟨fun h => (hleft h).1, fun h => ⟨(hwaits h).1, congrArg NetPortSt.txq (hwaits h).2⟩⟩

/-! ### The head of a datagram (R342) -/

/-- A datagram says its kind. -/
theorem beAt_odpHeader_kind (kind session seq len target : Nat) (r : List Byte) :
    beAt (odpHeader kind session seq len target ++ r) 3 1 = kind % 256 := by
  have h := beAt_append_toBE (toBE 2 0x4F44 ++ toBE 1 1) (toBE 4 session ++ toBE 8 seq ++ toBE 2 len ++ toBE 2 target ++ r) 1 kind
  rw [List.length_append, toBE_length, toBE_length] at h
  simpa only [odpHeader, List.append_assoc, Nat.reduceAdd, Nat.reducePow] using h

/-- The body of a datagram begins after its 20 bytes of header. -/
theorem beAt_odpHeader_body (kind session seq len target v : Nat) (r : List Byte) :
    beAt (odpHeader kind session seq len target ++ (toBE 1 v ++ r)) 20 1 = v % 256 := by
  have hlen : (odpHeader kind session seq len target).length = 20 := by simp only [odpHeader, List.length_append, toBE_length]
  have h := beAt_append_toBE (odpHeader kind session seq len target) r 1 v
  rwa [hlen, List.append_assoc] at h

theorem openChal_kind (st : Status) (id : Nat) (nd : List Byte) : beAt (openChal st id nd) 3 1 = 2 := by
  unfold openChal
  simp only [List.append_assoc]
  exact beAt_odpHeader_kind 2 0 0 24 0xFFFF _

theorem openChal_ok (id : Nat) (nd : List Byte) : beAt (openChal .ok id nd) 20 1 = 0 := by
  unfold openChal
  simp only [List.append_assoc]
  exact beAt_odpHeader_body 2 0 0 24 0xFFFF 0 _

/-! ### OPEN_REQ (R344) -/

/-- The opening that a request which passes begins. -/
def Dev.opening (d : Dev) (port : Port) (source : List Byte) (service : Bool) (g : Dgram) (row : Nat) (role : Role) : Attempt :=
  ⟨2 ^ 31 + (d.odp.opens + 1) % 2 ^ 26 * 32 + (d.freeSlot row).getD 0, row, role, slice g.body 8 16, (d.drawBytes .nonce 16).1, source, port,
    service, d.time.cycles⟩

/-- The device with an opening begun for a source. -/
def Dev.opens (d : Dev) (source : List Byte) (a : Attempt) : Dev :=
  { d with free := d.free + 1
           odp := { d.odp with throttle := d.odp.throttle.filter (fun x => !d.past x.2 1000) ++ [(source, d.time.cycles)]
                               opens := d.odp.opens + 1, attempts := d.odp.attempts ++ [a] } }

theorem Dev.sends_opens (s : State) (source : List Byte) (a : Attempt) (p cls : Nat) (o : Out) :
    sends s.dev (s.after ((s.dev.opens source a).send p cls o)) p cls o :=
  sends_of_transmitter (d := s.dev.opens source a) rfl rfl rfl (fun _ _ => rfl) p cls o

theorem Dev.send_opens_odp (d : Dev) (source : List Byte) (a : Attempt) (p cls : Nat) (o : Out) :
    ((d.opens source a).send p cls o).odp.attempts = d.odp.attempts ++ [a] ∧ ((d.opens source a).send p cls o).odp.opens = d.odp.opens + 1 := by
  obtain ⟨c, h⟩ := (d.opens source a).send_odp p cls o
  rw [h]
  exact ⟨rfl, rfl⟩

/-- A request that passes is challenged. -/
theorem Dev.openReq_passes {d : Dev} {port : Port} {source : List Byte} {service : Bool} {g : Dgram} {row : Nat} {role : Role}
    (hfew : (d.odp.throttle.filter (fun x => x.1 = source)).length < 10)
    (hcheck : d.openCheck (beAt g.body 0 4) (beAt g.body 4 1) = (.ok, some row)) (hrole : roleOf (beAt g.body 4 1) = some role) :
    let a := d.opening port source service g row role
    d.openReq port source service g = (d.opens source a).send port.num clsOdp (.datagram port source (openChal .ok a.id a.nd)) := by
  have hrecent : ¬ 10 ≤ ((d.odp.throttle.filter (fun x => !d.past x.2 1000)).filter (fun x => x.1 = source)).length :=
    Nat.not_le.2 (((List.filter_sublist.filter _).length_le).trans_lt hfew)
  have hcheck' : ∀ l, (d.setOdp { d.odp with throttle := l }).openCheck (beAt g.body 0 4) (beAt g.body 4 1) = (.ok, some row) := fun _ => hcheck
  unfold Dev.openReq
  dsimp only
  rw [if_neg hrecent, hcheck', hrole]
  rfl

/-! ### OPEN_PROOF (R344) -/

/-- The session that an opening's proof opens, under the key of the proof. -/
def Dev.opened (d : Dev) (port : Port) (source : List Byte) (x : Attempt) : Session :=
  { id := x.id, keyRow := x.keyRow, keyId := d.obj 0x1101 1 x.keyRow, role := x.role, source := source, port := port, opened := d.time.tai
    heard := d.time.cycles, key := hmac (d.sessionKey x.keyRow) (odpLabel 0x53 ++ x.nc ++ x.nd ++ toBE 4 x.id), service := x.service }

/-- The device with the opening ended and its session open, journalled as qualifying traffic. -/
def Dev.sessionOpened (d : Dev) (y : Session) : Dev :=
  ((d.setOdp { d.odp with attempts := d.odp.attempts.filter (fun a => a.id ≠ y.id), sessions := d.odp.sessions ++ [y] }).journal
    y.id y.role.code 0x10 .ok 0 0 0 0 (sessionRecord y)).islandHeard

/-- OPEN_OK's bytes but for the tag. -/
def openOk (x : Attempt) (key : List Byte) : List Byte :=
  odpHeader 4 x.id 0 20 0xFFFF ++ toBE 1 0 ++ toBE 1 x.role.code ++ toBE 2 0 ++ hmac16 key (odpLabel 0x44 ++ x.nd ++ x.nc ++ toBE 4 x.id)

theorem openOk_kind (x : Attempt) (key r : List Byte) : beAt (openOk x key ++ r) 3 1 = 4 := by
  unfold openOk
  simp only [List.append_assoc]
  exact beAt_odpHeader_kind 4 x.id 0 20 0xFFFF _

/-- A proof in time, under the session's key and of the attempt's own values, opens the session and is answered. -/
theorem Dev.openProof_passes {d : Dev} {port : Port} {source : List Byte} {g : Dgram} {x : Attempt}
    (htag : hmac16 (d.opened port source x).key g.signed = g.tag)
    (hbody : g.body = hmac16 (d.sessionKey x.keyRow)
      (odpLabel 0x43 ++ x.nc ++ x.nd ++ toBE 4 (d.obj 0x1101 1 x.keyRow) ++ toBE 1 x.role.code))
    (hlate : d.past x.started 2000 = false) :
    d.openProof port source g x = (d.sessionOpened (d.opened port source x)).send port.num clsOdp (.datagram port source
      (openOk x (d.sessionKey x.keyRow) ++ hmac16 (d.opened port source x).key (openOk x (d.sessionKey x.keyRow)))) := by
  refine (if_neg (not_not.2 htag)).trans ((if_neg ?_).trans rfl)
  simpa [hlate] using hbody

theorem Dev.sessionOpened_shape (d : Dev) (y : Session) :
    ∃ r q e j i, d.sessionOpened y = { d with regs := r, ques := q, evSeq := e, island := i, odp := { d.odp with
      attempts := d.odp.attempts.filter (fun a => a.id ≠ y.id), sessions := d.odp.sessions ++ [y], journal := j } } := by
  obtain ⟨r, q, e, j, hj⟩ := (d.setOdp { d.odp with attempts := d.odp.attempts.filter (fun a => a.id ≠ y.id)
                                                    sessions := d.odp.sessions ++ [y] }).journal_shape
    y.id y.role.code 0x10 .ok 0 0 0 0 (sessionRecord y)
  obtain ⟨i, hi⟩ := Dev.islandHeard_shape ((d.setOdp { d.odp with attempts := d.odp.attempts.filter (fun a => a.id ≠ y.id)
                                                                  sessions := d.odp.sessions ++ [y] }).journal
    y.id y.role.code 0x10 .ok 0 0 0 0 (sessionRecord y))
  exact ⟨r, q, e, j, i, by rw [Dev.sessionOpened, hi, hj]; rfl⟩

theorem Dev.send_sessionOpened_odp (d : Dev) (y : Session) (p cls : Nat) (o : Out) :
    ((d.sessionOpened y).send p cls o).odp.attempts = d.odp.attempts.filter (fun a => a.id ≠ y.id) ∧
      ((d.sessionOpened y).send p cls o).odp.sessions = d.odp.sessions ++ [y] := by
  obtain ⟨r, q, e, j, i, hshape⟩ := d.sessionOpened_shape y
  obtain ⟨c, h⟩ := (d.sessionOpened y).send_odp p cls o
  rw [h, hshape]
  exact ⟨rfl, rfl⟩

theorem Dev.rd_sessionOpened (d : Dev) (y : Session) : ∀ g ∈ settlingFlds, (d.sessionOpened y).rd g = d.rd g := by
  have hapart : ∀ g ∈ settlingFlds, g.inQue = false ∧ g.key ≠ F.GCTL_IRQ_STATUS_JOURNAL_HIGH.key := by decide
  intro g hg
  obtain ⟨hq, hj⟩ := hapart g hg
  exact (Dev.rd_of_regs (Dev.islandHeard_regs _) g).trans (Dev.rd_journal _ _ _ _ _ _ _ _ _ _ g hq hj)

theorem Dev.sends_sessionOpened (s : State) (y : Session) (p cls : Nat) (o : Out) :
    sends s.dev (s.after ((s.dev.sessionOpened y).send p cls o)) p cls o := by
  obtain ⟨r, q, e, j, i, hshape⟩ := s.dev.sessionOpened_shape y
  exact sends_of_transmitter (by rw [hshape]) (by rw [hshape]) (by rw [hshape]) (s.dev.rd_sessionOpened y) p cls o

/-! ### Sessions (R345) -/

/-- A session replaced is the session of its id. -/
theorem Dev.session_setSession {d : Dev} {x y : Session} (h : d.session x.id = some y) : (d.setSession x).session x.id = some x := by
  have hmap : ∀ l : List Session, l.find? (fun s => s.id = x.id) = some y →
      (l.map fun s => if s.id = x.id then x else s).find? (fun s => s.id = x.id) = some x := fun l hl => by
    induction l with
    | nil => cases hl
    | cons a l ih =>
      by_cases ha : a.id = x.id
      · simp [ha]
      · simp only [List.find?_cons, ha, decide_false] at hl
        rw [List.map_cons, if_neg ha, List.find?_cons_of_neg (by simpa using ha)]
        exact ih hl
  exact hmap _ h

theorem Dev.session_id {d : Dev} {id : Nat} {x : Session} (h : d.session id = some x) : x.id = id := by
  unfold Dev.session at h
  simpa using List.find?_some h

theorem Dev.islandHeard_odp (d : Dev) : d.islandHeard.odp = d.odp := by
  obtain ⟨i, hi⟩ := d.islandHeard_shape
  rw [hi]

theorem Dev.islandHeard_out (d : Dev) : d.islandHeard.out = d.out := by
  obtain ⟨i, hi⟩ := d.islandHeard_shape
  rw [hi]

theorem Dev.session_islandHeard (d : Dev) (id : Nat) : d.islandHeard.session id = d.session id := by
  rw [Dev.session, Dev.islandHeard_odp, Dev.session]

/-- A session heard now. -/
def Dev.heardNow (d : Dev) (x : Session) : Session := { x with heard := d.time.cycles }

/-- A datagram under its session's tag resets the idle count. -/
theorem Dev.sessionIn_authentic {d : Dev} {port : Port} {source : List Byte} {g : Dgram} {x : Session} (hx : d.session g.session = some x)
    (htag : hmac16 x.key g.signed = g.tag) :
    d.sessionIn port source g = ((d.setSession (d.heardNow x)).islandHeard, some (d.heardNow x)) := by
  unfold Dev.sessionIn
  rw [hx]
  dsimp only
  rw [if_neg (not_not.2 htag)]
  rfl

/-- Closing a session that is open takes it, its subscriptions and its transfer from the dictionary's state. -/
theorem Dev.closeSession_odp {d : Dev} {id : Nat} {x : Session} (h : d.session id = some x) :
    ∃ j, (d.closeSession id).odp = { d.odp with sessions := d.odp.sessions.filter (fun t => t.id ≠ id)
                                                subs := d.odp.subs.filter (fun y => y.session ≠ id)
                                                transfers := d.odp.transfers.del id, journal := j } := by
  unfold Dev.closeSession
  rw [h]
  dsimp only
  generalize hc : (d.setOdp _).dropTransfer id = c
  obtain ⟨r, q, e, j, hj⟩ := c.journal_shape id x.role.code 0x11 .ok 0 0 0 0 (sessionRecord x)
  exact ⟨j, by rw [hj, ← hc]; rfl⟩

/-- A key that has been deleted is not listed. -/
theorem Tbl.find?_del_same {α : Type} (t : Tbl α) (q : Nat) : (t.del q).find? q = none := by
  induction t with
  | nil => rfl
  | cons r t ih =>
    obtain ⟨k, v⟩ := r
    unfold Tbl.del at ih ⊢
    by_cases hk : k = q
    · simpa [hk] using ih
    · rw [List.filter_cons_of_pos (by simpa using hk), Tbl.find?, if_neg (Ne.symm hk), ih, ite_self]

/-- A session closed is no session, holds no subscription and has no transfer. -/
theorem Dev.closeSession_gone {d : Dev} {id : Nat} {x : Session} (h : d.session id = some x) :
    (d.closeSession id).session id = none ∧ (∀ y ∈ (d.closeSession id).odp.subs, y.session ≠ id) ∧
      (d.closeSession id).odp.transfers.find? id = none := by
  obtain ⟨j, hodp⟩ := Dev.closeSession_odp h
  rw [Dev.session, hodp]
  refine ⟨List.find?_eq_none.2 fun y hy => ?_, fun y hy => ?_, Tbl.find?_del_same _ _⟩
  · simpa using (List.mem_filter.1 hy).2
  · simpa using (List.mem_filter.1 hy).2

/-! ### The commands -/

theorem execOpenReq_begins {s : State} {port : Port} {source datagram : List Byte} {service : Bool} {g : Dgram}
    (hg : Dgram.parse datagram = some g) (hp : s.dev.odpPort port = true) (hk : g.kind = 1) (hl : g.body.length = 24) :
    execOpenReq port source service datagram s = s.act fun d => d.openReq port source service g :=
  State.act_congr (by simp [hg, hp, hk, hl])

theorem execOpenProof_attempt {s : State} {port : Port} {source datagram : List Byte} {g : Dgram} {x : Attempt}
    (hg : Dgram.parse datagram = some g) (hp : s.dev.odpPort port = true) (hk : g.kind = 3)
    (hx : s.dev.odp.attempts.find? (fun y => y.id = g.session) = some x) :
    execOpenProof port source datagram s = s.act fun d => d.openProof port source g x :=
  State.act_congr (by simp [hg, hp, hk, hx])

/-- The device with the only opening forgotten and the refusal counted. -/
def Dev.openingLate (d : Dev) : Dev := (d.setOdp { d.odp with attempts := [] }).odpCount 0

theorem execOpenProofTimeout_late {s : State} {id : BitVec 32} {x : Attempt} (hb : s.dev.booted = true) (hx : s.dev.odp.attempts = [x])
    (hid : x.id = id.toNat) (hlate : s.dev.past x.started 2000 = true) : execOpenProofTimeout id s = s.act Dev.openingLate :=
  State.act_congr (by simp [hb, hx, hid, hlate, Dev.openingLate])

theorem authentic_session {s : State} {port : Port} {datagram : List Byte} {kind : Nat} {g : Dgram} {x : Session}
    (h : authentic s port datagram kind g x) : s.dev.session g.session = some x := by
  obtain ⟨-, -, -, hx, -⟩ := h
  exact hx

theorem execKeepalive_fresh {s : State} {port : Port} {source datagram : List Byte} {g : Dgram} {x : Session}
    (h : authentic s port datagram 8 g x) (hseq : x.highest < g.seq) :
    execKeepalive port source datagram s =
      s.act fun d => (d.setSession (d.heardNow x)).islandHeard.setSession ((d.heardNow x).noteSeq g.seq) := by
  obtain ⟨hg, hp, hk, hx, -, htag⟩ := h
  have hfresh : (s.dev.heardNow x).classOf g.seq = .fresh := if_pos hseq
  exact State.act_congr (by simp [hg, hp, hk, Dev.sessionIn_authentic hx htag, hfresh])

theorem execClose_thawed {s : State} {port : Port} {source datagram : List Byte} {g : Dgram} {x : Session}
    (h : authentic s port datagram 9 g x) (hf : s.dev.isFrozen x.id = false) :
    execClose port source datagram s = s.act fun d => (d.setSession (d.heardNow x)).islandHeard.closeSession x.id := by
  obtain ⟨hg, hp, hk, hx, -, htag⟩ := h
  have hid : (s.dev.heardNow x).id = x.id := rfl
  exact State.act_congr (by simp [hg, hp, hk, Dev.sessionIn_authentic hx htag, hid, hf])

theorem execSessionIdleExpiry_idle {s : State} {slot : Fin 32} {x : Session} (hb : s.dev.booted = true)
    (hx : s.dev.slotSession slot = some x) (hf : s.dev.isFrozen x.id = false)
    (hidle : s.dev.past x.heard (s.dev.sessionIdle * 1000) = true) : execSessionIdleExpiry slot s = s.act fun d => d.closeSession x.id :=
  State.act_congr (by simp [hx, hb, hf, hidle])

theorem execOdpMalformed_unparsed {s : State} {port : Port} {datagram : List Byte} (hp : s.dev.odpPort port = true)
    (hg : Dgram.parse datagram = none) : execOdpMalformed port datagram s = s.act fun d => d.odpCount 1 :=
  State.act_congr (by simp [hp, hg])

/-- A counter of ODP counts modulo its 64 bits. -/
theorem Dev.odpCounter_odpCount (d : Dev) (i n : Nat) : (d.odpCount i n).odpCounter i = (d.odpCounter i + n) % 2 ^ 64 :=
  Tbl.get_put_same _ _ _ _

/-- A fresh SEQ above the highest is noted as it. -/
theorem Session.noteSeq_above {x : Session} {seq : Nat} (h : x.highest < seq) :
    (x.noteSeq seq).highest = seq ∧ (x.noteSeq seq).id = x.id ∧ (x.noteSeq seq).heard = x.heard ∧ (x.noteSeq seq).key = x.key := by
  unfold Session.noteSeq
  rw [if_pos h]
  exact ⟨rfl, rfl, rfl, rfl⟩

/-- The session of a datagram that resets its idle count. -/
theorem Dev.session_heard {d : Dev} {id : Nat} {x : Session} (hx : d.session id = some x) :
    (d.setSession (d.heardNow x)).islandHeard.session x.id = some (d.heardNow x) := by
  rw [Dev.session_islandHeard]
  refine Dev.session_setSession (x := d.heardNow x) (y := x) ?_
  rw [← Dev.session_id hx] at hx
  exact hx

/-- Settles O38: a clause per command, each through the effect it has on the sessions and the openings. -/
theorem sessionsOpenAndClose : Obligations.SessionsOpenAndClose := by
  unfold Obligations.SessionsOpenAndClose
  refine ⟨?_, ?_, ?_, ?_, ?_, ?_, ?_⟩
  · intro s port source datagram service g row role hg hp hk hl hfew hcheck hrole
    have hrun := (execOpenReq_begins (source := source) (service := service) hg hp hk hl).trans (s.act_after _)
    rw [Dev.openReq_passes hfew hcheck hrole] at hrun
    obtain ⟨hattempts, hopens⟩ := s.dev.send_opens_odp source (s.dev.opening port source service g row role) port.num clsOdp _
    exact ⟨_, _, _, hrun, hattempts, rfl, rfl, rfl, rfl, hopens, Dev.sends_opens s _ _ _ _ _, openChal_kind _ _ _, openChal_ok _ _⟩
  · intro s port source datagram g x k ks hg hp hk hx htag hbody hlate
    have hrun := (execOpenProof_attempt (source := source) hg hp hk hx).trans (s.act_after _)
    rw [Dev.openProof_passes htag hbody hlate] at hrun
    obtain ⟨hattempts, hsessions⟩ := s.dev.send_sessionOpened_odp (s.dev.opened port source x) port.num clsOdp _
    refine ⟨_, _, _, hrun, hsessions, rfl, rfl, rfl, rfl, fun a ha => ?_, Dev.sends_sessionOpened s _ _ _ _, openOk_kind _ _ _⟩
    have hmem : a ∈ s.dev.odp.attempts.filter (fun a => a.id ≠ x.id) := hattempts ▸ ha
    simpa using (List.mem_filter.1 hmem).2
  · intro s id x hb hx hid hlate
    exact ⟨_, (execOpenProofTimeout_late hb hx hid hlate).trans (s.act_after _), rfl, rfl, Dev.odpCounter_odpCount _ 0 1⟩
  · intro s port source datagram g x h hseq
    have hsession := Dev.session_heard (authentic_session h)
    obtain ⟨hhighest, hid, hheard, hkey⟩ := Session.noteSeq_above (x := s.dev.heardNow x) hseq
    have hset := Dev.session_setSession (x := (s.dev.heardNow x).noteSeq g.seq) (by rw [hid]; exact hsession)
    rw [hid] at hset
    exact ⟨_, _, (execKeepalive_fresh h hseq).trans (s.act_after _), hset, hheard, hhighest, hkey, Dev.islandHeard_out _⟩
  · intro s port source datagram g x h hf
    obtain ⟨hnone, hsubs, -⟩ := Dev.closeSession_gone (Dev.session_heard (authentic_session h))
    exact ⟨_, (execClose_thawed h hf).trans (s.act_after _), hnone, hsubs⟩
  · intro s slot x hb hx hf hidle
    obtain ⟨y, hy⟩ : ∃ y, s.dev.session x.id = some y :=
      Option.isSome_iff_exists.1 (List.find?_isSome.2 ⟨x, List.mem_of_find?_eq_some hx, by simp⟩)
    obtain ⟨hnone, -, htransfer⟩ := Dev.closeSession_gone hy
    exact ⟨_, (execSessionIdleExpiry_idle hb hx hf hidle).trans (s.act_after _), hnone, htransfer⟩
  · intro s port datagram hp hg
    exact ⟨_, (execOdpMalformed_unparsed hp hg).trans (s.act_after _), Dev.odpCounter_odpCount _ 1 1, rfl, rfl⟩

end Sys2Proof.Machine
